-- ==== Sys2Proof/Word.lean ====
section
/-!
DEFINITION. The machine's word types and the placing and cutting of bit fields in an instruction word
(00_scope.md R11, R14: 32-bit registers and addresses, bit 0 the least significant).
-/

namespace Sys2Proof

/-- A 32-bit register, address or ARM instruction word (00_scope.md R11). -/
abbrev Word := BitVec 32

/-- A 16-bit halfword, also one Thumb instruction (00_scope.md R11). -/
abbrev Half := BitVec 16

/-- One byte of memory (00_scope.md R11). -/
abbrev Byte := BitVec 8

/-- The number of a general register, 0 to 15 (10_state.md R22). -/
abbrev RegNum := BitVec 4

/-- The condition field, bits [31:28] of an ARM instruction (30_encoding.md R111). -/
abbrev Cond := BitVec 4

/-- `put x k`: the field `x` with its bit 0 at bit `k` of a 32-bit word, zero elsewhere (00_scope.md R14). -/
def put {n : Nat} (x : BitVec n) (k : Nat) : Word := x.setWidth 32 <<< k

/-- `fld w k n`: the `n` bits of `w` that begin at bit `k` (00_scope.md R14: `w[k+n-1:k]`). -/
def fld {m : Nat} (w : BitVec m) (k n : Nat) : BitVec n := w.extractLsb' k n

/-- `bitAt w k`: bit `k` of `w` as a truth value (00_scope.md R14: `w[k]`). -/
def bitAt {m : Nat} (w : BitVec m) (k : Nat) : Bool := w.extractLsb' k 1 == 1#1

/-- `flag b k`: the one-bit field `b` at bit `k` of a word. -/
def flag (b : Bool) (k : Nat) : Word := put (BitVec.ofBool b) k

end Sys2Proof
end

