-- ==== Sys2Proof/Syntax.lean ====
section
/-!
DEFINITION. The instructions: one constructor for each row of spec/opcode_table.json, in its order. The operands are
the fields of the row's encoding, in the order the encoding has them from its most significant bit. LAWS.json maps each
constructor to the mnemonic of its row.
-/

namespace Sys2Proof

/-- An instruction of the ARM11 MPCore: the rows of spec/opcode_table.json (30_encoding.md, 47_core_instructions.md,
46_cp14_debug.md, 48_vfp.md). A field named as in the encoding: `cond` the condition, `rd rn rm rs` register numbers,
`p u w s l` the single bits of those names, `rot imm` a rotated immediate, `amount ty` a shift, `off` an offset. -/
inductive Instr where
  -- CP15 c0: identification registers (40_cp15_c0_id.md)
  /-- R120: `MRC_p15_0__Rd__c0_c0_0__Main_ID_Register`. -/
  | mrcMainId (cond : Cond) (rd : RegNum)
  /-- R121: `MRC_p15_0__Rd__c0_c0_1__Cache_Type_Register`. -/
  | mrcCacheType (cond : Cond) (rd : RegNum)
  /-- R122: `MRC_p15_0__Rd__c0_c0_3__TLB_Type_Register`. -/
  | mrcTlbType (cond : Cond) (rd : RegNum)
  /-- R123: `MRC_p15_0__Rd__c0_c0_5__CPU_ID_Register`. -/
  | mrcCpuId (cond : Cond) (rd : RegNum)
  /-- R125: `MRC_p15_0__Rd__c0_c1_0__ID_PFR0`. -/
  | mrcIdPfr0 (cond : Cond) (rd : RegNum)
  /-- R126: `MRC_p15_0__Rd__c0_c1_1__ID_PFR1`. -/
  | mrcIdPfr1 (cond : Cond) (rd : RegNum)
  /-- R127: `MRC_p15_0__Rd__c0_c1_2__ID_DFR0`. -/
  | mrcIdDfr0 (cond : Cond) (rd : RegNum)
  /-- R132: `MRC_p15_0__Rd__c0_c1_3__reserved_feature_register__reads`. -/
  | mrcIdReserved13 (cond : Cond) (rd : RegNum)
  /-- R128: `MRC_p15_0__Rd__c0_c1_4__ID_MMFR0`. -/
  | mrcIdMmfr0 (cond : Cond) (rd : RegNum)
  /-- R129: `MRC_p15_0__Rd__c0_c1_5__ID_MMFR1`. -/
  | mrcIdMmfr1 (cond : Cond) (rd : RegNum)
  /-- R130: `MRC_p15_0__Rd__c0_c1_6__ID_MMFR2`. -/
  | mrcIdMmfr2 (cond : Cond) (rd : RegNum)
  /-- R131: `MRC_p15_0__Rd__c0_c1_7__ID_MMFR3`. -/
  | mrcIdMmfr3 (cond : Cond) (rd : RegNum)
  /-- R134: `MRC_p15_0__Rd__c0_c2_0__ID_ISAR0`. -/
  | mrcIdIsar0 (cond : Cond) (rd : RegNum)
  /-- R135: `MRC_p15_0__Rd__c0_c2_1__ID_ISAR1`. -/
  | mrcIdIsar1 (cond : Cond) (rd : RegNum)
  /-- R136: `MRC_p15_0__Rd__c0_c2_2__ID_ISAR2`. -/
  | mrcIdIsar2 (cond : Cond) (rd : RegNum)
  /-- R137: `MRC_p15_0__Rd__c0_c2_3__ID_ISAR3`. -/
  | mrcIdIsar3 (cond : Cond) (rd : RegNum)
  /-- R138: `MRC_p15_0__Rd__c0_c2_4__ID_ISAR4`. -/
  | mrcIdIsar4 (cond : Cond) (rd : RegNum)
  /-- R139: `MRC_p15_0__Rd__c0_c2_5__reserved_ISA_feature_register__r`. -/
  | mrcIdReserved25 (cond : Cond) (rd : RegNum)
  /-- R139: `MRC_p15_0__Rd__c0_c2_6__reserved_ISA_feature_register__r`. -/
  | mrcIdReserved26 (cond : Cond) (rd : RegNum)
  /-- R139: `MRC_p15_0__Rd__c0_c2_7__reserved_ISA_feature_register__r`. -/
  | mrcIdReserved27 (cond : Cond) (rd : RegNum)
  /-- R140: `MRC_p15_0__Rd__c0_c0_2__unlisted_c0_c0_Opcode_2__returns`. -/
  | mrcC0Unlisted2 (cond : Cond) (rd : RegNum)
  /-- R140: `MRC_p15_0__Rd__c0_c0_4__unlisted_c0_c0_Opcode_2__returns`. -/
  | mrcC0Unlisted4 (cond : Cond) (rd : RegNum)
  /-- R140: `MRC_p15_0__Rd__c0_c0_6__unlisted_c0_c0_Opcode_2__returns`. -/
  | mrcC0Unlisted6 (cond : Cond) (rd : RegNum)
  /-- R140: `MRC_p15_0__Rd__c0_c0_7__unlisted_c0_c0_Opcode_2__returns`. -/
  | mrcC0Unlisted7 (cond : Cond) (rd : RegNum)
  /-- R141: `MCR_p15_0__Rd__c0__CRm___Opcode_2___any_write_to_c0__UNP`. -/
  | mcrC0 (cond : Cond) (rd : RegNum) (opc2 : BitVec 3) (crm : BitVec 4)
  -- CP15 c1: control registers (41_cp15_c1_control.md)
  /-- R150: `MRC_p15_0__Rd__c1_c0_0__Control_Register`. -/
  | mrcControl (cond : Cond) (rd : RegNum)
  /-- R150: `MCR_p15_0__Rd__c1_c0_0__Control_Register`. -/
  | mcrControl (cond : Cond) (rd : RegNum)
  /-- R157: `MRC_p15_0__Rd__c1_c0_1__Auxiliary_Control_Register`. -/
  | mrcAuxControl (cond : Cond) (rd : RegNum)
  /-- R157: `MCR_p15_0__Rd__c1_c0_1__Auxiliary_Control_Register`. -/
  | mcrAuxControl (cond : Cond) (rd : RegNum)
  /-- R160: `MRC_p15_0__Rd__c1_c0_2__Coprocessor_Access_Control_Regis`. -/
  | mrcCpacr (cond : Cond) (rd : RegNum)
  /-- R160: `MCR_p15_0__Rd__c1_c0_2__Coprocessor_Access_Control_Regis`. -/
  | mcrCpacr (cond : Cond) (rd : RegNum)
  -- CP15 c2, c3, c5, c6: translation tables, domains, faults (42_cp15_c2_c6_mmu.md)
  /-- R170: `MRC_p15_0__Rd__c2_c0_0__Translation_Table_Base_Register`. -/
  | mrcTtbr0 (cond : Cond) (rd : RegNum)
  /-- R170: `MCR_p15_0__Rd__c2_c0_0__Translation_Table_Base_Register`. -/
  | mcrTtbr0 (cond : Cond) (rd : RegNum)
  /-- R171: `MRC_p15_0__Rd__c2_c0_1__Translation_Table_Base_Register`. -/
  | mrcTtbr1 (cond : Cond) (rd : RegNum)
  /-- R171: `MCR_p15_0__Rd__c2_c0_1__Translation_Table_Base_Register`. -/
  | mcrTtbr1 (cond : Cond) (rd : RegNum)
  /-- R172: `MRC_p15_0__Rd__c2_c0_2__Translation_Table_Base_Control_R`. -/
  | mrcTtbcr (cond : Cond) (rd : RegNum)
  /-- R172: `MCR_p15_0__Rd__c2_c0_2__Translation_Table_Base_Control_R`. -/
  | mcrTtbcr (cond : Cond) (rd : RegNum)
  /-- R174: `MRC_p15_0__Rd__c3_c0_0__Domain_Access_Control_Register`. -/
  | mrcDacr (cond : Cond) (rd : RegNum)
  /-- R174: `MCR_p15_0__Rd__c3_c0_0__Domain_Access_Control_Register`. -/
  | mcrDacr (cond : Cond) (rd : RegNum)
  /-- R175: `MRC_p15_0__Rd__c5_c0_0__Data_Fault_Status_Register`. -/
  | mrcDfsr (cond : Cond) (rd : RegNum)
  /-- R175: `MCR_p15_0__Rd__c5_c0_0__Data_Fault_Status_Register`. -/
  | mcrDfsr (cond : Cond) (rd : RegNum)
  /-- R176: `MRC_p15_0__Rd__c5_c0_1__Instruction_Fault_Status_Registe`. -/
  | mrcIfsr (cond : Cond) (rd : RegNum)
  /-- R176: `MCR_p15_0__Rd__c5_c0_1__Instruction_Fault_Status_Registe`. -/
  | mcrIfsr (cond : Cond) (rd : RegNum)
  /-- R177: `MRC_p15_0__Rd__c6_c0_0__Fault_Address_Register`. -/
  | mrcFar (cond : Cond) (rd : RegNum)
  /-- R177: `MCR_p15_0__Rd__c6_c0_0__Fault_Address_Register`. -/
  | mcrFar (cond : Cond) (rd : RegNum)
  /-- R178: `MRC_p15_0__Rd__c6_c0_1__Watchpoint_Fault_Address_Registe`. -/
  | mrcWfar (cond : Cond) (rd : RegNum)
  /-- R178: `MCR_p15_0__Rd__c6_c0_1__Watchpoint_Fault_Address_Registe`. -/
  | mcrWfar (cond : Cond) (rd : RegNum)
  -- CP15 c7: cache, barrier and address translation operations (43_cp15_c7_cache_ops.md)
  /-- R201: `MCR_p15_0__Rd__c7_c0_4__Wait_For_Interrupt`. -/
  | mcrWaitForInterrupt (cond : Cond) (rd : RegNum)
  /-- R224: `MRC_p15_0__Rd__c7_c4_0__PA_Register`. -/
  | mrcPa (cond : Cond) (rd : RegNum)
  /-- R202: `MCR_p15_0__Rd__c7_c5_0__Invalidate_Entire_Instruction_Ca`. -/
  | mcrInvalidateICache (cond : Cond) (rd : RegNum)
  /-- R203: `MCR_p15_0__Rd__c7_c5_1__Invalidate_Instruction_Cache_Lin`. -/
  | mcrInvalidateICacheMva (cond : Cond) (rd : RegNum)
  /-- R204: `MCR_p15_0__Rd__c7_c5_2__Invalidate_Instruction_Cache_Lin`. -/
  | mcrInvalidateICacheIndex (cond : Cond) (rd : RegNum)
  /-- R205: `MCR_p15_0__Rd__c7_c5_4__Flush_Prefetch_Buffer__User_acce`. -/
  | mcrFlushPrefetchBuffer (cond : Cond) (rd : RegNum)
  /-- R206: `MCR_p15_0__Rd__c7_c5_6__Flush_Entire_Branch_Target_Cache`. -/
  | mcrFlushBtac (cond : Cond) (rd : RegNum)
  /-- R207: `MCR_p15_0__Rd__c7_c5_7__Flush_Branch_Target_Cache_Entry`. -/
  | mcrFlushBtacEntry (cond : Cond) (rd : RegNum)
  /-- R208: `MCR_p15_0__Rd__c7_c6_0__Invalidate_Entire_Data_Cache`. -/
  | mcrInvalidateDCache (cond : Cond) (rd : RegNum)
  /-- R209: `MCR_p15_0__Rd__c7_c6_1__Invalidate_Data_Cache_Line_by_MV`. -/
  | mcrInvalidateDCacheMva (cond : Cond) (rd : RegNum)
  /-- R210: `MCR_p15_0__Rd__c7_c6_2__Invalidate_Data_Cache_Line_by_In`. -/
  | mcrInvalidateDCacheIndex (cond : Cond) (rd : RegNum)
  /-- R211: `MCR_p15_0__Rd__c7_c7_0__Invalidate_Both_Caches`. -/
  | mcrInvalidateBothCaches (cond : Cond) (rd : RegNum)
  /-- R223: `MCR_p15_0__Rd__c7_c8_0__VA_to_PA_translation__privileged`. -/
  | mcrVaToPaPrivRead (cond : Cond) (rd : RegNum)
  /-- R223: `MCR_p15_0__Rd__c7_c8_1__VA_to_PA_translation__privileged`. -/
  | mcrVaToPaPrivWrite (cond : Cond) (rd : RegNum)
  /-- R223: `MCR_p15_0__Rd__c7_c8_2__VA_to_PA_translation__user_read`. -/
  | mcrVaToPaUserRead (cond : Cond) (rd : RegNum)
  /-- R223: `MCR_p15_0__Rd__c7_c8_3__VA_to_PA_translation__user_write`. -/
  | mcrVaToPaUserWrite (cond : Cond) (rd : RegNum)
  /-- R212: `MCR_p15_0__Rd__c7_c10_0__Clean_Entire_Data_Cache`. -/
  | mcrCleanDCache (cond : Cond) (rd : RegNum)
  /-- R213: `MCR_p15_0__Rd__c7_c10_1__Clean_Data_Cache_Line_by_MVA`. -/
  | mcrCleanDCacheMva (cond : Cond) (rd : RegNum)
  /-- R216: `MCR_p15_0__Rd__c7_c10_2__Clean_Data_Cache_Line_by_Index`. -/
  | mcrCleanDCacheIndex (cond : Cond) (rd : RegNum)
  /-- R214: `MCR_p15_0__Rd__c7_c10_4__Data_Synchronization_Barrier__U`. -/
  | mcrDsb (cond : Cond) (rd : RegNum)
  /-- R215: `MCR_p15_0__Rd__c7_c10_5__Data_Memory_Barrier__User_acces`. -/
  | mcrDmb (cond : Cond) (rd : RegNum)
  /-- R217: `MCR_p15_0__Rd__c7_c14_0__Clean_and_Invalidate_Entire_Dat`. -/
  | mcrCleanInvDCache (cond : Cond) (rd : RegNum)
  /-- R218: `MCR_p15_0__Rd__c7_c14_1__Clean_and_Invalidate_Data_Cache`. -/
  | mcrCleanInvDCacheMva (cond : Cond) (rd : RegNum)
  /-- R219: `MCR_p15_0__Rd__c7_c14_2__Clean_and_Invalidate_Data_Cache`. -/
  | mcrCleanInvDCacheIndex (cond : Cond) (rd : RegNum)
  -- CP15 c8 to c10: TLB operations, lockdown, remap (44_cp15_c8_c10_tlb.md)
  /-- R231: `MCR_p15_0__Rd__c8_c5_0__Invalidate_Instruction_TLB`. -/
  | mcrInvalidateITlb (cond : Cond) (rd : RegNum)
  /-- R232: `MCR_p15_0__Rd__c8_c5_1__Invalidate_Instruction_TLB_Singl`. -/
  | mcrInvalidateITlbEntry (cond : Cond) (rd : RegNum)
  /-- R233: `MCR_p15_0__Rd__c8_c5_2__Invalidate_Instruction_TLB_Entry`. -/
  | mcrInvalidateITlbAsid (cond : Cond) (rd : RegNum)
  /-- R234: `MCR_p15_0__Rd__c8_c5_3__Invalidate_Instruction_TLB_Singl`. -/
  | mcrInvalidateITlbMva (cond : Cond) (rd : RegNum)
  /-- R231: `MCR_p15_0__Rd__c8_c6_0__Invalidate_Data_TLB`. -/
  | mcrInvalidateDTlb (cond : Cond) (rd : RegNum)
  /-- R232: `MCR_p15_0__Rd__c8_c6_1__Invalidate_Data_TLB_Single_Entry`. -/
  | mcrInvalidateDTlbEntry (cond : Cond) (rd : RegNum)
  /-- R233: `MCR_p15_0__Rd__c8_c6_2__Invalidate_Data_TLB_Entry_on_ASI`. -/
  | mcrInvalidateDTlbAsid (cond : Cond) (rd : RegNum)
  /-- R234: `MCR_p15_0__Rd__c8_c6_3__Invalidate_Data_TLB_Single_Entry`. -/
  | mcrInvalidateDTlbMva (cond : Cond) (rd : RegNum)
  /-- R231: `MCR_p15_0__Rd__c8_c7_0__Invalidate_Unified_TLB`. -/
  | mcrInvalidateUTlb (cond : Cond) (rd : RegNum)
  /-- R232: `MCR_p15_0__Rd__c8_c7_1__Invalidate_Unified_TLB_Single_En`. -/
  | mcrInvalidateUTlbEntry (cond : Cond) (rd : RegNum)
  /-- R233: `MCR_p15_0__Rd__c8_c7_2__Invalidate_Unified_TLB_Entry_on`. -/
  | mcrInvalidateUTlbAsid (cond : Cond) (rd : RegNum)
  /-- R234: `MCR_p15_0__Rd__c8_c7_3__Invalidate_Unified_TLB_Single_En`. -/
  | mcrInvalidateUTlbMva (cond : Cond) (rd : RegNum)
  /-- R235: `MRC_p15_0__Rd__c9_c0_0__Data_Cache_Lockdown_Register`. -/
  | mrcDCacheLockdown (cond : Cond) (rd : RegNum)
  /-- R235: `MCR_p15_0__Rd__c9_c0_0__Data_Cache_Lockdown_Register`. -/
  | mcrDCacheLockdown (cond : Cond) (rd : RegNum)
  /-- R236: `MRC_p15_0__Rd__c10_c0_0__TLB_Lockdown_Register`. -/
  | mrcTlbLockdown (cond : Cond) (rd : RegNum)
  /-- R236: `MCR_p15_0__Rd__c10_c0_0__TLB_Lockdown_Register`. -/
  | mcrTlbLockdown (cond : Cond) (rd : RegNum)
  /-- R237: `MRC_p15_0__Rd__c10_c2_0__Primary_Region_Remap_Register`. -/
  | mrcPrrr (cond : Cond) (rd : RegNum)
  /-- R237: `MCR_p15_0__Rd__c10_c2_0__Primary_Region_Remap_Register`. -/
  | mcrPrrr (cond : Cond) (rd : RegNum)
  /-- R238: `MRC_p15_0__Rd__c10_c2_1__Normal_Memory_Remap_Register`. -/
  | mrcNmrr (cond : Cond) (rd : RegNum)
  /-- R238: `MCR_p15_0__Rd__c10_c2_1__Normal_Memory_Remap_Register`. -/
  | mcrNmrr (cond : Cond) (rd : RegNum)
  -- CP15 c13, c15: process identifiers, performance monitor, TLB access (45_cp15_c13_c15.md)
  /-- R250: `MRC_p15_0__Rd__c13_c0_0__FCSE_PID_Register`. -/
  | mrcFcsePid (cond : Cond) (rd : RegNum)
  /-- R250: `MCR_p15_0__Rd__c13_c0_0__FCSE_PID_Register`. -/
  | mcrFcsePid (cond : Cond) (rd : RegNum)
  /-- R251: `MRC_p15_0__Rd__c13_c0_1__Context_ID_Register`. -/
  | mrcContextId (cond : Cond) (rd : RegNum)
  /-- R251: `MCR_p15_0__Rd__c13_c0_1__Context_ID_Register`. -/
  | mcrContextId (cond : Cond) (rd : RegNum)
  /-- R252: `MRC_p15_0__Rd__c13_c0_2__Thread_ID_Register__User_and_Pr`. -/
  | mrcThreadIdUrw (cond : Cond) (rd : RegNum)
  /-- R252: `MCR_p15_0__Rd__c13_c0_2__Thread_ID_Register__User_and_Pr`. -/
  | mcrThreadIdUrw (cond : Cond) (rd : RegNum)
  /-- R253: `MRC_p15_0__Rd__c13_c0_3__Thread_ID_Register__User_read-o`. -/
  | mrcThreadIdUro (cond : Cond) (rd : RegNum)
  /-- R253: `MCR_p15_0__Rd__c13_c0_3__Thread_ID_Register__User_read-o`. -/
  | mcrThreadIdUro (cond : Cond) (rd : RegNum)
  /-- R254: `MRC_p15_0__Rd__c13_c0_4__Thread_ID_Register__Privileged`. -/
  | mrcThreadIdPrw (cond : Cond) (rd : RegNum)
  /-- R254: `MCR_p15_0__Rd__c13_c0_4__Thread_ID_Register__Privileged`. -/
  | mcrThreadIdPrw (cond : Cond) (rd : RegNum)
  /-- R255: `MRC_p15_0__Rd__c15_c12_0__Performance_Monitor_Control_Re`. -/
  | mrcPmnc (cond : Cond) (rd : RegNum)
  /-- R255: `MCR_p15_0__Rd__c15_c12_0__Performance_Monitor_Control_Re`. -/
  | mcrPmnc (cond : Cond) (rd : RegNum)
  /-- R257: `MRC_p15_0__Rd__c15_c12_1__Cycle_Counter_Register`. -/
  | mrcCcnt (cond : Cond) (rd : RegNum)
  /-- R257: `MCR_p15_0__Rd__c15_c12_1__Cycle_Counter_Register`. -/
  | mcrCcnt (cond : Cond) (rd : RegNum)
  /-- R258: `MRC_p15_0__Rd__c15_c12_2__Count_Register_0`. -/
  | mrcPmn0 (cond : Cond) (rd : RegNum)
  /-- R258: `MCR_p15_0__Rd__c15_c12_2__Count_Register_0`. -/
  | mcrPmn0 (cond : Cond) (rd : RegNum)
  /-- R259: `MRC_p15_0__Rd__c15_c12_3__Count_Register_1`. -/
  | mrcPmn1 (cond : Cond) (rd : RegNum)
  /-- R259: `MCR_p15_0__Rd__c15_c12_3__Count_Register_1`. -/
  | mcrPmn1 (cond : Cond) (rd : RegNum)
  /-- R262: `MCR_p15_5__Rd__c15_c4_2__Read_Main_TLB_Lockdown_Entry__s`. -/
  | mcrTlbLockIndexRead (cond : Cond) (rd : RegNum)
  /-- R263: `MCR_p15_5__Rd__c15_c4_4__Write_Main_TLB_Lockdown_Entry`. -/
  | mcrTlbLockIndexWrite (cond : Cond) (rd : RegNum)
  /-- R264: `MRC_p15_5__Rd__c15_c5_2__Main_TLB_Lockdown_VA_Register`. -/
  | mrcTlbLockVa (cond : Cond) (rd : RegNum)
  /-- R264: `MCR_p15_5__Rd__c15_c5_2__Main_TLB_Lockdown_VA_Register`. -/
  | mcrTlbLockVa (cond : Cond) (rd : RegNum)
  /-- R265: `MRC_p15_5__Rd__c15_c6_2__Main_TLB_Lockdown_PA_Register`. -/
  | mrcTlbLockPa (cond : Cond) (rd : RegNum)
  /-- R265: `MCR_p15_5__Rd__c15_c6_2__Main_TLB_Lockdown_PA_Register`. -/
  | mcrTlbLockPa (cond : Cond) (rd : RegNum)
  /-- R266: `MRC_p15_5__Rd__c15_c7_2__Main_TLB_Lockdown_Attributes_Re`. -/
  | mrcTlbLockAttr (cond : Cond) (rd : RegNum)
  /-- R266: `MCR_p15_5__Rd__c15_c7_2__Main_TLB_Lockdown_Attributes_Re`. -/
  | mcrTlbLockAttr (cond : Cond) (rd : RegNum)
  /-- R261: `MRC_p15_7__Rd__c15_c1_0__TLB_Debug_Control_Register`. -/
  | mrcTlbDebugControl (cond : Cond) (rd : RegNum)
  /-- R261: `MCR_p15_7__Rd__c15_c1_0__TLB_Debug_Control_Register`. -/
  | mcrTlbDebugControl (cond : Cond) (rd : RegNum)
  -- CP15: the encodings no table lists (30_encoding.md R115, R116)
  /-- R116: `MRC_MCR_p15_with_any__CRn_Opcode_1_CRm_Opcode_2__not_lis`. -/
  | cp15Unlisted (cond : Cond) (opc1 : BitVec 3) (l : Bool) (crn : BitVec 4) (rd : RegNum) (opc2 : BitVec 3) (crm : BitVec 4)
  /-- R115: `CDP_p15__Undefined_Instruction`. -/
  | cdpP15 (cond : Cond) (opc1 crn : BitVec 4) (rd : RegNum) (opc2 : BitVec 3) (crm : BitVec 4)
  /-- R115: `LDC_STC_MCRR_MRRC_p15__Undefined_Instruction`. -/
  | ldcStcP15 (cond : Cond) (p u n w l : Bool) (rn rd : RegNum) (off : BitVec 8)
  -- CP14: debug registers (46_cp14_debug.md)
  /-- R302: `MRC_p14_0__Rd__c0_c0_0__DIDR`. -/
  | mrcDidr (cond : Cond) (rd : RegNum)
  /-- R304: `MRC_p14_0__Rd__c0_c1_0__DSCR`. -/
  | mrcDscr (cond : Cond) (rd : RegNum)
  /-- R304: `MCR_p14_0__Rd__c0_c1_0__DSCR`. -/
  | mcrDscr (cond : Cond) (rd : RegNum)
  /-- R306: `MRC_p14_0__Rd__c0_c5_0__DTR__MRC_reads_rDTR__MCR_writes`. -/
  | mrcDtr (cond : Cond) (rd : RegNum)
  /-- R306: `MCR_p14_0__Rd__c0_c5_0__DTR__MRC_reads_rDTR__MCR_writes`. -/
  | mcrDtr (cond : Cond) (rd : RegNum)
  /-- R307: `MRC_p14_0__Rd__c0_c7_0__VCR`. -/
  | mrcVcr (cond : Cond) (rd : RegNum)
  /-- R307: `MCR_p14_0__Rd__c0_c7_0__VCR`. -/
  | mcrVcr (cond : Cond) (rd : RegNum)
  /-- R308: `MRC_p14_0__Rd__c0_c0_4__BVR0`. -/
  | mrcBvr0 (cond : Cond) (rd : RegNum)
  /-- R308: `MCR_p14_0__Rd__c0_c0_4__BVR0`. -/
  | mcrBvr0 (cond : Cond) (rd : RegNum)
  /-- R308: `MRC_p14_0__Rd__c0_c1_4__BVR1`. -/
  | mrcBvr1 (cond : Cond) (rd : RegNum)
  /-- R308: `MCR_p14_0__Rd__c0_c1_4__BVR1`. -/
  | mcrBvr1 (cond : Cond) (rd : RegNum)
  /-- R308: `MRC_p14_0__Rd__c0_c2_4__BVR2`. -/
  | mrcBvr2 (cond : Cond) (rd : RegNum)
  /-- R308: `MCR_p14_0__Rd__c0_c2_4__BVR2`. -/
  | mcrBvr2 (cond : Cond) (rd : RegNum)
  /-- R308: `MRC_p14_0__Rd__c0_c3_4__BVR3`. -/
  | mrcBvr3 (cond : Cond) (rd : RegNum)
  /-- R308: `MCR_p14_0__Rd__c0_c3_4__BVR3`. -/
  | mcrBvr3 (cond : Cond) (rd : RegNum)
  /-- R308: `MRC_p14_0__Rd__c0_c4_4__BVR4`. -/
  | mrcBvr4 (cond : Cond) (rd : RegNum)
  /-- R308: `MCR_p14_0__Rd__c0_c4_4__BVR4`. -/
  | mcrBvr4 (cond : Cond) (rd : RegNum)
  /-- R308: `MRC_p14_0__Rd__c0_c5_4__BVR5`. -/
  | mrcBvr5 (cond : Cond) (rd : RegNum)
  /-- R308: `MCR_p14_0__Rd__c0_c5_4__BVR5`. -/
  | mcrBvr5 (cond : Cond) (rd : RegNum)
  /-- R309: `MRC_p14_0__Rd__c0_c0_5__BCR0`. -/
  | mrcBcr0 (cond : Cond) (rd : RegNum)
  /-- R309: `MCR_p14_0__Rd__c0_c0_5__BCR0`. -/
  | mcrBcr0 (cond : Cond) (rd : RegNum)
  /-- R309: `MRC_p14_0__Rd__c0_c1_5__BCR1`. -/
  | mrcBcr1 (cond : Cond) (rd : RegNum)
  /-- R309: `MCR_p14_0__Rd__c0_c1_5__BCR1`. -/
  | mcrBcr1 (cond : Cond) (rd : RegNum)
  /-- R309: `MRC_p14_0__Rd__c0_c2_5__BCR2`. -/
  | mrcBcr2 (cond : Cond) (rd : RegNum)
  /-- R309: `MCR_p14_0__Rd__c0_c2_5__BCR2`. -/
  | mcrBcr2 (cond : Cond) (rd : RegNum)
  /-- R309: `MRC_p14_0__Rd__c0_c3_5__BCR3`. -/
  | mrcBcr3 (cond : Cond) (rd : RegNum)
  /-- R309: `MCR_p14_0__Rd__c0_c3_5__BCR3`. -/
  | mcrBcr3 (cond : Cond) (rd : RegNum)
  /-- R309: `MRC_p14_0__Rd__c0_c4_5__BCR4`. -/
  | mrcBcr4 (cond : Cond) (rd : RegNum)
  /-- R309: `MCR_p14_0__Rd__c0_c4_5__BCR4`. -/
  | mcrBcr4 (cond : Cond) (rd : RegNum)
  /-- R309: `MRC_p14_0__Rd__c0_c5_5__BCR5`. -/
  | mrcBcr5 (cond : Cond) (rd : RegNum)
  /-- R309: `MCR_p14_0__Rd__c0_c5_5__BCR5`. -/
  | mcrBcr5 (cond : Cond) (rd : RegNum)
  /-- R311: `MRC_p14_0__Rd__c0_c0_6__WVR0`. -/
  | mrcWvr0 (cond : Cond) (rd : RegNum)
  /-- R311: `MCR_p14_0__Rd__c0_c0_6__WVR0`. -/
  | mcrWvr0 (cond : Cond) (rd : RegNum)
  /-- R311: `MRC_p14_0__Rd__c0_c1_6__WVR1`. -/
  | mrcWvr1 (cond : Cond) (rd : RegNum)
  /-- R311: `MCR_p14_0__Rd__c0_c1_6__WVR1`. -/
  | mcrWvr1 (cond : Cond) (rd : RegNum)
  /-- R312: `MRC_p14_0__Rd__c0_c0_7__WCR0`. -/
  | mrcWcr0 (cond : Cond) (rd : RegNum)
  /-- R312: `MCR_p14_0__Rd__c0_c0_7__WCR0`. -/
  | mcrWcr0 (cond : Cond) (rd : RegNum)
  /-- R312: `MRC_p14_0__Rd__c0_c1_7__WCR1`. -/
  | mrcWcr1 (cond : Cond) (rd : RegNum)
  /-- R312: `MCR_p14_0__Rd__c0_c1_7__WCR1`. -/
  | mcrWcr1 (cond : Cond) (rd : RegNum)
  /-- R314: `MRC_p14_0_R15_c0_c1_0__CPSR_flags_from_DSCR_31_28`. -/
  | mrcDscrFlags (cond : Cond)
  /-- R315: `LDC_p14_c5__addressing_mode___memory_word_to_wDTR`. -/
  | ldcDtr (cond : Cond) (p u w : Bool) (rn : RegNum) (off : BitVec 8)
  /-- R316: `STC_p14_c5__addressing_mode___rDTR_to_memory_word`. -/
  | stcDtr (cond : Cond) (p u w : Bool) (rn : RegNum) (off : BitVec 8)
  /-- R704: `any_other_CP14_coprocessor_instruction__Undefined_Instru`. -/
  | cp14Other (cond : Cond) (hi : BitVec 14) (lo : BitVec 8)
  -- hints and SETEND (47_core_instructions.md R703, R715)
  /-- R703: `NOP`. -/
  | nop (cond : Cond)
  /-- R703: `YIELD`. -/
  | yield (cond : Cond)
  /-- R703: `WFE`. -/
  | wfe (cond : Cond)
  /-- R703: `WFI`. -/
  | wfi (cond : Cond)
  /-- R703: `SEV`. -/
  | sev (cond : Cond)
  /-- R715: `SETEND__BE_LE`. -/
  | setend (e : Bool)
  /-- R715: `SETEND__BE_LE___Thumb`. -/
  | setendThumb (e : Bool)
  -- status register and exception return instructions (47_core_instructions.md R716 to R722)
  /-- R716: `MRS__Rd___CPSR_SPSR`. -/
  | mrs (cond : Cond) (r : Bool) (rd : RegNum)
  /-- R716: `MSR__CPSR_SPSR___fields___Rm`. -/
  | msrReg (cond : Cond) (r : Bool) (mask : BitVec 4) (rm : RegNum)
  /-- R716: `MSR__CPSR_SPSR___fields____imm`. -/
  | msrImm (cond : Cond) (r : Bool) (mask rot : BitVec 4) (imm : BitVec 8)
  /-- R720: `SRS_IA_IB_DA_DB____mode`. -/
  | srs (p u w : Bool) (mode : BitVec 5)
  /-- R721: `RFE_IA_IB_DA_DB___Rn`. -/
  | rfe (p u w : Bool) (rn : RegNum)
  /-- R722: `CPS_IE_ID___iflags_____mode_____CPS___mode`. -/
  | cps (imod : BitVec 2) (m a i f : Bool) (mode : BitVec 5)
  /-- R722: `CPS_IE_ID___iflags___Thumb`. -/
  | cpsThumb (imod a i f : Bool)
  -- exclusive accesses and swaps (47_core_instructions.md R730)
  /-- R730: `LDREX__Rd____Rn`. -/
  | ldrex (cond : Cond) (rn rd : RegNum)
  /-- R730: `STREX__Rd___Rm____Rn`. -/
  | strex (cond : Cond) (rn rd rm : RegNum)
  /-- R730: `LDREXD__Rd____Rn`. -/
  | ldrexd (cond : Cond) (rn rd : RegNum)
  /-- R730: `STREXD__Rd___Rm____Rn`. -/
  | strexd (cond : Cond) (rn rd rm : RegNum)
  /-- R730: `LDREXB__Rd____Rn`. -/
  | ldrexb (cond : Cond) (rn rd : RegNum)
  /-- R730: `STREXB__Rd___Rm____Rn`. -/
  | strexb (cond : Cond) (rn rd rm : RegNum)
  /-- R730: `LDREXH__Rd____Rn`. -/
  | ldrexh (cond : Cond) (rn rd : RegNum)
  /-- R730: `STREXH__Rd___Rm____Rn`. -/
  | strexh (cond : Cond) (rn rd rm : RegNum)
  /-- R730: `CLREX`. -/
  | clrex
  /-- R730: `SWP__Rd___Rm____Rn`. -/
  | swp (cond : Cond) (rn rd rm : RegNum)
  /-- R730: `SWPB__Rd___Rm____Rn`. -/
  | swpb (cond : Cond) (rn rd rm : RegNum)
  -- SWI and BKPT (47_core_instructions.md R745)
  /-- R745: `SWI__imm24`. -/
  | swi (cond : Cond) (imm : BitVec 24)
  /-- R745: `SWI__imm8___Thumb`. -/
  | swiThumb (imm : BitVec 8)
  /-- R745: `BKPT__imm16`. -/
  | bkpt (imm : BitVec 12) (immL : BitVec 4)
  /-- R745: `BKPT__imm8___Thumb`. -/
  | bkptThumb (imm : BitVec 8)
  -- data processing (47_core_instructions.md R750 to R766)
  /-- R751: `AND_S___immediate_operand`. -/
  | andImm (cond : Cond) (s : Bool) (rn rd : RegNum) (rot : BitVec 4) (imm : BitVec 8)
  /-- R751: `AND_S___register__shift_by_immediate`. -/
  | andShiftImm (cond : Cond) (s : Bool) (rn rd : RegNum) (amount : BitVec 5) (ty : BitVec 2) (rm : RegNum)
  /-- R751: `AND_S___register__shift_by_register`. -/
  | andShiftReg (cond : Cond) (s : Bool) (rn rd rs : RegNum) (ty : BitVec 2) (rm : RegNum)
  /-- R752: `EOR_S___immediate_operand`. -/
  | eorImm (cond : Cond) (s : Bool) (rn rd : RegNum) (rot : BitVec 4) (imm : BitVec 8)
  /-- R752: `EOR_S___register__shift_by_immediate`. -/
  | eorShiftImm (cond : Cond) (s : Bool) (rn rd : RegNum) (amount : BitVec 5) (ty : BitVec 2) (rm : RegNum)
  /-- R752: `EOR_S___register__shift_by_register`. -/
  | eorShiftReg (cond : Cond) (s : Bool) (rn rd rs : RegNum) (ty : BitVec 2) (rm : RegNum)
  /-- R753: `SUB_S___immediate_operand`. -/
  | subImm (cond : Cond) (s : Bool) (rn rd : RegNum) (rot : BitVec 4) (imm : BitVec 8)
  /-- R753: `SUB_S___register__shift_by_immediate`. -/
  | subShiftImm (cond : Cond) (s : Bool) (rn rd : RegNum) (amount : BitVec 5) (ty : BitVec 2) (rm : RegNum)
  /-- R753: `SUB_S___register__shift_by_register`. -/
  | subShiftReg (cond : Cond) (s : Bool) (rn rd rs : RegNum) (ty : BitVec 2) (rm : RegNum)
  /-- R754: `RSB_S___immediate_operand`. -/
  | rsbImm (cond : Cond) (s : Bool) (rn rd : RegNum) (rot : BitVec 4) (imm : BitVec 8)
  /-- R754: `RSB_S___register__shift_by_immediate`. -/
  | rsbShiftImm (cond : Cond) (s : Bool) (rn rd : RegNum) (amount : BitVec 5) (ty : BitVec 2) (rm : RegNum)
  /-- R754: `RSB_S___register__shift_by_register`. -/
  | rsbShiftReg (cond : Cond) (s : Bool) (rn rd rs : RegNum) (ty : BitVec 2) (rm : RegNum)
  /-- R755: `ADD_S___immediate_operand`. -/
  | addImm (cond : Cond) (s : Bool) (rn rd : RegNum) (rot : BitVec 4) (imm : BitVec 8)
  /-- R755: `ADD_S___register__shift_by_immediate`. -/
  | addShiftImm (cond : Cond) (s : Bool) (rn rd : RegNum) (amount : BitVec 5) (ty : BitVec 2) (rm : RegNum)
  /-- R755: `ADD_S___register__shift_by_register`. -/
  | addShiftReg (cond : Cond) (s : Bool) (rn rd rs : RegNum) (ty : BitVec 2) (rm : RegNum)
  /-- R756: `ADC_S___immediate_operand`. -/
  | adcImm (cond : Cond) (s : Bool) (rn rd : RegNum) (rot : BitVec 4) (imm : BitVec 8)
  /-- R756: `ADC_S___register__shift_by_immediate`. -/
  | adcShiftImm (cond : Cond) (s : Bool) (rn rd : RegNum) (amount : BitVec 5) (ty : BitVec 2) (rm : RegNum)
  /-- R756: `ADC_S___register__shift_by_register`. -/
  | adcShiftReg (cond : Cond) (s : Bool) (rn rd rs : RegNum) (ty : BitVec 2) (rm : RegNum)
  /-- R757: `SBC_S___immediate_operand`. -/
  | sbcImm (cond : Cond) (s : Bool) (rn rd : RegNum) (rot : BitVec 4) (imm : BitVec 8)
  /-- R757: `SBC_S___register__shift_by_immediate`. -/
  | sbcShiftImm (cond : Cond) (s : Bool) (rn rd : RegNum) (amount : BitVec 5) (ty : BitVec 2) (rm : RegNum)
  /-- R757: `SBC_S___register__shift_by_register`. -/
  | sbcShiftReg (cond : Cond) (s : Bool) (rn rd rs : RegNum) (ty : BitVec 2) (rm : RegNum)
  /-- R758: `RSC_S___immediate_operand`. -/
  | rscImm (cond : Cond) (s : Bool) (rn rd : RegNum) (rot : BitVec 4) (imm : BitVec 8)
  /-- R758: `RSC_S___register__shift_by_immediate`. -/
  | rscShiftImm (cond : Cond) (s : Bool) (rn rd : RegNum) (amount : BitVec 5) (ty : BitVec 2) (rm : RegNum)
  /-- R758: `RSC_S___register__shift_by_register`. -/
  | rscShiftReg (cond : Cond) (s : Bool) (rn rd rs : RegNum) (ty : BitVec 2) (rm : RegNum)
  /-- R759: `TST__immediate_operand`. -/
  | tstImm (cond : Cond) (rn rd : RegNum) (rot : BitVec 4) (imm : BitVec 8)
  /-- R759: `TST__register__shift_by_immediate`. -/
  | tstShiftImm (cond : Cond) (rn rd : RegNum) (amount : BitVec 5) (ty : BitVec 2) (rm : RegNum)
  /-- R759: `TST__register__shift_by_register`. -/
  | tstShiftReg (cond : Cond) (rn rd rs : RegNum) (ty : BitVec 2) (rm : RegNum)
  /-- R760: `TEQ__immediate_operand`. -/
  | teqImm (cond : Cond) (rn rd : RegNum) (rot : BitVec 4) (imm : BitVec 8)
  /-- R760: `TEQ__register__shift_by_immediate`. -/
  | teqShiftImm (cond : Cond) (rn rd : RegNum) (amount : BitVec 5) (ty : BitVec 2) (rm : RegNum)
  /-- R760: `TEQ__register__shift_by_register`. -/
  | teqShiftReg (cond : Cond) (rn rd rs : RegNum) (ty : BitVec 2) (rm : RegNum)
  /-- R761: `CMP__immediate_operand`. -/
  | cmpImm (cond : Cond) (rn rd : RegNum) (rot : BitVec 4) (imm : BitVec 8)
  /-- R761: `CMP__register__shift_by_immediate`. -/
  | cmpShiftImm (cond : Cond) (rn rd : RegNum) (amount : BitVec 5) (ty : BitVec 2) (rm : RegNum)
  /-- R761: `CMP__register__shift_by_register`. -/
  | cmpShiftReg (cond : Cond) (rn rd rs : RegNum) (ty : BitVec 2) (rm : RegNum)
  /-- R762: `CMN__immediate_operand`. -/
  | cmnImm (cond : Cond) (rn rd : RegNum) (rot : BitVec 4) (imm : BitVec 8)
  /-- R762: `CMN__register__shift_by_immediate`. -/
  | cmnShiftImm (cond : Cond) (rn rd : RegNum) (amount : BitVec 5) (ty : BitVec 2) (rm : RegNum)
  /-- R762: `CMN__register__shift_by_register`. -/
  | cmnShiftReg (cond : Cond) (rn rd rs : RegNum) (ty : BitVec 2) (rm : RegNum)
  /-- R763: `ORR_S___immediate_operand`. -/
  | orrImm (cond : Cond) (s : Bool) (rn rd : RegNum) (rot : BitVec 4) (imm : BitVec 8)
  /-- R763: `ORR_S___register__shift_by_immediate`. -/
  | orrShiftImm (cond : Cond) (s : Bool) (rn rd : RegNum) (amount : BitVec 5) (ty : BitVec 2) (rm : RegNum)
  /-- R763: `ORR_S___register__shift_by_register`. -/
  | orrShiftReg (cond : Cond) (s : Bool) (rn rd rs : RegNum) (ty : BitVec 2) (rm : RegNum)
  /-- R764: `MOV_S___immediate_operand`. -/
  | movImm (cond : Cond) (s : Bool) (rn rd : RegNum) (rot : BitVec 4) (imm : BitVec 8)
  /-- R764: `MOV_S___register__shift_by_immediate`. -/
  | movShiftImm (cond : Cond) (s : Bool) (rn rd : RegNum) (amount : BitVec 5) (ty : BitVec 2) (rm : RegNum)
  /-- R764: `MOV_S___register__shift_by_register`. -/
  | movShiftReg (cond : Cond) (s : Bool) (rn rd rs : RegNum) (ty : BitVec 2) (rm : RegNum)
  /-- R765: `BIC_S___immediate_operand`. -/
  | bicImm (cond : Cond) (s : Bool) (rn rd : RegNum) (rot : BitVec 4) (imm : BitVec 8)
  /-- R765: `BIC_S___register__shift_by_immediate`. -/
  | bicShiftImm (cond : Cond) (s : Bool) (rn rd : RegNum) (amount : BitVec 5) (ty : BitVec 2) (rm : RegNum)
  /-- R765: `BIC_S___register__shift_by_register`. -/
  | bicShiftReg (cond : Cond) (s : Bool) (rn rd rs : RegNum) (ty : BitVec 2) (rm : RegNum)
  /-- R766: `MVN_S___immediate_operand`. -/
  | mvnImm (cond : Cond) (s : Bool) (rn rd : RegNum) (rot : BitVec 4) (imm : BitVec 8)
  /-- R766: `MVN_S___register__shift_by_immediate`. -/
  | mvnShiftImm (cond : Cond) (s : Bool) (rn rd : RegNum) (amount : BitVec 5) (ty : BitVec 2) (rm : RegNum)
  /-- R766: `MVN_S___register__shift_by_register`. -/
  | mvnShiftReg (cond : Cond) (s : Bool) (rn rd rs : RegNum) (ty : BitVec 2) (rm : RegNum)
  -- branches (47_core_instructions.md R767 to R769)
  /-- R767: `B__target`. -/
  | b (cond : Cond) (imm : BitVec 24)
  /-- R767: `BL__target`. -/
  | bl (cond : Cond) (imm : BitVec 24)
  /-- R768: `BX__Rm`. -/
  | bx (cond : Cond) (rm : RegNum)
  /-- R769: `BLX__Rm`. -/
  | blxReg (cond : Cond) (rm : RegNum)
  /-- R769: `BXJ__Rm`. -/
  | bxj (cond : Cond) (rm : RegNum)
  /-- R769: `BLX__target___immediate`. -/
  | blxImm (h : Bool) (imm : BitVec 24)
  -- loads and stores (47_core_instructions.md R770 to R772)
  /-- R770: `LDR_T___Rd___addressing_mode___immediate_offset`. -/
  | ldrImm (cond : Cond) (p u w : Bool) (rn rd : RegNum) (off : BitVec 12)
  /-- R770: `LDR_T___Rd___addressing_mode___scaled_register_offset`. -/
  | ldrReg (cond : Cond) (p u w : Bool) (rn rd : RegNum) (amount : BitVec 5) (ty : BitVec 2) (rm : RegNum)
  /-- R770: `STR_T___Rd___addressing_mode___immediate_offset`. -/
  | strImm (cond : Cond) (p u w : Bool) (rn rd : RegNum) (off : BitVec 12)
  /-- R770: `STR_T___Rd___addressing_mode___scaled_register_offset`. -/
  | strReg (cond : Cond) (p u w : Bool) (rn rd : RegNum) (amount : BitVec 5) (ty : BitVec 2) (rm : RegNum)
  /-- R770: `LDRB_T___Rd___addressing_mode___immediate_offset`. -/
  | ldrbImm (cond : Cond) (p u w : Bool) (rn rd : RegNum) (off : BitVec 12)
  /-- R770: `LDRB_T___Rd___addressing_mode___scaled_register_offset`. -/
  | ldrbReg (cond : Cond) (p u w : Bool) (rn rd : RegNum) (amount : BitVec 5) (ty : BitVec 2) (rm : RegNum)
  /-- R770: `STRB_T___Rd___addressing_mode___immediate_offset`. -/
  | strbImm (cond : Cond) (p u w : Bool) (rn rd : RegNum) (off : BitVec 12)
  /-- R770: `STRB_T___Rd___addressing_mode___scaled_register_offset`. -/
  | strbReg (cond : Cond) (p u w : Bool) (rn rd : RegNum) (amount : BitVec 5) (ty : BitVec 2) (rm : RegNum)
  /-- R771: `STRH__Rd___addressing_mode___immediate_offset`. -/
  | strhImm (cond : Cond) (p u w : Bool) (rn rd : RegNum) (immH immL : BitVec 4)
  /-- R771: `STRH__Rd___addressing_mode___register_offset`. -/
  | strhReg (cond : Cond) (p u w : Bool) (rn rd rm : RegNum)
  /-- R771: `LDRH__Rd___addressing_mode___immediate_offset`. -/
  | ldrhImm (cond : Cond) (p u w : Bool) (rn rd : RegNum) (immH immL : BitVec 4)
  /-- R771: `LDRH__Rd___addressing_mode___register_offset`. -/
  | ldrhReg (cond : Cond) (p u w : Bool) (rn rd rm : RegNum)
  /-- R771: `LDRSB__Rd___addressing_mode___immediate_offset`. -/
  | ldrsbImm (cond : Cond) (p u w : Bool) (rn rd : RegNum) (immH immL : BitVec 4)
  /-- R771: `LDRSB__Rd___addressing_mode___register_offset`. -/
  | ldrsbReg (cond : Cond) (p u w : Bool) (rn rd rm : RegNum)
  /-- R771: `LDRSH__Rd___addressing_mode___immediate_offset`. -/
  | ldrshImm (cond : Cond) (p u w : Bool) (rn rd : RegNum) (immH immL : BitVec 4)
  /-- R771: `LDRSH__Rd___addressing_mode___register_offset`. -/
  | ldrshReg (cond : Cond) (p u w : Bool) (rn rd rm : RegNum)
  /-- R771: `LDRD__Rd___addressing_mode___immediate_offset`. -/
  | ldrdImm (cond : Cond) (p u w : Bool) (rn rd : RegNum) (immH immL : BitVec 4)
  /-- R771: `LDRD__Rd___addressing_mode___register_offset`. -/
  | ldrdReg (cond : Cond) (p u w : Bool) (rn rd rm : RegNum)
  /-- R771: `STRD__Rd___addressing_mode___immediate_offset`. -/
  | strdImm (cond : Cond) (p u w : Bool) (rn rd : RegNum) (immH immL : BitVec 4)
  /-- R771: `STRD__Rd___addressing_mode___register_offset`. -/
  | strdReg (cond : Cond) (p u w : Bool) (rn rd rm : RegNum)
  /-- R772: `LDM_IA_IB_DA_DB___Rn______registers`. -/
  | ldm (cond : Cond) (p u s w : Bool) (rn : RegNum) (list : BitVec 16)
  /-- R772: `STM_IA_IB_DA_DB___Rn______registers`. -/
  | stm (cond : Cond) (p u s w : Bool) (rn : RegNum) (list : BitVec 16)
  -- multiplies and CLZ (47_core_instructions.md R773, R774)
  /-- R773: `MUL_S___Rd___Rm___Rs`. -/
  | mul (cond : Cond) (s : Bool) (rd rs rm : RegNum)
  /-- R773: `MLA_S___Rd___Rm___Rs___Rn`. -/
  | mla (cond : Cond) (s : Bool) (rd rn rs rm : RegNum)
  /-- R774: `CLZ__Rd___Rm`. -/
  | clz (cond : Cond) (rd rm : RegNum)
  -- VFP (48_vfp.md)
  /-- R786: `FMSR__Sn___Rd`. -/
  | fmsr (cond : Cond) (fn : BitVec 4) (rd : RegNum) (n : Bool)
  /-- R786: `FMRS__Rd___Sn`. -/
  | fmrs (cond : Cond) (fn : BitVec 4) (rd : RegNum) (n : Bool)
  /-- R786: `FMDLR__Dn___Rd`. -/
  | fmdlr (cond : Cond) (fn : BitVec 4) (rd : RegNum)
  /-- R786: `FMDHR__Dn___Rd`. -/
  | fmdhr (cond : Cond) (fn : BitVec 4) (rd : RegNum)
  /-- R786: `FMRDL__Rd___Dn`. -/
  | fmrdl (cond : Cond) (fn : BitVec 4) (rd : RegNum)
  /-- R786: `FMRDH__Rd___Dn`. -/
  | fmrdh (cond : Cond) (fn : BitVec 4) (rd : RegNum)
  /-- R786: `FMXR__reg___Rd`. -/
  | fmxr (cond : Cond) (reg : BitVec 4) (rd : RegNum)
  /-- R786: `FMRX__Rd___reg`. -/
  | fmrx (cond : Cond) (reg : BitVec 4) (rd : RegNum)
  /-- R789: `FMSTAT__FMRX_r15_FPSCR`. -/
  | fmstat (cond : Cond)
  /-- R786: `FMDRR__Dm___Rd___Rn`. -/
  | fmdrr (cond : Cond) (rn rd : RegNum) (fm : BitVec 4)
  /-- R786: `FMRRD__Rd___Rn___Dm`. -/
  | fmrrd (cond : Cond) (rn rd : RegNum) (fm : BitVec 4)
  /-- R786: `FMSRR___Sm___Sm+1____Rd___Rn`. -/
  | fmsrr (cond : Cond) (rn rd : RegNum) (m : Bool) (fm : BitVec 4)
  /-- R786: `FMRRS__Rd___Rn____Sm___Sm+1`. -/
  | fmrrs (cond : Cond) (rn rd : RegNum) (m : Bool) (fm : BitVec 4)
  /-- R787: `FLDS__Sd____Rn____+_-_offset`. -/
  | flds (cond : Cond) (u d : Bool) (rn : RegNum) (fd : BitVec 4) (off : BitVec 8)
  /-- R787: `FSTS__Sd____Rn____+_-_offset`. -/
  | fsts (cond : Cond) (u d : Bool) (rn : RegNum) (fd : BitVec 4) (off : BitVec 8)
  /-- R787: `FLDD__Dd____Rn____+_-_offset`. -/
  | fldd (cond : Cond) (u : Bool) (rn : RegNum) (fd : BitVec 4) (off : BitVec 8)
  /-- R787: `FSTD__Dd____Rn____+_-_offset`. -/
  | fstd (cond : Cond) (u : Bool) (rn : RegNum) (fd : BitVec 4) (off : BitVec 8)
  /-- R787: `FLDM_addressing_mode__S_D_X___Rn______registers`. -/
  | fldm (cond : Cond) (p u d w : Bool) (rn : RegNum) (fd : BitVec 4) (cp1 : Bool) (off : BitVec 8)
  /-- R787: `FSTM_addressing_mode__S_D_X___Rn______registers`. -/
  | fstm (cond : Cond) (p u d w : Bool) (rn : RegNum) (fd : BitVec 4) (cp1 : Bool) (off : BitVec 8)
  /-- R788: `VFP_data-processing__CDP_class__FADD__FSUB__FMUL__FNMUL`. -/
  | vfpData (cond : Cond) (opc1 fn fd : BitVec 4) (cp1 : Bool) (opc2 : BitVec 3) (fm : BitVec 4)
  -- DBGTAP instructions, the five-bit codes of the debug test access port (46_cp14_debug.md R336)
  /-- R336: `DBGTAP_EXTEST`. -/
  | dbgtapExtest
  /-- R336: `DBGTAP_Scan_N`. -/
  | dbgtapScanN
  /-- R336: `DBGTAP_Restart`. -/
  | dbgtapRestart
  /-- R336: `DBGTAP_Halt`. -/
  | dbgtapHalt
  /-- R336: `DBGTAP_INTEST`. -/
  | dbgtapIntest
  /-- R336: `DBGTAP_ITRsel`. -/
  | dbgtapItrsel
  /-- R336: `DBGTAP_IDcode`. -/
  | dbgtapIdcode
  /-- R336: `DBGTAP_Bypass`. -/
  | dbgtapBypass
deriving DecidableEq, Repr

end Sys2Proof
end

