-- ==== Sys2Proof/WellFormed.lean ====
section
/-!
DEFINITION. Which instructions have an encoding of their own: the condition is not b1111 (30_encoding.md R111), and an
instruction of a catch-all row of spec/opcode_table.json (priority 0) is none of the rows that come before it.
-/

namespace Sys2Proof

/-- A conditional instruction's condition field is not b1111 (30_encoding.md R111). -/
def condOk (cond : Cond) : Bool := cond != 15#4

/-- A coprocessor register access as the CP15 and CP14 tables list it: `l` (read), Opcode_1, CRn, CRm, Opcode_2. -/
abbrev CopKey := Bool × BitVec 3 × BitVec 4 × BitVec 4 × BitVec 3

/-- The listed accesses of CP15 c0 (30_encoding.md R118). -/
def cp15ListedC0 : List CopKey := [
  (true, 0, 0, 0, 0), (true, 0, 0, 0, 1), (true, 0, 0, 0, 3), (true, 0, 0, 0, 5),
  (true, 0, 0, 1, 0), (true, 0, 0, 1, 1), (true, 0, 0, 1, 2), (true, 0, 0, 1, 3),
  (true, 0, 0, 1, 4), (true, 0, 0, 1, 5), (true, 0, 0, 1, 6), (true, 0, 0, 1, 7),
  (true, 0, 0, 2, 0), (true, 0, 0, 2, 1), (true, 0, 0, 2, 2), (true, 0, 0, 2, 3),
  (true, 0, 0, 2, 4), (true, 0, 0, 2, 5), (true, 0, 0, 2, 6), (true, 0, 0, 2, 7),
  (true, 0, 0, 0, 2), (true, 0, 0, 0, 4), (true, 0, 0, 0, 6), (true, 0, 0, 0, 7)]

/-- The listed accesses of CP15 c1 (30_encoding.md R118). -/
def cp15ListedC1 : List CopKey := [
  (true, 0, 1, 0, 0), (false, 0, 1, 0, 0), (true, 0, 1, 0, 1), (false, 0, 1, 0, 1),
  (true, 0, 1, 0, 2), (false, 0, 1, 0, 2)]

/-- The listed accesses of CP15 c2 (30_encoding.md R118). -/
def cp15ListedC2 : List CopKey := [
  (true, 0, 2, 0, 0), (false, 0, 2, 0, 0), (true, 0, 2, 0, 1), (false, 0, 2, 0, 1),
  (true, 0, 2, 0, 2), (false, 0, 2, 0, 2)]

/-- The listed accesses of CP15 c3 (30_encoding.md R118). -/
def cp15ListedC3 : List CopKey := [
  (true, 0, 3, 0, 0), (false, 0, 3, 0, 0)]

/-- The listed accesses of CP15 c5 (30_encoding.md R118). -/
def cp15ListedC5 : List CopKey := [
  (true, 0, 5, 0, 0), (false, 0, 5, 0, 0), (true, 0, 5, 0, 1), (false, 0, 5, 0, 1)]

/-- The listed accesses of CP15 c6 (30_encoding.md R118). -/
def cp15ListedC6 : List CopKey := [
  (true, 0, 6, 0, 0), (false, 0, 6, 0, 0), (true, 0, 6, 0, 1), (false, 0, 6, 0, 1)]

/-- The listed accesses of CP15 c7 (30_encoding.md R118). -/
def cp15ListedC7 : List CopKey := [
  (false, 0, 7, 0, 4), (true, 0, 7, 4, 0), (false, 0, 7, 5, 0), (false, 0, 7, 5, 1),
  (false, 0, 7, 5, 2), (false, 0, 7, 5, 4), (false, 0, 7, 5, 6), (false, 0, 7, 5, 7),
  (false, 0, 7, 6, 0), (false, 0, 7, 6, 1), (false, 0, 7, 6, 2), (false, 0, 7, 7, 0),
  (false, 0, 7, 8, 0), (false, 0, 7, 8, 1), (false, 0, 7, 8, 2), (false, 0, 7, 8, 3),
  (false, 0, 7, 10, 0), (false, 0, 7, 10, 1), (false, 0, 7, 10, 2), (false, 0, 7, 10, 4),
  (false, 0, 7, 10, 5), (false, 0, 7, 14, 0), (false, 0, 7, 14, 1), (false, 0, 7, 14, 2)]

/-- The listed accesses of CP15 c8 (30_encoding.md R118). -/
def cp15ListedC8 : List CopKey := [
  (false, 0, 8, 5, 0), (false, 0, 8, 5, 1), (false, 0, 8, 5, 2), (false, 0, 8, 5, 3),
  (false, 0, 8, 6, 0), (false, 0, 8, 6, 1), (false, 0, 8, 6, 2), (false, 0, 8, 6, 3),
  (false, 0, 8, 7, 0), (false, 0, 8, 7, 1), (false, 0, 8, 7, 2), (false, 0, 8, 7, 3)]

/-- The listed accesses of CP15 c9 (30_encoding.md R118). -/
def cp15ListedC9 : List CopKey := [
  (true, 0, 9, 0, 0), (false, 0, 9, 0, 0)]

/-- The listed accesses of CP15 c10 (30_encoding.md R118). -/
def cp15ListedC10 : List CopKey := [
  (true, 0, 10, 0, 0), (false, 0, 10, 0, 0), (true, 0, 10, 2, 0), (false, 0, 10, 2, 0),
  (true, 0, 10, 2, 1), (false, 0, 10, 2, 1)]

/-- The listed accesses of CP15 c13 (30_encoding.md R118). -/
def cp15ListedC13 : List CopKey := [
  (true, 0, 13, 0, 0), (false, 0, 13, 0, 0), (true, 0, 13, 0, 1), (false, 0, 13, 0, 1),
  (true, 0, 13, 0, 2), (false, 0, 13, 0, 2), (true, 0, 13, 0, 3), (false, 0, 13, 0, 3),
  (true, 0, 13, 0, 4), (false, 0, 13, 0, 4)]

/-- The listed accesses of CP15 c15 (30_encoding.md R118). -/
def cp15ListedC15 : List CopKey := [
  (true, 0, 15, 12, 0), (false, 0, 15, 12, 0), (true, 0, 15, 12, 1), (false, 0, 15, 12, 1),
  (true, 0, 15, 12, 2), (false, 0, 15, 12, 2), (true, 0, 15, 12, 3), (false, 0, 15, 12, 3),
  (false, 5, 15, 4, 2), (false, 5, 15, 4, 4), (true, 5, 15, 5, 2), (false, 5, 15, 5, 2),
  (true, 5, 15, 6, 2), (false, 5, 15, 6, 2), (true, 5, 15, 7, 2), (false, 5, 15, 7, 2),
  (true, 7, 15, 1, 0), (false, 7, 15, 1, 0)]

/-- The CP15 accesses that a row of the opcode table lists: every write of c0 (40_cp15_c0_id.md R141) and the
accesses of the decode table (30_encoding.md R118). -/
def cp15Listed (k : CopKey) : Bool :=
  (!k.1 && k.2.1 == 0 && k.2.2.1 == 0) ||
  cp15ListedC0.contains k ||
  cp15ListedC1.contains k ||
  cp15ListedC2.contains k ||
  cp15ListedC3.contains k ||
  cp15ListedC5.contains k ||
  cp15ListedC6.contains k ||
  cp15ListedC7.contains k ||
  cp15ListedC8.contains k ||
  cp15ListedC9.contains k ||
  cp15ListedC10.contains k ||
  cp15ListedC13.contains k ||
  cp15ListedC15.contains k

/-- The CP14 register accesses that a row of the opcode table lists (46_cp14_debug.md R301). -/
def cp14ListedRegs : List CopKey := [
  (true, 0, 0, 0, 0), (true, 0, 0, 1, 0), (false, 0, 0, 1, 0), (true, 0, 0, 5, 0),
  (false, 0, 0, 5, 0), (true, 0, 0, 7, 0), (false, 0, 0, 7, 0), (true, 0, 0, 0, 4),
  (false, 0, 0, 0, 4), (true, 0, 0, 1, 4), (false, 0, 0, 1, 4), (true, 0, 0, 2, 4),
  (false, 0, 0, 2, 4), (true, 0, 0, 3, 4), (false, 0, 0, 3, 4), (true, 0, 0, 4, 4),
  (false, 0, 0, 4, 4), (true, 0, 0, 5, 4), (false, 0, 0, 5, 4), (true, 0, 0, 0, 5),
  (false, 0, 0, 0, 5), (true, 0, 0, 1, 5), (false, 0, 0, 1, 5), (true, 0, 0, 2, 5),
  (false, 0, 0, 2, 5), (true, 0, 0, 3, 5), (false, 0, 0, 3, 5), (true, 0, 0, 4, 5),
  (false, 0, 0, 4, 5), (true, 0, 0, 5, 5), (false, 0, 0, 5, 5), (true, 0, 0, 0, 6),
  (false, 0, 0, 0, 6), (true, 0, 0, 1, 6), (false, 0, 0, 1, 6), (true, 0, 0, 0, 7),
  (false, 0, 0, 0, 7), (true, 0, 0, 1, 7), (false, 0, 0, 1, 7)]

/-- Whether the coprocessor 14 word with bits [25:12] `hi` and bits [7:0] `lo` is one of the listed CP14 rows: a
register access (46_cp14_debug.md R301, R314) or LDC and STC of the DTR (R315, R316). -/
def cp14Listed (hi : BitVec 14) (lo : BitVec 8) : Bool :=
  (fld hi 12 2 == 2#2 && bitAt lo 4 && cp14ListedRegs.contains (bitAt hi 8, fld hi 9 3, fld hi 4 4, fld lo 0 4, fld lo 5 3)) ||
  (!bitAt hi 13 && !bitAt hi 10 && fld hi 0 4 == 5#4)

/-- The hint encodings are not MSR immediates (47_core_instructions.md R703). -/
def isHint (r : Bool) (mask rot : BitVec 4) (imm : BitVec 8) : Bool :=
  !r && mask == 0 && rot == 0 && imm.toNat < 5

/-- A VFP load or store multiple is none of the single transfers and none of the two-register transfers, whose
encodings stand in the same space (48_vfp.md R786, R787). -/
def vfpMultipleOk (p u d w cp1 : Bool) (off : BitVec 8) : Bool :=
  !(p && !w && (!cp1 || !d)) &&
  !(!p && !u && d && !w && (if cp1 then fld off 4 4 == 1#4 else fld off 6 2 == 0#2 && bitAt off 4))

/-- The instruction is encoded by its own row of the opcode table and by no row of higher priority. -/
def Instr.wellFormed : Instr → Bool
  | .mrcMainId cond _ => condOk cond
  | .mrcCacheType cond _ => condOk cond
  | .mrcTlbType cond _ => condOk cond
  | .mrcCpuId cond _ => condOk cond
  | .mrcIdPfr0 cond _ => condOk cond
  | .mrcIdPfr1 cond _ => condOk cond
  | .mrcIdDfr0 cond _ => condOk cond
  | .mrcIdReserved13 cond _ => condOk cond
  | .mrcIdMmfr0 cond _ => condOk cond
  | .mrcIdMmfr1 cond _ => condOk cond
  | .mrcIdMmfr2 cond _ => condOk cond
  | .mrcIdMmfr3 cond _ => condOk cond
  | .mrcIdIsar0 cond _ => condOk cond
  | .mrcIdIsar1 cond _ => condOk cond
  | .mrcIdIsar2 cond _ => condOk cond
  | .mrcIdIsar3 cond _ => condOk cond
  | .mrcIdIsar4 cond _ => condOk cond
  | .mrcIdReserved25 cond _ => condOk cond
  | .mrcIdReserved26 cond _ => condOk cond
  | .mrcIdReserved27 cond _ => condOk cond
  | .mrcC0Unlisted2 cond _ => condOk cond
  | .mrcC0Unlisted4 cond _ => condOk cond
  | .mrcC0Unlisted6 cond _ => condOk cond
  | .mrcC0Unlisted7 cond _ => condOk cond
  | .mcrC0 cond _ _ _ => condOk cond
  | .mrcControl cond _ => condOk cond
  | .mcrControl cond _ => condOk cond
  | .mrcAuxControl cond _ => condOk cond
  | .mcrAuxControl cond _ => condOk cond
  | .mrcCpacr cond _ => condOk cond
  | .mcrCpacr cond _ => condOk cond
  | .mrcTtbr0 cond _ => condOk cond
  | .mcrTtbr0 cond _ => condOk cond
  | .mrcTtbr1 cond _ => condOk cond
  | .mcrTtbr1 cond _ => condOk cond
  | .mrcTtbcr cond _ => condOk cond
  | .mcrTtbcr cond _ => condOk cond
  | .mrcDacr cond _ => condOk cond
  | .mcrDacr cond _ => condOk cond
  | .mrcDfsr cond _ => condOk cond
  | .mcrDfsr cond _ => condOk cond
  | .mrcIfsr cond _ => condOk cond
  | .mcrIfsr cond _ => condOk cond
  | .mrcFar cond _ => condOk cond
  | .mcrFar cond _ => condOk cond
  | .mrcWfar cond _ => condOk cond
  | .mcrWfar cond _ => condOk cond
  | .mcrWaitForInterrupt cond _ => condOk cond
  | .mrcPa cond _ => condOk cond
  | .mcrInvalidateICache cond _ => condOk cond
  | .mcrInvalidateICacheMva cond _ => condOk cond
  | .mcrInvalidateICacheIndex cond _ => condOk cond
  | .mcrFlushPrefetchBuffer cond _ => condOk cond
  | .mcrFlushBtac cond _ => condOk cond
  | .mcrFlushBtacEntry cond _ => condOk cond
  | .mcrInvalidateDCache cond _ => condOk cond
  | .mcrInvalidateDCacheMva cond _ => condOk cond
  | .mcrInvalidateDCacheIndex cond _ => condOk cond
  | .mcrInvalidateBothCaches cond _ => condOk cond
  | .mcrVaToPaPrivRead cond _ => condOk cond
  | .mcrVaToPaPrivWrite cond _ => condOk cond
  | .mcrVaToPaUserRead cond _ => condOk cond
  | .mcrVaToPaUserWrite cond _ => condOk cond
  | .mcrCleanDCache cond _ => condOk cond
  | .mcrCleanDCacheMva cond _ => condOk cond
  | .mcrCleanDCacheIndex cond _ => condOk cond
  | .mcrDsb cond _ => condOk cond
  | .mcrDmb cond _ => condOk cond
  | .mcrCleanInvDCache cond _ => condOk cond
  | .mcrCleanInvDCacheMva cond _ => condOk cond
  | .mcrCleanInvDCacheIndex cond _ => condOk cond
  | .mcrInvalidateITlb cond _ => condOk cond
  | .mcrInvalidateITlbEntry cond _ => condOk cond
  | .mcrInvalidateITlbAsid cond _ => condOk cond
  | .mcrInvalidateITlbMva cond _ => condOk cond
  | .mcrInvalidateDTlb cond _ => condOk cond
  | .mcrInvalidateDTlbEntry cond _ => condOk cond
  | .mcrInvalidateDTlbAsid cond _ => condOk cond
  | .mcrInvalidateDTlbMva cond _ => condOk cond
  | .mcrInvalidateUTlb cond _ => condOk cond
  | .mcrInvalidateUTlbEntry cond _ => condOk cond
  | .mcrInvalidateUTlbAsid cond _ => condOk cond
  | .mcrInvalidateUTlbMva cond _ => condOk cond
  | .mrcDCacheLockdown cond _ => condOk cond
  | .mcrDCacheLockdown cond _ => condOk cond
  | .mrcTlbLockdown cond _ => condOk cond
  | .mcrTlbLockdown cond _ => condOk cond
  | .mrcPrrr cond _ => condOk cond
  | .mcrPrrr cond _ => condOk cond
  | .mrcNmrr cond _ => condOk cond
  | .mcrNmrr cond _ => condOk cond
  | .mrcFcsePid cond _ => condOk cond
  | .mcrFcsePid cond _ => condOk cond
  | .mrcContextId cond _ => condOk cond
  | .mcrContextId cond _ => condOk cond
  | .mrcThreadIdUrw cond _ => condOk cond
  | .mcrThreadIdUrw cond _ => condOk cond
  | .mrcThreadIdUro cond _ => condOk cond
  | .mcrThreadIdUro cond _ => condOk cond
  | .mrcThreadIdPrw cond _ => condOk cond
  | .mcrThreadIdPrw cond _ => condOk cond
  | .mrcPmnc cond _ => condOk cond
  | .mcrPmnc cond _ => condOk cond
  | .mrcCcnt cond _ => condOk cond
  | .mcrCcnt cond _ => condOk cond
  | .mrcPmn0 cond _ => condOk cond
  | .mcrPmn0 cond _ => condOk cond
  | .mrcPmn1 cond _ => condOk cond
  | .mcrPmn1 cond _ => condOk cond
  | .mcrTlbLockIndexRead cond _ => condOk cond
  | .mcrTlbLockIndexWrite cond _ => condOk cond
  | .mrcTlbLockVa cond _ => condOk cond
  | .mcrTlbLockVa cond _ => condOk cond
  | .mrcTlbLockPa cond _ => condOk cond
  | .mcrTlbLockPa cond _ => condOk cond
  | .mrcTlbLockAttr cond _ => condOk cond
  | .mcrTlbLockAttr cond _ => condOk cond
  | .mrcTlbDebugControl cond _ => condOk cond
  | .mcrTlbDebugControl cond _ => condOk cond
  | .cp15Unlisted cond opc1 l crn _ opc2 crm => condOk cond && !cp15Listed (l, opc1, crn, crm, opc2)
  | .cdpP15 cond _ _ _ _ _ => condOk cond
  | .ldcStcP15 cond _ _ _ _ _ _ _ _ => condOk cond
  | .mrcDidr cond _ => condOk cond
  | .mrcDscr cond rd => condOk cond && rd != 15#4
  | .mcrDscr cond _ => condOk cond
  | .mrcDtr cond _ => condOk cond
  | .mcrDtr cond _ => condOk cond
  | .mrcVcr cond _ => condOk cond
  | .mcrVcr cond _ => condOk cond
  | .mrcBvr0 cond _ => condOk cond
  | .mcrBvr0 cond _ => condOk cond
  | .mrcBvr1 cond _ => condOk cond
  | .mcrBvr1 cond _ => condOk cond
  | .mrcBvr2 cond _ => condOk cond
  | .mcrBvr2 cond _ => condOk cond
  | .mrcBvr3 cond _ => condOk cond
  | .mcrBvr3 cond _ => condOk cond
  | .mrcBvr4 cond _ => condOk cond
  | .mcrBvr4 cond _ => condOk cond
  | .mrcBvr5 cond _ => condOk cond
  | .mcrBvr5 cond _ => condOk cond
  | .mrcBcr0 cond _ => condOk cond
  | .mcrBcr0 cond _ => condOk cond
  | .mrcBcr1 cond _ => condOk cond
  | .mcrBcr1 cond _ => condOk cond
  | .mrcBcr2 cond _ => condOk cond
  | .mcrBcr2 cond _ => condOk cond
  | .mrcBcr3 cond _ => condOk cond
  | .mcrBcr3 cond _ => condOk cond
  | .mrcBcr4 cond _ => condOk cond
  | .mcrBcr4 cond _ => condOk cond
  | .mrcBcr5 cond _ => condOk cond
  | .mcrBcr5 cond _ => condOk cond
  | .mrcWvr0 cond _ => condOk cond
  | .mcrWvr0 cond _ => condOk cond
  | .mrcWvr1 cond _ => condOk cond
  | .mcrWvr1 cond _ => condOk cond
  | .mrcWcr0 cond _ => condOk cond
  | .mcrWcr0 cond _ => condOk cond
  | .mrcWcr1 cond _ => condOk cond
  | .mcrWcr1 cond _ => condOk cond
  | .mrcDscrFlags cond => condOk cond
  | .ldcDtr cond _ _ _ _ _ => condOk cond
  | .stcDtr cond _ _ _ _ _ => condOk cond
  | .cp14Other cond hi lo => condOk cond && fld hi 12 2 != 3#2 && !cp14Listed hi lo
  | .nop cond => condOk cond
  | .yield cond => condOk cond
  | .wfe cond => condOk cond
  | .wfi cond => condOk cond
  | .sev cond => condOk cond
  | .setend _ => true
  | .setendThumb _ => true
  | .mrs cond _ _ => condOk cond
  | .msrReg cond _ _ _ => condOk cond
  | .msrImm cond r mask rot imm => condOk cond && !isHint r mask rot imm
  | .srs _ _ _ _ => true
  | .rfe _ _ _ _ => true
  | .cps _ _ _ _ _ _ => true
  | .cpsThumb _ _ _ _ => true
  | .ldrex cond _ _ => condOk cond
  | .strex cond _ _ _ => condOk cond
  | .ldrexd cond _ _ => condOk cond
  | .strexd cond _ _ _ => condOk cond
  | .ldrexb cond _ _ => condOk cond
  | .strexb cond _ _ _ => condOk cond
  | .ldrexh cond _ _ => condOk cond
  | .strexh cond _ _ _ => condOk cond
  | .clrex => true
  | .swp cond _ _ _ => condOk cond
  | .swpb cond _ _ _ => condOk cond
  | .swi cond _ => condOk cond
  | .swiThumb _ => true
  | .bkpt _ _ => true
  | .bkptThumb _ => true
  | .andImm cond _ _ _ _ _ => condOk cond
  | .andShiftImm cond _ _ _ _ _ _ => condOk cond
  | .andShiftReg cond _ _ _ _ _ _ => condOk cond
  | .eorImm cond _ _ _ _ _ => condOk cond
  | .eorShiftImm cond _ _ _ _ _ _ => condOk cond
  | .eorShiftReg cond _ _ _ _ _ _ => condOk cond
  | .subImm cond _ _ _ _ _ => condOk cond
  | .subShiftImm cond _ _ _ _ _ _ => condOk cond
  | .subShiftReg cond _ _ _ _ _ _ => condOk cond
  | .rsbImm cond _ _ _ _ _ => condOk cond
  | .rsbShiftImm cond _ _ _ _ _ _ => condOk cond
  | .rsbShiftReg cond _ _ _ _ _ _ => condOk cond
  | .addImm cond _ _ _ _ _ => condOk cond
  | .addShiftImm cond _ _ _ _ _ _ => condOk cond
  | .addShiftReg cond _ _ _ _ _ _ => condOk cond
  | .adcImm cond _ _ _ _ _ => condOk cond
  | .adcShiftImm cond _ _ _ _ _ _ => condOk cond
  | .adcShiftReg cond _ _ _ _ _ _ => condOk cond
  | .sbcImm cond _ _ _ _ _ => condOk cond
  | .sbcShiftImm cond _ _ _ _ _ _ => condOk cond
  | .sbcShiftReg cond _ _ _ _ _ _ => condOk cond
  | .rscImm cond _ _ _ _ _ => condOk cond
  | .rscShiftImm cond _ _ _ _ _ _ => condOk cond
  | .rscShiftReg cond _ _ _ _ _ _ => condOk cond
  | .tstImm cond _ _ _ _ => condOk cond
  | .tstShiftImm cond _ _ _ _ _ => condOk cond
  | .tstShiftReg cond _ _ _ _ _ => condOk cond
  | .teqImm cond _ _ _ _ => condOk cond
  | .teqShiftImm cond _ _ _ _ _ => condOk cond
  | .teqShiftReg cond _ _ _ _ _ => condOk cond
  | .cmpImm cond _ _ _ _ => condOk cond
  | .cmpShiftImm cond _ _ _ _ _ => condOk cond
  | .cmpShiftReg cond _ _ _ _ _ => condOk cond
  | .cmnImm cond _ _ _ _ => condOk cond
  | .cmnShiftImm cond _ _ _ _ _ => condOk cond
  | .cmnShiftReg cond _ _ _ _ _ => condOk cond
  | .orrImm cond _ _ _ _ _ => condOk cond
  | .orrShiftImm cond _ _ _ _ _ _ => condOk cond
  | .orrShiftReg cond _ _ _ _ _ _ => condOk cond
  | .movImm cond _ _ _ _ _ => condOk cond
  | .movShiftImm cond _ _ _ _ _ _ => condOk cond
  | .movShiftReg cond _ _ _ _ _ _ => condOk cond
  | .bicImm cond _ _ _ _ _ => condOk cond
  | .bicShiftImm cond _ _ _ _ _ _ => condOk cond
  | .bicShiftReg cond _ _ _ _ _ _ => condOk cond
  | .mvnImm cond _ _ _ _ _ => condOk cond
  | .mvnShiftImm cond _ _ _ _ _ _ => condOk cond
  | .mvnShiftReg cond _ _ _ _ _ _ => condOk cond
  | .b cond _ => condOk cond
  | .bl cond _ => condOk cond
  | .bx cond _ => condOk cond
  | .blxReg cond _ => condOk cond
  | .bxj cond _ => condOk cond
  | .blxImm _ _ => true
  | .ldrImm cond _ _ _ _ _ _ => condOk cond
  | .ldrReg cond _ _ _ _ _ _ _ _ => condOk cond
  | .strImm cond _ _ _ _ _ _ => condOk cond
  | .strReg cond _ _ _ _ _ _ _ _ => condOk cond
  | .ldrbImm cond _ _ _ _ _ _ => condOk cond
  | .ldrbReg cond _ _ _ _ _ _ _ _ => condOk cond
  | .strbImm cond _ _ _ _ _ _ => condOk cond
  | .strbReg cond _ _ _ _ _ _ _ _ => condOk cond
  | .strhImm cond _ _ _ _ _ _ _ => condOk cond
  | .strhReg cond _ _ _ _ _ _ => condOk cond
  | .ldrhImm cond _ _ _ _ _ _ _ => condOk cond
  | .ldrhReg cond _ _ _ _ _ _ => condOk cond
  | .ldrsbImm cond _ _ _ _ _ _ _ => condOk cond
  | .ldrsbReg cond _ _ _ _ _ _ => condOk cond
  | .ldrshImm cond _ _ _ _ _ _ _ => condOk cond
  | .ldrshReg cond _ _ _ _ _ _ => condOk cond
  | .ldrdImm cond _ _ _ _ _ _ _ => condOk cond
  | .ldrdReg cond _ _ _ _ _ _ => condOk cond
  | .strdImm cond _ _ _ _ _ _ _ => condOk cond
  | .strdReg cond _ _ _ _ _ _ => condOk cond
  | .ldm cond _ _ _ _ _ _ => condOk cond
  | .stm cond _ _ _ _ _ _ => condOk cond
  | .mul cond _ _ _ _ => condOk cond
  | .mla cond _ _ _ _ _ => condOk cond
  | .clz cond _ _ => condOk cond
  | .fmsr cond _ _ _ => condOk cond
  | .fmrs cond _ _ _ => condOk cond
  | .fmdlr cond _ _ => condOk cond
  | .fmdhr cond _ _ => condOk cond
  | .fmrdl cond _ _ => condOk cond
  | .fmrdh cond _ _ => condOk cond
  | .fmxr cond _ _ => condOk cond
  | .fmrx cond reg rd => condOk cond && !(reg == 1#4 && rd == 15#4)
  | .fmstat cond => condOk cond
  | .fmdrr cond _ _ _ => condOk cond
  | .fmrrd cond _ _ _ => condOk cond
  | .fmsrr cond _ _ _ _ => condOk cond
  | .fmrrs cond _ _ _ _ => condOk cond
  | .flds cond _ _ _ _ _ => condOk cond
  | .fsts cond _ _ _ _ _ => condOk cond
  | .fldd cond _ _ _ _ => condOk cond
  | .fstd cond _ _ _ _ => condOk cond
  | .fldm cond p u d w _ _ cp1 off => condOk cond && vfpMultipleOk p u d w cp1 off
  | .fstm cond p u d w _ _ cp1 off => condOk cond && vfpMultipleOk p u d w cp1 off
  | .vfpData cond _ _ _ _ _ _ => condOk cond
  | .dbgtapExtest => true
  | .dbgtapScanN => true
  | .dbgtapRestart => true
  | .dbgtapHalt => true
  | .dbgtapIntest => true
  | .dbgtapItrsel => true
  | .dbgtapIdcode => true
  | .dbgtapBypass => true

/-- The condition field of an instruction that has one (30_encoding.md R111). -/
def Instr.condition : Instr → Option Cond
  | .mrcMainId cond _ => some cond
  | .mrcCacheType cond _ => some cond
  | .mrcTlbType cond _ => some cond
  | .mrcCpuId cond _ => some cond
  | .mrcIdPfr0 cond _ => some cond
  | .mrcIdPfr1 cond _ => some cond
  | .mrcIdDfr0 cond _ => some cond
  | .mrcIdReserved13 cond _ => some cond
  | .mrcIdMmfr0 cond _ => some cond
  | .mrcIdMmfr1 cond _ => some cond
  | .mrcIdMmfr2 cond _ => some cond
  | .mrcIdMmfr3 cond _ => some cond
  | .mrcIdIsar0 cond _ => some cond
  | .mrcIdIsar1 cond _ => some cond
  | .mrcIdIsar2 cond _ => some cond
  | .mrcIdIsar3 cond _ => some cond
  | .mrcIdIsar4 cond _ => some cond
  | .mrcIdReserved25 cond _ => some cond
  | .mrcIdReserved26 cond _ => some cond
  | .mrcIdReserved27 cond _ => some cond
  | .mrcC0Unlisted2 cond _ => some cond
  | .mrcC0Unlisted4 cond _ => some cond
  | .mrcC0Unlisted6 cond _ => some cond
  | .mrcC0Unlisted7 cond _ => some cond
  | .mcrC0 cond _ _ _ => some cond
  | .mrcControl cond _ => some cond
  | .mcrControl cond _ => some cond
  | .mrcAuxControl cond _ => some cond
  | .mcrAuxControl cond _ => some cond
  | .mrcCpacr cond _ => some cond
  | .mcrCpacr cond _ => some cond
  | .mrcTtbr0 cond _ => some cond
  | .mcrTtbr0 cond _ => some cond
  | .mrcTtbr1 cond _ => some cond
  | .mcrTtbr1 cond _ => some cond
  | .mrcTtbcr cond _ => some cond
  | .mcrTtbcr cond _ => some cond
  | .mrcDacr cond _ => some cond
  | .mcrDacr cond _ => some cond
  | .mrcDfsr cond _ => some cond
  | .mcrDfsr cond _ => some cond
  | .mrcIfsr cond _ => some cond
  | .mcrIfsr cond _ => some cond
  | .mrcFar cond _ => some cond
  | .mcrFar cond _ => some cond
  | .mrcWfar cond _ => some cond
  | .mcrWfar cond _ => some cond
  | .mcrWaitForInterrupt cond _ => some cond
  | .mrcPa cond _ => some cond
  | .mcrInvalidateICache cond _ => some cond
  | .mcrInvalidateICacheMva cond _ => some cond
  | .mcrInvalidateICacheIndex cond _ => some cond
  | .mcrFlushPrefetchBuffer cond _ => some cond
  | .mcrFlushBtac cond _ => some cond
  | .mcrFlushBtacEntry cond _ => some cond
  | .mcrInvalidateDCache cond _ => some cond
  | .mcrInvalidateDCacheMva cond _ => some cond
  | .mcrInvalidateDCacheIndex cond _ => some cond
  | .mcrInvalidateBothCaches cond _ => some cond
  | .mcrVaToPaPrivRead cond _ => some cond
  | .mcrVaToPaPrivWrite cond _ => some cond
  | .mcrVaToPaUserRead cond _ => some cond
  | .mcrVaToPaUserWrite cond _ => some cond
  | .mcrCleanDCache cond _ => some cond
  | .mcrCleanDCacheMva cond _ => some cond
  | .mcrCleanDCacheIndex cond _ => some cond
  | .mcrDsb cond _ => some cond
  | .mcrDmb cond _ => some cond
  | .mcrCleanInvDCache cond _ => some cond
  | .mcrCleanInvDCacheMva cond _ => some cond
  | .mcrCleanInvDCacheIndex cond _ => some cond
  | .mcrInvalidateITlb cond _ => some cond
  | .mcrInvalidateITlbEntry cond _ => some cond
  | .mcrInvalidateITlbAsid cond _ => some cond
  | .mcrInvalidateITlbMva cond _ => some cond
  | .mcrInvalidateDTlb cond _ => some cond
  | .mcrInvalidateDTlbEntry cond _ => some cond
  | .mcrInvalidateDTlbAsid cond _ => some cond
  | .mcrInvalidateDTlbMva cond _ => some cond
  | .mcrInvalidateUTlb cond _ => some cond
  | .mcrInvalidateUTlbEntry cond _ => some cond
  | .mcrInvalidateUTlbAsid cond _ => some cond
  | .mcrInvalidateUTlbMva cond _ => some cond
  | .mrcDCacheLockdown cond _ => some cond
  | .mcrDCacheLockdown cond _ => some cond
  | .mrcTlbLockdown cond _ => some cond
  | .mcrTlbLockdown cond _ => some cond
  | .mrcPrrr cond _ => some cond
  | .mcrPrrr cond _ => some cond
  | .mrcNmrr cond _ => some cond
  | .mcrNmrr cond _ => some cond
  | .mrcFcsePid cond _ => some cond
  | .mcrFcsePid cond _ => some cond
  | .mrcContextId cond _ => some cond
  | .mcrContextId cond _ => some cond
  | .mrcThreadIdUrw cond _ => some cond
  | .mcrThreadIdUrw cond _ => some cond
  | .mrcThreadIdUro cond _ => some cond
  | .mcrThreadIdUro cond _ => some cond
  | .mrcThreadIdPrw cond _ => some cond
  | .mcrThreadIdPrw cond _ => some cond
  | .mrcPmnc cond _ => some cond
  | .mcrPmnc cond _ => some cond
  | .mrcCcnt cond _ => some cond
  | .mcrCcnt cond _ => some cond
  | .mrcPmn0 cond _ => some cond
  | .mcrPmn0 cond _ => some cond
  | .mrcPmn1 cond _ => some cond
  | .mcrPmn1 cond _ => some cond
  | .mcrTlbLockIndexRead cond _ => some cond
  | .mcrTlbLockIndexWrite cond _ => some cond
  | .mrcTlbLockVa cond _ => some cond
  | .mcrTlbLockVa cond _ => some cond
  | .mrcTlbLockPa cond _ => some cond
  | .mcrTlbLockPa cond _ => some cond
  | .mrcTlbLockAttr cond _ => some cond
  | .mcrTlbLockAttr cond _ => some cond
  | .mrcTlbDebugControl cond _ => some cond
  | .mcrTlbDebugControl cond _ => some cond
  | .cp15Unlisted cond _ _ _ _ _ _ => some cond
  | .cdpP15 cond _ _ _ _ _ => some cond
  | .ldcStcP15 cond _ _ _ _ _ _ _ _ => some cond
  | .mrcDidr cond _ => some cond
  | .mrcDscr cond _ => some cond
  | .mcrDscr cond _ => some cond
  | .mrcDtr cond _ => some cond
  | .mcrDtr cond _ => some cond
  | .mrcVcr cond _ => some cond
  | .mcrVcr cond _ => some cond
  | .mrcBvr0 cond _ => some cond
  | .mcrBvr0 cond _ => some cond
  | .mrcBvr1 cond _ => some cond
  | .mcrBvr1 cond _ => some cond
  | .mrcBvr2 cond _ => some cond
  | .mcrBvr2 cond _ => some cond
  | .mrcBvr3 cond _ => some cond
  | .mcrBvr3 cond _ => some cond
  | .mrcBvr4 cond _ => some cond
  | .mcrBvr4 cond _ => some cond
  | .mrcBvr5 cond _ => some cond
  | .mcrBvr5 cond _ => some cond
  | .mrcBcr0 cond _ => some cond
  | .mcrBcr0 cond _ => some cond
  | .mrcBcr1 cond _ => some cond
  | .mcrBcr1 cond _ => some cond
  | .mrcBcr2 cond _ => some cond
  | .mcrBcr2 cond _ => some cond
  | .mrcBcr3 cond _ => some cond
  | .mcrBcr3 cond _ => some cond
  | .mrcBcr4 cond _ => some cond
  | .mcrBcr4 cond _ => some cond
  | .mrcBcr5 cond _ => some cond
  | .mcrBcr5 cond _ => some cond
  | .mrcWvr0 cond _ => some cond
  | .mcrWvr0 cond _ => some cond
  | .mrcWvr1 cond _ => some cond
  | .mcrWvr1 cond _ => some cond
  | .mrcWcr0 cond _ => some cond
  | .mcrWcr0 cond _ => some cond
  | .mrcWcr1 cond _ => some cond
  | .mcrWcr1 cond _ => some cond
  | .mrcDscrFlags cond => some cond
  | .ldcDtr cond _ _ _ _ _ => some cond
  | .stcDtr cond _ _ _ _ _ => some cond
  | .cp14Other cond _ _ => some cond
  | .nop cond => some cond
  | .yield cond => some cond
  | .wfe cond => some cond
  | .wfi cond => some cond
  | .sev cond => some cond
  | .setend _ => none
  | .setendThumb _ => none
  | .mrs cond _ _ => some cond
  | .msrReg cond _ _ _ => some cond
  | .msrImm cond _ _ _ _ => some cond
  | .srs _ _ _ _ => none
  | .rfe _ _ _ _ => none
  | .cps _ _ _ _ _ _ => none
  | .cpsThumb _ _ _ _ => none
  | .ldrex cond _ _ => some cond
  | .strex cond _ _ _ => some cond
  | .ldrexd cond _ _ => some cond
  | .strexd cond _ _ _ => some cond
  | .ldrexb cond _ _ => some cond
  | .strexb cond _ _ _ => some cond
  | .ldrexh cond _ _ => some cond
  | .strexh cond _ _ _ => some cond
  | .clrex => none
  | .swp cond _ _ _ => some cond
  | .swpb cond _ _ _ => some cond
  | .swi cond _ => some cond
  | .swiThumb _ => none
  | .bkpt _ _ => none
  | .bkptThumb _ => none
  | .andImm cond _ _ _ _ _ => some cond
  | .andShiftImm cond _ _ _ _ _ _ => some cond
  | .andShiftReg cond _ _ _ _ _ _ => some cond
  | .eorImm cond _ _ _ _ _ => some cond
  | .eorShiftImm cond _ _ _ _ _ _ => some cond
  | .eorShiftReg cond _ _ _ _ _ _ => some cond
  | .subImm cond _ _ _ _ _ => some cond
  | .subShiftImm cond _ _ _ _ _ _ => some cond
  | .subShiftReg cond _ _ _ _ _ _ => some cond
  | .rsbImm cond _ _ _ _ _ => some cond
  | .rsbShiftImm cond _ _ _ _ _ _ => some cond
  | .rsbShiftReg cond _ _ _ _ _ _ => some cond
  | .addImm cond _ _ _ _ _ => some cond
  | .addShiftImm cond _ _ _ _ _ _ => some cond
  | .addShiftReg cond _ _ _ _ _ _ => some cond
  | .adcImm cond _ _ _ _ _ => some cond
  | .adcShiftImm cond _ _ _ _ _ _ => some cond
  | .adcShiftReg cond _ _ _ _ _ _ => some cond
  | .sbcImm cond _ _ _ _ _ => some cond
  | .sbcShiftImm cond _ _ _ _ _ _ => some cond
  | .sbcShiftReg cond _ _ _ _ _ _ => some cond
  | .rscImm cond _ _ _ _ _ => some cond
  | .rscShiftImm cond _ _ _ _ _ _ => some cond
  | .rscShiftReg cond _ _ _ _ _ _ => some cond
  | .tstImm cond _ _ _ _ => some cond
  | .tstShiftImm cond _ _ _ _ _ => some cond
  | .tstShiftReg cond _ _ _ _ _ => some cond
  | .teqImm cond _ _ _ _ => some cond
  | .teqShiftImm cond _ _ _ _ _ => some cond
  | .teqShiftReg cond _ _ _ _ _ => some cond
  | .cmpImm cond _ _ _ _ => some cond
  | .cmpShiftImm cond _ _ _ _ _ => some cond
  | .cmpShiftReg cond _ _ _ _ _ => some cond
  | .cmnImm cond _ _ _ _ => some cond
  | .cmnShiftImm cond _ _ _ _ _ => some cond
  | .cmnShiftReg cond _ _ _ _ _ => some cond
  | .orrImm cond _ _ _ _ _ => some cond
  | .orrShiftImm cond _ _ _ _ _ _ => some cond
  | .orrShiftReg cond _ _ _ _ _ _ => some cond
  | .movImm cond _ _ _ _ _ => some cond
  | .movShiftImm cond _ _ _ _ _ _ => some cond
  | .movShiftReg cond _ _ _ _ _ _ => some cond
  | .bicImm cond _ _ _ _ _ => some cond
  | .bicShiftImm cond _ _ _ _ _ _ => some cond
  | .bicShiftReg cond _ _ _ _ _ _ => some cond
  | .mvnImm cond _ _ _ _ _ => some cond
  | .mvnShiftImm cond _ _ _ _ _ _ => some cond
  | .mvnShiftReg cond _ _ _ _ _ _ => some cond
  | .b cond _ => some cond
  | .bl cond _ => some cond
  | .bx cond _ => some cond
  | .blxReg cond _ => some cond
  | .bxj cond _ => some cond
  | .blxImm _ _ => none
  | .ldrImm cond _ _ _ _ _ _ => some cond
  | .ldrReg cond _ _ _ _ _ _ _ _ => some cond
  | .strImm cond _ _ _ _ _ _ => some cond
  | .strReg cond _ _ _ _ _ _ _ _ => some cond
  | .ldrbImm cond _ _ _ _ _ _ => some cond
  | .ldrbReg cond _ _ _ _ _ _ _ _ => some cond
  | .strbImm cond _ _ _ _ _ _ => some cond
  | .strbReg cond _ _ _ _ _ _ _ _ => some cond
  | .strhImm cond _ _ _ _ _ _ _ => some cond
  | .strhReg cond _ _ _ _ _ _ => some cond
  | .ldrhImm cond _ _ _ _ _ _ _ => some cond
  | .ldrhReg cond _ _ _ _ _ _ => some cond
  | .ldrsbImm cond _ _ _ _ _ _ _ => some cond
  | .ldrsbReg cond _ _ _ _ _ _ => some cond
  | .ldrshImm cond _ _ _ _ _ _ _ => some cond
  | .ldrshReg cond _ _ _ _ _ _ => some cond
  | .ldrdImm cond _ _ _ _ _ _ _ => some cond
  | .ldrdReg cond _ _ _ _ _ _ => some cond
  | .strdImm cond _ _ _ _ _ _ _ => some cond
  | .strdReg cond _ _ _ _ _ _ => some cond
  | .ldm cond _ _ _ _ _ _ => some cond
  | .stm cond _ _ _ _ _ _ => some cond
  | .mul cond _ _ _ _ => some cond
  | .mla cond _ _ _ _ _ => some cond
  | .clz cond _ _ => some cond
  | .fmsr cond _ _ _ => some cond
  | .fmrs cond _ _ _ => some cond
  | .fmdlr cond _ _ => some cond
  | .fmdhr cond _ _ => some cond
  | .fmrdl cond _ _ => some cond
  | .fmrdh cond _ _ => some cond
  | .fmxr cond _ _ => some cond
  | .fmrx cond _ _ => some cond
  | .fmstat cond => some cond
  | .fmdrr cond _ _ _ => some cond
  | .fmrrd cond _ _ _ => some cond
  | .fmsrr cond _ _ _ _ => some cond
  | .fmrrs cond _ _ _ _ => some cond
  | .flds cond _ _ _ _ _ => some cond
  | .fsts cond _ _ _ _ _ => some cond
  | .fldd cond _ _ _ _ => some cond
  | .fstd cond _ _ _ _ => some cond
  | .fldm cond _ _ _ _ _ _ _ _ => some cond
  | .fstm cond _ _ _ _ _ _ _ _ => some cond
  | .vfpData cond _ _ _ _ _ _ => some cond
  | .dbgtapExtest => none
  | .dbgtapScanN => none
  | .dbgtapRestart => none
  | .dbgtapHalt => none
  | .dbgtapIntest => none
  | .dbgtapItrsel => none
  | .dbgtapIdcode => none
  | .dbgtapBypass => none

end Sys2Proof
end

