-- ==== Sys2Proof/Decode.lean ====
section
/-!
DEFINITION. Decoding and encoding, from the encodings of spec/opcode_table.json (30_encoding.md R111 to R119,
47_core_instructions.md R703 to R774, 46_cp14_debug.md R301 to R316, R336, 48_vfp.md R786 to R788). The decoder is total:
a word that no row covers is rejected by the name of the reason. (The section is noncomputable only because Lean's compiler makes no
run-time code for a type of more than 244 constructors with fields; the kernel evaluates every definition here.)
-/

namespace Sys2Proof

noncomputable section

/-- Why a word is not an instruction of the opcode table. -/
inductive Reject where
  /-- A coprocessor instruction for a coprocessor the processor does not have: Undefined Instruction when its condition
  holds (47_core_instructions.md R704). -/
  | absentCoprocessor (cond : Cond)
  /-- A CP10 or CP11 instruction outside the rows: Undefined Instruction when the VFP is absent or denied
  (47_core_instructions.md R704). -/
  | vfpUnlisted (cond : Cond)
  /-- An unconditional ("2" form) coprocessor instruction (30_encoding.md R115, 47_core_instructions.md R704). -/
  | unconditionalCoprocessor (cp : BitVec 4)
  /-- An instruction word outside the subset the specification defines (47_core_instructions.md R700), and its condition: b1111
  of an unconditional word, AL of a Thumb one. -/
  | outsideSubset (cond : Cond)
  /-- PLD, which the opcode table has no row for (47_core_instructions.md R730). -/
  | preload
deriving DecidableEq, Repr

/-- What a word stands for: an instruction, or the reason it is none. -/
abbrev Decoded := Except Reject Instr

/-- The CP15 c0 reads (30_encoding.md R118), by CRm and Opcode_2. -/
def decodeCp15C0Read (cond : Cond) (rd : RegNum) (crm : BitVec 4) (opc2 : BitVec 3) : Option Instr :=
  match crm, opc2 with
  | 0#4, 0#3 => some (.mrcMainId cond rd)
  | 0#4, 1#3 => some (.mrcCacheType cond rd)
  | 0#4, 3#3 => some (.mrcTlbType cond rd)
  | 0#4, 5#3 => some (.mrcCpuId cond rd)
  | 1#4, 0#3 => some (.mrcIdPfr0 cond rd)
  | 1#4, 1#3 => some (.mrcIdPfr1 cond rd)
  | 1#4, 2#3 => some (.mrcIdDfr0 cond rd)
  | 1#4, 3#3 => some (.mrcIdReserved13 cond rd)
  | 1#4, 4#3 => some (.mrcIdMmfr0 cond rd)
  | 1#4, 5#3 => some (.mrcIdMmfr1 cond rd)
  | 1#4, 6#3 => some (.mrcIdMmfr2 cond rd)
  | 1#4, 7#3 => some (.mrcIdMmfr3 cond rd)
  | 2#4, 0#3 => some (.mrcIdIsar0 cond rd)
  | 2#4, 1#3 => some (.mrcIdIsar1 cond rd)
  | 2#4, 2#3 => some (.mrcIdIsar2 cond rd)
  | 2#4, 3#3 => some (.mrcIdIsar3 cond rd)
  | 2#4, 4#3 => some (.mrcIdIsar4 cond rd)
  | 2#4, 5#3 => some (.mrcIdReserved25 cond rd)
  | 2#4, 6#3 => some (.mrcIdReserved26 cond rd)
  | 2#4, 7#3 => some (.mrcIdReserved27 cond rd)
  | 0#4, 2#3 => some (.mrcC0Unlisted2 cond rd)
  | 0#4, 4#3 => some (.mrcC0Unlisted4 cond rd)
  | 0#4, 6#3 => some (.mrcC0Unlisted6 cond rd)
  | 0#4, 7#3 => some (.mrcC0Unlisted7 cond rd)
  | _, _ => none

/-- The CP15 c1 reads (30_encoding.md R118), by CRm and Opcode_2. -/
def decodeCp15C1Read (cond : Cond) (rd : RegNum) (crm : BitVec 4) (opc2 : BitVec 3) : Option Instr :=
  match crm, opc2 with
  | 0#4, 0#3 => some (.mrcControl cond rd)
  | 0#4, 1#3 => some (.mrcAuxControl cond rd)
  | 0#4, 2#3 => some (.mrcCpacr cond rd)
  | _, _ => none

/-- The CP15 c1 writes (30_encoding.md R118), by CRm and Opcode_2. -/
def decodeCp15C1Write (cond : Cond) (rd : RegNum) (crm : BitVec 4) (opc2 : BitVec 3) : Option Instr :=
  match crm, opc2 with
  | 0#4, 0#3 => some (.mcrControl cond rd)
  | 0#4, 1#3 => some (.mcrAuxControl cond rd)
  | 0#4, 2#3 => some (.mcrCpacr cond rd)
  | _, _ => none

/-- The CP15 c2 reads (30_encoding.md R118), by CRm and Opcode_2. -/
def decodeCp15C2Read (cond : Cond) (rd : RegNum) (crm : BitVec 4) (opc2 : BitVec 3) : Option Instr :=
  match crm, opc2 with
  | 0#4, 0#3 => some (.mrcTtbr0 cond rd)
  | 0#4, 1#3 => some (.mrcTtbr1 cond rd)
  | 0#4, 2#3 => some (.mrcTtbcr cond rd)
  | _, _ => none

/-- The CP15 c2 writes (30_encoding.md R118), by CRm and Opcode_2. -/
def decodeCp15C2Write (cond : Cond) (rd : RegNum) (crm : BitVec 4) (opc2 : BitVec 3) : Option Instr :=
  match crm, opc2 with
  | 0#4, 0#3 => some (.mcrTtbr0 cond rd)
  | 0#4, 1#3 => some (.mcrTtbr1 cond rd)
  | 0#4, 2#3 => some (.mcrTtbcr cond rd)
  | _, _ => none

/-- The CP15 c3 reads (30_encoding.md R118), by CRm and Opcode_2. -/
def decodeCp15C3Read (cond : Cond) (rd : RegNum) (crm : BitVec 4) (opc2 : BitVec 3) : Option Instr :=
  match crm, opc2 with
  | 0#4, 0#3 => some (.mrcDacr cond rd)
  | _, _ => none

/-- The CP15 c3 writes (30_encoding.md R118), by CRm and Opcode_2. -/
def decodeCp15C3Write (cond : Cond) (rd : RegNum) (crm : BitVec 4) (opc2 : BitVec 3) : Option Instr :=
  match crm, opc2 with
  | 0#4, 0#3 => some (.mcrDacr cond rd)
  | _, _ => none

/-- The CP15 c5 reads (30_encoding.md R118), by CRm and Opcode_2. -/
def decodeCp15C5Read (cond : Cond) (rd : RegNum) (crm : BitVec 4) (opc2 : BitVec 3) : Option Instr :=
  match crm, opc2 with
  | 0#4, 0#3 => some (.mrcDfsr cond rd)
  | 0#4, 1#3 => some (.mrcIfsr cond rd)
  | _, _ => none

/-- The CP15 c5 writes (30_encoding.md R118), by CRm and Opcode_2. -/
def decodeCp15C5Write (cond : Cond) (rd : RegNum) (crm : BitVec 4) (opc2 : BitVec 3) : Option Instr :=
  match crm, opc2 with
  | 0#4, 0#3 => some (.mcrDfsr cond rd)
  | 0#4, 1#3 => some (.mcrIfsr cond rd)
  | _, _ => none

/-- The CP15 c6 reads (30_encoding.md R118), by CRm and Opcode_2. -/
def decodeCp15C6Read (cond : Cond) (rd : RegNum) (crm : BitVec 4) (opc2 : BitVec 3) : Option Instr :=
  match crm, opc2 with
  | 0#4, 0#3 => some (.mrcFar cond rd)
  | 0#4, 1#3 => some (.mrcWfar cond rd)
  | _, _ => none

/-- The CP15 c6 writes (30_encoding.md R118), by CRm and Opcode_2. -/
def decodeCp15C6Write (cond : Cond) (rd : RegNum) (crm : BitVec 4) (opc2 : BitVec 3) : Option Instr :=
  match crm, opc2 with
  | 0#4, 0#3 => some (.mcrFar cond rd)
  | 0#4, 1#3 => some (.mcrWfar cond rd)
  | _, _ => none

/-- The CP15 c7 reads (30_encoding.md R118), by CRm and Opcode_2. -/
def decodeCp15C7Read (cond : Cond) (rd : RegNum) (crm : BitVec 4) (opc2 : BitVec 3) : Option Instr :=
  match crm, opc2 with
  | 4#4, 0#3 => some (.mrcPa cond rd)
  | _, _ => none

/-- The CP15 c7 writes (30_encoding.md R118), by CRm and Opcode_2. -/
def decodeCp15C7Write (cond : Cond) (rd : RegNum) (crm : BitVec 4) (opc2 : BitVec 3) : Option Instr :=
  match crm, opc2 with
  | 0#4, 4#3 => some (.mcrWaitForInterrupt cond rd)
  | 5#4, 0#3 => some (.mcrInvalidateICache cond rd)
  | 5#4, 1#3 => some (.mcrInvalidateICacheMva cond rd)
  | 5#4, 2#3 => some (.mcrInvalidateICacheIndex cond rd)
  | 5#4, 4#3 => some (.mcrFlushPrefetchBuffer cond rd)
  | 5#4, 6#3 => some (.mcrFlushBtac cond rd)
  | 5#4, 7#3 => some (.mcrFlushBtacEntry cond rd)
  | 6#4, 0#3 => some (.mcrInvalidateDCache cond rd)
  | 6#4, 1#3 => some (.mcrInvalidateDCacheMva cond rd)
  | 6#4, 2#3 => some (.mcrInvalidateDCacheIndex cond rd)
  | 7#4, 0#3 => some (.mcrInvalidateBothCaches cond rd)
  | 8#4, 0#3 => some (.mcrVaToPaPrivRead cond rd)
  | 8#4, 1#3 => some (.mcrVaToPaPrivWrite cond rd)
  | 8#4, 2#3 => some (.mcrVaToPaUserRead cond rd)
  | 8#4, 3#3 => some (.mcrVaToPaUserWrite cond rd)
  | 10#4, 0#3 => some (.mcrCleanDCache cond rd)
  | 10#4, 1#3 => some (.mcrCleanDCacheMva cond rd)
  | 10#4, 2#3 => some (.mcrCleanDCacheIndex cond rd)
  | 10#4, 4#3 => some (.mcrDsb cond rd)
  | 10#4, 5#3 => some (.mcrDmb cond rd)
  | 14#4, 0#3 => some (.mcrCleanInvDCache cond rd)
  | 14#4, 1#3 => some (.mcrCleanInvDCacheMva cond rd)
  | 14#4, 2#3 => some (.mcrCleanInvDCacheIndex cond rd)
  | _, _ => none

/-- The CP15 c8 writes (30_encoding.md R118), by CRm and Opcode_2. -/
def decodeCp15C8Write (cond : Cond) (rd : RegNum) (crm : BitVec 4) (opc2 : BitVec 3) : Option Instr :=
  match crm, opc2 with
  | 5#4, 0#3 => some (.mcrInvalidateITlb cond rd)
  | 5#4, 1#3 => some (.mcrInvalidateITlbEntry cond rd)
  | 5#4, 2#3 => some (.mcrInvalidateITlbAsid cond rd)
  | 5#4, 3#3 => some (.mcrInvalidateITlbMva cond rd)
  | 6#4, 0#3 => some (.mcrInvalidateDTlb cond rd)
  | 6#4, 1#3 => some (.mcrInvalidateDTlbEntry cond rd)
  | 6#4, 2#3 => some (.mcrInvalidateDTlbAsid cond rd)
  | 6#4, 3#3 => some (.mcrInvalidateDTlbMva cond rd)
  | 7#4, 0#3 => some (.mcrInvalidateUTlb cond rd)
  | 7#4, 1#3 => some (.mcrInvalidateUTlbEntry cond rd)
  | 7#4, 2#3 => some (.mcrInvalidateUTlbAsid cond rd)
  | 7#4, 3#3 => some (.mcrInvalidateUTlbMva cond rd)
  | _, _ => none

/-- The CP15 c9 reads (30_encoding.md R118), by CRm and Opcode_2. -/
def decodeCp15C9Read (cond : Cond) (rd : RegNum) (crm : BitVec 4) (opc2 : BitVec 3) : Option Instr :=
  match crm, opc2 with
  | 0#4, 0#3 => some (.mrcDCacheLockdown cond rd)
  | _, _ => none

/-- The CP15 c9 writes (30_encoding.md R118), by CRm and Opcode_2. -/
def decodeCp15C9Write (cond : Cond) (rd : RegNum) (crm : BitVec 4) (opc2 : BitVec 3) : Option Instr :=
  match crm, opc2 with
  | 0#4, 0#3 => some (.mcrDCacheLockdown cond rd)
  | _, _ => none

/-- The CP15 c10 reads (30_encoding.md R118), by CRm and Opcode_2. -/
def decodeCp15C10Read (cond : Cond) (rd : RegNum) (crm : BitVec 4) (opc2 : BitVec 3) : Option Instr :=
  match crm, opc2 with
  | 0#4, 0#3 => some (.mrcTlbLockdown cond rd)
  | 2#4, 0#3 => some (.mrcPrrr cond rd)
  | 2#4, 1#3 => some (.mrcNmrr cond rd)
  | _, _ => none

/-- The CP15 c10 writes (30_encoding.md R118), by CRm and Opcode_2. -/
def decodeCp15C10Write (cond : Cond) (rd : RegNum) (crm : BitVec 4) (opc2 : BitVec 3) : Option Instr :=
  match crm, opc2 with
  | 0#4, 0#3 => some (.mcrTlbLockdown cond rd)
  | 2#4, 0#3 => some (.mcrPrrr cond rd)
  | 2#4, 1#3 => some (.mcrNmrr cond rd)
  | _, _ => none

/-- The CP15 c13 reads (30_encoding.md R118), by CRm and Opcode_2. -/
def decodeCp15C13Read (cond : Cond) (rd : RegNum) (crm : BitVec 4) (opc2 : BitVec 3) : Option Instr :=
  match crm, opc2 with
  | 0#4, 0#3 => some (.mrcFcsePid cond rd)
  | 0#4, 1#3 => some (.mrcContextId cond rd)
  | 0#4, 2#3 => some (.mrcThreadIdUrw cond rd)
  | 0#4, 3#3 => some (.mrcThreadIdUro cond rd)
  | 0#4, 4#3 => some (.mrcThreadIdPrw cond rd)
  | _, _ => none

/-- The CP15 c13 writes (30_encoding.md R118), by CRm and Opcode_2. -/
def decodeCp15C13Write (cond : Cond) (rd : RegNum) (crm : BitVec 4) (opc2 : BitVec 3) : Option Instr :=
  match crm, opc2 with
  | 0#4, 0#3 => some (.mcrFcsePid cond rd)
  | 0#4, 1#3 => some (.mcrContextId cond rd)
  | 0#4, 2#3 => some (.mcrThreadIdUrw cond rd)
  | 0#4, 3#3 => some (.mcrThreadIdUro cond rd)
  | 0#4, 4#3 => some (.mcrThreadIdPrw cond rd)
  | _, _ => none

/-- The CP15 c15 reads (30_encoding.md R118), by Opcode_1, CRm and Opcode_2. -/
def decodeCp15C15Read (cond : Cond) (rd : RegNum) (opc1 : BitVec 3) (crm : BitVec 4) (opc2 : BitVec 3) : Option Instr :=
  match opc1, crm, opc2 with
  | 0#3, 12#4, 0#3 => some (.mrcPmnc cond rd)
  | 0#3, 12#4, 1#3 => some (.mrcCcnt cond rd)
  | 0#3, 12#4, 2#3 => some (.mrcPmn0 cond rd)
  | 0#3, 12#4, 3#3 => some (.mrcPmn1 cond rd)
  | 5#3, 5#4, 2#3 => some (.mrcTlbLockVa cond rd)
  | 5#3, 6#4, 2#3 => some (.mrcTlbLockPa cond rd)
  | 5#3, 7#4, 2#3 => some (.mrcTlbLockAttr cond rd)
  | 7#3, 1#4, 0#3 => some (.mrcTlbDebugControl cond rd)
  | _, _, _ => none

/-- The CP15 c15 writes (30_encoding.md R118), by Opcode_1, CRm and Opcode_2. -/
def decodeCp15C15Write (cond : Cond) (rd : RegNum) (opc1 : BitVec 3) (crm : BitVec 4) (opc2 : BitVec 3) : Option Instr :=
  match opc1, crm, opc2 with
  | 0#3, 12#4, 0#3 => some (.mcrPmnc cond rd)
  | 0#3, 12#4, 1#3 => some (.mcrCcnt cond rd)
  | 0#3, 12#4, 2#3 => some (.mcrPmn0 cond rd)
  | 0#3, 12#4, 3#3 => some (.mcrPmn1 cond rd)
  | 5#3, 4#4, 2#3 => some (.mcrTlbLockIndexRead cond rd)
  | 5#3, 4#4, 4#3 => some (.mcrTlbLockIndexWrite cond rd)
  | 5#3, 5#4, 2#3 => some (.mcrTlbLockVa cond rd)
  | 5#3, 6#4, 2#3 => some (.mcrTlbLockPa cond rd)
  | 5#3, 7#4, 2#3 => some (.mcrTlbLockAttr cond rd)
  | 7#3, 1#4, 0#3 => some (.mcrTlbDebugControl cond rd)
  | _, _, _ => none

/-- The listed CP15 reads (MRC) (30_encoding.md R112, R118). -/
def decodeCp15Read (cond : Cond) (rd : RegNum) (opc1 : BitVec 3) (crn crm : BitVec 4) (opc2 : BitVec 3) : Option Instr :=
  match crn, opc1 with
  | 0#4, 0#3 => decodeCp15C0Read cond rd crm opc2
  | 1#4, 0#3 => decodeCp15C1Read cond rd crm opc2
  | 2#4, 0#3 => decodeCp15C2Read cond rd crm opc2
  | 3#4, 0#3 => decodeCp15C3Read cond rd crm opc2
  | 5#4, 0#3 => decodeCp15C5Read cond rd crm opc2
  | 6#4, 0#3 => decodeCp15C6Read cond rd crm opc2
  | 7#4, 0#3 => decodeCp15C7Read cond rd crm opc2
  | 9#4, 0#3 => decodeCp15C9Read cond rd crm opc2
  | 10#4, 0#3 => decodeCp15C10Read cond rd crm opc2
  | 13#4, 0#3 => decodeCp15C13Read cond rd crm opc2
  | 15#4, _ => decodeCp15C15Read cond rd opc1 crm opc2
  | _, _ => none

/-- The listed CP15 writes (MCR) (30_encoding.md R112, R118). -/
def decodeCp15Write (cond : Cond) (rd : RegNum) (opc1 : BitVec 3) (crn crm : BitVec 4) (opc2 : BitVec 3) : Option Instr :=
  match crn, opc1 with
  | 0#4, 0#3 => some (.mcrC0 cond rd opc2 crm)
  | 1#4, 0#3 => decodeCp15C1Write cond rd crm opc2
  | 2#4, 0#3 => decodeCp15C2Write cond rd crm opc2
  | 3#4, 0#3 => decodeCp15C3Write cond rd crm opc2
  | 5#4, 0#3 => decodeCp15C5Write cond rd crm opc2
  | 6#4, 0#3 => decodeCp15C6Write cond rd crm opc2
  | 7#4, 0#3 => decodeCp15C7Write cond rd crm opc2
  | 8#4, 0#3 => decodeCp15C8Write cond rd crm opc2
  | 9#4, 0#3 => decodeCp15C9Write cond rd crm opc2
  | 10#4, 0#3 => decodeCp15C10Write cond rd crm opc2
  | 13#4, 0#3 => decodeCp15C13Write cond rd crm opc2
  | 15#4, _ => decodeCp15C15Write cond rd opc1 crm opc2
  | _, _ => none

/-- The listed CP14 register reads (MRC), by Opcode_2 and CRm (46_cp14_debug.md R301, R314). -/
def decodeCp14Read (cond : Cond) (rd : RegNum) (crm : BitVec 4) (opc2 : BitVec 3) : Option Instr :=
  match opc2, crm with
  | 0#3, 0#4 => some (.mrcDidr cond rd)
  | 0#3, 1#4 => some (if rd == 15#4 then .mrcDscrFlags cond else .mrcDscr cond rd)
  | 0#3, 5#4 => some (.mrcDtr cond rd)
  | 0#3, 7#4 => some (.mrcVcr cond rd)
  | 4#3, 0#4 => some (.mrcBvr0 cond rd)
  | 4#3, 1#4 => some (.mrcBvr1 cond rd)
  | 4#3, 2#4 => some (.mrcBvr2 cond rd)
  | 4#3, 3#4 => some (.mrcBvr3 cond rd)
  | 4#3, 4#4 => some (.mrcBvr4 cond rd)
  | 4#3, 5#4 => some (.mrcBvr5 cond rd)
  | 5#3, 0#4 => some (.mrcBcr0 cond rd)
  | 5#3, 1#4 => some (.mrcBcr1 cond rd)
  | 5#3, 2#4 => some (.mrcBcr2 cond rd)
  | 5#3, 3#4 => some (.mrcBcr3 cond rd)
  | 5#3, 4#4 => some (.mrcBcr4 cond rd)
  | 5#3, 5#4 => some (.mrcBcr5 cond rd)
  | 6#3, 0#4 => some (.mrcWvr0 cond rd)
  | 6#3, 1#4 => some (.mrcWvr1 cond rd)
  | 7#3, 0#4 => some (.mrcWcr0 cond rd)
  | 7#3, 1#4 => some (.mrcWcr1 cond rd)
  | _, _ => none

/-- The listed CP14 register writes (MCR), by Opcode_2 and CRm (46_cp14_debug.md R301). -/
def decodeCp14Write (cond : Cond) (rd : RegNum) (crm : BitVec 4) (opc2 : BitVec 3) : Option Instr :=
  match opc2, crm with
  | 0#3, 1#4 => some (.mcrDscr cond rd)
  | 0#3, 5#4 => some (.mcrDtr cond rd)
  | 0#3, 7#4 => some (.mcrVcr cond rd)
  | 4#3, 0#4 => some (.mcrBvr0 cond rd)
  | 4#3, 1#4 => some (.mcrBvr1 cond rd)
  | 4#3, 2#4 => some (.mcrBvr2 cond rd)
  | 4#3, 3#4 => some (.mcrBvr3 cond rd)
  | 4#3, 4#4 => some (.mcrBvr4 cond rd)
  | 4#3, 5#4 => some (.mcrBvr5 cond rd)
  | 5#3, 0#4 => some (.mcrBcr0 cond rd)
  | 5#3, 1#4 => some (.mcrBcr1 cond rd)
  | 5#3, 2#4 => some (.mcrBcr2 cond rd)
  | 5#3, 3#4 => some (.mcrBcr3 cond rd)
  | 5#3, 4#4 => some (.mcrBcr4 cond rd)
  | 5#3, 5#4 => some (.mcrBcr5 cond rd)
  | 6#3, 0#4 => some (.mcrWvr0 cond rd)
  | 6#3, 1#4 => some (.mcrWvr1 cond rd)
  | 7#3, 0#4 => some (.mcrWcr0 cond rd)
  | 7#3, 1#4 => some (.mcrWcr1 cond rd)
  | _, _ => none

/-- MRC and MCR to CP15: a listed access, or the catch-all row (30_encoding.md R112, R116). -/
def decodeCp15 (w : Word) : Instr :=
  let cond := fld w 28 4
  let rd := fld w 12 4
  let opc1 := fld w 21 3
  let crn := fld w 16 4
  let crm := fld w 0 4
  let opc2 := fld w 5 3
  let listed := if bitAt w 20 then decodeCp15Read cond rd opc1 crn crm opc2 else decodeCp15Write cond rd opc1 crn crm opc2
  listed.getD (.cp15Unlisted cond opc1 (bitAt w 20) crn rd opc2 crm)

/-- The catch-all row of coprocessor 14 (47_core_instructions.md R704). -/
def decodeCp14Other (w : Word) : Instr := .cp14Other (fld w 28 4) (fld w 12 14) (fld w 0 8)

/-- MRC and MCR to CP14 (46_cp14_debug.md R301, R314). -/
def decodeCp14 (w : Word) : Instr :=
  let cond := fld w 28 4
  let rd := fld w 12 4
  let crm := fld w 0 4
  let opc2 := fld w 5 3
  if fld w 21 3 == 0#3 && fld w 16 4 == 0#4 then
    (if bitAt w 20 then decodeCp14Read cond rd crm opc2 else decodeCp14Write cond rd crm opc2).getD (decodeCp14Other w)
  else decodeCp14Other w

/-- The VFP register transfers of coprocessor 10 (48_vfp.md R786, R789). -/
def decodeVfpReg10 (w : Word) : Decoded :=
  let cond := fld w 28 4
  let rd := fld w 12 4
  let f := fld w 16 4
  if fld w 0 4 == 0#4 && fld w 5 2 == 0#2 then
    match fld w 20 4 with
    | 0#4 => .ok (.fmsr cond f rd (bitAt w 7))
    | 1#4 => .ok (.fmrs cond f rd (bitAt w 7))
    | 14#4 => if bitAt w 7 then .error (.vfpUnlisted cond) else .ok (.fmxr cond f rd)
    | 15#4 =>
      if bitAt w 7 then .error (.vfpUnlisted cond)
      else .ok (if f == 1#4 && rd == 15#4 then .fmstat cond else .fmrx cond f rd)
    | _ => .error (.vfpUnlisted cond)
  else .error (.vfpUnlisted cond)

/-- The VFP register transfers of coprocessor 11 (48_vfp.md R786). -/
def decodeVfpReg11 (w : Word) : Decoded :=
  let cond := fld w 28 4
  let rd := fld w 12 4
  let f := fld w 16 4
  if fld w 0 4 == 0#4 && fld w 5 3 == 0#3 then
    match fld w 20 4 with
    | 0#4 => .ok (.fmdlr cond f rd)
    | 1#4 => .ok (.fmrdl cond f rd)
    | 2#4 => .ok (.fmdhr cond f rd)
    | 3#4 => .ok (.fmrdh cond f rd)
    | _ => .error (.vfpUnlisted cond)
  else .error (.vfpUnlisted cond)

/-- The `cond 1110` space: coprocessor data operations and register transfers (47_core_instructions.md R704). -/
def decodeCopReg (w : Word) : Decoded :=
  let cond := fld w 28 4
  match fld w 8 4 with
  | 15#4 =>
    .ok (if bitAt w 4 then decodeCp15 w
      else .cdpP15 cond (fld w 20 4) (fld w 16 4) (fld w 12 4) (fld w 5 3) (fld w 0 4))
  | 14#4 => .ok (if bitAt w 4 then decodeCp14 w else decodeCp14Other w)
  | 10#4 =>
    if bitAt w 4 then decodeVfpReg10 w
    else .ok (.vfpData cond (fld w 20 4) (fld w 16 4) (fld w 12 4) false (fld w 5 3) (fld w 0 4))
  | 11#4 =>
    if bitAt w 4 then decodeVfpReg11 w
    else .ok (.vfpData cond (fld w 20 4) (fld w 16 4) (fld w 12 4) true (fld w 5 3) (fld w 0 4))
  | _ => .error (.absentCoprocessor cond)

/-- The single and multiple transfers of the VFP (48_vfp.md R787). -/
def decodeVfpMem (w : Word) (cp1 : Bool) : Instr :=
  let cond := fld w 28 4
  let rn := fld w 16 4
  let fd := fld w 12 4
  let off := fld w 0 8
  let u := bitAt w 23
  let d := bitAt w 22
  if bitAt w 24 && !bitAt w 21 && !cp1 then
    if bitAt w 20 then .flds cond u d rn fd off else .fsts cond u d rn fd off
  else if bitAt w 24 && !bitAt w 21 && !d then
    if bitAt w 20 then .fldd cond u rn fd off else .fstd cond u rn fd off
  else if bitAt w 20 then .fldm cond (bitAt w 24) u d (bitAt w 21) rn fd cp1 off
  else .fstm cond (bitAt w 24) u d (bitAt w 21) rn fd cp1 off

/-- The `cond 110` space of coprocessors 10 and 11: the two-register transfers, then the loads and stores
(48_vfp.md R786, R787). -/
def decodeVfpMemOrPair (w : Word) (cp1 : Bool) : Instr :=
  let cond := fld w 28 4
  let rn := fld w 16 4
  let rd := fld w 12 4
  let fm := fld w 0 4
  if fld w 21 4 == 2#4 && fld w 6 2 == 0#2 && bitAt w 4 && (!cp1 || !bitAt w 5) then
    match cp1, bitAt w 20 with
    | true, false => .fmdrr cond rn rd fm
    | true, true => .fmrrd cond rn rd fm
    | false, false => .fmsrr cond rn rd (bitAt w 5) fm
    | false, true => .fmrrs cond rn rd (bitAt w 5) fm
  else decodeVfpMem w cp1

/-- The `cond 110` space: coprocessor loads, stores and two-register transfers (47_core_instructions.md R704). -/
def decodeCopMem (w : Word) : Decoded :=
  let cond := fld w 28 4
  match fld w 8 4 with
  | 15#4 =>
    .ok (.ldcStcP15 cond (bitAt w 24) (bitAt w 23) (bitAt w 22) (bitAt w 21) (bitAt w 20) (fld w 16 4) (fld w 12 4)
      (fld w 0 8))
  | 14#4 =>
    if fld w 12 4 == 5#4 && !bitAt w 22 then
      if bitAt w 20 then .ok (.ldcDtr cond (bitAt w 24) (bitAt w 23) (bitAt w 21) (fld w 16 4) (fld w 0 8))
      else .ok (.stcDtr cond (bitAt w 24) (bitAt w 23) (bitAt w 21) (fld w 16 4) (fld w 0 8))
    else .ok (decodeCp14Other w)
  | 10#4 => .ok (decodeVfpMemOrPair w false)
  | 11#4 => .ok (decodeVfpMemOrPair w true)
  | _ => .error (.absentCoprocessor cond)

/-- A data-processing instruction with an immediate operand, by its opcode (47_core_instructions.md R750). -/
def decodeDpImm (w : Word) (s : Bool) : Instr :=
  let cond := fld w 28 4
  let rn := fld w 16 4
  let rd := fld w 12 4
  let rot := fld w 8 4
  let imm := fld w 0 8
  match fld w 21 4 with
  | 0#4 => .andImm cond s rn rd rot imm
  | 1#4 => .eorImm cond s rn rd rot imm
  | 2#4 => .subImm cond s rn rd rot imm
  | 3#4 => .rsbImm cond s rn rd rot imm
  | 4#4 => .addImm cond s rn rd rot imm
  | 5#4 => .adcImm cond s rn rd rot imm
  | 6#4 => .sbcImm cond s rn rd rot imm
  | 7#4 => .rscImm cond s rn rd rot imm
  | 8#4 => .tstImm cond rn rd rot imm
  | 9#4 => .teqImm cond rn rd rot imm
  | 10#4 => .cmpImm cond rn rd rot imm
  | 11#4 => .cmnImm cond rn rd rot imm
  | 12#4 => .orrImm cond s rn rd rot imm
  | 13#4 => .movImm cond s rn rd rot imm
  | 14#4 => .bicImm cond s rn rd rot imm
  | _ => .mvnImm cond s rn rd rot imm

/-- A data-processing instruction with a register shifted by an immediate (47_core_instructions.md R750). -/
def decodeDpShiftImm (w : Word) (s : Bool) : Instr :=
  let cond := fld w 28 4
  let rn := fld w 16 4
  let rd := fld w 12 4
  let amount := fld w 7 5
  let ty := fld w 5 2
  let rm := fld w 0 4
  match fld w 21 4 with
  | 0#4 => .andShiftImm cond s rn rd amount ty rm
  | 1#4 => .eorShiftImm cond s rn rd amount ty rm
  | 2#4 => .subShiftImm cond s rn rd amount ty rm
  | 3#4 => .rsbShiftImm cond s rn rd amount ty rm
  | 4#4 => .addShiftImm cond s rn rd amount ty rm
  | 5#4 => .adcShiftImm cond s rn rd amount ty rm
  | 6#4 => .sbcShiftImm cond s rn rd amount ty rm
  | 7#4 => .rscShiftImm cond s rn rd amount ty rm
  | 8#4 => .tstShiftImm cond rn rd amount ty rm
  | 9#4 => .teqShiftImm cond rn rd amount ty rm
  | 10#4 => .cmpShiftImm cond rn rd amount ty rm
  | 11#4 => .cmnShiftImm cond rn rd amount ty rm
  | 12#4 => .orrShiftImm cond s rn rd amount ty rm
  | 13#4 => .movShiftImm cond s rn rd amount ty rm
  | 14#4 => .bicShiftImm cond s rn rd amount ty rm
  | _ => .mvnShiftImm cond s rn rd amount ty rm

/-- A data-processing instruction with a register shifted by a register (47_core_instructions.md R750). -/
def decodeDpShiftReg (w : Word) (s : Bool) : Instr :=
  let cond := fld w 28 4
  let rn := fld w 16 4
  let rd := fld w 12 4
  let rs := fld w 8 4
  let ty := fld w 5 2
  let rm := fld w 0 4
  match fld w 21 4 with
  | 0#4 => .andShiftReg cond s rn rd rs ty rm
  | 1#4 => .eorShiftReg cond s rn rd rs ty rm
  | 2#4 => .subShiftReg cond s rn rd rs ty rm
  | 3#4 => .rsbShiftReg cond s rn rd rs ty rm
  | 4#4 => .addShiftReg cond s rn rd rs ty rm
  | 5#4 => .adcShiftReg cond s rn rd rs ty rm
  | 6#4 => .sbcShiftReg cond s rn rd rs ty rm
  | 7#4 => .rscShiftReg cond s rn rd rs ty rm
  | 8#4 => .tstShiftReg cond rn rd rs ty rm
  | 9#4 => .teqShiftReg cond rn rd rs ty rm
  | 10#4 => .cmpShiftReg cond rn rd rs ty rm
  | 11#4 => .cmnShiftReg cond rn rd rs ty rm
  | 12#4 => .orrShiftReg cond s rn rd rs ty rm
  | 13#4 => .movShiftReg cond s rn rd rs ty rm
  | 14#4 => .bicShiftReg cond s rn rd rs ty rm
  | _ => .mvnShiftReg cond s rn rd rs ty rm

/-- The words that take the place of TST, TEQ, CMP and CMN with S = 0 (47_core_instructions.md R750), bits [7:4] = 0:
MRS and MSR (R716). -/
def decodePsr (w : Word) : Decoded :=
  let cond := fld w 28 4
  if bitAt w 21 then
    if fld w 12 4 == 15#4 && fld w 8 4 == 0#4 then .ok (.msrReg cond (bitAt w 22) (fld w 16 4) (fld w 0 4))
    else .error (.outsideSubset cond)
  else if fld w 16 4 == 15#4 && fld w 0 12 == 0#12 then .ok (.mrs cond (bitAt w 22) (fld w 12 4))
  else .error (.outsideSubset cond)

/-- The register branches, CLZ and BKPT (47_core_instructions.md R768, R769, R774, R745). -/
def decodeBranchReg (w : Word) : Decoded :=
  let cond := fld w 28 4
  match fld w 21 2, fld w 4 4 with
  | 1#2, 1#4 => if fld w 8 12 == 0xFFF#12 then .ok (.bx cond (fld w 0 4)) else .error (.outsideSubset cond)
  | 1#2, 2#4 => if fld w 8 12 == 0xFFF#12 then .ok (.bxj cond (fld w 0 4)) else .error (.outsideSubset cond)
  | 1#2, 3#4 => if fld w 8 12 == 0xFFF#12 then .ok (.blxReg cond (fld w 0 4)) else .error (.outsideSubset cond)
  | 1#2, 7#4 => if cond == 14#4 then .ok (.bkpt (fld w 8 12) (fld w 0 4)) else .error (.outsideSubset cond)
  | 3#2, 1#4 =>
    if fld w 16 4 == 15#4 && fld w 8 4 == 15#4 then .ok (.clz cond (fld w 12 4) (fld w 0 4)) else .error (.outsideSubset cond)
  | _, _ => .error (.outsideSubset cond)

/-- The multiply, swap and exclusive words: bits [7:4] = b1001 (47_core_instructions.md R730, R773). -/
def decodeMulSync (w : Word) : Decoded :=
  let cond := fld w 28 4
  let a := fld w 16 4
  let b := fld w 12 4
  let c := fld w 8 4
  let m := fld w 0 4
  match fld w 20 5 with
  | 0x00#5 => if b == 0#4 then .ok (.mul cond false a c m) else .error (.outsideSubset cond)
  | 0x01#5 => if b == 0#4 then .ok (.mul cond true a c m) else .error (.outsideSubset cond)
  | 0x02#5 => .ok (.mla cond false a b c m)
  | 0x03#5 => .ok (.mla cond true a b c m)
  | 0x10#5 => if c == 0#4 then .ok (.swp cond a b m) else .error (.outsideSubset cond)
  | 0x14#5 => if c == 0#4 then .ok (.swpb cond a b m) else .error (.outsideSubset cond)
  | 0x18#5 => if c == 15#4 then .ok (.strex cond a b m) else .error (.outsideSubset cond)
  | 0x19#5 => if c == 15#4 && m == 15#4 then .ok (.ldrex cond a b) else .error (.outsideSubset cond)
  | 0x1A#5 => if c == 15#4 then .ok (.strexd cond a b m) else .error (.outsideSubset cond)
  | 0x1B#5 => if c == 15#4 && m == 15#4 then .ok (.ldrexd cond a b) else .error (.outsideSubset cond)
  | 0x1C#5 => if c == 15#4 then .ok (.strexb cond a b m) else .error (.outsideSubset cond)
  | 0x1D#5 => if c == 15#4 && m == 15#4 then .ok (.ldrexb cond a b) else .error (.outsideSubset cond)
  | 0x1E#5 => if c == 15#4 then .ok (.strexh cond a b m) else .error (.outsideSubset cond)
  | 0x1F#5 => if c == 15#4 && m == 15#4 then .ok (.ldrexh cond a b) else .error (.outsideSubset cond)
  | _ => .error (.outsideSubset cond)

/-- The extra load and store space: bits [7:4] = b1011, b1101 or b1111 (47_core_instructions.md R771). -/
def decodeLsExtra (w : Word) : Decoded :=
  let cond := fld w 28 4
  let p := bitAt w 24
  let u := bitAt w 23
  let wb := bitAt w 21
  let rn := fld w 16 4
  let rd := fld w 12 4
  let hi := fld w 8 4
  let m := fld w 0 4
  if bitAt w 22 then
    match bitAt w 20, fld w 4 4 with
    | false, 11#4 => .ok (.strhImm cond p u wb rn rd hi m)
    | true, 11#4 => .ok (.ldrhImm cond p u wb rn rd hi m)
    | true, 13#4 => .ok (.ldrsbImm cond p u wb rn rd hi m)
    | true, 15#4 => .ok (.ldrshImm cond p u wb rn rd hi m)
    | false, 13#4 => .ok (.ldrdImm cond p u wb rn rd hi m)
    | false, 15#4 => .ok (.strdImm cond p u wb rn rd hi m)
    | _, _ => .error (.outsideSubset cond)
  else if hi == 0#4 then
    match bitAt w 20, fld w 4 4 with
    | false, 11#4 => .ok (.strhReg cond p u wb rn rd m)
    | true, 11#4 => .ok (.ldrhReg cond p u wb rn rd m)
    | true, 13#4 => .ok (.ldrsbReg cond p u wb rn rd m)
    | true, 15#4 => .ok (.ldrshReg cond p u wb rn rd m)
    | false, 13#4 => .ok (.ldrdReg cond p u wb rn rd m)
    | false, 15#4 => .ok (.strdReg cond p u wb rn rd m)
    | _, _ => .error (.outsideSubset cond)
  else .error (.outsideSubset cond)

/-- The `cond 000` space (47_core_instructions.md R750: which words are data processing). -/
def decode000 (w : Word) : Decoded :=
  if bitAt w 4 && bitAt w 7 then
    if fld w 5 2 == 0#2 then decodeMulSync w else decodeLsExtra w
  else if fld w 23 2 == 2#2 && !bitAt w 20 then
    if fld w 4 4 == 0#4 then decodePsr w else decodeBranchReg w
  else if bitAt w 4 then .ok (decodeDpShiftReg w (bitAt w 20))
  else .ok (decodeDpShiftImm w (bitAt w 20))

/-- The hints and MSR with an immediate: bits [27:23] = b00110, bit 20 = 0 (47_core_instructions.md R703, R716). -/
def decodeMsrImm (w : Word) : Decoded :=
  let cond := fld w 28 4
  if bitAt w 21 && fld w 12 4 == 15#4 then
    if !bitAt w 22 && fld w 16 4 == 0#4 && fld w 8 4 == 0#4 then
      match fld w 0 8 with
      | 0#8 => .ok (.nop cond)
      | 1#8 => .ok (.yield cond)
      | 2#8 => .ok (.wfe cond)
      | 3#8 => .ok (.wfi cond)
      | 4#8 => .ok (.sev cond)
      | _ => .ok (.msrImm cond false 0#4 0#4 (fld w 0 8))
    else .ok (.msrImm cond (bitAt w 22) (fld w 16 4) (fld w 8 4) (fld w 0 8))
  else .error (.outsideSubset cond)

/-- The `cond 001` space: data processing with an immediate, MSR and hints (47_core_instructions.md R750). -/
def decode001 (w : Word) : Decoded :=
  if fld w 23 2 == 2#2 && !bitAt w 20 then decodeMsrImm w else .ok (decodeDpImm w (bitAt w 20))

/-- The `cond 010` space: word and byte transfers with an immediate offset (47_core_instructions.md R770). -/
def decode010 (w : Word) : Decoded :=
  let cond := fld w 28 4
  let p := bitAt w 24
  let u := bitAt w 23
  let wb := bitAt w 21
  let rn := fld w 16 4
  let rd := fld w 12 4
  let off := fld w 0 12
  match bitAt w 22, bitAt w 20 with
  | false, true => .ok (.ldrImm cond p u wb rn rd off)
  | false, false => .ok (.strImm cond p u wb rn rd off)
  | true, true => .ok (.ldrbImm cond p u wb rn rd off)
  | true, false => .ok (.strbImm cond p u wb rn rd off)

/-- The `cond 011` space: word and byte transfers with a scaled register offset; bit 4 set is the media space
(47_core_instructions.md R770). -/
def decode011 (w : Word) : Decoded :=
  let cond := fld w 28 4
  let p := bitAt w 24
  let u := bitAt w 23
  let wb := bitAt w 21
  let rn := fld w 16 4
  let rd := fld w 12 4
  let amount := fld w 7 5
  let ty := fld w 5 2
  let rm := fld w 0 4
  if bitAt w 4 then .error (.outsideSubset cond)
  else
    match bitAt w 22, bitAt w 20 with
    | false, true => .ok (.ldrReg cond p u wb rn rd amount ty rm)
    | false, false => .ok (.strReg cond p u wb rn rd amount ty rm)
    | true, true => .ok (.ldrbReg cond p u wb rn rd amount ty rm)
    | true, false => .ok (.strbReg cond p u wb rn rd amount ty rm)

/-- The `cond 100` space: load and store multiple (47_core_instructions.md R772). -/
def decode100 (w : Word) : Decoded :=
  let cond := fld w 28 4
  if bitAt w 20 then
    .ok (.ldm cond (bitAt w 24) (bitAt w 23) (bitAt w 22) (bitAt w 21) (fld w 16 4) (fld w 0 16))
  else .ok (.stm cond (bitAt w 24) (bitAt w 23) (bitAt w 22) (bitAt w 21) (fld w 16 4) (fld w 0 16))

/-- A PLD word: PRESUMED, the ARMv6 encoding, offset and register form; the specification names the instruction without one
(notes/assumptions/86.md). -/
def isPreload (w : Word) : Bool :=
  fld w 28 4 == 15#4 && fld w 26 2 == 1#2 && bitAt w 24 && fld w 20 3 == 5#3 && fld w 12 4 == 15#4 && !(bitAt w 25 && bitAt w 4)

/-- The unconditional words: bits [31:28] = b1111 (47_core_instructions.md R715, R720 to R722, R730, R769; 30_encoding.md
R115 for the coprocessor "2" forms). -/
def decodeUncond (w : Word) : Decoded :=
  if isPreload w then .error .preload
  else match fld w 25 3 with
  | 0#3 =>
    if fld w 20 5 == 0x10#5 then
      if fld w 10 10 == 0x40#10 && fld w 0 9 == 0#9 then .ok (.setend (bitAt w 9))
      else if fld w 9 8 == 0#8 && !bitAt w 5 then
        .ok (.cps (fld w 18 2) (bitAt w 17) (bitAt w 8) (bitAt w 7) (bitAt w 6) (fld w 0 5))
      else .error (.outsideSubset 15)
    else .error (.outsideSubset 15)
  | 2#3 => if w == 0xF57FF01F#32 then .ok .clrex else .error (.outsideSubset 15)
  | 4#3 =>
    if bitAt w 22 && !bitAt w 20 && fld w 16 4 == 13#4 && fld w 5 11 == 0x28#11 then
      .ok (.srs (bitAt w 24) (bitAt w 23) (bitAt w 21) (fld w 0 5))
    else if !bitAt w 22 && bitAt w 20 && fld w 0 16 == 0xA00#16 then
      .ok (.rfe (bitAt w 24) (bitAt w 23) (bitAt w 21) (fld w 16 4))
    else .error (.outsideSubset 15)
  | 5#3 => .ok (.blxImm (bitAt w 24) (fld w 0 24))
  | 6#3 => .error (.unconditionalCoprocessor (fld w 8 4))
  | 7#3 => if bitAt w 24 then .error (.outsideSubset 15) else .error (.unconditionalCoprocessor (fld w 8 4))
  | _ => .error (.outsideSubset 15)

/-- The instruction an ARM word stands for (30_encoding.md R110, R111). -/
def decodeArm (w : Word) : Decoded :=
  let cond := fld w 28 4
  if cond == 15#4 then decodeUncond w
  else
    match fld w 25 3 with
    | 0#3 => decode000 w
    | 1#3 => decode001 w
    | 2#3 => decode010 w
    | 3#3 => decode011 w
    | 4#3 => decode100 w
    | 5#3 => .ok (if bitAt w 24 then .bl cond (fld w 0 24) else .b cond (fld w 0 24))
    | 6#3 => decodeCopMem w
    | _ => if bitAt w 24 then .ok (.swi cond (fld w 0 24)) else decodeCopReg w

/-- The instruction a Thumb halfword stands for: the four rows the table gives (47_core_instructions.md R715, R722, R745). -/
def decodeThumb (h : Half) : Decoded :=
  if fld h 8 8 == 0xDF#8 then .ok (.swiThumb (fld h 0 8))
  else if fld h 8 8 == 0xBE#8 then .ok (.bkptThumb (fld h 0 8))
  else if fld h 4 12 == 0xB65#12 && fld h 0 3 == 0#3 then .ok (.setendThumb (bitAt h 3))
  else if fld h 5 11 == 0x5B3#11 && !bitAt h 3 then
    .ok (.cpsThumb (bitAt h 4) (bitAt h 2) (bitAt h 1) (bitAt h 0))
  else .error (.outsideSubset 14)

/-- The DBGTAP instruction a five-bit code stands for; every unused code is Bypass (46_cp14_debug.md R336). -/
def decodeDbgtap (c : BitVec 5) : Decoded :=
  match c with
  | 0b00000#5 => .ok .dbgtapExtest
  | 0b00010#5 => .ok .dbgtapScanN
  | 0b00100#5 => .ok .dbgtapRestart
  | 0b01000#5 => .ok .dbgtapHalt
  | 0b01100#5 => .ok .dbgtapIntest
  | 0b11101#5 => .ok .dbgtapItrsel
  | 0b11110#5 => .ok .dbgtapIdcode
  | 0b11111#5 => .ok .dbgtapBypass
  | _ => .ok .dbgtapBypass

/-- The coprocessor register transfer word (30_encoding.md R112, R119). -/
def encCop (cond : Cond) (opc1 : BitVec 3) (l : Bool) (crn : BitVec 4) (rd : RegNum) (cp : BitVec 4) (opc2 : BitVec 3)
    (crm : BitVec 4) : Word :=
  put cond 28 ||| put 14#4 24 ||| put opc1 21 ||| flag l 20 ||| put crn 16 ||| put rd 12 ||| put cp 8 ||| put opc2 5 |||
    put 1#1 4 ||| put crm 0

/-- A hint word (47_core_instructions.md R703). -/
def encHint (cond : Cond) (hint : BitVec 8) : Word :=
  put cond 28 ||| put 1#3 25 ||| put 0x12#5 20 ||| put 0xF0#12 8 ||| put hint 0

/-- A data-processing word with an immediate operand (47_core_instructions.md R750). -/
def encDpImm (cond : Cond) (op : BitVec 4) (s : Bool) (rn rd : RegNum) (rot : BitVec 4) (imm : BitVec 8) : Word :=
  put cond 28 ||| put 1#3 25 ||| put op 21 ||| flag s 20 ||| put rn 16 ||| put rd 12 ||| put rot 8 ||| put imm 0

/-- A data-processing word with a register shifted by an immediate (47_core_instructions.md R750). -/
def encDpShiftImm (cond : Cond) (op : BitVec 4) (s : Bool) (rn rd : RegNum) (amount : BitVec 5) (ty : BitVec 2)
    (rm : RegNum) : Word :=
  put cond 28 ||| put 0#3 25 ||| put op 21 ||| flag s 20 ||| put rn 16 ||| put rd 12 ||| put amount 7 ||| put ty 5 |||
    put 0#1 4 ||| put rm 0

/-- A data-processing word with a register shifted by a register (47_core_instructions.md R750). -/
def encDpShiftReg (cond : Cond) (op : BitVec 4) (s : Bool) (rn rd rs : RegNum) (ty : BitVec 2) (rm : RegNum) : Word :=
  put cond 28 ||| put 0#3 25 ||| put op 21 ||| flag s 20 ||| put rn 16 ||| put rd 12 ||| put rs 8 ||| put 0#1 7 |||
    put ty 5 ||| put 1#1 4 ||| put rm 0

/-- A word of the `cond 000` space with bits [24:20] `op` and bits [7:4] `lo`: exclusives, swaps, multiplies, status
register and register branches (47_core_instructions.md R716, R730, R768, R773, R774). -/
def encMisc (cond : Cond) (op : BitVec 5) (a b c : BitVec 4) (lo : BitVec 4) (rm : RegNum) : Word :=
  put cond 28 ||| put 0#3 25 ||| put op 20 ||| put a 16 ||| put b 12 ||| put c 8 ||| put lo 4 ||| put rm 0

/-- A word or byte load or store with an immediate offset (47_core_instructions.md R770). -/
def encLsImm (cond : Cond) (p u b w l : Bool) (rn rd : RegNum) (off : BitVec 12) : Word :=
  put cond 28 ||| put 2#3 25 ||| flag p 24 ||| flag u 23 ||| flag b 22 ||| flag w 21 ||| flag l 20 ||| put rn 16 |||
    put rd 12 ||| put off 0

/-- A word or byte load or store with a scaled register offset (47_core_instructions.md R770). -/
def encLsReg (cond : Cond) (p u b w l : Bool) (rn rd : RegNum) (amount : BitVec 5) (ty : BitVec 2) (rm : RegNum) : Word :=
  put cond 28 ||| put 3#3 25 ||| flag p 24 ||| flag u 23 ||| flag b 22 ||| flag w 21 ||| flag l 20 ||| put rn 16 |||
    put rd 12 ||| put amount 7 ||| put ty 5 ||| put 0#1 4 ||| put rm 0

/-- A word of the extra load and store space; `i` selects the immediate offset (47_core_instructions.md R771). -/
def encLsExtra (cond : Cond) (p u i w l : Bool) (rn rd : RegNum) (hi : BitVec 4) (lo : BitVec 4) (rm : BitVec 4) : Word :=
  put cond 28 ||| put 0#3 25 ||| flag p 24 ||| flag u 23 ||| flag i 22 ||| flag w 21 ||| flag l 20 ||| put rn 16 |||
    put rd 12 ||| put hi 8 ||| put lo 4 ||| put rm 0

/-- A load or store multiple (47_core_instructions.md R772). -/
def encBlock (cond : Cond) (p u s w l : Bool) (rn : RegNum) (list : BitVec 16) : Word :=
  put cond 28 ||| put 4#3 25 ||| flag p 24 ||| flag u 23 ||| flag s 22 ||| flag w 21 ||| flag l 20 ||| put rn 16 |||
    put list 0

/-- A coprocessor load or store, or a two-register transfer: bits [27:25] = b110 (46_cp14_debug.md R315, 48_vfp.md R786,
R787). -/
def encCopMem (cond : Cond) (p u n w l : Bool) (rn : RegNum) (rd : BitVec 4) (cp : BitVec 4) (off : BitVec 8) : Word :=
  put cond 28 ||| put 6#3 25 ||| flag p 24 ||| flag u 23 ||| flag n 22 ||| flag w 21 ||| flag l 20 ||| put rn 16 |||
    put rd 12 ||| put cp 8 ||| put off 0

/-- The two-register VFP transfers, whose bits [7:4] are a fixed pattern (48_vfp.md R786). -/
def encCopPair (cond : Cond) (l : Bool) (rn rd : RegNum) (cp : BitVec 4) (m : Bool) (fm : BitVec 4) : Word :=
  put cond 28 ||| put 6#3 25 ||| put 2#4 21 ||| flag l 20 ||| put rn 16 ||| put rd 12 ||| put cp 8 ||| put 0#2 6 |||
    flag m 5 ||| put 1#1 4 ||| put fm 0

/-- A VFP register transfer: bits [27:24] = b1110, bit 4 = 1 (48_vfp.md R786). -/
def encVfpReg (cond : Cond) (opc1 : BitVec 3) (l : Bool) (fn : BitVec 4) (rd : RegNum) (cp : BitVec 4) (n : Bool) : Word :=
  put cond 28 ||| put 14#4 24 ||| put opc1 21 ||| flag l 20 ||| put fn 16 ||| put rd 12 ||| put cp 8 ||| flag n 7 |||
    put 0#2 5 ||| put 1#1 4 ||| put 0#4 0

/-- The number of the VFP coprocessor: 10, or 11 when `cp1` is set (48_vfp.md R784). -/
def vfpCp (cp1 : Bool) : BitVec 4 := if cp1 then 11#4 else 10#4

/-- An instruction's bits in the width its set has: an ARM word, a Thumb halfword or a DBGTAP code
(00_scope.md R11, 46_cp14_debug.md R336). -/
inductive Code where
  | arm (w : Word)
  | thumb (h : Half)
  | dbgtap (c : BitVec 5)
deriving DecidableEq, Repr

/-- The bits of an instruction, from its row of spec/opcode_table.json. -/
def encode : Instr → Code
  | .mrcMainId cond rd => .arm (encCop cond 0 true 0 rd 15 0 0)
  | .mrcCacheType cond rd => .arm (encCop cond 0 true 0 rd 15 1 0)
  | .mrcTlbType cond rd => .arm (encCop cond 0 true 0 rd 15 3 0)
  | .mrcCpuId cond rd => .arm (encCop cond 0 true 0 rd 15 5 0)
  | .mrcIdPfr0 cond rd => .arm (encCop cond 0 true 0 rd 15 0 1)
  | .mrcIdPfr1 cond rd => .arm (encCop cond 0 true 0 rd 15 1 1)
  | .mrcIdDfr0 cond rd => .arm (encCop cond 0 true 0 rd 15 2 1)
  | .mrcIdReserved13 cond rd => .arm (encCop cond 0 true 0 rd 15 3 1)
  | .mrcIdMmfr0 cond rd => .arm (encCop cond 0 true 0 rd 15 4 1)
  | .mrcIdMmfr1 cond rd => .arm (encCop cond 0 true 0 rd 15 5 1)
  | .mrcIdMmfr2 cond rd => .arm (encCop cond 0 true 0 rd 15 6 1)
  | .mrcIdMmfr3 cond rd => .arm (encCop cond 0 true 0 rd 15 7 1)
  | .mrcIdIsar0 cond rd => .arm (encCop cond 0 true 0 rd 15 0 2)
  | .mrcIdIsar1 cond rd => .arm (encCop cond 0 true 0 rd 15 1 2)
  | .mrcIdIsar2 cond rd => .arm (encCop cond 0 true 0 rd 15 2 2)
  | .mrcIdIsar3 cond rd => .arm (encCop cond 0 true 0 rd 15 3 2)
  | .mrcIdIsar4 cond rd => .arm (encCop cond 0 true 0 rd 15 4 2)
  | .mrcIdReserved25 cond rd => .arm (encCop cond 0 true 0 rd 15 5 2)
  | .mrcIdReserved26 cond rd => .arm (encCop cond 0 true 0 rd 15 6 2)
  | .mrcIdReserved27 cond rd => .arm (encCop cond 0 true 0 rd 15 7 2)
  | .mrcC0Unlisted2 cond rd => .arm (encCop cond 0 true 0 rd 15 2 0)
  | .mrcC0Unlisted4 cond rd => .arm (encCop cond 0 true 0 rd 15 4 0)
  | .mrcC0Unlisted6 cond rd => .arm (encCop cond 0 true 0 rd 15 6 0)
  | .mrcC0Unlisted7 cond rd => .arm (encCop cond 0 true 0 rd 15 7 0)
  | .mcrC0 cond rd opc2 crm => .arm (encCop cond 0 false 0 rd 15 opc2 crm)
  | .mrcControl cond rd => .arm (encCop cond 0 true 1 rd 15 0 0)
  | .mcrControl cond rd => .arm (encCop cond 0 false 1 rd 15 0 0)
  | .mrcAuxControl cond rd => .arm (encCop cond 0 true 1 rd 15 1 0)
  | .mcrAuxControl cond rd => .arm (encCop cond 0 false 1 rd 15 1 0)
  | .mrcCpacr cond rd => .arm (encCop cond 0 true 1 rd 15 2 0)
  | .mcrCpacr cond rd => .arm (encCop cond 0 false 1 rd 15 2 0)
  | .mrcTtbr0 cond rd => .arm (encCop cond 0 true 2 rd 15 0 0)
  | .mcrTtbr0 cond rd => .arm (encCop cond 0 false 2 rd 15 0 0)
  | .mrcTtbr1 cond rd => .arm (encCop cond 0 true 2 rd 15 1 0)
  | .mcrTtbr1 cond rd => .arm (encCop cond 0 false 2 rd 15 1 0)
  | .mrcTtbcr cond rd => .arm (encCop cond 0 true 2 rd 15 2 0)
  | .mcrTtbcr cond rd => .arm (encCop cond 0 false 2 rd 15 2 0)
  | .mrcDacr cond rd => .arm (encCop cond 0 true 3 rd 15 0 0)
  | .mcrDacr cond rd => .arm (encCop cond 0 false 3 rd 15 0 0)
  | .mrcDfsr cond rd => .arm (encCop cond 0 true 5 rd 15 0 0)
  | .mcrDfsr cond rd => .arm (encCop cond 0 false 5 rd 15 0 0)
  | .mrcIfsr cond rd => .arm (encCop cond 0 true 5 rd 15 1 0)
  | .mcrIfsr cond rd => .arm (encCop cond 0 false 5 rd 15 1 0)
  | .mrcFar cond rd => .arm (encCop cond 0 true 6 rd 15 0 0)
  | .mcrFar cond rd => .arm (encCop cond 0 false 6 rd 15 0 0)
  | .mrcWfar cond rd => .arm (encCop cond 0 true 6 rd 15 1 0)
  | .mcrWfar cond rd => .arm (encCop cond 0 false 6 rd 15 1 0)
  | .mcrWaitForInterrupt cond rd => .arm (encCop cond 0 false 7 rd 15 4 0)
  | .mrcPa cond rd => .arm (encCop cond 0 true 7 rd 15 0 4)
  | .mcrInvalidateICache cond rd => .arm (encCop cond 0 false 7 rd 15 0 5)
  | .mcrInvalidateICacheMva cond rd => .arm (encCop cond 0 false 7 rd 15 1 5)
  | .mcrInvalidateICacheIndex cond rd => .arm (encCop cond 0 false 7 rd 15 2 5)
  | .mcrFlushPrefetchBuffer cond rd => .arm (encCop cond 0 false 7 rd 15 4 5)
  | .mcrFlushBtac cond rd => .arm (encCop cond 0 false 7 rd 15 6 5)
  | .mcrFlushBtacEntry cond rd => .arm (encCop cond 0 false 7 rd 15 7 5)
  | .mcrInvalidateDCache cond rd => .arm (encCop cond 0 false 7 rd 15 0 6)
  | .mcrInvalidateDCacheMva cond rd => .arm (encCop cond 0 false 7 rd 15 1 6)
  | .mcrInvalidateDCacheIndex cond rd => .arm (encCop cond 0 false 7 rd 15 2 6)
  | .mcrInvalidateBothCaches cond rd => .arm (encCop cond 0 false 7 rd 15 0 7)
  | .mcrVaToPaPrivRead cond rd => .arm (encCop cond 0 false 7 rd 15 0 8)
  | .mcrVaToPaPrivWrite cond rd => .arm (encCop cond 0 false 7 rd 15 1 8)
  | .mcrVaToPaUserRead cond rd => .arm (encCop cond 0 false 7 rd 15 2 8)
  | .mcrVaToPaUserWrite cond rd => .arm (encCop cond 0 false 7 rd 15 3 8)
  | .mcrCleanDCache cond rd => .arm (encCop cond 0 false 7 rd 15 0 10)
  | .mcrCleanDCacheMva cond rd => .arm (encCop cond 0 false 7 rd 15 1 10)
  | .mcrCleanDCacheIndex cond rd => .arm (encCop cond 0 false 7 rd 15 2 10)
  | .mcrDsb cond rd => .arm (encCop cond 0 false 7 rd 15 4 10)
  | .mcrDmb cond rd => .arm (encCop cond 0 false 7 rd 15 5 10)
  | .mcrCleanInvDCache cond rd => .arm (encCop cond 0 false 7 rd 15 0 14)
  | .mcrCleanInvDCacheMva cond rd => .arm (encCop cond 0 false 7 rd 15 1 14)
  | .mcrCleanInvDCacheIndex cond rd => .arm (encCop cond 0 false 7 rd 15 2 14)
  | .mcrInvalidateITlb cond rd => .arm (encCop cond 0 false 8 rd 15 0 5)
  | .mcrInvalidateITlbEntry cond rd => .arm (encCop cond 0 false 8 rd 15 1 5)
  | .mcrInvalidateITlbAsid cond rd => .arm (encCop cond 0 false 8 rd 15 2 5)
  | .mcrInvalidateITlbMva cond rd => .arm (encCop cond 0 false 8 rd 15 3 5)
  | .mcrInvalidateDTlb cond rd => .arm (encCop cond 0 false 8 rd 15 0 6)
  | .mcrInvalidateDTlbEntry cond rd => .arm (encCop cond 0 false 8 rd 15 1 6)
  | .mcrInvalidateDTlbAsid cond rd => .arm (encCop cond 0 false 8 rd 15 2 6)
  | .mcrInvalidateDTlbMva cond rd => .arm (encCop cond 0 false 8 rd 15 3 6)
  | .mcrInvalidateUTlb cond rd => .arm (encCop cond 0 false 8 rd 15 0 7)
  | .mcrInvalidateUTlbEntry cond rd => .arm (encCop cond 0 false 8 rd 15 1 7)
  | .mcrInvalidateUTlbAsid cond rd => .arm (encCop cond 0 false 8 rd 15 2 7)
  | .mcrInvalidateUTlbMva cond rd => .arm (encCop cond 0 false 8 rd 15 3 7)
  | .mrcDCacheLockdown cond rd => .arm (encCop cond 0 true 9 rd 15 0 0)
  | .mcrDCacheLockdown cond rd => .arm (encCop cond 0 false 9 rd 15 0 0)
  | .mrcTlbLockdown cond rd => .arm (encCop cond 0 true 10 rd 15 0 0)
  | .mcrTlbLockdown cond rd => .arm (encCop cond 0 false 10 rd 15 0 0)
  | .mrcPrrr cond rd => .arm (encCop cond 0 true 10 rd 15 0 2)
  | .mcrPrrr cond rd => .arm (encCop cond 0 false 10 rd 15 0 2)
  | .mrcNmrr cond rd => .arm (encCop cond 0 true 10 rd 15 1 2)
  | .mcrNmrr cond rd => .arm (encCop cond 0 false 10 rd 15 1 2)
  | .mrcFcsePid cond rd => .arm (encCop cond 0 true 13 rd 15 0 0)
  | .mcrFcsePid cond rd => .arm (encCop cond 0 false 13 rd 15 0 0)
  | .mrcContextId cond rd => .arm (encCop cond 0 true 13 rd 15 1 0)
  | .mcrContextId cond rd => .arm (encCop cond 0 false 13 rd 15 1 0)
  | .mrcThreadIdUrw cond rd => .arm (encCop cond 0 true 13 rd 15 2 0)
  | .mcrThreadIdUrw cond rd => .arm (encCop cond 0 false 13 rd 15 2 0)
  | .mrcThreadIdUro cond rd => .arm (encCop cond 0 true 13 rd 15 3 0)
  | .mcrThreadIdUro cond rd => .arm (encCop cond 0 false 13 rd 15 3 0)
  | .mrcThreadIdPrw cond rd => .arm (encCop cond 0 true 13 rd 15 4 0)
  | .mcrThreadIdPrw cond rd => .arm (encCop cond 0 false 13 rd 15 4 0)
  | .mrcPmnc cond rd => .arm (encCop cond 0 true 15 rd 15 0 12)
  | .mcrPmnc cond rd => .arm (encCop cond 0 false 15 rd 15 0 12)
  | .mrcCcnt cond rd => .arm (encCop cond 0 true 15 rd 15 1 12)
  | .mcrCcnt cond rd => .arm (encCop cond 0 false 15 rd 15 1 12)
  | .mrcPmn0 cond rd => .arm (encCop cond 0 true 15 rd 15 2 12)
  | .mcrPmn0 cond rd => .arm (encCop cond 0 false 15 rd 15 2 12)
  | .mrcPmn1 cond rd => .arm (encCop cond 0 true 15 rd 15 3 12)
  | .mcrPmn1 cond rd => .arm (encCop cond 0 false 15 rd 15 3 12)
  | .mcrTlbLockIndexRead cond rd => .arm (encCop cond 5 false 15 rd 15 2 4)
  | .mcrTlbLockIndexWrite cond rd => .arm (encCop cond 5 false 15 rd 15 4 4)
  | .mrcTlbLockVa cond rd => .arm (encCop cond 5 true 15 rd 15 2 5)
  | .mcrTlbLockVa cond rd => .arm (encCop cond 5 false 15 rd 15 2 5)
  | .mrcTlbLockPa cond rd => .arm (encCop cond 5 true 15 rd 15 2 6)
  | .mcrTlbLockPa cond rd => .arm (encCop cond 5 false 15 rd 15 2 6)
  | .mrcTlbLockAttr cond rd => .arm (encCop cond 5 true 15 rd 15 2 7)
  | .mcrTlbLockAttr cond rd => .arm (encCop cond 5 false 15 rd 15 2 7)
  | .mrcTlbDebugControl cond rd => .arm (encCop cond 7 true 15 rd 15 0 1)
  | .mcrTlbDebugControl cond rd => .arm (encCop cond 7 false 15 rd 15 0 1)
  | .cp15Unlisted cond opc1 l crn rd opc2 crm => .arm (encCop cond opc1 l crn rd 15 opc2 crm)
  | .cdpP15 cond opc1 crn rd opc2 crm => .arm (put cond 28 ||| put 14#4 24 ||| put opc1 20 ||| put crn 16 ||| put rd 12 ||| put 15#4 8 ||| put opc2 5 ||| put 0#1 4 ||| put crm 0)
  | .ldcStcP15 cond p u n w l rn rd off => .arm (encCopMem cond p u n w l rn rd 15 off)
  | .mrcDidr cond rd => .arm (encCop cond 0 true 0 rd 14 0 0)
  | .mrcDscr cond rd => .arm (encCop cond 0 true 0 rd 14 0 1)
  | .mcrDscr cond rd => .arm (encCop cond 0 false 0 rd 14 0 1)
  | .mrcDtr cond rd => .arm (encCop cond 0 true 0 rd 14 0 5)
  | .mcrDtr cond rd => .arm (encCop cond 0 false 0 rd 14 0 5)
  | .mrcVcr cond rd => .arm (encCop cond 0 true 0 rd 14 0 7)
  | .mcrVcr cond rd => .arm (encCop cond 0 false 0 rd 14 0 7)
  | .mrcBvr0 cond rd => .arm (encCop cond 0 true 0 rd 14 4 0)
  | .mcrBvr0 cond rd => .arm (encCop cond 0 false 0 rd 14 4 0)
  | .mrcBvr1 cond rd => .arm (encCop cond 0 true 0 rd 14 4 1)
  | .mcrBvr1 cond rd => .arm (encCop cond 0 false 0 rd 14 4 1)
  | .mrcBvr2 cond rd => .arm (encCop cond 0 true 0 rd 14 4 2)
  | .mcrBvr2 cond rd => .arm (encCop cond 0 false 0 rd 14 4 2)
  | .mrcBvr3 cond rd => .arm (encCop cond 0 true 0 rd 14 4 3)
  | .mcrBvr3 cond rd => .arm (encCop cond 0 false 0 rd 14 4 3)
  | .mrcBvr4 cond rd => .arm (encCop cond 0 true 0 rd 14 4 4)
  | .mcrBvr4 cond rd => .arm (encCop cond 0 false 0 rd 14 4 4)
  | .mrcBvr5 cond rd => .arm (encCop cond 0 true 0 rd 14 4 5)
  | .mcrBvr5 cond rd => .arm (encCop cond 0 false 0 rd 14 4 5)
  | .mrcBcr0 cond rd => .arm (encCop cond 0 true 0 rd 14 5 0)
  | .mcrBcr0 cond rd => .arm (encCop cond 0 false 0 rd 14 5 0)
  | .mrcBcr1 cond rd => .arm (encCop cond 0 true 0 rd 14 5 1)
  | .mcrBcr1 cond rd => .arm (encCop cond 0 false 0 rd 14 5 1)
  | .mrcBcr2 cond rd => .arm (encCop cond 0 true 0 rd 14 5 2)
  | .mcrBcr2 cond rd => .arm (encCop cond 0 false 0 rd 14 5 2)
  | .mrcBcr3 cond rd => .arm (encCop cond 0 true 0 rd 14 5 3)
  | .mcrBcr3 cond rd => .arm (encCop cond 0 false 0 rd 14 5 3)
  | .mrcBcr4 cond rd => .arm (encCop cond 0 true 0 rd 14 5 4)
  | .mcrBcr4 cond rd => .arm (encCop cond 0 false 0 rd 14 5 4)
  | .mrcBcr5 cond rd => .arm (encCop cond 0 true 0 rd 14 5 5)
  | .mcrBcr5 cond rd => .arm (encCop cond 0 false 0 rd 14 5 5)
  | .mrcWvr0 cond rd => .arm (encCop cond 0 true 0 rd 14 6 0)
  | .mcrWvr0 cond rd => .arm (encCop cond 0 false 0 rd 14 6 0)
  | .mrcWvr1 cond rd => .arm (encCop cond 0 true 0 rd 14 6 1)
  | .mcrWvr1 cond rd => .arm (encCop cond 0 false 0 rd 14 6 1)
  | .mrcWcr0 cond rd => .arm (encCop cond 0 true 0 rd 14 7 0)
  | .mcrWcr0 cond rd => .arm (encCop cond 0 false 0 rd 14 7 0)
  | .mrcWcr1 cond rd => .arm (encCop cond 0 true 0 rd 14 7 1)
  | .mcrWcr1 cond rd => .arm (encCop cond 0 false 0 rd 14 7 1)
  | .mrcDscrFlags cond => .arm (encCop cond 0 true 0 15 14 0 1)
  | .ldcDtr cond p u w rn off => .arm (encCopMem cond p u false w true rn 5 14 off)
  | .stcDtr cond p u w rn off => .arm (encCopMem cond p u false w false rn 5 14 off)
  | .cp14Other cond hi lo => .arm (put cond 28 ||| put 3#2 26 ||| put hi 12 ||| put 14#4 8 ||| put lo 0)
  | .nop cond => .arm (encHint cond 0)
  | .yield cond => .arm (encHint cond 1)
  | .wfe cond => .arm (encHint cond 2)
  | .wfi cond => .arm (encHint cond 3)
  | .sev cond => .arm (encHint cond 4)
  | .setend e => .arm (put 0xF101#16 16 ||| flag e 9)
  | .setendThumb e => .thumb ((put 0xB65#12 4 ||| flag e 3).setWidth 16)
  | .mrs cond r rd => .arm (put cond 28 ||| put 2#5 23 ||| flag r 22 ||| put 0xF#6 16 ||| put rd 12 ||| put 0#12 0)
  | .msrReg cond r mask rm => .arm (put cond 28 ||| put 2#5 23 ||| flag r 22 ||| put 2#2 20 ||| put mask 16 ||| put 0xF00#12 4 ||| put rm 0)
  | .msrImm cond r mask rot imm => .arm (put cond 28 ||| put 6#5 23 ||| flag r 22 ||| put 2#2 20 ||| put mask 16 ||| put 15#4 12 ||| put rot 8 ||| put imm 0)
  | .srs p u w mode => .arm (put 0xF#4 28 ||| put 4#3 25 ||| flag p 24 ||| flag u 23 ||| put 1#1 22 ||| flag w 21 ||| put 0#1 20 ||| put 13#4 16 ||| put 0x28#11 5 ||| put mode 0)
  | .rfe p u w rn => .arm (put 0xF#4 28 ||| put 4#3 25 ||| flag p 24 ||| flag u 23 ||| put 0#1 22 ||| flag w 21 ||| put 1#1 20 ||| put rn 16 ||| put 0xA00#16 0)
  | .cps imod m a i f mode => .arm (put 0xF10#12 20 ||| put imod 18 ||| flag m 17 ||| flag a 8 ||| flag i 7 ||| flag f 6 ||| put mode 0)
  | .cpsThumb imod a i f => .thumb ((put 0x5B3#11 5 ||| flag imod 4 ||| flag a 2 ||| flag i 1 ||| flag f 0).setWidth 16)
  | .ldrex cond rn rd => .arm (encMisc cond 25 rn rd 15 9 15)
  | .strex cond rn rd rm => .arm (encMisc cond 24 rn rd 15 9 rm)
  | .ldrexd cond rn rd => .arm (encMisc cond 27 rn rd 15 9 15)
  | .strexd cond rn rd rm => .arm (encMisc cond 26 rn rd 15 9 rm)
  | .ldrexb cond rn rd => .arm (encMisc cond 29 rn rd 15 9 15)
  | .strexb cond rn rd rm => .arm (encMisc cond 28 rn rd 15 9 rm)
  | .ldrexh cond rn rd => .arm (encMisc cond 31 rn rd 15 9 15)
  | .strexh cond rn rd rm => .arm (encMisc cond 30 rn rd 15 9 rm)
  | .clrex => .arm (put 0xF57FF01F#32 0)
  | .swp cond rn rd rm => .arm (encMisc cond 0x10 rn rd 0 9 rm)
  | .swpb cond rn rd rm => .arm (encMisc cond 0x14 rn rd 0 9 rm)
  | .swi cond imm => .arm (put cond 28 ||| put 15#4 24 ||| put imm 0)
  | .swiThumb imm => .thumb ((put 0xDF#8 8 ||| put imm 0).setWidth 16)
  | .bkpt imm immL => .arm (put 0xE12#12 20 ||| put imm 8 ||| put 7#4 4 ||| put immL 0)
  | .bkptThumb imm => .thumb ((put 0xBE#8 8 ||| put imm 0).setWidth 16)
  | .andImm cond s rn rd rot imm => .arm (encDpImm cond 0 s rn rd rot imm)
  | .andShiftImm cond s rn rd amount ty rm => .arm (encDpShiftImm cond 0 s rn rd amount ty rm)
  | .andShiftReg cond s rn rd rs ty rm => .arm (encDpShiftReg cond 0 s rn rd rs ty rm)
  | .eorImm cond s rn rd rot imm => .arm (encDpImm cond 1 s rn rd rot imm)
  | .eorShiftImm cond s rn rd amount ty rm => .arm (encDpShiftImm cond 1 s rn rd amount ty rm)
  | .eorShiftReg cond s rn rd rs ty rm => .arm (encDpShiftReg cond 1 s rn rd rs ty rm)
  | .subImm cond s rn rd rot imm => .arm (encDpImm cond 2 s rn rd rot imm)
  | .subShiftImm cond s rn rd amount ty rm => .arm (encDpShiftImm cond 2 s rn rd amount ty rm)
  | .subShiftReg cond s rn rd rs ty rm => .arm (encDpShiftReg cond 2 s rn rd rs ty rm)
  | .rsbImm cond s rn rd rot imm => .arm (encDpImm cond 3 s rn rd rot imm)
  | .rsbShiftImm cond s rn rd amount ty rm => .arm (encDpShiftImm cond 3 s rn rd amount ty rm)
  | .rsbShiftReg cond s rn rd rs ty rm => .arm (encDpShiftReg cond 3 s rn rd rs ty rm)
  | .addImm cond s rn rd rot imm => .arm (encDpImm cond 4 s rn rd rot imm)
  | .addShiftImm cond s rn rd amount ty rm => .arm (encDpShiftImm cond 4 s rn rd amount ty rm)
  | .addShiftReg cond s rn rd rs ty rm => .arm (encDpShiftReg cond 4 s rn rd rs ty rm)
  | .adcImm cond s rn rd rot imm => .arm (encDpImm cond 5 s rn rd rot imm)
  | .adcShiftImm cond s rn rd amount ty rm => .arm (encDpShiftImm cond 5 s rn rd amount ty rm)
  | .adcShiftReg cond s rn rd rs ty rm => .arm (encDpShiftReg cond 5 s rn rd rs ty rm)
  | .sbcImm cond s rn rd rot imm => .arm (encDpImm cond 6 s rn rd rot imm)
  | .sbcShiftImm cond s rn rd amount ty rm => .arm (encDpShiftImm cond 6 s rn rd amount ty rm)
  | .sbcShiftReg cond s rn rd rs ty rm => .arm (encDpShiftReg cond 6 s rn rd rs ty rm)
  | .rscImm cond s rn rd rot imm => .arm (encDpImm cond 7 s rn rd rot imm)
  | .rscShiftImm cond s rn rd amount ty rm => .arm (encDpShiftImm cond 7 s rn rd amount ty rm)
  | .rscShiftReg cond s rn rd rs ty rm => .arm (encDpShiftReg cond 7 s rn rd rs ty rm)
  | .tstImm cond rn rd rot imm => .arm (encDpImm cond 8 true rn rd rot imm)
  | .tstShiftImm cond rn rd amount ty rm => .arm (encDpShiftImm cond 8 true rn rd amount ty rm)
  | .tstShiftReg cond rn rd rs ty rm => .arm (encDpShiftReg cond 8 true rn rd rs ty rm)
  | .teqImm cond rn rd rot imm => .arm (encDpImm cond 9 true rn rd rot imm)
  | .teqShiftImm cond rn rd amount ty rm => .arm (encDpShiftImm cond 9 true rn rd amount ty rm)
  | .teqShiftReg cond rn rd rs ty rm => .arm (encDpShiftReg cond 9 true rn rd rs ty rm)
  | .cmpImm cond rn rd rot imm => .arm (encDpImm cond 10 true rn rd rot imm)
  | .cmpShiftImm cond rn rd amount ty rm => .arm (encDpShiftImm cond 10 true rn rd amount ty rm)
  | .cmpShiftReg cond rn rd rs ty rm => .arm (encDpShiftReg cond 10 true rn rd rs ty rm)
  | .cmnImm cond rn rd rot imm => .arm (encDpImm cond 11 true rn rd rot imm)
  | .cmnShiftImm cond rn rd amount ty rm => .arm (encDpShiftImm cond 11 true rn rd amount ty rm)
  | .cmnShiftReg cond rn rd rs ty rm => .arm (encDpShiftReg cond 11 true rn rd rs ty rm)
  | .orrImm cond s rn rd rot imm => .arm (encDpImm cond 12 s rn rd rot imm)
  | .orrShiftImm cond s rn rd amount ty rm => .arm (encDpShiftImm cond 12 s rn rd amount ty rm)
  | .orrShiftReg cond s rn rd rs ty rm => .arm (encDpShiftReg cond 12 s rn rd rs ty rm)
  | .movImm cond s rn rd rot imm => .arm (encDpImm cond 13 s rn rd rot imm)
  | .movShiftImm cond s rn rd amount ty rm => .arm (encDpShiftImm cond 13 s rn rd amount ty rm)
  | .movShiftReg cond s rn rd rs ty rm => .arm (encDpShiftReg cond 13 s rn rd rs ty rm)
  | .bicImm cond s rn rd rot imm => .arm (encDpImm cond 14 s rn rd rot imm)
  | .bicShiftImm cond s rn rd amount ty rm => .arm (encDpShiftImm cond 14 s rn rd amount ty rm)
  | .bicShiftReg cond s rn rd rs ty rm => .arm (encDpShiftReg cond 14 s rn rd rs ty rm)
  | .mvnImm cond s rn rd rot imm => .arm (encDpImm cond 15 s rn rd rot imm)
  | .mvnShiftImm cond s rn rd amount ty rm => .arm (encDpShiftImm cond 15 s rn rd amount ty rm)
  | .mvnShiftReg cond s rn rd rs ty rm => .arm (encDpShiftReg cond 15 s rn rd rs ty rm)
  | .b cond imm => .arm (put cond 28 ||| put 10#4 24 ||| put imm 0)
  | .bl cond imm => .arm (put cond 28 ||| put 11#4 24 ||| put imm 0)
  | .bx cond rm => .arm (encMisc cond 0x12 15 15 15 1 rm)
  | .blxReg cond rm => .arm (encMisc cond 0x12 15 15 15 3 rm)
  | .bxj cond rm => .arm (encMisc cond 0x12 15 15 15 2 rm)
  | .blxImm h imm => .arm (put 0xF#4 28 ||| put 5#3 25 ||| flag h 24 ||| put imm 0)
  | .ldrImm cond p u w rn rd off => .arm (encLsImm cond p u false w true rn rd off)
  | .ldrReg cond p u w rn rd amount ty rm => .arm (encLsReg cond p u false w true rn rd amount ty rm)
  | .strImm cond p u w rn rd off => .arm (encLsImm cond p u false w false rn rd off)
  | .strReg cond p u w rn rd amount ty rm => .arm (encLsReg cond p u false w false rn rd amount ty rm)
  | .ldrbImm cond p u w rn rd off => .arm (encLsImm cond p u true w true rn rd off)
  | .ldrbReg cond p u w rn rd amount ty rm => .arm (encLsReg cond p u true w true rn rd amount ty rm)
  | .strbImm cond p u w rn rd off => .arm (encLsImm cond p u true w false rn rd off)
  | .strbReg cond p u w rn rd amount ty rm => .arm (encLsReg cond p u true w false rn rd amount ty rm)
  | .strhImm cond p u w rn rd immH immL => .arm (encLsExtra cond p u true w false rn rd immH 11 immL)
  | .strhReg cond p u w rn rd rm => .arm (encLsExtra cond p u false w false rn rd 0 11 rm)
  | .ldrhImm cond p u w rn rd immH immL => .arm (encLsExtra cond p u true w true rn rd immH 11 immL)
  | .ldrhReg cond p u w rn rd rm => .arm (encLsExtra cond p u false w true rn rd 0 11 rm)
  | .ldrsbImm cond p u w rn rd immH immL => .arm (encLsExtra cond p u true w true rn rd immH 13 immL)
  | .ldrsbReg cond p u w rn rd rm => .arm (encLsExtra cond p u false w true rn rd 0 13 rm)
  | .ldrshImm cond p u w rn rd immH immL => .arm (encLsExtra cond p u true w true rn rd immH 15 immL)
  | .ldrshReg cond p u w rn rd rm => .arm (encLsExtra cond p u false w true rn rd 0 15 rm)
  | .ldrdImm cond p u w rn rd immH immL => .arm (encLsExtra cond p u true w false rn rd immH 13 immL)
  | .ldrdReg cond p u w rn rd rm => .arm (encLsExtra cond p u false w false rn rd 0 13 rm)
  | .strdImm cond p u w rn rd immH immL => .arm (encLsExtra cond p u true w false rn rd immH 15 immL)
  | .strdReg cond p u w rn rd rm => .arm (encLsExtra cond p u false w false rn rd 0 15 rm)
  | .ldm cond p u s w rn list => .arm (encBlock cond p u s w true rn list)
  | .stm cond p u s w rn list => .arm (encBlock cond p u s w false rn list)
  | .mul cond s rd rs rm => .arm (put cond 28 ||| put 0#7 21 ||| flag s 20 ||| put rd 16 ||| put 0#4 12 ||| put rs 8 ||| put 9#4 4 ||| put rm 0)
  | .mla cond s rd rn rs rm => .arm (put cond 28 ||| put 1#7 21 ||| flag s 20 ||| put rd 16 ||| put rn 12 ||| put rs 8 ||| put 9#4 4 ||| put rm 0)
  | .clz cond rd rm => .arm (encMisc cond 0x16 15 rd 15 1 rm)
  | .fmsr cond fn rd n => .arm (encVfpReg cond 0 false fn rd 10 n)
  | .fmrs cond fn rd n => .arm (encVfpReg cond 0 true fn rd 10 n)
  | .fmdlr cond fn rd => .arm (encVfpReg cond 0 false fn rd 11 false)
  | .fmdhr cond fn rd => .arm (encVfpReg cond 1 false fn rd 11 false)
  | .fmrdl cond fn rd => .arm (encVfpReg cond 0 true fn rd 11 false)
  | .fmrdh cond fn rd => .arm (encVfpReg cond 1 true fn rd 11 false)
  | .fmxr cond reg rd => .arm (encVfpReg cond 7 false reg rd 10 false)
  | .fmrx cond reg rd => .arm (encVfpReg cond 7 true reg rd 10 false)
  | .fmstat cond => .arm (encVfpReg cond 7 true 1 15 10 false)
  | .fmdrr cond rn rd fm => .arm (encCopPair cond false rn rd 11 false fm)
  | .fmrrd cond rn rd fm => .arm (encCopPair cond true rn rd 11 false fm)
  | .fmsrr cond rn rd m fm => .arm (encCopPair cond false rn rd 10 m fm)
  | .fmrrs cond rn rd m fm => .arm (encCopPair cond true rn rd 10 m fm)
  | .flds cond u d rn fd off => .arm (encCopMem cond true u d false true rn fd 10 off)
  | .fsts cond u d rn fd off => .arm (encCopMem cond true u d false false rn fd 10 off)
  | .fldd cond u rn fd off => .arm (encCopMem cond true u false false true rn fd 11 off)
  | .fstd cond u rn fd off => .arm (encCopMem cond true u false false false rn fd 11 off)
  | .fldm cond p u d w rn fd cp1 off => .arm (encCopMem cond p u d w true rn fd (vfpCp cp1) off)
  | .fstm cond p u d w rn fd cp1 off => .arm (encCopMem cond p u d w false rn fd (vfpCp cp1) off)
  | .vfpData cond opc1 fn fd cp1 opc2 fm => .arm (put cond 28 ||| put 14#4 24 ||| put opc1 20 ||| put fn 16 ||| put fd 12 ||| put (vfpCp cp1) 8 ||| put opc2 5 ||| put 0#1 4 ||| put fm 0)
  | .dbgtapExtest => .dbgtap 0b00000#5
  | .dbgtapScanN => .dbgtap 0b00010#5
  | .dbgtapRestart => .dbgtap 0b00100#5
  | .dbgtapHalt => .dbgtap 0b01000#5
  | .dbgtapIntest => .dbgtap 0b01100#5
  | .dbgtapItrsel => .dbgtap 0b11101#5
  | .dbgtapIdcode => .dbgtap 0b11110#5
  | .dbgtapBypass => .dbgtap 0b11111#5

/-- The instruction a code stands for. -/
def decode : Code → Decoded
  | .arm w => decodeArm w
  | .thumb h => decodeThumb h
  | .dbgtap c => decodeDbgtap c

/-- An ARM word from its four bytes in memory, lowest address first: the instruction stream is little-endian
(20_memory.md R49). -/
def wordOfBytes (b0 b1 b2 b3 : Byte) : Word := b3 ++ b2 ++ b1 ++ b0

/-- A Thumb halfword from its two bytes in memory, lowest address first (20_memory.md R49). -/
def halfOfBytes (b0 b1 : Byte) : Half := b1 ++ b0

/-- The instruction an opcode-table row's bits decode to: 32 bits are an ARM word, 16 a Thumb halfword (each stored
little-endian and decoded from its bytes), 8 a DBGTAP code in its low five bits. -/
def decodeTableWord (nbits w : Nat) : Option Instr :=
  let b := BitVec.ofNat 32 w
  match nbits with
  | 32 => (decodeArm (wordOfBytes (fld b 0 8) (fld b 8 8) (fld b 16 8) (fld b 24 8))).toOption
  | 16 => (decodeThumb (halfOfBytes (fld b 0 8) (fld b 8 8))).toOption
  | 8 => (decodeDbgtap (fld b 0 5)).toOption
  | _ => none

end

end Sys2Proof
end

