-- ==== Sys2Proof/Config.lean ====
section
/-!
DEFINITION. What an implementation fixes (00_scope.md R12, R13: build options and pins) and the free values: what the
specification leaves open while the machine goes on (92_eei_decisions.md D4). A free value is an opaque constant with no
body, applied to a counter that State holds or to the operands it depends on; nothing can be proved of its value.
-/

namespace Sys2Proof

/-- A level one cache size (00_scope.md R12). -/
inductive CacheSize where
  | kb16 | kb32 | kb64
deriving DecidableEq, Repr

/-- The CFGEND[1:0] pins; b01 is reserved and no machine starts with it (41_cp15_c1_control.md R152, U22). -/
inductive CfgEnd where
  | b00 | b10 | b11
deriving DecidableEq, Repr

/-- The number of one of the up to four MP11 CPUs. -/
inductive CpuId where
  | cpu0 | cpu1 | cpu2 | cpu3
deriving DecidableEq, Repr

/-- How the level two system answers an access (92_eei_decisions.md D5). -/
inductive BusError where
  | slverr | decerr
deriving DecidableEq, Repr

/-- The number of AXI master ports (00_scope.md R12 `MASTER_PORTS`). -/
inductive MasterPorts where
  | one | two
deriving DecidableEq, Repr

/-- One value for each of the four MP11 CPUs. -/
structure Quad (α : Type) where
  c0 : α
  c1 : α
  c2 : α
  c3 : α
deriving DecidableEq, Repr

/-- The value of one CPU. -/
def Quad.get {α : Type} (q : Quad α) : CpuId → α
  | .cpu0 => q.c0
  | .cpu1 => q.c1
  | .cpu2 => q.c2
  | .cpu3 => q.c3

/-- The value of one CPU replaced. -/
def Quad.set {α : Type} (q : Quad α) (n : CpuId) (x : α) : Quad α :=
  match n with
  | .cpu0 => { q with c0 := x }
  | .cpu1 => { q with c1 := x }
  | .cpu2 => { q with c2 := x }
  | .cpu3 => { q with c3 := x }

/-- Every CPU's value mapped. -/
def Quad.map {α β : Type} (f : α → β) (q : Quad α) : Quad β := ⟨f q.c0, f q.c1, f q.c2, f q.c3⟩

/-- The same value for every CPU. -/
def Quad.all {α : Type} (x : α) : Quad α := ⟨x, x, x, x⟩

/-- A range of physical addresses, `base` to `last`, whose accesses the platform answers with an error
(92_eei_decisions.md D5, OPEN `Platform`). -/
structure ErrorRegion where
  base : Nat
  last : Nat
  kind : BusError
deriving DecidableEq, Repr

/-- The build options and pins of one chip, constant for a run (00_scope.md R12, R13; 92_eei_decisions.md D38). -/
structure Config where
  /-- The number of CPUs minus one: SCU Configuration Register bits [1:0] (R12 `NCPU`). -/
  ncpuMinusOne : BitVec 2
  /-- Which of the CPUs this machine is (R13, CPU number). -/
  cpu : CpuId
  /-- R12 `ICACHE_SIZE` of this CPU. -/
  icache : CacheSize
  /-- R12 `DCACHE_SIZE`, for each CPU. -/
  dcache : Quad CacheSize
  /-- R12 `NIRQ_LINES` in units of 32 lines, 0 to 7. -/
  irqGroups : BitVec 3
  /-- R12 `HAS_VFP`. -/
  hasVfp : Bool
  /-- R12 `HAS_PARITY`. -/
  hasParity : Bool
  /-- R12 `MASTER_PORTS`: which AXI port carries a transfer; no result depends on it. -/
  masterPorts : MasterPorts
  /-- R12 `HAS_POWER_WRAPPERS`, which software cannot read; no result depends on it. -/
  hasPowerWrappers : Bool
  /-- R13 `CFGEND[1:0]`. -/
  cfgEnd : CfgEnd
  /-- R13 `VINITHI`. -/
  vinithi : Bool
  /-- R13 `FIQISNMI`. -/
  fiqIsNmi : Bool
  /-- R13 `CLUSTERID[3:0]`. -/
  clusterId : BitVec 4
  /-- R13 `PERIPHBASE[18:0]`, bits [31:13] of the private memory region. -/
  periphBase : BitVec 19
  /-- R13 `DBGEN`. -/
  dbgen : Bool
  /-- `PWRCTLI`: the reset values of the SCU CPU Status fields (49_private_memory_region.md R403). -/
  pwrctli : BitVec 8
  /-- OPEN `FPSID_VALUE` (48_vfp.md R785). -/
  fpsid : Word
  /-- The Media and VFP Feature Registers' values, not in the sources (48_vfp.md R785). -/
  mvfr0 : Word
  mvfr1 : Word
  /-- OPEN `DBGTAP_VERSION` (46_cp14_debug.md R330). -/
  dbgtapVersion : BitVec 4
  /-- OPEN `Platform`: the ranges the level two system answers with an error. -/
  errorRegions : List ErrorRegion
deriving DecidableEq, Repr

/-- The chip that State.reset describes: the defaults of 00_scope.md R12 (four CPUs, 32KB caches, 32 interrupt lines, VFP
present, no parity, two master ports, no power wrappers), this machine CPU 0, every pin LOW but DBGEN, and the private memory
region at 0x10100000. DESIGN CHOICE (notes/assumptions/2.md); FPSID and the MVFRs are the family's: PRESUMED
(notes/assumptions/32.md). Every statement about all states holds for every other chip. -/
def Config.default : Config where
  ncpuMinusOne := 3
  cpu := .cpu0
  icache := .kb32
  dcache := Quad.all .kb32
  irqGroups := 1
  hasVfp := true
  hasParity := false
  masterPorts := .two
  hasPowerWrappers := false
  cfgEnd := .b00
  vinithi := false
  fiqIsNmi := false
  clusterId := 0
  periphBase := 0x8080
  dbgen := true
  pwrctli := 0
  fpsid := 0x410120B4
  mvfr0 := 0x11111111
  mvfr1 := 0
  dbgtapVersion := 0
  errorRegions := []

/-- A free word: any value the specification leaves open (92_eei_decisions.md D4, `any value`). -/
opaque Config.freeWord : Nat → Word

/-- A free truth value: a draw between two behaviours (92_eei_decisions.md D4). -/
opaque Config.freeBool : Nat → Bool

/-- The VFP data-processing operations on two operands (48_vfp.md R788). -/
inductive VfpDyadic where
  | fadd | fsub | fmul | fnmul | fmac | fnmac | fmsc | fnmsc | fdiv
deriving DecidableEq, Repr, Inhabited

/-- The other VFP data-processing operations (48_vfp.md R788): copies, square root, compares with a register or with zero
(`nanInvalid` for the forms with an E), conversions (`toZero` for the forms with a Z). -/
inductive VfpMonadic where
  | fcpy | fabs | fneg | fsqrt
  | fcmp (nanInvalid zero : Bool)
  | fromInt (signed : Bool)
  | toInt (signed toZero : Bool)
  | fcvtds | fcvtsd
deriving DecidableEq, Repr, Inhabited

/-- The roundings of the VFP arithmetic: what remains of it once signs, flushes, NaN results, compares and traps are taken
off (48_vfp.md R788 to R794). -/
inductive VfpArith where
  | add | mul | div | sqrt
  | fromInt (signed : Bool)
  | toInt (signed : Bool)
  /-- FCVTDS and FCVTSD. -/
  | widen | narrow
deriving DecidableEq, Repr, Inhabited

/-- The four rounding modes of IEEE 754 (48_vfp.md R783, R785). -/
inductive VfpRounding where
  | nearest | plusInfinity | minusInfinity | zero
deriving DecidableEq, Repr, Inhabited

/-- A rounded result: the value, and the IEEE 754 conditions met; `tiny` is judged before rounding (48_vfp.md R793). -/
structure VfpRounded where
  value : BitVec 64
  invalid : Bool
  divByZero : Bool
  overflow : Bool
  tiny : Bool
  inexact : Bool
deriving DecidableEq, Repr, Inhabited

/-- What hardware tests pessimistically (48_vfp.md R790). -/
inductive VfpPotential where
  | underflow | overflow | unrepresentable
deriving DecidableEq, Repr

/-- OPEN `VFPISA` (48_vfp.md R780, 92_eei_decisions.md D45): the encodings of the VFP data-processing instructions are not
in the sources; this is the two-operand operation that the operation bits select, `none` for the other operations. -/
opaque Config.vfpDyadic : Word → Option VfpDyadic

/-- OPEN `VFPISA`: the other operation that the operation bits, the Fn field and the N bit select. Every word selects one of the
operations of 48_vfp.md R788, and none is unlisted or Undefined for its operation bits: DESIGN CHOICE (notes/assumptions/90.md). -/
opaque Config.vfpMonadic : Word → VfpMonadic

/-- OPEN `VFPISA`: the IEEE 754 arithmetic, given the operation, the precision, the rounding mode and the operands: the
rounded default result of an operation with every trap disabled (48_vfp.md R783, R788). -/
opaque Config.vfpRound : VfpArith → Bool → VfpRounding → BitVec 64 → BitVec 64 → VfpRounded

/-- OPEN `VFPISA`: the stride that a STRIDE field of b01 or b10 selects (48_vfp.md R792, 91_not_in_source.md N3). -/
opaque Config.vfpStride : BitVec 2 → Nat

/-- OPEN `VFPISA`: whether the hardware takes an operation to have the potential of a condition; it may judge
pessimistically (48_vfp.md R790). -/
opaque Config.vfpMay : VfpPotential → VfpArith → Bool → VfpRounding → BitVec 64 → BitVec 64 → Bool

end Sys2Proof
end

