-- ==== Sys2Proof/Machine/Parts.lean ====
section
/-!
DEFINITION. The parts of the machine's state (10_state.md R20 to R41): the status registers, CP15, TLB, caches, store
buffer, VFP, the debug unit and its access port, the devices of the private memory region, the events of the
environment; and the values the resets give them (70_reset_and_hazards.md R602 to R606).
-/

namespace Sys2Proof.Machine

/-- Physical memory: the bytes that differ from what an unlisted address reads as, addresses strictly rising
(20_memory.md R42; 92_eei_decisions.md D5). -/
abbrev Mem := List Host.Cell

/-- The seven modes and the register banks they see (10_state.md R22, R33): User and System share one bank. -/
inductive Bank where
  | usr | fiq | irq | svc | abt | und
deriving DecidableEq, Repr

/-- The program status registers: the CPSR and one SPSR for each exception bank (10_state.md R26, R27). -/
structure Psrs where
  cpsr : Word
  fiq : Word
  irq : Word
  svc : Word
  abt : Word
  und : Word
deriving DecidableEq, Repr

/-- The CP15 registers that an instruction reads or writes as a word (10_state.md R37). -/
structure Cp15 where
  control : Word
  auxControl : Word
  cpacr : Word
  ttbr0 : Word
  ttbr1 : Word
  ttbcr : Word
  dacr : Word
  dfsr : Word
  ifsr : Word
  far : Word
  wfar : Word
  pa : Word
  dcacheLockdown : Word
  tlbLockdown : Word
  prrr : Word
  nmrr : Word
  fcsePid : Word
  contextId : Word
  threadUrw : Word
  threadUro : Word
  threadPrw : Word
  pmnc : Word
  ccnt : Word
  pmn0 : Word
  pmn1 : Word
  tlbLockIndexRead : Word
  tlbLockIndexWrite : Word
  tlbLockVa : Word
  tlbLockPa : Word
  tlbLockAttr : Word
  tlbDebugControl : Word
deriving DecidableEq, Repr

/-- Where a sequence of accesses to the TLB lockdown entry registers stands (45_cp15_c13_c15.md R262, R263, R268). -/
inductive LockAccess where
  | none
  /-- Reading an entry; whether the VA and the attributes have been read. -/
  | reading (va attr : Bool)
  /-- Writing entry `index`; whether the VA and the attributes have been written. -/
  | writing (index : BitVec 3) (va attr : Bool)
deriving DecidableEq, Repr

/-- The three main memory types (20_memory.md R65). -/
inductive MemType where
  | stronglyOrdered | device | normal
deriving DecidableEq, Repr

/-- The memory attributes of an access (20_memory.md R61 to R64); the two policies are the codes of R62. -/
structure MemAttr where
  ty : MemType
  shared : Bool
  inner : BitVec 2
  outer : BitVec 2
deriving DecidableEq, Repr

/-- The control values whose changes a translation may see late (20_memory.md R56, R60): Control Register XP, Force AP and
TEX Remap, and the remap registers. -/
structure TlbControls where
  xp : Bool
  forceAp : Bool
  texRemap : Bool
  prrr : Word
  nmrr : Word
deriving DecidableEq, Repr

/-- Control values that a later change has replaced, and whether since that change the TLB has been invalidated and the prefetch
buffer flushed (20_memory.md R56, R60, 44_cp15_c8_c10_tlb.md R239). -/
structure OlderControls where
  controls : TlbControls
  invalidated : Bool
  flushed : Bool
deriving DecidableEq, Repr

/-- A valid main TLB entry: the fields of the lockdown access registers (20_memory.md R57, 45_cp15_c13_c15.md R264 to
R266), and the S and R bits its permissions are computed with (20_memory.md R55). `log2Size` is 12, 16, 20 or 24; with `spv`
the four access permission pairs are those of the subpages. -/
structure TlbEntry where
  mvaBase : Word
  log2Size : Nat
  globalMap : Bool
  asid : BitVec 8
  paBase : Word
  apx : Bool
  ap0 : BitVec 2
  spv : Bool
  ap1 : BitVec 2
  ap2 : BitVec 2
  ap3 : BitVec 2
  domain : BitVec 4
  xn : Bool
  tex : BitVec 3
  c : Bool
  b : Bool
  s : Bool
  sBit : Bool
  rBit : Bool
deriving DecidableEq, Repr

/-- An entry of the lockdown region: what it holds, whether it is locked (44_cp15_c8_c10_tlb.md R236), and whether it is valid: the
V bit of an entry written through the lockdown registers may be 0, and it then translates nothing but keeps its fields
(45_cp15_c13_c15.md R263, R265). -/
structure LockSlot where
  entry : Option TlbEntry
  locked : Bool
  valid : Bool
deriving DecidableEq, Repr, Inhabited

/-- A lockdown entry that holds nothing. -/
def LockSlot.empty : LockSlot := { entry := none, locked := false, valid := false }

/-- The translation of a lockdown entry, if it is valid. -/
def LockSlot.translation (k : LockSlot) : Option TlbEntry := if k.valid then k.entry else none

/-- What an instruction fetch depends on that CP15 and CP14 instructions change: the CP15 registers, the main TLB, and the
registers a fetch is compared with (41_cp15_c1_control.md R156, 44_cp15_c8_c10_tlb.md R230, 46_cp14_debug.md R307 to R309). -/
structure FetchView where
  cp15 : Cp15
  tlb : List TlbEntry
  lockSlots : Vector LockSlot 8
  vcr : Word
  bvr : Vector Word 6
  bcr : Vector Word 6
deriving DecidableEq, Repr

/-- A valid line of a cache: its way and set, the physical line address (pa[31:5]), whether it is dirty, and its 32
bytes (20_memory.md R95, R99). -/
structure Line where
  way : BitVec 2
  set : Nat
  tag : BitVec 27
  dirty : Bool
  bytes : Vector Byte 32
deriving DecidableEq, Repr

/-- A write waiting in the store buffer: its physical address, its bytes in address order, its memory attributes and
whether it goes to the data cache (20_memory.md R90, 92_eei_decisions.md D3). -/
structure PendingStore where
  pa : Word
  bytes : List Byte
  attr : MemAttr
  cachable : Bool
deriving DecidableEq, Repr

/-- The exclusive monitor (20_memory.md R97, 92_eei_decisions.md D9). -/
inductive Monitor where
  | openAccess
  | exclusive (pa : Word) (size : Nat)
deriving DecidableEq, Repr

/-- Why a fetch cannot be executed: a fault status and the SD bit, `none` where the table marks it Invalid
(20_memory.md R83, R86). -/
structure FetchFault where
  status : BitVec 5
  sd : Option Bool
deriving DecidableEq, Repr

/-- What a fetch brought: instruction bits (a halfword zero-extended in Thumb state) or a fault. -/
inductive Fetched where
  | bits (w : Word)
  | faulted (f : FetchFault)
deriving DecidableEq, Repr

/-- The debug events a fetched instruction carries (46_cp14_debug.md R320, R323): a breakpoint on its address, one on
the context ID alone, a vector catch, and a vector catch of one of the two abort vectors. -/
structure DebugHits where
  bkpt : Bool
  context : Bool
  vcatch : Bool
  abortCatch : Bool
deriving DecidableEq, Repr

/-- An instruction fetched ahead of execution, with the instruction set state and privilege it was fetched under
(20_memory.md R100) and the debug events found then. -/
structure Prefetched where
  va : Word
  thumb : Bool
  priv : Bool
  result : Fetched
  hits : DebugHits
deriving DecidableEq, Repr

/-- A prediction: a branch and the target at which the prediction logic fetches after it (20_memory.md R101). -/
structure BtacEntry where
  branch : Word
  target : Word
deriving DecidableEq, Repr

/-- A pending imprecise Data Abort: the response kind and whether a write caused it (60_exceptions.md R527). -/
structure ImpreciseAbort where
  sd : Bool
  write : Bool
deriving DecidableEq, Repr

/-- The VFP11 registers (48_vfp.md R781, R785), and whether a support-code bounce is pending (R790). -/
structure Vfp where
  regs : Vector Word 32
  fpscr : Word
  fpexc : Word
  fpinst : Word
  fpinst2 : Word
  bounce : Bool
deriving DecidableEq, Repr

/-- The states of the DBGTAP controller, those of IEEE 1149.1 (46_cp14_debug.md R336). -/
inductive TapState where
  | testLogicReset | runTestIdle
  | selectDr | captureDr | shiftDr | exit1Dr | pauseDr | exit2Dr | updateDr
  | selectIr | captureIr | shiftIr | exit1Ir | pauseIr | exit2Ir | updateIr
deriving DecidableEq, Repr

/-- The Debug Test Access Port of this CPU (46_cp14_debug.md R336 to R342). -/
structure Tap where
  state : TapState
  /-- The Instruction Register and its shift section (R336). -/
  ir : BitVec 5
  irShift : BitVec 5
  /-- The Scan Chain Select Register (R337). -/
  screg : BitVec 5
  /-- The shift section of the selected data register, bit 0 next to TDO (R337). -/
  drShift : BitVec 40
  /-- The Instruction Transfer Register and its flag (R340). -/
  itr : Word
  instComplete : Bool
  /-- The captured flags Ready and nRetry (R340, R341). -/
  ready : Bool
  nRetry : Bool
  /-- Scan chain 7: whether the last request is complete, the captured copy, and the request (R342). -/
  reqComplete : Bool
  reqReady : Bool
  reqWrite : Bool
  reqAddr : BitVec 7
  reqData : Word
  /-- The Halt instruction went through Run-Test/Idle (R324, R336). -/
  haltRequested : Bool
  /-- MODEL's own: codes that wait for their Update-IR step, and an ITR instruction that waits for its step. -/
  queue : List (BitVec 5)
  issue : Bool
deriving DecidableEq, Repr

/-- The debug unit of this CPU (46_cp14_debug.md R301 to R313, R324, R333). -/
structure Debug where
  dscr : Word
  rdtr : Word
  wdtr : Word
  vcr : Word
  bvr : Vector Word 6
  bcr : Vector Word 6
  wvr : Vector Word 2
  wcr : Vector Word 2
  /-- The EDBGRQ input is HIGH (R324). -/
  edbgrq : Bool
  /-- What a read of the PC returns in debug state (R333). -/
  debugPc : Word
  /-- The debugger has written the PC, and the PC or the CPSR, since debug state was entered (R332, R333). -/
  pcWritten : Bool
  touched : Bool
  /-- A watchpoint matched an access of the current instruction (R321). -/
  watchHit : Bool
  /-- The sample of the PC of the instruction last committed for execution, as scan chain 7 reads it (R342). -/
  pcSample : Word
  tap : Tap
deriving DecidableEq, Repr

/-- The Snoop Control Unit (49_private_memory_region.md R401 to R408). -/
structure Scu where
  control : Word
  cpuStatus : BitVec 8
  /-- Performance Monitor Control: flags [23:16], interrupt enables [15:8], enable [0] (R405). -/
  pmControl : Word
  pme0 : Word
  pme1 : Word
  mn : Vector Word 8
  /-- The ways of the duplicate tag RAMs that no Invalidate All has reached, as the fields of R404. -/
  staleTags : BitVec 16
  /-- The Auxiliary Control SMP bits of the other CPUs (R402). -/
  otherSmp : BitVec 4
deriving DecidableEq, Repr

/-- The shared part of the Interrupt Distributor; bit or field i belongs to interrupt ID i, of which 32 and upwards are
used (49_private_memory_region.md R432 to R439). -/
structure Distributor where
  enable : Bool
  enabled : BitVec 256
  /-- Four bits for each ID (R436). -/
  priority : BitVec 1024
  /-- Four bits for each ID, one for each CPU (R437). -/
  targets : BitVec 1024
  /-- Two bits for each ID (R438). -/
  config : BitVec 512
  /-- The levels of the INT lines (R439). -/
  lines : BitVec 256
deriving DecidableEq, Repr

/-- An interrupt selected for a CPU: its ID, the CPU that requested it (an interprocessor interrupt), its priority. -/
structure IrqChoice where
  id : Nat
  src : BitVec 2
  prio : BitVec 4
deriving DecidableEq, Repr

/-- One CPU's interrupt interface and its banked part of the distributor (49_private_memory_region.md R443, R450 to
R457). -/
structure CpuIrq where
  /-- The nIRQ pin is LOW (R460). -/
  nIrq : Bool
  /-- CPU Interface Control bit 0, Priority Mask, Binary Point (R450 to R452). -/
  enable : Bool
  mask : BitVec 4
  binaryPoint : BitVec 3
  /-- The priorities of the acknowledged and not completed interrupts, newest first (R453 to R455). -/
  stack : List IrqChoice
  /-- Enable bits of IDs 29 to 31 (R433). -/
  enabled : BitVec 32
  /-- Pending and Active, by ID; IDs 0 to 15 are pending in `ipi` (R457). -/
  pending : BitVec 256
  active : BitVec 256
  /-- Pending interprocessor interrupts, bit 4 * ID + source, and those sent with the 1-N model (R440, R459). -/
  ipi : BitVec 64
  ipiOneN : BitVec 64
  /-- Priorities of IDs 0 to 31, four bits each (R436, R443). -/
  priority : BitVec 128
  /-- The software model bits of IDs 0 to 15 (R438). -/
  oneN : BitVec 16
  /-- A 1-N interrupt another CPU has just acknowledged while it was selected here (R459, D32). -/
  shadow : Option IrqChoice
deriving DecidableEq, Repr

/-- One CPU's private timer and watchdog (49_private_memory_region.md R410 to R421). -/
structure Timer where
  load : Word
  count : Word
  control : Word
  event : Bool
  wdLoad : Word
  wdCount : Word
  wdControl : Word
  wdEvent : Bool
  /-- The Watchdog Reset Status flag (R419). -/
  wdReset : Bool
  /-- 0x12345678 was the last write to the Watchdog Disable Register (R420). -/
  armed : Bool
  /-- The RESETREQ output (R416). -/
  resetReq : Bool
deriving DecidableEq, Repr

/-- The devices of the private memory region. -/
structure Devices where
  scu : Scu
  dist : Distributor
  cpus : Quad CpuIrq
  timers : Quad Timer
deriving DecidableEq, Repr

/-- Whether the CPU has power (70_reset_and_hazards.md R640). -/
inductive Power where
  | run | dormant | off
deriving DecidableEq, Repr

/-- What an agent other than the instruction stream does between two steps: the asynchronous parts of the memory
system, the pins, the other CPUs and bus masters, the timers, the debugger, the power controller (00_scope.md R17). -/
inductive EnvEvent where
  /-- Store buffer entry `k` reaches the cache or memory, where the order allows it (92_eei_decisions.md D3). -/
  | drainStore (k : Nat)
  /-- A bus error response arrives (92_eei_decisions.md D34). -/
  | busResponse
  /-- Unlocked TLB entry `k` is replaced (20_memory.md R57, D10). -/
  | evictTlb (k : Nat)
  /-- Data cache entry `k` is evicted (20_memory.md R95). -/
  | evictLine (k : Nat)
  | evictInstrLine (k : Nat)
  /-- The replacement pointers move (20_memory.md R95, R99). -/
  | victims (dcache icache : BitVec 2)
  /-- The prefetch unit fetches the instruction at an address, for an instruction set state and a privilege
  (20_memory.md R100). -/
  | prefetch (va : Word) (thumb priv : Bool)
  /-- The prediction logic takes in a branch and its target (20_memory.md R101). -/
  | predict (branch target : Word)
  /-- The nIRQ pin of a CPU, or this CPU's nFIQ pin, becomes LOW (`true`) or HIGH (49_private_memory_region.md R460). -/
  | irqPin (cpu : CpuId) (low : Bool)
  | fiqPin (low : Bool)
  /-- The interrupt inputs are registered (60_exceptions.md R529). -/
  | sampleIrq
  | sampleFiq
  /-- An INT line changes (49_private_memory_region.md R457). -/
  | intLine (id : Nat) (high : Bool)
  /-- One prescaled period of a CPU's timer or watchdog (49_private_memory_region.md R412, R416). -/
  | timerTick (cpu : CpuId)
  | watchdogTick (cpu : CpuId)
  /-- The performance counters of this CPU, or of the SCU, have counted (45_cp15_c13_c15.md R255 to R260,
  49_private_memory_region.md R406 to R408). -/
  | pmuCount
  | scuCount
  /-- Another CPU accesses the private memory region (49_private_memory_region.md R400). -/
  | deviceRead (cpu : CpuId) (offset : BitVec 13) (size : Nat)
  | deviceWrite (cpu : CpuId) (offset : BitVec 13) (size : Nat) (value : Word)
  /-- The SMP bits of the other CPUs change (41_cp15_c1_control.md R158). -/
  | otherSmp (bits : BitVec 4)
  /-- Another CPU, or a bus master, writes bytes of memory (20_memory.md R96, R97, U16). -/
  | cpuWrite (pa : Word) (bytes : List Byte)
  | busWrite (pa : Word) (bytes : List Byte)
  /-- Another CPU reads a coherent line (20_memory.md R96). -/
  | snoop (pa : Word)
  /-- The EDBGRQ pin (46_cp14_debug.md R324). -/
  | edbgrq (high : Bool)
  /-- One TCK cycle of the DBGTAP with the levels of TMS and TDI (46_cp14_debug.md R336). -/
  | tck (tms tdi : Bool)
  /-- The pending scan chain 7 request completes (46_cp14_debug.md R342). -/
  | debugRequest
  /-- The reset inputs that are asserted, the last three a bit for each CPU (70_reset_and_hazards.md R601). -/
  | reset (dbgTrst scu : Bool) (por wd cpu : BitVec 4)
  /-- The power controller removes the power (70_reset_and_hazards.md R640). -/
  | powerDown (target : Power)
deriving DecidableEq, Repr

/-! ## Values after reset -/

/-- The value of the U and EE bits that CFGEND selects (41_cp15_c1_control.md R152). -/
def cfgU : CfgEnd → Bool
  | .b00 => false
  | .b10 => true
  | .b11 => true

def cfgEe : CfgEnd → Bool
  | .b00 => false
  | .b10 => false
  | .b11 => true

/-- The CPSR after reset: Supervisor mode, A, I and F set, E from CFGEND (10_state.md R35). The indeterminate bits are 0:
DESIGN CHOICE (notes/assumptions/4.md). -/
def resetCpsr (c : Config) : Word := 0x000001D3 ||| flag (cfgEe c.cfgEnd) 9

/-- The reset vector (60_exceptions.md R514). -/
def resetVector (c : Config) : Word := if c.vinithi then 0xFFFF0000 else 0

/-- The Control Register after reset (41_cp15_c1_control.md R150 to R152). -/
def resetControl (c : Config) : Word :=
  0x00054078 ||| flag c.vinithi 13 ||| flag (cfgU c.cfgEnd) 22 ||| flag (cfgEe c.cfgEnd) 25 ||| flag c.fiqIsNmi 27

/-- The CP15 registers after reset (10_state.md R37); DFSR, IFSR, FAR, WFAR, CCNT, PMN0, PMN1 and the two lock index
registers, which the specification leaves open, are 0: DESIGN CHOICE (notes/assumptions/4.md). -/
def Cp15.reset (c : Config) : Cp15 where
  control := resetControl c
  auxControl := 0x0000000F
  cpacr := 0
  ttbr0 := 0
  ttbr1 := 0
  ttbcr := 0
  dacr := 0
  dfsr := 0
  ifsr := 0
  far := 0
  wfar := 0
  pa := 0
  dcacheLockdown := 0xFFFFFFF0
  tlbLockdown := 0
  prrr := 0x00098AA4
  nmrr := 0x44E048E0
  fcsePid := 0
  contextId := 0
  threadUrw := 0
  threadUro := 0
  threadPrw := 0
  pmnc := 0
  ccnt := 0
  pmn0 := 0
  pmn1 := 0
  tlbLockIndexRead := 0
  tlbLockIndexWrite := 0
  tlbLockVa := 0
  tlbLockPa := 0
  tlbLockAttr := 0
  tlbDebugControl := 0

/-- The DBGTAP after DBGnTRST: IDcode selected, scan chain 3 (46_cp14_debug.md R336). -/
def Tap.reset : Tap where
  state := .testLogicReset
  ir := 0b11110
  irShift := 0b00001
  screg := 3
  drShift := 0
  itr := 0
  instComplete := true
  ready := false
  nRetry := false
  reqComplete := true
  reqReady := false
  reqWrite := false
  reqAddr := 0
  reqData := 0
  haltRequested := false
  queue := []
  issue := false

/-- The CP14 registers after nPORESET (46_cp14_debug.md R313); the fields without a reset value are 0: DESIGN CHOICE
(notes/assumptions/4.md). -/
def Debug.reset : Debug where
  dscr := 0x00000002
  rdtr := 0
  wdtr := 0
  vcr := 0
  bvr := Vector.replicate 6 0
  bcr := Vector.replicate 6 0
  wvr := Vector.replicate 2 0
  wcr := Vector.replicate 2 0
  edbgrq := false
  debugPc := 0
  pcWritten := false
  touched := false
  watchHit := false
  pcSample := 0
  tap := Tap.reset

/-- The VFP11 registers after reset (48_vfp.md R782, D46); FPINST holds the family's value: PRESUMED
(notes/assumptions/32.md); S0 to S31 and FPINST2 are 0: DESIGN CHOICE (notes/assumptions/4.md). -/
def Vfp.reset : Vfp where
  regs := Vector.replicate 32 0
  fpscr := 0
  fpexc := 0
  fpinst := 0xEE000A00
  fpinst2 := 0
  bounce := false

/-- Whether a CPU number is present (00_scope.md R12 `NCPU`). -/
def present (c : Config) : CpuId → Bool
  | .cpu0 => true
  | .cpu1 => decide (1 ≤ c.ncpuMinusOne.toNat)
  | .cpu2 => decide (2 ≤ c.ncpuMinusOne.toNat)
  | .cpu3 => decide (3 ≤ c.ncpuMinusOne.toNat)

/-- The CPUs present as a mask, bit n for CPU n. -/
def presentMask (c : Config) : BitVec 4 :=
  BitVec.ofBool (present c .cpu3) ++ BitVec.ofBool (present c .cpu2) ++ BitVec.ofBool (present c .cpu1) ++ 1#1

/-- The present CPUs as a mask of four-bit fields. -/
def presentMask4 (c : Config) : BitVec 16 :=
  (BitVec.ofBool (present c .cpu3)).signExtend 4 ++ (BitVec.ofBool (present c .cpu2)).signExtend 4 ++
    (BitVec.ofBool (present c .cpu1)).signExtend 4 ++ 0xF#4

/-- The present CPUs as a mask of two-bit fields. -/
def presentMask2 (c : Config) : BitVec 8 :=
  (BitVec.ofBool (present c .cpu3)).signExtend 2 ++ (BitVec.ofBool (present c .cpu2)).signExtend 2 ++
    (BitVec.ofBool (present c .cpu1)).signExtend 2 ++ 3#2

/-- The SCU after nSCURESET (70_reset_and_hazards.md R604); an absent CPU's status field reads b11
(49_private_memory_region.md R403). -/
def Scu.reset (c : Config) : Scu where
  control := 0x00001FFE
  cpuStatus := (c.pwrctli &&& presentMask2 c) ||| ~~~ presentMask2 c
  pmControl := 0
  pme0 := 0
  pme1 := 0
  mn := Vector.replicate 8 0
  staleTags := BitVec.allOnes 16
  otherSmp := 0

/-- The distributor after nSCURESET (70_reset_and_hazards.md R604, 49_private_memory_region.md R430). -/
def Distributor.reset : Distributor where
  enable := false
  enabled := 0
  priority := 0
  targets := 0
  config := 0
  lines := 0

/-- A CPU interrupt interface after nSCURESET (49_private_memory_region.md R450 to R456). -/
def CpuIrq.reset : CpuIrq where
  nIrq := false
  enable := false
  mask := 0xF
  binaryPoint := 0b011
  stack := []
  enabled := 0
  pending := 0
  active := 0
  ipi := 0
  ipiOneN := 0
  priority := 0
  oneN := 0
  shadow := none

/-- A timer and watchdog block after nSCURESET and nWDRESET (49_private_memory_region.md R410, R419). -/
def Timer.reset : Timer where
  load := 0
  count := 0
  control := 0
  event := false
  wdLoad := 0
  wdCount := 0
  wdControl := 0
  wdEvent := false
  wdReset := false
  armed := false
  resetReq := false

/-- The private memory region's devices after nSCURESET (70_reset_and_hazards.md R604). -/
def Devices.reset (c : Config) : Devices where
  scu := Scu.reset c
  dist := Distributor.reset
  cpus := Quad.all CpuIrq.reset
  timers := Quad.all Timer.reset

end Sys2Proof.Machine
end

