-- ==== Sys2Proof/Machine/State.lean ====
section
/-!
DEFINITION. The state of one MP11 CPU, of the MPCore blocks it shares, and of the memory it sees (10_state.md R20 to R41);
the faults and refusals a step can end in; and the machine after reset (70_reset_and_hazards.md R602 to R606).
-/

namespace Sys2Proof.Machine

/-- The whole machine. -/
structure State where
  /-- The chip's build options and pins. -/
  cfg : Config
  /-- The thirty banked general registers, r15 apart, in the order of `physReg` (10_state.md R22). -/
  regs : Vector Word 30
  /-- The address of the instruction being executed (10_state.md R24). -/
  pc : Word
  psrs : Psrs
  cp15 : Cp15
  lockAccess : LockAccess
  /-- A value other than 0 was written to the implementation defined NMRR bits (44_cp15_c8_c10_tlb.md R238, U26). -/
  nmrrImplDefined : Bool
  /-- Control values in force before earlier changes of which a part may still be used, newest first (20_memory.md R56, R60,
  44_cp15_c8_c10_tlb.md R239). -/
  remapOld : List OlderControls
  /-- The CPACR before the last write, until the next Flush Prefetch Buffer (41_cp15_c1_control.md R161). -/
  cpacrOld : Option Word
  /-- What fetches depended on before the CP15 writes and TLB operations made since the last pipeline flush, newest first
  (41_cp15_c1_control.md R156, 92_eei_decisions.md D16). -/
  fetchOld : List FetchView
  /-- The set-associative part of the main TLB (20_memory.md R57). -/
  tlb : List TlbEntry
  /-- The eight lockdown entries of the main TLB (44_cp15_c8_c10_tlb.md R236). -/
  lockSlots : Vector LockSlot 8
  /-- The instructions fetched ahead of execution (20_memory.md R100). -/
  prefetched : List Prefetched
  /-- The valid lines of the instruction cache and its next victim way (20_memory.md R99). -/
  icache : List Line
  icVictim : BitVec 2
  /-- The valid lines of the data cache and its next victim way (20_memory.md R95). -/
  dcache : List Line
  dcVictim : BitVec 2
  /-- The store buffer, oldest first (20_memory.md R90). -/
  storeBuffer : List PendingStore
  monitor : Monitor
  /-- What the branch prediction holds; it changes no result (20_memory.md R101). -/
  btac : List BtacEntry
  /-- The pending imprecise Data Abort, and one whose bus response is on its way (60_exceptions.md R527, D34). -/
  imprecise : Option ImpreciseAbort
  inFlight : Option ImpreciseAbort
  /-- The nFIQ pin is LOW (60_exceptions.md R521). -/
  fiqPin : Bool
  /-- The registered nIRQ and nFIQ requests (60_exceptions.md R529). -/
  irqSeen : Bool
  fiqSeen : Bool
  /-- Whether this CPU has power (70_reset_and_hazards.md R640). -/
  power : Power
  /-- The CPU waits for an interrupt (43_cp15_c7_cache_ops.md R201). -/
  standby : Bool
  /-- An illegal mode was written (10_state.md R33, U1). -/
  stuck : Bool
  vfp : Vfp
  dbg : Debug
  dev : Devices
  mem : Mem
  /-- MODEL's own: how many free values have been drawn. -/
  freeCtr : Nat
  /-- MODEL's own: what the environment does before each of the next steps. -/
  env : List (List EnvEvent)
deriving DecidableEq, Repr

/-- A precise data fault: the status of 20_memory.md R83 with the fields it gives, `none` where the table marks the
field Invalid (the field then holds a free value). -/
structure DataFault where
  status : BitVec 5
  domain : Option (BitVec 4)
  sd : Option Bool
  write : Option Bool
  mva : Word
  /-- An instruction cache maintenance fault also updates the IFSR (20_memory.md R84). -/
  iside : Bool
deriving DecidableEq, Repr

/-- An exception that an instruction raises (60_exceptions.md R500). -/
inductive Exc where
  | undefined
  | swi
  | prefetchAbort (f : FetchFault)
  | dataAbort (f : DataFault)
  /-- A BKPT instruction (46_cp14_debug.md R322). -/
  | bkpt
deriving DecidableEq, Repr

/-- Why a step stops the machine. -/
inductive Fault where
  /-- An illegal value was written to CPSR.M: "the processor enters an unrecoverable state. If this occurs, you must
  apply reset" (10_state.md R33, 93_implementation_defined.md U1). Raised by `step`; safe: the machine runs nothing. -/
  | unrecoverable
deriving DecidableEq, Repr

/-- Why a step has no meaning. Every refusal is safe: nothing is claimed of what the hardware does next. -/
inductive Refusal where
  /-- The instruction has no meaning yet; raised by `exec`'s refused arms. -/
  | notModelled (mnemonic : String)
  /-- The word is outside the subset the specification defines; raised by `step` (47_core_instructions.md R700). -/
  | outsideSubset
  /-- An unaligned halfword or Thumb word access with U = 0 and A = 0; raised by loads and stores (20_memory.md R45, U3). -/
  | unalignedHalfword
  /-- An unaligned exclusive, swap or doubleword access with U = 0 and A = 0; raised by those (20_memory.md R45, U4). -/
  | unalignedSync
  /-- A rotated load to the PC; raised by LDR (20_memory.md R47, U5). -/
  | rotatedPcLoad
  /-- A reserved TEX, C, B encoding or remap index 6; raised by translation (20_memory.md R61, R63, U8). -/
  | reservedMemoryType
  /-- A reserved access permission encoding; raised by translation (20_memory.md R55, U9). -/
  | reservedPermission
  /-- A remap type field b11; raised by translation (44_cp15_c8_c10_tlb.md R237, U10). -/
  | reservedRemapType
  /-- R15 as Rd of a CP15 transfer; raised by MRC and MCR p15 (30_encoding.md R113, U19). -/
  | cp15R15
  /-- A CP15 encoding no table lists, in a privileged mode; raised by its catch-all row (30_encoding.md R116, U20). -/
  | cp15Unlisted
  /-- A write of a CP15 c0 register in a privileged mode; raised by MCR p15 c0 (40_cp15_c0_id.md R141, U21). -/
  | cp15ReadOnly
  /-- A cachable write to a line with a noncachable bufferable write pending; raised by stores (20_memory.md R107, U12). -/
  | storeBufferDeadlock
  /-- A data access with U = 0, A = 0 and E = 1; raised by loads and stores (41_cp15_c1_control.md R154, U23). -/
  | reservedEndianness
  /-- A reserved or mismatched CPACR field; raised by VFP instructions (41_cp15_c1_control.md R160, U25). -/
  | reservedCoprocessorAccess
  /-- A Context ID write with stores outstanding; raised by that MCR (45_cp15_c13_c15.md R251, U27). -/
  | contextIdWithoutDsb
  /-- TLB Debug Control with IML different from DML; raised by that MCR (45_cp15_c13_c15.md R261, U29). -/
  | tlbDebugMismatch
  /-- An access to the SPSR in User or System mode; raised by MRS, MSR, SRS and exception returns (U30). -/
  | noSpsr
  /-- TLB lockdown entry registers accessed out of order; raised by those transfers (45_cp15_c13_c15.md R268, U31). -/
  | lockdownOrder
  /-- An instruction that is Unpredictable in debug state, raised by ITR execution; or DSCR[13] set outside debug state, raised by
  the debugger's write (46_cp14_debug.md R304, R332, U33). -/
  | debugStateUnpredictable
  /-- A byte or halfword access to a word-only register, or a fetch, in the private memory region
  (49_private_memory_region.md R400, U34). -/
  | privateRegionAccess
  /-- A PC value whose low bits do not fit the instruction set state; raised by PC writes (47_core_instructions.md R705,
  R706, U36). -/
  | misalignedPc
  /-- CLZ to the PC (47_core_instructions.md R774, U37). -/
  | clzPc
  /-- Another UNPREDICTABLE form of the core subset; raised by the instruction (U38). -/
  | unpredictableForm
  /-- A VFP register number the format forbids; raised by VFP instructions (48_vfp.md R784, R786, U39). -/
  | vfpRegister
  /-- A CP10 or CP11 encoding outside the rows while the VFP is accessible; raised by `step` (48_vfp.md R780). -/
  | vfpUnlisted
  /-- A Jazelle state, J = 1 and T = 0; raised by `step` (47_core_instructions.md R708, D43). -/
  | jazelle
  /-- A use of a debug register that the sources call Unpredictable (46_cp14_debug.md R304, R341). -/
  | debugRegister
  /-- A combination of reset inputs outside the table; raised by `step` (70_reset_and_hazards.md R601, U35). -/
  | resetCombination
deriving DecidableEq, Repr

/-- The result of a part of an instruction's meaning: a value and the state after it, an exception to take from the
state reached, or the end of the run. -/
inductive Res (α : Type) where
  | ok (a : α) (s : State)
  | exc (x : Exc) (s : State)
  | fault (f : Fault)
  | refused (r : Refusal)
deriving DecidableEq, Repr

/-- The machine right after power-on reset of the chip `Config.default`: every field at the value the specification
states (70_reset_and_hazards.md R603 to R606); what it leaves open is 0 or empty: DESIGN CHOICE
(notes/assumptions/4.md and 5.md). Memory lists nothing and the environment does nothing. -/
def State.reset : State where
  cfg := Config.default
  regs := Vector.replicate 30 0
  pc := resetVector Config.default
  psrs := { cpsr := resetCpsr Config.default, fiq := 0, irq := 0, svc := 0, abt := 0, und := 0 }
  cp15 := Cp15.reset Config.default
  lockAccess := .none
  nmrrImplDefined := false
  remapOld := []
  cpacrOld := none
  fetchOld := []
  tlb := []
  lockSlots := Vector.replicate 8 LockSlot.empty
  prefetched := []
  icache := []
  icVictim := 0
  dcache := []
  dcVictim := 0
  storeBuffer := []
  monitor := .openAccess
  btac := []
  imprecise := none
  inFlight := none
  fiqPin := false
  irqSeen := false
  fiqSeen := false
  power := .run
  standby := false
  stuck := false
  vfp := Vfp.reset
  dbg := Debug.reset
  dev := Devices.reset Config.default
  mem := []
  freeCtr := 0
  env := []

end Sys2Proof.Machine
end

