-- ==== Sys2Proof/Machine/Ops.lean ====
section
/-!
DEFINITION. The named operations every meaning is written over: results and their composition, bytes of memory, the
banked registers, the status registers, free values, conditions, taking an exception and returning from one
(10_state.md R20 to R35, 60_exceptions.md R510 to R531, 47_core_instructions.md R705, R706, R723).
-/

namespace Sys2Proof.Machine

/-! ## Results -/

/-- Continue with the value and the state reached; an exception or an end of the run passes through. -/
def Res.bind {α β : Type} (r : Res α) (f : α → State → Res β) : Res β :=
  match r with
  | .ok a s => f a s
  | .exc x s => .exc x s
  | .fault e => .fault e
  | .refused e => .refused e

/-! ## Memory -/

/-- What a byte of memory that nothing has written reads as. DESIGN CHOICE (notes/assumptions/3.md): the specification
gives RAM no contents after power-on. -/
def unlistedByte : Byte := 0

/-- The byte at a physical address (20_memory.md R42). -/
def Mem.read : Mem → Nat → Byte
  | [], _ => unlistedByte
  | c :: t, a => if c.1 = a then c.2 else Mem.read t a

/-- The memory with the byte at a physical address replaced, in canonical form. -/
def Mem.write : Mem → Nat → Byte → Mem
  | [], a, v => if v = unlistedByte then [] else [(a, v)]
  | c :: t, a, v =>
    if a < c.1 then (if v = unlistedByte then c :: t else (a, v) :: c :: t)
    else if a = c.1 then (if v = unlistedByte then t else (a, v) :: t)
    else c :: Mem.write t a v

/-- The addresses of a memory rise strictly from above `lo`, lie below 2^32, and no entry equals an unlisted byte. -/
def Mem.wfFrom : Nat → Mem → Bool
  | _, [] => true
  | lo, c :: t => decide (lo ≤ c.1) && decide (c.1 < 2 ^ 32) && decide (c.2 ≠ unlistedByte) && Mem.wfFrom (c.1 + 1) t

/-- The canonical form of a memory. -/
def Mem.wf (m : Mem) : Bool := Mem.wfFrom 0 m

/-- The bytes from a physical address upward, the first at the lowest address; addresses wrap (00_scope.md R14). -/
def Mem.readBytes (m : Mem) (pa : Word) : Nat → List Byte
  | 0 => []
  | n + 1 => m.read pa.toNat :: Mem.readBytes m (pa + 1) n

/-- The memory with bytes written from a physical address upward (00_scope.md R14). -/
def Mem.writeBytes (m : Mem) (pa : Word) : List Byte → Mem
  | [] => m
  | b :: t => Mem.writeBytes (m.write pa.toNat b) (pa + 1) t

/-! ## Bit fields of registers -/

/-- `w` with the `n` bits that begin at bit `k` replaced by `x` (00_scope.md R14). -/
def setFld {n : Nat} (w : Word) (k : Nat) (x : BitVec n) : Word :=
  (w &&& ~~~ (put (BitVec.allOnes n) k)) ||| put x k

/-- `w` with bit `k` replaced by `b`. -/
def setBit (w : Word) (k : Nat) (b : Bool) : Word := setFld w k (BitVec.ofBool b)

/-! ## Status registers -/

/-- The current program status register (10_state.md R26). -/
def State.cpsr (s : State) : Word := s.psrs.cpsr

/-- The state with the CPSR replaced. -/
def State.setCpsr (s : State) (v : Word) : State := { s with psrs := { s.psrs with cpsr := v } }

/-- The mode bits M[4:0] (10_state.md R33). -/
def State.mode (s : State) : BitVec 5 := fld s.cpsr 0 5

/-- The modes of 10_state.md R33. -/
def modeUser : BitVec 5 := 0b10000
def modeFiq : BitVec 5 := 0b10001
def modeIrq : BitVec 5 := 0b10010
def modeSvc : BitVec 5 := 0b10011
def modeAbt : BitVec 5 := 0b10111
def modeUnd : BitVec 5 := 0b11011
def modeSys : BitVec 5 := 0b11111

/-- Whether a mode value is one of the seven modes (10_state.md R33). -/
def legalMode (m : BitVec 5) : Bool :=
  m == modeUser || m == modeFiq || m == modeIrq || m == modeSvc || m == modeAbt || m == modeUnd || m == modeSys

/-- The register bank a mode sees (10_state.md R22). -/
def bankOf (m : BitVec 5) : Bank :=
  if m == modeFiq then .fiq else if m == modeIrq then .irq else if m == modeSvc then .svc
  else if m == modeAbt then .abt else if m == modeUnd then .und else .usr

/-- The bank of the current mode. -/
def State.bank (s : State) : Bank := bankOf s.mode

/-- The CPU is in debug state: DSCR[0] (46_cp14_debug.md R329). -/
def State.halted (s : State) : Bool := bitAt s.dbg.dscr 0

/-- `InPrivilegedMode()` (00_scope.md R15), for what an instruction may do: in debug state every instruction acts as in a
privileged mode (46_cp14_debug.md R331). -/
def State.privileged (s : State) : Bool := s.halted || s.mode != modeUser

/-- Whether memory is accessed with User permissions (20_memory.md R50): in debug state too the mode bits decide
(46_cp14_debug.md R331). -/
def State.userAccess (s : State) : Bool := s.mode == modeUser

/-- The CPSR bits of 10_state.md R27. -/
def State.flagN (s : State) : Bool := bitAt s.cpsr 31
def State.flagZ (s : State) : Bool := bitAt s.cpsr 30
def State.flagC (s : State) : Bool := bitAt s.cpsr 29
def State.flagV (s : State) : Bool := bitAt s.cpsr 28
def State.jBit (s : State) : Bool := bitAt s.cpsr 24
def State.eBit (s : State) : Bool := bitAt s.cpsr 9
def State.aBit (s : State) : Bool := bitAt s.cpsr 8
def State.iBit (s : State) : Bool := bitAt s.cpsr 7
def State.fBit (s : State) : Bool := bitAt s.cpsr 6
def State.tBit (s : State) : Bool := bitAt s.cpsr 5

/-- Instructions execute in Thumb state; debug state executes ARM instructions whatever T holds
(46_cp14_debug.md R331). -/
def State.thumb (s : State) : Bool := s.tBit && !s.halted

/-- The condition flags replaced (10_state.md R28). -/
def State.setNzcv (s : State) (n z c v : Bool) : State :=
  s.setCpsr (setBit (setBit (setBit (setBit s.cpsr 31 n) 30 z) 29 c) 28 v)

/-- The bits of a PSR that exist; the others read as zero and ignore writes (10_state.md R27, D7). -/
def psrMask : Word := 0xF90F03FF

/-- The SPSR of a bank; User and System have none (10_state.md R26). -/
def Psrs.spsr (p : Psrs) : Bank → Option Word
  | .usr => none
  | .fiq => some p.fiq
  | .irq => some p.irq
  | .svc => some p.svc
  | .abt => some p.abt
  | .und => some p.und

/-- The status registers with the SPSR of a bank replaced (10_state.md R26). -/
def Psrs.setSpsr (p : Psrs) (b : Bank) (v : Word) : Psrs :=
  match b with
  | .usr => p
  | .fiq => { p with fiq := v }
  | .irq => { p with irq := v }
  | .svc => { p with svc := v }
  | .abt => { p with abt := v }
  | .und => { p with und := v }

/-- The SPSR of the current mode. -/
def State.spsr (s : State) : Option Word := s.psrs.spsr s.bank

/-- The state with the SPSR of a bank replaced. -/
def State.setSpsr (s : State) (b : Bank) (v : Word) : State := { s with psrs := s.psrs.setSpsr b v }

/-! ## General registers -/

/-- The physical register that number `n` names in a bank (10_state.md R22): 0 to 12 are r0 to r12, 13 to 17 r8_fiq to
r12_fiq, then the pairs r13, r14 of usr, fiq, irq, svc, abt, und. The number 15 is the PC, kept apart; it is given r0's
place here and no caller asks for it. -/
def physIndex (b : Bank) (n : RegNum) : Nat :=
  if n.toNat < 8 then n.toNat
  else if n.toNat < 13 then (if b = .fiq then n.toNat + 5 else n.toNat)
  else if n.toNat < 15 then
    n.toNat + 5 + (match b with | .usr => 0 | .fiq => 2 | .irq => 4 | .svc => 6 | .abt => 8 | .und => 10)
  else 0

/-- The index lies in the register file. -/
theorem physIndex_lt (b : Bank) (n : RegNum) : physIndex b n < 30 := by
  have h := n.isLt
  unfold physIndex
  split
  · omega
  · split
    · split <;> omega
    · split
      · cases b <;> simp only [] <;> omega
      · omega

/-- Register `n` of a bank, `n` not 15 (10_state.md R22). -/
def State.bankReg (s : State) (b : Bank) (n : RegNum) : Word := s.regs[physIndex b n]'(physIndex_lt b n)

/-- The state with register `n` of a bank replaced, `n` not 15. -/
def State.setBankReg (s : State) (b : Bank) (n : RegNum) (v : Word) : State :=
  if n = 15 then s else { s with regs := s.regs.set (physIndex b n) v (physIndex_lt b n) }

/-- The value an instruction reads from r15: its address plus 8 in ARM state, plus 4 in Thumb state (10_state.md R24);
the frozen value in debug state (46_cp14_debug.md R333). -/
def State.readPc (s : State) : Word :=
  if s.halted then s.dbg.debugPc else if s.thumb then s.pc + 4 else s.pc + 8

/-- `R[n]`: a general register as the current mode sees it (00_scope.md R15, 10_state.md R22, R24). -/
def State.reg (s : State) (n : RegNum) : Word := if n = 15 then s.readPc else s.bankReg s.bank n

/-- `R[n] <- v` for `n` not 15 (00_scope.md R15, 10_state.md R22). -/
def State.setReg (s : State) (n : RegNum) (v : Word) : State := s.setBankReg s.bank n v

/-- The state with the PC replaced. -/
def State.setPc (s : State) (v : Word) : State := { s with pc := v }

/-- The length of the current instruction in bytes (00_scope.md R11). -/
def State.instrLength (s : State) : Word := if s.thumb then 2 else 4

/-- The PC moved past an instruction that does not write it (10_state.md R24); in debug state the PC is frozen
(46_cp14_debug.md R333). -/
def State.advance (s : State) : State := if s.halted then s else s.setPc (s.pc + s.instrLength)

/-- The return address of a branch with link: the address of the next ARM instruction (47_core_instructions.md R767). -/
def State.linkAddress (s : State) : Word := s.readPc - 4

/-! ## Free values -/

/-- One free word, and the state with the counter advanced (92_eei_decisions.md D4). -/
def State.drawWord (s : State) : Word × State := (Config.freeWord s.freeCtr, { s with freeCtr := s.freeCtr + 1 })

/-- One free truth value, and the state with the counter advanced (92_eei_decisions.md D4). -/
def State.drawBool (s : State) : Bool × State := (Config.freeBool s.freeCtr, { s with freeCtr := s.freeCtr + 1 })

/-- Continue with a free word (92_eei_decisions.md D4). -/
def withWord {α : Type} (s : State) (k : Word → State → α) : α := k s.drawWord.1 s.drawWord.2

/-- Continue with a free truth value (92_eei_decisions.md D4). -/
def withBool {α : Type} (s : State) (k : Bool → State → α) : α := k s.drawBool.1 s.drawBool.2

/-! ## Conditions -/

/-- Whether a condition holds on the CPSR flags (30_encoding.md R111). -/
def condHolds (cond : Cond) (cpsr : Word) : Bool :=
  let n := bitAt cpsr 31
  let z := bitAt cpsr 30
  let c := bitAt cpsr 29
  let v := bitAt cpsr 28
  match cond with
  | 0#4 => z
  | 1#4 => !z
  | 2#4 => c
  | 3#4 => !c
  | 4#4 => n
  | 5#4 => !n
  | 6#4 => v
  | 7#4 => !v
  | 8#4 => c && !z
  | 9#4 => !c || z
  | 10#4 => n == v
  | 11#4 => n != v
  | 12#4 => !z && n == v
  | 13#4 => z || n != v
  | _ => true

/-- The condition of an instruction holds in a state. -/
def State.passes (s : State) (cond : Cond) : Bool := condHolds cond s.cpsr

/-! ## Control register bits -/

/-- The bits of the Control Register (41_cp15_c1_control.md R150). -/
def State.ctlM (s : State) : Bool := bitAt s.cp15.control 0
def State.ctlA (s : State) : Bool := bitAt s.cp15.control 1
def State.ctlC (s : State) : Bool := bitAt s.cp15.control 2
def State.ctlS (s : State) : Bool := bitAt s.cp15.control 8
def State.ctlR (s : State) : Bool := bitAt s.cp15.control 9
def State.ctlZ (s : State) : Bool := bitAt s.cp15.control 11
def State.ctlI (s : State) : Bool := bitAt s.cp15.control 12
def State.ctlV (s : State) : Bool := bitAt s.cp15.control 13
def State.ctlL4 (s : State) : Bool := bitAt s.cp15.control 15
def State.ctlU (s : State) : Bool := bitAt s.cp15.control 22
def State.ctlXp (s : State) : Bool := bitAt s.cp15.control 23
def State.ctlEe (s : State) : Bool := bitAt s.cp15.control 25
def State.ctlNmfi (s : State) : Bool := bitAt s.cp15.control 27
def State.ctlTexRemap (s : State) : Bool := bitAt s.cp15.control 28
def State.ctlForceAp (s : State) : Bool := bitAt s.cp15.control 29

/-- The AXI region of a physical address that answers with an error, if any (92_eei_decisions.md D5). -/
def busError (c : Config) (pa : Word) : Option BusError :=
  (c.errorRegions.find? fun r => decide (r.base ≤ pa.toNat) && decide (pa.toNat ≤ r.last)).map (·.kind)

/-- The SD bit that reports a bus error: 1 for SLVERR, 0 for DECERR (42_cp15_c2_c6_mmu.md R175). -/
def errorSd : BusError → Bool
  | .slverr => true
  | .decerr => false

/-! ## Pipeline flush -/

/-- Discard every instruction fetched but not yet executed; every fetch from here on sees every change made before it: Flush
Prefetch Buffer, exception entry and return (43_cp15_c7_cache_ops.md R205, 41_cp15_c1_control.md R156, 92_eei_decisions.md
D16). -/
def State.flushPipeline (s : State) : State := { s with prefetched := [], fetchOld := [] }

/-- What an operation changes of the older TLB controls; those of which no value may be used any more, as the TLB has been
invalidated and the prefetch buffer flushed since they were replaced, are gone (44_cp15_c8_c10_tlb.md R239, U14). -/
def State.noteOlder (f : OlderControls → OlderControls) (s : State) : State :=
  { s with remapOld := (s.remapOld.map f).filter fun o => !(o.invalidated && o.flushed) }

/-- Flush Prefetch Buffer (43_cp15_c7_cache_ops.md R205): of the pipeline flushes the one that ends the rights of an earlier
CPACR (41_cp15_c1_control.md R161) and counts for the changes of the remap controls (44_cp15_c8_c10_tlb.md R239). -/
def State.flushPrefetch (s : State) : State :=
  State.noteOlder (fun o => { o with flushed := true }) { s.flushPipeline with cpacrOld := none }

/-! ## Debug state -/

/-- The debug modes that DSCR[15:14] selects (46_cp14_debug.md R305). -/
inductive DebugMode where
  | disabled | halting | monitor
deriving DecidableEq, Repr

/-- The selected debug mode; none while DBGEN is LOW (46_cp14_debug.md R303, R305). -/
def State.debugMode (s : State) : DebugMode :=
  if s.cfg.dbgen = false then .disabled
  else if bitAt s.dbg.dscr 14 then .halting
  else if bitAt s.dbg.dscr 15 then .monitor
  else .disabled

/-- The DBGACK output: HIGH in debug state, and while DSCR[10] forces it (46_cp14_debug.md R304, R329, R334, R346). -/
def State.dbgack (s : State) : Bool := s.halted || bitAt s.dbg.dscr 10

/-- The DBGNOPWRDWN output (46_cp14_debug.md R304, R346). -/
def State.dbgnopwrdwn (s : State) : Bool := bitAt s.dbg.dscr 9

/-- The state with the DSCR replaced. -/
def State.setDscr (s : State) (v : Word) : State := { s with dbg := { s.dbg with dscr := v } }

/-- DSCR[5:2], the method of entry, replaced (46_cp14_debug.md R304). -/
def State.setEntry (s : State) (cause : BitVec 4) : State := s.setDscr (setFld s.dbg.dscr 2 cause)

/-- The methods of entry of DSCR[5:2] (46_cp14_debug.md R304). -/
def entryHalt : BitVec 4 := 0b0000
def entryBreakpoint : BitVec 4 := 0b0001
def entryWatchpoint : BitVec 4 := 0b0010
def entryBkpt : BitVec 4 := 0b0011
def entryEdbgrq : BitVec 4 := 0b0100
def entryVectorCatch : BitVec 4 := 0b0101
def entryDataAbort : BitVec 4 := 0b0110

/-- `EnterDebugState` (46_cp14_debug.md R329): execution resumes at the PC `s` holds. -/
def enterDebugState (s : State) (cause : BitVec 4) : State :=
  { s with
    standby := false
    prefetched := []
    dbg := { s.dbg with
      dscr := setBit (setFld s.dbg.dscr 2 cause) 0 true
      debugPc := s.pc + (if s.tBit then 4 else if s.jBit then 0 else 8)
      pcWritten := false
      touched := false } }

/-- In debug state the PC and the CPSR count as written (46_cp14_debug.md R332, R333). -/
def State.markWritten (s : State) : State :=
  if s.halted then { s with dbg := { s.dbg with pcWritten := true, touched := true } } else s

/-- In debug state the CPSR counts as written, if it has been (46_cp14_debug.md R333). -/
def State.noteStatus (wrote : Bool) (s : State) : State :=
  { s with dbg := { s.dbg with touched := s.dbg.touched || (wrote && s.halted) } }

/-! ## Taking an exception -/

/-- `VectorBase()` (60_exceptions.md R511). -/
def State.vectorBase (s : State) : Word := if s.ctlV then 0xFFFF0000 else 0

/-- The CPSR on entry to an exception (60_exceptions.md R510): the mode, ARM state, I set, A and F set where the table
says so, E from the EE bit. -/
def entryCpsr (old : Word) (mode : BitVec 5) (a f ee : Bool) : Word :=
  let w := setBit (setBit (setBit (setFld old 0 mode) 5 false) 24 false) 7 true
  setBit (if f then setBit (if a then setBit w 8 true else w) 6 true else (if a then setBit w 8 true else w)) 9 ee

/-- `TakeException` (60_exceptions.md R510): the banked r14 and SPSR saved, the CPSR and the PC changed, the pipeline
flushed. In debug state the PC it sets counts as written by the debugger, so that a Restart goes on at the vector, which
46_cp14_debug.md R332 and R333 do not say: DESIGN CHOICE (notes/assumptions/89.md). -/
def State.enter (s : State) (mode : BitVec 5) (offset link : Word) (a f : Bool) : State :=
  let t := ((s.setCpsr (entryCpsr s.cpsr mode a f s.ctlEe)).setBankReg (bankOf mode) 14 link).setSpsr (bankOf mode) s.cpsr
  ((t.setPc (s.vectorBase + offset)).flushPipeline).markWritten

/-- The DFSR after a data fault, its Invalid fields from a free word (42_cp15_c2_c6_mmu.md R175, 20_memory.md R83). -/
def dfsrValue (status : BitVec 5) (domain : Option (BitVec 4)) (sd write : Option Bool) (free : Word) : Word :=
  flag (sd.getD (bitAt free 12)) 12 ||| flag (write.getD (bitAt free 11)) 11 ||| flag (bitAt status 4) 10 |||
    put (domain.getD (fld free 4 4)) 4 ||| put (fld status 0 4) 0

/-- The IFSR after an instruction fault, its Invalid fields from a free word (42_cp15_c2_c6_mmu.md R176). -/
def ifsrValue (status : BitVec 5) (sd : Option Bool) (free : Word) : Word :=
  flag (sd.getD (bitAt free 12)) 12 ||| flag (bitAt status 4) 10 ||| put (fld free 4 4) 4 ||| put (fld status 0 4) 0

/-- The state with fault registers replaced. -/
def State.setIfsr (s : State) (v : Word) : State := { s with cp15 := { s.cp15 with ifsr := v } }
def State.setDfsr (s : State) (v : Word) : State := { s with cp15 := { s.cp15 with dfsr := v } }
def State.setFar (s : State) (v : Word) : State := { s with cp15 := { s.cp15 with far := v } }
def State.setWfar (s : State) (v : Word) : State := { s with cp15 := { s.cp15 with wfar := v } }

/-- The status of a debug event (20_memory.md R83). -/
def statusDebug : BitVec 5 := 0b00010

/-- A Debug exception taken through the Prefetch Abort vector: a breakpoint, a BKPT or a vector catch
(46_cp14_debug.md R327, R328). -/
def debugPrefetchAbort (s : State) (cause : BitVec 4) : State :=
  withWord s fun w s =>
    ((s.setEntry cause).setIfsr (ifsrValue statusDebug none w)).enter modeAbt 0x0C (s.pc + 4) true false

/-- A Debug exception taken through the Data Abort vector: a watchpoint. The PC is that of the next instruction, `wfar`
the address of the watchpointed one plus its offset (46_cp14_debug.md R318, R327, R328). The Domain field of the DFSR, which
R327 calls invalid and 20_memory.md R83 marks Valid for a debug event, is a free value: DESIGN CHOICE
(notes/assumptions/68.md). -/
def debugDataAbort (s : State) (wfar : Word) : State :=
  withWord s fun w s => withWord s fun far s =>
    ((((s.setEntry entryWatchpoint).setDfsr (dfsrValue statusDebug none none none w)).setFar far).setWfar wfar).enter
      modeAbt 0x10 (s.pc + 8) true false

/-- No watchpoint match is remembered. -/
def State.clearWatch (s : State) : State := { s with dbg := { s.dbg with watchHit := false } }

/-- A precise Data Abort (60_exceptions.md R523; 20_memory.md R84, 42_cp15_c2_c6_mmu.md R178 for the fault registers,
43_cp15_c7_cache_ops.md R225 for the IFSR after an instruction side operation); in debug state as 46_cp14_debug.md R332
describes it. It has priority over a watchpoint on the same access (60_exceptions.md R540). A watchpoint that an earlier access of
the same instruction hit, of which R540 says nothing, is dropped too: DESIGN CHOICE (notes/assumptions/84.md). -/
def takeDataAbort (f : DataFault) (s : State) : State :=
  withWord s.clearWatch fun w s => withWord s fun wfar s => withWord s fun link s =>
    let s1 := ((s.setDfsr (dfsrValue f.status f.domain f.sd f.write w)).setFar f.mva).setWfar wfar
    let s2 := if f.iside then withWord s1 fun v s => s.setIfsr (v &&& 0x000014FF) else s1
    if s.halted then
      let s3 := s2.setDscr (setBit (setFld s2.dbg.dscr 2 entryDataAbort) 6 true)
      s3.enter modeAbt 0x10 (if s.dbg.touched then link else s.pc + 8) true false
    else s2.enter modeAbt 0x10 (s.pc + 8) true false

/-- An imprecise Data Abort taken before the instruction at the PC (60_exceptions.md R527), recorded in DSCR[7] (46_cp14_debug.md
R304); in debug state as R332 describes it, whatever the A bit is (notes/assumptions/18.md). -/
def takeImpreciseAbort (a : ImpreciseAbort) (s : State) : State :=
  withWord s fun w s => withWord s fun link s =>
    let s1 := ({ s with imprecise := none }.setDscr (setBit s.dbg.dscr 7 true)).setDfsr
      (dfsrValue 0b10110 none (some a.sd) (some a.write) w)
    if s.halted then
      (withWord (s1.setEntry entryDataAbort) fun wfar s => s.setWfar wfar).enter modeAbt 0x10
        (if s.dbg.touched then link else s.pc + 8) true false
    else s1.enter modeAbt 0x10 (s.pc + 8) true false

/-- The WFAR after a Prefetch Abort that is no debug event: unchanged (60_exceptions.md R522, 20_memory.md R84) or a free value
(42_cp15_c2_c6_mmu.md R178), a draw between the two: DESIGN CHOICE (notes/assumptions/62.md). -/
def openWfar (s : State) : State :=
  withBool s fun unchanged s => withWord s fun w s => s.setWfar (if unchanged then s.cp15.wfar else w)

/-- A Prefetch Abort of the instruction at the PC (60_exceptions.md R522, 42_cp15_c2_c6_mmu.md R176). -/
def takePrefetchAbort (f : FetchFault) (s : State) : State :=
  withWord (openWfar s) fun w s => (s.setIfsr (ifsrValue f.status f.sd w)).enter modeAbt 0x0C (s.pc + 4) true false

/-- An Undefined Instruction exception (60_exceptions.md R515, D33); in debug state r14_und is a free value
(46_cp14_debug.md R332). -/
def takeUndefined (s : State) : State :=
  if s.halted then withWord s fun link s => s.enter modeUnd 0x04 link false false
  else s.enter modeUnd 0x04 (s.pc + (if s.jBit then 4 else s.instrLength)) false false

/-- A Software Interrupt (60_exceptions.md R516). -/
def takeSwi (s : State) : State := s.enter modeSvc 0x08 (s.pc + s.instrLength) false false

/-- IRQ and FIQ, taken before the instruction at the PC (60_exceptions.md R520, R521). -/
def takeIrq (s : State) : State := s.enter modeIrq 0x18 (s.pc + 4) true false
def takeFiq (s : State) : State := s.enter modeFiq 0x1C (s.pc + 4) true true

/-- The BKPT instruction at the PC, by debug mode (46_cp14_debug.md R322); ignored in debug state (R331). With no debug mode
it is a Prefetch Abort that is no debug event. -/
def takeBkpt (s : State) : State :=
  if s.halted then s
  else match s.debugMode with
    | .halting => enterDebugState s entryBkpt
    | .monitor => debugPrefetchAbort s entryBkpt
    | .disabled => debugPrefetchAbort (openWfar s) entryBkpt

/-- Take the exception an instruction raised. -/
def takeException (x : Exc) (s : State) : State :=
  match x with
  | .undefined => takeUndefined s
  | .swi => takeSwi s
  | .prefetchAbort f => takePrefetchAbort f s
  | .dataAbort f => takeDataAbort f s
  | .bkpt => takeBkpt s

/-- The outcome of an instruction: its exception, if it raised one, is taken. In debug state a Software Interrupt, and an
Undefined instruction while the CPSR names Jazelle state, are Unpredictable (46_cp14_debug.md R332, U33). -/
def finish (r : Res Unit) : Host.Outcome State Fault Refusal :=
  match r with
  | .ok _ s => .next s
  | .exc x s =>
    if s.halted && (x == .swi || (x == .undefined && s.jBit)) then .refused .debugStateUnpredictable
    else .next (takeException x s)
  | .fault f => .fault f
  | .refused r => .refused r

/-! ## Writing the CPSR and the PC -/

/-- A CPSR value written by an instruction: NMFI limits the F bit (60_exceptions.md R531), an illegal mode leaves the
machine stuck (10_state.md R33, U1); in debug state the write is noted and a switch from ARM to Jazelle state clears
R5[9:0] (46_cp14_debug.md R333). -/
def State.writeCpsr (s : State) (v : Word) : State :=
  let new := if s.ctlNmfi then setBit v 6 (s.fBit && bitAt v 6) else v
  let t := { s.setCpsr new with stuck := s.stuck || !legalMode (fld new 0 5) }
  if s.halted then
    let t := { t with dbg := { t.dbg with touched := true } }
    if !s.tBit && !s.jBit && t.jBit && !t.tBit then t.setBankReg .usr 5 (setFld (t.bankReg .usr 5) 0 (0#10)) else t
  else t

/-- `CPSRWriteByReturn` (47_core_instructions.md R723). -/
def cpsrByReturn (s : State) (v : Word) : Word :=
  if s.privileged then v &&& psrMask
  else setFld (setFld (v &&& psrMask) 0 (fld s.cpsr 0 5)) 6 (fld s.cpsr 6 3)

/-- The PC written by an instruction (46_cp14_debug.md R333 for debug state). -/
def State.writePc (s : State) (v : Word) : State := (s.setPc v).markWritten

/-- `BXWritePC` (47_core_instructions.md R705); bits [1:0] = b10 are UNPREDICTABLE (U36). -/
def bxWritePc (s : State) (v : Word) : Res Unit :=
  if bitAt v 0 then .ok () ((s.setCpsr (setBit s.cpsr 5 true)).writePc (v &&& 0xFFFFFFFE))
  else if bitAt v 1 then .refused .misalignedPc
  else .ok () ((s.setCpsr (setBit s.cpsr 5 false)).writePc v)

/-- `ALUWritePC` (47_core_instructions.md R706); a debugger may write the byte address of a Jazelle return
(46_cp14_debug.md R333). -/
def aluWritePc (s : State) (v : Word) : Res Unit :=
  if s.tBit then .ok () (s.writePc (v &&& 0xFFFFFFFE))
  else if s.halted && s.jBit then .ok () (s.writePc v)
  else if fld v 0 2 = 0#2 then .ok () (s.writePc v)
  else .refused .misalignedPc

/-- The PC written by a load (47_core_instructions.md R705, R715). -/
def loadWritePc (s : State) (v : Word) : Res Unit :=
  if s.ctlL4 then .ok () (s.writePc (if s.tBit then v &&& 0xFFFFFFFE else v &&& 0xFFFFFFFC))
  else bxWritePc s v

/-- `ReturnWritePC`, after the CPSR has been replaced (47_core_instructions.md R706). -/
def returnWritePc (s : State) (v : Word) : State :=
  if s.tBit then s.writePc (v &&& 0xFFFFFFFE)
  else if s.jBit then s.writePc v
  else s.writePc (v &&& 0xFFFFFFFC)

/-- `ExceptionReturn`: a PSR value to the CPSR, an address to the PC, the pipeline flushed (60_exceptions.md R512,
47_core_instructions.md R723). -/
def exceptionReturn (s : State) (psr target : Word) : State :=
  (returnWritePc (s.writeCpsr (cpsrByReturn s psr)) target).flushPipeline

/-- The return of a data-processing instruction or a load multiple, through the SPSR; User and System mode have none
(60_exceptions.md R512, U30). -/
def returnFromSpsr (s : State) (target : Word) : Res Unit :=
  match s.spsr with
  | none => .refused .noSpsr
  | some psr => .ok () (exceptionReturn s psr target)

/-- Run a meaning if the condition passes, else move on (30_encoding.md R111). -/
def whenPasses (cond : Cond) (s : State) (m : State → Res Unit) : Host.Outcome State Fault Refusal :=
  if s.passes cond then finish (m s) else .next s.advance

/-- Run a branch if the condition passes, else move on; in debug state a branch that fails its condition writes an
Unpredictable value to the PC (46_cp14_debug.md R333). -/
def whenBranches (cond : Cond) (s : State) (m : State → Res Unit) : Host.Outcome State Fault Refusal :=
  if s.passes cond then finish (m s)
  else if s.halted then .next (withWord s fun free s => s.writePc free)
  else .next s.advance

end Sys2Proof.Machine
end

