-- ==== Sys2Proof/Machine/Flags.lean ====
section
/-!
DEFINITION. The condition flags N, Z, C and V that the arithmetic and logical instructions compute
(10_state.md R28, 47_core_instructions.md R750, R773), and the count of leading zeros (R774).
-/

namespace Sys2Proof.Machine

/-- A result with the carry and overflow flags that go with it. -/
structure Sum where
  result : Word
  carry : Bool
  overflow : Bool
deriving DecidableEq, Repr

/-- The sum `x + y + c`: its low 32 bits, the carry out of bit 31, the signed overflow (47_core_instructions.md R750). -/
def addWithCarry (x y : Word) (c : Bool) : Sum :=
  let r := x + y + (if c then 1 else 0)
  { result := r
    carry := decide (2 ^ 32 ≤ x.toNat + y.toNat + c.toNat)
    overflow := x.msb == y.msb && r.msb != x.msb }

/-- The arithmetic flags of a sum (47_core_instructions.md R750). -/
def State.setArithFlags (s : State) (x : Sum) : State := s.setNzcv x.result.msb (x.result == 0) x.carry x.overflow

/-- The logical flags: C from the shifter, V unchanged (47_core_instructions.md R750). -/
def State.setLogicFlags (s : State) (result : Word) (carry : Bool) : State :=
  s.setNzcv result.msb (result == 0) carry s.flagV

/-- N and Z from a result, C and V unchanged (47_core_instructions.md R773). -/
def State.setNz (s : State) (result : Word) : State := s.setNzcv result.msb (result == 0) s.flagC s.flagV

/-- A value moved to an ARM register; with Rd = R15 its top four bits become the flags (30_encoding.md R113). -/
def moveToCore (rd : RegNum) (v : Word) (s : State) : Res Unit :=
  if rd = 15 then .ok () (s.setNzcv (bitAt v 31) (bitAt v 30) (bitAt v 29) (bitAt v 28)).advance
  else .ok () (s.setReg rd v).advance

/-- The number of leading zero bits among the lowest bits of a word, their number given (47_core_instructions.md R774). -/
def leadingZeros (w : Word) : Nat → Nat
  | 0 => 0
  | n + 1 => if bitAt w n then 0 else leadingZeros w n + 1

end Sys2Proof.Machine
end

