-- ==== Sys2Proof/Machine/Branch.lean ====
section
/-!
DEFINITION. The meanings of the branches, the multiplies and CLZ (47_core_instructions.md R767 to R769, R773, R774).
-/

namespace Sys2Proof.Machine

/-- The target of a branch with an immediate offset (47_core_instructions.md R767). -/
def branchTarget (s : State) (imm : BitVec 24) : Word := s.readPc + (imm.signExtend 32 <<< 2)

/-- The link register holds the address of the next instruction (47_core_instructions.md R767). -/
def State.setLink (s : State) : State := s.setReg 14 s.linkAddress

/-- B (47_core_instructions.md R767). -/
def execB (cond : Cond) (imm : BitVec 24) (s : State) : Host.Outcome State Fault Refusal :=
  whenBranches cond s fun s => .ok () (s.writePc (branchTarget s imm))

/-- BL (47_core_instructions.md R767). -/
def execBl (cond : Cond) (imm : BitVec 24) (s : State) : Host.Outcome State Fault Refusal :=
  whenBranches cond s fun s => .ok () (s.setLink.writePc (branchTarget s imm))

/-- BX; Rm = 15 is refused (47_core_instructions.md R768). -/
def execBx (cond : Cond) (rm : RegNum) (s : State) : Host.Outcome State Fault Refusal :=
  whenBranches cond s fun s => if rm = 15 then .refused .unpredictableForm else bxWritePc s (s.reg rm)

/-- BLX, register form; Rm = 15 is UNPREDICTABLE (47_core_instructions.md R769). -/
def execBlxReg (cond : Cond) (rm : RegNum) (s : State) : Host.Outcome State Fault Refusal :=
  whenBranches cond s fun s => if rm = 15 then .refused .unpredictableForm else bxWritePc s.setLink (s.reg rm)

/-- BXJ behaves as BX (47_core_instructions.md R708, D43). -/
def execBxj (cond : Cond) (rm : RegNum) (s : State) : Host.Outcome State Fault Refusal :=
  whenBranches cond s fun s => if rm = 15 then .refused .unpredictableForm else bxWritePc s (s.reg rm)

/-- BLX, immediate form (47_core_instructions.md R769). -/
def execBlxImm (h : Bool) (imm : BitVec 24) (s : State) : Host.Outcome State Fault Refusal :=
  finish (.ok () ((s.setLink.setCpsr (setBit s.cpsr 5 true)).writePc (branchTarget s imm + flag h 1)))

/-- MUL; r15 is UNPREDICTABLE (47_core_instructions.md R773). -/
def execMul (cond : Cond) (sb : Bool) (rd rs rm : RegNum) (s : State) : Host.Outcome State Fault Refusal :=
  whenPasses cond s fun s =>
    let v := s.reg rm * s.reg rs
    if [rd, rs, rm].contains 15 then .refused .unpredictableForm
    else .ok () ((if sb then s.setNz v else s).setReg rd v).advance

/-- MLA; r15 is UNPREDICTABLE (47_core_instructions.md R773). -/
def execMla (cond : Cond) (sb : Bool) (rd rn rs rm : RegNum) (s : State) : Host.Outcome State Fault Refusal :=
  whenPasses cond s fun s =>
    let v := s.reg rm * s.reg rs + s.reg rn
    if [rd, rn, rs, rm].contains 15 then .refused .unpredictableForm
    else .ok () ((if sb then s.setNz v else s).setReg rd v).advance

/-- CLZ; to the PC it is UNPREDICTABLE (47_core_instructions.md R774, U37). -/
def execClz (cond : Cond) (rd rm : RegNum) (s : State) : Host.Outcome State Fault Refusal :=
  whenPasses cond s fun s =>
    if rd = 15 then .refused .clzPc
    else .ok () (s.setReg rd (BitVec.ofNat 32 (leadingZeros (s.reg rm) 32))).advance

end Sys2Proof.Machine
end

