-- ==== Sys2Proof/Machine/Device.lean ====
section
/-!
DEFINITION. The private memory region (49_private_memory_region.md): the Snoop Control Unit's registers, the private
timers and watchdogs, the Interrupt Distributor and the CPU interrupt interfaces.
-/

namespace Sys2Proof.Machine

/-- The number of a CPU. -/
def cpuNat : CpuId → Nat
  | .cpu0 => 0
  | .cpu1 => 1
  | .cpu2 => 2
  | .cpu3 => 3

/-- The CPU of a number, CPU 3 above it. -/
def cpuOf : Nat → CpuId
  | 0 => .cpu0
  | 1 => .cpu1
  | 2 => .cpu2
  | _ => .cpu3

/-- The four CPU numbers. -/
def allCpus : List CpuId := [.cpu0, .cpu1, .cpu2, .cpu3]

/-- `b` with the `n` bits that begin at bit `k` replaced by `x`. -/
def setField {w n : Nat} (b : BitVec w) (k : Nat) (x : BitVec n) : BitVec w :=
  (b &&& ~~~ ((BitVec.allOnes n).setWidth w <<< k)) ||| (x.setWidth w <<< k)

/-- `old` with the bits of `mask` taken from `v`. -/
def merge {w : Nat} (old v mask : BitVec w) : BitVec w := (old &&& ~~~ mask) ||| (v &&& mask)

/-- Parts of the devices replaced. -/
def Devices.setScu (d : Devices) (x : Scu) : Devices := { d with scu := x }
def Devices.setDist (d : Devices) (x : Distributor) : Devices := { d with dist := x }
def Devices.setCpu (d : Devices) (n : CpuId) (x : CpuIrq) : Devices := { d with cpus := d.cpus.set n x }
def Devices.setTimer (d : Devices) (n : CpuId) (x : Timer) : Devices := { d with timers := d.timers.set n x }
def State.setDev (s : State) (d : Devices) : State := { s with dev := d }

/-! ## The interrupt controller -/

/-- The number of supported interrupt IDs (49_private_memory_region.md R430). -/
def nid (c : Config) : Nat := 32 + 32 * c.irqGroups.toNat

/-- The enable bit of an ID as a CPU sees it (49_private_memory_region.md R433). -/
def irqEnabled (d : Devices) (n : CpuId) (id : Nat) : Bool :=
  if id < 16 then true else if id < 32 then bitAt (d.cpus.get n).enabled id else bitAt d.dist.enabled id

/-- The priority of an ID as a CPU sees it (49_private_memory_region.md R436). -/
def irqPriority (d : Devices) (n : CpuId) (id : Nat) : BitVec 4 :=
  if id < 32 then fld (d.cpus.get n).priority (4 * id) 4 else fld d.dist.priority (4 * id) 4

/-- The target list of an ID (49_private_memory_region.md R437). -/
def irqTargets (d : Devices) (id : Nat) : BitVec 4 := fld d.dist.targets (4 * id) 4

/-- An ID is rising edge sensitive (49_private_memory_region.md R438). -/
def irqEdge (d : Devices) (id : Nat) : Bool := bitAt d.dist.config (2 * id + 1)

/-- An ID of 32 or more uses the 1-N model (49_private_memory_region.md R438); 29 to 31 do not. -/
def irqOneN (d : Devices) (id : Nat) : Bool := decide (32 ≤ id) && bitAt d.dist.config (2 * id)

/-- A CPU interface that no longer takes an earlier acknowledge of another CPU for simultaneous with its next one, where `p`
says so of the interrupt remembered (49_private_memory_region.md R459, D32). -/
def CpuIrq.forget (q : CpuIrq) (p : IrqChoice → Bool) : CpuIrq := { q with shadow := q.shadow.filter fun x => !p x }

/-- No CPU takes an earlier acknowledge for simultaneous, where `p` says so of the interrupt remembered. -/
def Devices.forget (d : Devices) (p : IrqChoice → Bool) : Devices := { d with cpus := d.cpus.map fun q => q.forget p }

/-- Make an ID pending for the CPUs of a mask: a new assertion where it is not pending yet (49_private_memory_region.md R457).
It may change what is selected there, and it is no earlier assertion of that ID anywhere: no acknowledge before it counts as
simultaneous (R459, D32). -/
def setPending (d : Devices) (id : Nat) (mask : BitVec 4) : Devices :=
  allCpus.foldl (fun d k =>
    if bitAt mask (cpuNat k) && !bitAt (d.cpus.get k).pending id then
      let d := d.forget fun x => x.id == id
      let q := (d.cpus.get k).forget fun _ => true
      d.setCpu k { q with pending := setField q.pending id 1#1 }
    else d) d

/-- Make an ID of 29 or more not pending for the CPUs of a mask. -/
def clearPending (d : Devices) (id : Nat) (mask : BitVec 4) : Devices :=
  allCpus.foldl (fun d k =>
    if bitAt mask (cpuNat k) then
      let q := d.cpus.get k
      d.setCpu k { q with pending := setField q.pending id 0#1 }
    else d) d

/-- An ID is Active for no CPU. -/
def irqInactive (d : Devices) (id : Nat) : Bool := allCpus.all fun k => !bitAt (d.cpus.get k).active id

/-- The level sensitive interrupts become pending: a HIGH line of an enabled ID that is Active nowhere, and the nIRQ pin
of a CPU whose interface is enabled, as ID 31 (49_private_memory_region.md R457, R460). A line that is already Pending on one CPU
becomes Pending at once on another that a write of its target list adds, as R457's pseudocode has it and R437's words leave open:
DESIGN CHOICE (notes/assumptions/64.md). ID 31 is Active nowhere when this CPU's copy is not: of a banked ID the other CPUs'
copies, which R457's words "every k" take in, are other lines (R443): DESIGN CHOICE (notes/assumptions/83.md). -/
def settle (d : Devices) : Devices :=
  let d := if d.dist.lines = 0 then d else
    (List.range 256).foldl (fun d id =>
      if decide (32 ≤ id) && bitAt d.dist.lines id && !irqEdge d id && bitAt d.dist.enabled id && irqInactive d id
      then setPending d id (irqTargets d id) else d) d
  allCpus.foldl (fun d k =>
    let q := d.cpus.get k
    if q.nIrq && q.enable && bitAt q.enabled 31 && !bitAt q.active 31 then setPending d 31 (1#4 <<< cpuNat k) else d) d

/-- A change of an INT line: a rising edge makes an edge sensitive ID pending (49_private_memory_region.md R457). -/
def setLine (c : Config) (d : Devices) (id : Nat) (high : Bool) : Devices :=
  if decide (32 ≤ id) && decide (id < nid c) then
    let rising := high && !bitAt d.dist.lines id
    let d := d.setDist { d.dist with lines := setField d.dist.lines id (BitVec.ofBool high) }
    settle (if rising && irqEdge d id then setPending d id (irqTargets d id) else d)
  else d

/-- The pending and enabled interrupts of a CPU, by rising ID and source (49_private_memory_region.md R458). -/
def irqCandidates (c : Config) (d : Devices) (n : CpuId) : List IrqChoice :=
  let q := d.cpus.get n
  let ipis := (List.range 64).filterMap fun k =>
    if bitAt q.ipi k then
      some { id := k / 4, src := BitVec.ofNat 2 k, prio := irqPriority d n (k / 4) : IrqChoice }
    else none
  let others := if q.pending = 0 then [] else (List.range 256).filterMap fun id =>
    if decide (29 ≤ id) && decide (id < nid c) && bitAt q.pending id && irqEnabled d n id then
      some { id := id, src := 0, prio := irqPriority d n id : IrqChoice }
    else none
  (if q.ipi = 0 then [] else ipis) ++ others

/-- `Select(k)`: the candidate of highest priority, of equal ones the first (49_private_memory_region.md R458). -/
def irqSelect (c : Config) (d : Devices) (n : CpuId) : Option IrqChoice :=
  if d.dist.enable then
    (irqCandidates c d n).foldl (fun best x =>
      match best with
      | none => some x
      | some b => if x.prio.toNat < b.prio.toNat then some x else some b) none
  else none

/-- `Accept(k, p)` (49_private_memory_region.md R451, R452, R458). -/
def irqAccept (q : CpuIrq) (p : BitVec 4) : Bool :=
  decide (p.toNat < q.mask.toNat) &&
    match q.stack with
    | [] => true
    | top :: _ =>
      q.binaryPoint != 7 &&
        decide (p.toNat >>> (q.binaryPoint.toNat - 3) < top.prio.toNat >>> (q.binaryPoint.toNat - 3))

/-- `IRQRequest(k)` (49_private_memory_region.md R458). -/
def irqRequest (c : Config) (d : Devices) (n : CpuId) : Bool :=
  let q := d.cpus.get n
  if q.enable then
    match irqSelect c d n with
    | none => false
    | some x => irqAccept q x.prio
  else q.nIrq

/-- The value of the Interrupt Acknowledge format (49_private_memory_region.md R453). -/
def ackValue (x : IrqChoice) : Word := put x.src 10 ||| put (BitVec.ofNat 10 x.id) 0

/-- An interrupt becomes Active on a CPU and its priority the running one (49_private_memory_region.md R453). -/
def activate (d : Devices) (n : CpuId) (x : IrqChoice) : Devices :=
  let q := d.cpus.get n
  d.setCpu n { q with active := setField q.active x.id 1#1, stack := x :: q.stack, shadow := none }

/-- Remember the acknowledged 1-N interrupt for the other CPUs on which it was selected and accepted
(49_private_memory_region.md R459, D32). -/
def shadowOthers (c : Config) (d0 d : Devices) (n : CpuId) (x : IrqChoice) : Devices :=
  allCpus.foldl (fun d k =>
    match irqSelect c d0 k with
    | some y =>
      if decide (cpuNat k ≠ cpuNat n) && decide (y.id = x.id) && y.src == x.src && irqAccept (d0.cpus.get k) y.prio then
        d.setCpu k { d.cpus.get k with shadow := some y }
      else d
    | none => d) d

/-- The acknowledged interrupt leaves the Pending state: on its CPU, with the 1-N model on all
(49_private_memory_region.md R453, R459). -/
def unpend (c : Config) (d : Devices) (n : CpuId) (x : IrqChoice) : Devices :=
  if x.id < 16 then
    let bit := 4 * x.id + x.src.toNat
    let one := bitAt (d.cpus.get n).ipiOneN bit
    let d' := allCpus.foldl (fun d k =>
      if one || decide (cpuNat k = cpuNat n) then
        let q := d.cpus.get k
        d.setCpu k { q with ipi := setField q.ipi bit 0#1 }
      else d) d
    if one then shadowOthers c d d' n x else d'
  else if irqOneN d x.id then shadowOthers c d (clearPending d x.id 0xF) n x
  else clearPending d x.id (1#4 <<< cpuNat n)

/-- Acknowledge the selected interrupt, if it is accepted (49_private_memory_region.md R453, R458). -/
def irqAckSelected (n : CpuId) (s : State) : Word × State :=
  match irqSelect s.cfg s.dev n with
  | none => (0x3FF, s)
  | some x =>
    if irqAccept (s.dev.cpus.get n) x.prio then (ackValue x, s.setDev (settle (activate (unpend s.cfg s.dev n x) n x)))
    else (0x3FF, s)

/-- A read of the Interrupt Acknowledge Register (49_private_memory_region.md R453): where another CPU has just acknowledged the
1-N interrupt that was selected here, and nothing has changed the selection since, the same ID as if simultaneous, or what the
register answers now, a draw (R459, D32). The same ID is Pending nowhere any more: the first acknowledge has cleared it on every
CPU, and a new assertion would have ended the draw. -/
def irqAck (n : CpuId) (s : State) : Word × State :=
  match (s.dev.cpus.get n).shadow with
  | none => irqAckSelected n s
  | some x => withBool s fun same s =>
      if same then (ackValue x, s.setDev (settle (activate s.dev n x)))
      else irqAckSelected n (s.setDev (s.dev.setCpu n { s.dev.cpus.get n with shadow := none }))

/-- A write of the End of Interrupt Register (49_private_memory_region.md R454, D32). An ID that was acknowledged again while it
was Active stands in the stack twice; one write ends its Active state and drops the newest of the two, and a second write of it
has no effect: DESIGN CHOICE (notes/assumptions/75.md). On no CPU is an acknowledge of the ID before it simultaneous with one after
it: DESIGN CHOICE (notes/assumptions/92.md). -/
def irqEoi (d : Devices) (n : CpuId) (v : Word) : Devices :=
  let id := (fld v 0 10).toNat
  let q := d.cpus.get n
  if decide (id < 256) && bitAt q.active id then
    settle ((d.setCpu n { q with active := setField q.active id 0#1, stack := q.stack.eraseP fun x => x.id == id }).forget
      fun x => x.id == id)
  else d

/-- A software interrupt of an ID reaches the present CPUs of a mask: an interprocessor interrupt below ID 16, IDs 29 and
upwards become pending, 16 to 28 are reserved (49_private_memory_region.md R440). The write that sends it has ended every draw
between simultaneous acknowledges (`distWrite`, R459). -/
def sendSoftwareInterrupt (n : CpuId) (id : Nat) (targets : BitVec 4) (s : State) : State :=
  let t := targets &&& presentMask s.cfg
  let d := s.dev
  if id < 16 then
    let bit := 4 * id + cpuNat n
    let one := BitVec.ofBool (bitAt (d.cpus.get n).oneN id)
    s.setDev (allCpus.foldl (fun d k =>
      if bitAt t (cpuNat k) then
        let q := d.cpus.get k
        d.setCpu k { q with ipi := setField q.ipi bit 1#1, ipiOneN := setField q.ipiOneN bit one }
      else d) d)
  else if id < 29 then s
  else s.setDev (setPending d id t)

/-- A write of the Software Interrupt Register (49_private_memory_region.md R440); the reserved target filter draws. -/
def softwareInterrupt (n : CpuId) (v : Word) (s : State) : State :=
  let id := (fld v 0 10).toNat
  let mine : BitVec 4 := 1#4 <<< cpuNat n
  if nid s.cfg ≤ id then s
  else match fld v 24 2 with
    | 0#2 => sendSoftwareInterrupt n id (fld v 16 4) s
    | 1#2 => sendSoftwareInterrupt n id (~~~ mine) s
    | 2#2 => sendSoftwareInterrupt n id mine s
    | _ => withWord s fun w s => sendSoftwareInterrupt n id (fld w 0 4) s

/-! ## The distributor's registers -/

/-- The writable IDs of the register of one-bit fields number `r` (49_private_memory_region.md R433, R434). -/
def irqWritable (c : Config) (r : Nat) : Word :=
  if r = 0 then 0xE0000000 else if r ≤ c.irqGroups.toNat then 0xFFFFFFFF else 0

/-- The OR of a field over the CPUs. -/
def orCpus (d : Devices) (f : CpuIrq → Word) : Word :=
  f d.cpus.c0 ||| f d.cpus.c1 ||| f d.cpus.c2 ||| f d.cpus.c3

/-- Enable register `r` as CPU `n` reads it (49_private_memory_region.md R433). -/
def enableWord (d : Devices) (n : CpuId) (r : Nat) : Word :=
  if r = 0 then 0x0000FFFF ||| (d.cpus.get n).enabled else fld d.dist.enabled (32 * r) 32

/-- The pending interprocessor interrupts of a CPU, one bit for each ID (49_private_memory_region.md R434). -/
def ipiWord (q : CpuIrq) : Word :=
  (List.range 16).foldl (fun w id => if fld q.ipi (4 * id) 4 = 0#4 then w else setBit w id true) 0

/-- Pending register `r` as CPU `n` reads it (49_private_memory_region.md R434). -/
def pendingWord (d : Devices) (n : CpuId) (r : Nat) : Word :=
  if r = 0 then ipiWord (d.cpus.get n) ||| fld (d.cpus.get n).pending 0 32
  else orCpus d fun q => fld q.pending (32 * r) 32

/-- Active register `r` as CPU `n` reads it (49_private_memory_region.md R435). -/
def activeWord (d : Devices) (n : CpuId) (r : Nat) : Word :=
  if r = 0 then fld (d.cpus.get n).active 0 32 else orCpus d fun q => fld q.active (32 * r) 32

/-- Four 4-bit fields spread to the high or low halves of the bytes of a word. -/
def spread4 (x : BitVec 16) (shift : Nat) : Word :=
  put (fld x 0 4) shift ||| put (fld x 4 4) (8 + shift) ||| put (fld x 8 4) (16 + shift) ||| put (fld x 12 4) (24 + shift)

/-- The inverse of `spread4`. -/
def gather4 (v : Word) (shift : Nat) : BitVec 16 :=
  fld v (24 + shift) 4 ++ fld v (16 + shift) 4 ++ fld v (8 + shift) 4 ++ fld v shift 4

/-- The IDs of a group of four that have fields, as a mask of 4-bit fields: 0 to 15, 29 to 31 and the supported hardware
IDs (49_private_memory_region.md R436). -/
def fieldMask (c : Config) (r : Nat) : BitVec 16 :=
  if r < 4 then 0xFFFF else if r < 7 then 0 else if r = 7 then 0xFFF0 else if 4 * r < nid c then 0xFFFF else 0

/-- Priority register `r` (49_private_memory_region.md R436). -/
def priorityWord (c : Config) (d : Devices) (n : CpuId) (r : Nat) : Word :=
  let x : BitVec 16 := if r < 8 then fld (d.cpus.get n).priority (16 * r) 16 else fld d.dist.priority (16 * r) 16
  spread4 (x &&& fieldMask c r) 4

def setPriorityWord (c : Config) (d : Devices) (n : CpuId) (r : Nat) (v : Word) : Devices :=
  let x := gather4 v 4 &&& fieldMask c r
  if r < 8 then
    let q := d.cpus.get n
    d.setCpu n { q with priority := setField q.priority (16 * r) x }
  else d.setDist { d.dist with priority := setField d.dist.priority (16 * r) x }

/-- CPU Targets register `r` (49_private_memory_region.md R437). -/
def targetsWord (d : Devices) (n : CpuId) (r : Nat) : Word :=
  if r < 7 then 0
  else if r = 7 then (0x01010100 : Word) <<< cpuNat n
  else spread4 (fld d.dist.targets (16 * r) 16) 0

def setTargetsWord (c : Config) (d : Devices) (r : Nat) (v : Word) : Devices :=
  if r < 8 then d
  else
    let m := presentMask c
    let x := gather4 v 0 &&& (m ++ m ++ m ++ m) &&& fieldMask c r
    d.setDist { d.dist with targets := setField d.dist.targets (16 * r) x }

/-- Sixteen bits spread to the even bits of a word, and back. -/
def spread1 (x : BitVec 16) : Word :=
  (List.range 16).foldl (fun w k => if bitAt x k then setBit w (2 * k) true else w) 0

def gather1 (v : Word) : BitVec 16 :=
  (List.range 16).foldl (fun (w : BitVec 16) k => if bitAt v (2 * k) then setField w k 1#1 else w) 0

/-- Configuration register `r` (49_private_memory_region.md R438). -/
def configWord (d : Devices) (n : CpuId) (r : Nat) : Word :=
  if r = 0 then 0xAAAAAAAA ||| spread1 (d.cpus.get n).oneN
  else if r = 1 then 0x28000000
  else fld d.dist.config (32 * r) 32

def setConfigWord (c : Config) (d : Devices) (n : CpuId) (r : Nat) (v : Word) : Devices :=
  if r = 0 then d.setCpu n { d.cpus.get n with oneN := gather1 v }
  else if r = 1 then d
  else if 16 * r < nid c then d.setDist { d.dist with config := setField d.dist.config (32 * r) v }
  else d

/-- A read of the distributor register at an offset from its base (49_private_memory_region.md R430, R442). -/
def distRead (n : CpuId) (off : Nat) (s : State) : Word × State :=
  let d := s.dev
  let r := off % 0x80 / 4
  if off = 0x000 then (flag d.dist.enable 0, s)
  else if off = 0x004 then (put s.cfg.ncpuMinusOne 5 ||| put s.cfg.irqGroups 0, s)
  else if (0x100 ≤ off ∧ off < 0x120) ∨ (0x180 ≤ off ∧ off < 0x1A0) then (enableWord d n r, s)
  else if (0x200 ≤ off ∧ off < 0x220) ∨ (0x280 ≤ off ∧ off < 0x2A0) then (pendingWord d n r, s)
  else if 0x300 ≤ off ∧ off < 0x320 then (activeWord d n r, s)
  else if 0x400 ≤ off ∧ off < 0x500 then (priorityWord s.cfg d n ((off - 0x400) / 4), s)
  else if 0x800 ≤ off ∧ off < 0x900 then (targetsWord d n ((off - 0x800) / 4), s)
  else if 0xC00 ≤ off ∧ off < 0xC40 then (configWord d n ((off - 0xC00) / 4), s)
  else if 0xD00 ≤ off ∧ off < 0xD20 then ((if r = 0 then 0 else fld d.dist.lines (32 * r) 32), s)
  else if off = 0xF00 then s.drawWord
  else if off = 0xFE0 then (0x90, s)
  else if off = 0xFE4 then (0x13, s)
  else if off = 0xFE8 then (0x04, s)
  else if off = 0xFEC then (0x00, s)
  else if off = 0xFF0 then (0x0D, s)
  else if off = 0xFF4 then (0xF0, s)
  else if off = 0xFF8 then (0x05, s)
  else if off = 0xFFC then (0xB1, s)
  else (0, s)

/-- Every ID of a word of bits, with a device operation applied for each bit that is set. -/
def forBits (v : Word) (r : Nat) (f : Devices → Nat → Devices) (d : Devices) : Devices :=
  (List.range 32).foldl (fun d b => if bitAt v b then f d (32 * r + b) else d) d

/-- A write of the distributor register at an offset; only the bits of `mask` are written
(49_private_memory_region.md R400, R430). It may change what is selected, so no acknowledge before it counts as simultaneous with
one after it (R459, D32). A level that stands while the CPU Targets are written is asserted for the new list
(R457: while the line is HIGH; R437 leaves a Pending or Active interrupt as it is). -/
def distWrite (n : CpuId) (off : Nat) (v mask : Word) (s : State) : State :=
  let d := s.dev.forget fun _ => true
  let r := off % 0x80 / 4
  let c := s.cfg
  let bits := v &&& mask &&& irqWritable c r
  let mine : BitVec 4 := 1#4 <<< cpuNat n
  if off = 0x000 then s.setDev (d.setDist { d.dist with enable := bitAt (merge (flag d.dist.enable 0) v mask) 0 })
  else if 0x100 ≤ off ∧ off < 0x120 then
    if r = 0 then s.setDev (settle (d.setCpu n { d.cpus.get n with enabled := (d.cpus.get n).enabled ||| bits }))
    else s.setDev (settle (d.setDist { d.dist with
      enabled := setField d.dist.enabled (32 * r) (fld d.dist.enabled (32 * r) 32 ||| bits) }))
  else if 0x180 ≤ off ∧ off < 0x1A0 then
    if r = 0 then s.setDev (d.setCpu n { d.cpus.get n with enabled := (d.cpus.get n).enabled &&& ~~~ bits })
    else s.setDev (d.setDist { d.dist with
      enabled := setField d.dist.enabled (32 * r) (fld d.dist.enabled (32 * r) 32 &&& ~~~ bits) })
  else if 0x200 ≤ off ∧ off < 0x220 then
    s.setDev (forBits bits r (fun d id => setPending d id (if id < 32 then mine else irqTargets d id)) d)
  else if 0x280 ≤ off ∧ off < 0x2A0 then
    s.setDev (settle (forBits bits r (fun d id => clearPending d id (if id < 32 then mine else 0xF)) d))
  else if 0x400 ≤ off ∧ off < 0x500 then
    let k := (off - 0x400) / 4
    s.setDev (setPriorityWord c d n k (merge (priorityWord c d n k) v mask))
  else if 0x800 ≤ off ∧ off < 0x900 then
    let k := (off - 0x800) / 4
    s.setDev (settle (setTargetsWord c d k (merge (targetsWord d n k) v mask)))
  else if 0xC00 ≤ off ∧ off < 0xC40 then
    let k := (off - 0xC00) / 4
    s.setDev (settle (setConfigWord c d n k (merge (configWord d n k) v mask)))
  else if off = 0xF00 then softwareInterrupt n (v &&& mask) (s.setDev d)
  else s

/-! ## The CPU interrupt interface -/

/-- A read of CPU `n`'s interrupt interface (49_private_memory_region.md R450 to R456). -/
def ifaceRead (n : CpuId) (off : Nat) (s : State) : Word × State :=
  let q := s.dev.cpus.get n
  if off = 0x00 then (flag q.enable 0, s)
  else if off = 0x04 then (put q.mask 4, s)
  else if off = 0x08 then (put q.binaryPoint 0, s)
  else if off = 0x0C then irqAck n s
  else if off = 0x10 then s.drawWord
  else if off = 0x14 then
    (put (match q.stack with
      | [] => 0xF#4
      | x :: _ => x.prio) 4, s)
  else if off = 0x18 then
    ((match irqSelect s.cfg s.dev n with
      | none => 0x3FF
      | some x => ackValue x), s)
  else (0, s)

/-- A write of CPU `n`'s interrupt interface (49_private_memory_region.md R450 to R454). A write of the Control, Priority Mask or
Binary Point register may change what is accepted: no acknowledge of another CPU before it is simultaneous with one of this CPU
after it: DESIGN CHOICE (notes/assumptions/92.md). -/
def ifaceWrite (n : CpuId) (off : Nat) (v : Word) (s : State) : State :=
  let d := s.dev
  let q := (d.cpus.get n).forget fun _ => true
  if off = 0x00 then s.setDev (settle (d.setCpu n { q with enable := bitAt v 0 }))
  else if off = 0x04 then s.setDev (d.setCpu n { q with mask := fld v 4 4 })
  else if off = 0x08 then
    s.setDev (d.setCpu n { q with binaryPoint := if bitAt v 2 then fld v 0 3 else 0b011 })
  else if off = 0x10 then s.setDev (irqEoi d n v)
  else s

/-! ## The timer and watchdog -/

/-- A read of CPU `n`'s timer and watchdog block (49_private_memory_region.md R410 to R420). -/
def timerRead (n : CpuId) (off : Nat) (s : State) : Word × State :=
  let t := s.dev.timers.get n
  if off = 0x00 then (t.load, s)
  else if off = 0x04 then (t.count, s)
  else if off = 0x08 then (t.control, s)
  else if off = 0x0C then (flag t.event 0, s)
  else if off = 0x20 then (t.wdLoad, s)
  else if off = 0x24 then (t.wdCount, s)
  else if off = 0x28 then (t.wdControl, s)
  else if off = 0x2C then (flag t.wdEvent 0, s)
  else if off = 0x30 then (flag t.wdReset 0, s)
  else if off = 0x34 then s.drawWord
  else (0, s)

/-- The watchdog is in watchdog mode (49_private_memory_region.md R417). -/
def wdMode (t : Timer) : Bool := bitAt t.wdControl 3

/-- A timer and watchdog block after a write (49_private_memory_region.md R410 to R420). -/
def timerWritten (t : Timer) (off : Nat) (v : Word) : Timer :=
  let u := { t with armed := false }
  if off = 0x00 then { u with load := v, count := v }
  else if off = 0x04 then { u with count := v }
  else if off = 0x08 then { u with control := v &&& 0x0000FF07 }
  else if off = 0x0C then { u with event := t.event && !bitAt v 0 }
  else if off = 0x20 then { u with wdLoad := v, wdCount := v }
  else if off = 0x24 then (if wdMode t then u else { u with wdCount := v })
  else if off = 0x28 then { u with wdControl := (v &&& 0x0000FF07) ||| flag (wdMode t || bitAt v 3) 3 }
  else if off = 0x2C then { u with wdEvent := t.wdEvent && !bitAt v 0 }
  else if off = 0x30 then { u with wdReset := t.wdReset && !bitAt v 0 }
  else if off = 0x34 then
    if t.armed && v == 0x87654321 then { u with wdControl := setBit t.wdControl 3 false }
    else { u with armed := v == 0x12345678 }
  else u

/-- One tick of a timer (49_private_memory_region.md R412). -/
def timerTick (n : CpuId) (d : Devices) : Devices :=
  let t := d.timers.get n
  let raise := fun (t : Timer) =>
    let d := d.setTimer n { t with event := true }
    if bitAt t.control 2 then setPending d 29 (1#4 <<< cpuNat n) else d
  if bitAt t.control 0 then
    if t.count ≠ 0 then
      let t := { t with count := t.count - 1 }
      if t.count = 0 then raise t else d.setTimer n t
    else if bitAt t.control 1 then
      let t := { t with count := t.load }
      if t.count = 0 then raise t else d.setTimer n t
    else d
  else d

/-- One tick of a watchdog (49_private_memory_region.md R416). -/
def watchdogTick (n : CpuId) (d : Devices) : Devices :=
  let t := d.timers.get n
  let raise := fun (t : Timer) =>
    if wdMode t then d.setTimer n { t with wdReset := true, resetReq := true }
    else
      let d := d.setTimer n { t with wdEvent := true }
      if bitAt t.wdControl 2 then setPending d 30 (1#4 <<< cpuNat n) else d
  if bitAt t.wdControl 0 then
    if t.wdCount ≠ 0 then
      let t := { t with wdCount := t.wdCount - 1 }
      if t.wdCount = 0 then raise t else d.setTimer n t
    else if !wdMode t && bitAt t.wdControl 1 then
      let t := { t with wdCount := t.wdLoad }
      if t.wdCount = 0 then raise t else d.setTimer n t
    else d
  else d

/-! ## The Snoop Control Unit -/

/-- The size code of a data cache (49_private_memory_region.md R402). -/
def sizeCode : CacheSize → BitVec 2
  | .kb16 => 0b00
  | .kb32 => 0b01
  | .kb64 => 0b10

/-- The SMP bits of the CPUs: this CPU's Auxiliary Control Register bit [5], the others' as the environment sets them
(49_private_memory_region.md R402). -/
def State.smpBits (s : State) : BitVec 4 :=
  setField s.dev.scu.otherSmp (cpuNat s.cfg.cpu) (BitVec.ofBool (bitAt s.cp15.auxControl 5)) &&& presentMask s.cfg

/-- The SCU Configuration Register (49_private_memory_region.md R402). -/
def scuConfiguration (s : State) : Word :=
  let c := s.cfg
  put ((sizeCode c.dcache.c3 ++ sizeCode c.dcache.c2 ++ sizeCode c.dcache.c1 ++ sizeCode c.dcache.c0) &&&
    presentMask2 c) 8 ||| put s.smpBits 4 ||| put c.ncpuMinusOne 0

/-- The SCU's PMUIRQ[11:4] outputs, bit `k` for counter MNk (49_private_memory_region.md R405). -/
def State.scuPmuIrq (s : State) : BitVec 8 := fld s.dev.scu.pmControl 16 8 &&& fld s.dev.scu.pmControl 8 8

/-- The available SCU counters as a mask, two for each CPU (49_private_memory_region.md R405). -/
def scuCounters (c : Config) : BitVec 8 := presentMask2 c

/-- The event number of SCU counter `k` (49_private_memory_region.md R406). -/
def scuEvent (u : Scu) (k : Nat) : BitVec 8 := if k < 4 then fld u.pme0 (8 * k) 8 else fld u.pme1 (8 * (k - 4)) 8

/-- An event number that counts (49_private_memory_region.md R407, D24). -/
def scuCounts (e : BitVec 8) : Bool := (decide (1 ≤ e.toNat) && decide (e.toNat ≤ 19)) || e == 31

/-- The counters of an enabled monitor advance by free amounts and may overflow (49_private_memory_region.md R408, D24). -/
def scuAdvance (s : State) : State :=
  if bitAt s.dev.scu.pmControl 0 then
    (List.range 8).foldl (fun s k =>
      let u := s.dev.scu
      if bitAt (scuCounters s.cfg) k && scuCounts (scuEvent u k) then
        withWord s fun w s => withBool s fun ovf s =>
          s.setDev (s.dev.setScu { u with
            mn := u.mn.setIfInBounds k (u.mn[k]?.getD 0 + w)
            pmControl := setBit u.pmControl (16 + k) (bitAt u.pmControl (16 + k) || ovf) })
      else s) s
  else s

/-- The bytes of `PME0` and `PME1` that belong to available counters (49_private_memory_region.md R406). -/
def scuEventMask (c : Config) (first : Nat) : Word :=
  (List.range 4).foldl (fun (w : Word) k => if bitAt (scuCounters c) (first + k) then setFld w (8 * k) 0xFF#8 else w) 0

/-- A read of an SCU register (49_private_memory_region.md R401 to R408). -/
def scuRead (off : Nat) (s : State) : Word × State :=
  let u := s.dev.scu
  if off = 0x00 then (u.control, s)
  else if off = 0x04 then (scuConfiguration s, s)
  else if off = 0x08 then (put u.cpuStatus 0, s)
  else if off = 0x10 then
    let s := scuAdvance s
    (s.dev.scu.pmControl, s)
  else if off = 0x14 then (u.pme0, s)
  else if off = 0x18 then (u.pme1, s)
  else if 0x1C ≤ off ∧ off < 0x3C then
    let s := scuAdvance s
    (s.dev.scu.mn[(off - 0x1C) / 4]?.getD 0, s)
  else (0, s)

/-- A write of an SCU register by a CPU that may write them; only the bits of `mask` are written
(49_private_memory_region.md R400 to R409). -/
def scuWrite (off : Nat) (v mask : Word) (s : State) : State :=
  let c := s.cfg
  let u := s.dev.scu
  if off = 0x00 then
    let new := merge u.control v mask &&& (if c.ncpuMinusOne = 0 then 0x00003FFE else 0x00003FFF)
    if fld new 1 4 = 0#4 then s else s.setDev (s.dev.setScu { u with control := new })
  else if off = 0x08 then
    let m := fld mask 0 8 &&& presentMask2 c
    s.setDev (s.dev.setScu { u with cpuStatus := merge u.cpuStatus (fld v 0 8) m })
  else if off = 0x0C then
    s.setDev (s.dev.setScu { u with staleTags := u.staleTags &&& ~~~ (fld (v &&& mask) 0 16 &&& presentMask4 c) })
  else if off = 0x10 then
    let s := scuAdvance s
    let u := s.dev.scu
    let flags := fld u.pmControl 16 8 &&& ~~~ fld (v &&& mask) 16 8
    let new := merge u.pmControl v mask
    let u := { u with pmControl := put flags 16 ||| put (fld new 8 8 &&& scuCounters c) 8 ||| put (fld new 0 1) 0 }
    s.setDev (s.dev.setScu (if bitAt (v &&& mask) 1 then { u with mn := Vector.replicate 8 0 } else u))
  else if off = 0x14 then
    let s := scuAdvance s
    s.setDev (s.dev.setScu { s.dev.scu with pme0 := merge u.pme0 v mask &&& scuEventMask c 0 })
  else if off = 0x18 then
    let s := scuAdvance s
    s.setDev (s.dev.setScu { s.dev.scu with pme1 := merge u.pme1 v mask &&& scuEventMask c 4 })
  else if 0x1C ≤ off ∧ off < 0x3C then
    let k := (off - 0x1C) / 4
    let s := scuAdvance s
    let u := s.dev.scu
    if bitAt (scuCounters c) k then
      s.setDev (s.dev.setScu { u with mn := u.mn.setIfInBounds k (merge (u.mn[k]?.getD 0) v mask) })
    else s
  else s

/-! ## The region -/

/-- A physical address lies in the private memory region (49_private_memory_region.md R400). -/
def inRegion (c : Config) (pa : Word) : Bool := fld pa 13 19 == c.periphBase

/-- The offset of an address in the region. -/
def regionOffset (pa : Word) : Nat := (fld pa 0 13).toNat

/-- An offset holds registers that must be accessed as words (49_private_memory_region.md R400). -/
def wordOnly (off : Nat) : Bool := decide (0x100 ≤ off) && decide (off < 0xB00)

/-- The block an offset selects for CPU `n` (49_private_memory_region.md R400). -/
inductive Block where
  | scu | iface (k : CpuId) | timer (k : CpuId) | dist | decerr
deriving DecidableEq, Repr

/-- The block of an offset, with the alias windows' permissions (49_private_memory_region.md R400, R401, D30). -/
def blockOf (s : State) (n : CpuId) (off : Nat) : Block :=
  let alias1 := bitAt s.dev.scu.control (cpuNat n + 5)
  let alias2 := bitAt s.dev.scu.control (cpuNat n + 9)
  if off < 0x100 then .scu
  else if off < 0x200 then .iface n
  else if off < 0x600 then
    let k := cpuOf ((off - 0x200) / 0x100)
    if alias1 && present s.cfg k then .iface k else .decerr
  else if off < 0x700 then .timer n
  else if off < 0xB00 then
    let k := cpuOf ((off - 0x700) / 0x100)
    if alias2 && present s.cfg k then .timer k else .decerr
  else if off < 0x1000 then .decerr
  else .dist

/-- A read of the word at an offset of the region by CPU `n`; `none` is a DECERR response. -/
def regionReadWord (n : CpuId) (off : Nat) (s : State) : Option (Word × State) :=
  match blockOf s n off with
  | .scu => some (scuRead off s)
  | .iface k => some (ifaceRead k (off % 0x100) s)
  | .timer k => some (timerRead k (off % 0x100) s)
  | .dist => some (distRead n (off - 0x1000) s)
  | .decerr => none

/-- A write of the word at an offset of the region by CPU `n`, the bits of `mask` only; `none` is a DECERR response. -/
def regionWriteWord (n : CpuId) (off : Nat) (v mask : Word) (s : State) : Option State :=
  match blockOf s n off with
  | .scu => some (if bitAt s.dev.scu.control (cpuNat n + 1) then scuWrite off v mask s else s)
  | .iface k => some (ifaceWrite k (off % 0x100) v s)
  | .timer k => some (s.setDev (s.dev.setTimer k (timerWritten (s.dev.timers.get k) (off % 0x100) v)))
  | .dist => some (distWrite n (off - 0x1000) v mask s)
  | .decerr => none

/-- The bytes of a word, the lowest first. -/
def bytesOf (w : Word) : List Byte := [fld w 0 8, fld w 8 8, fld w 16 8, fld w 24 8]

/-- A read of `size` bytes at an offset of the region (49_private_memory_region.md R400): the register that holds them is
read once, its bytes in little-endian order. -/
def regionRead (n : CpuId) (off size : Nat) (s : State) : Option (List Byte × State) :=
  (regionReadWord n (off / 4 * 4) s).map fun r => (((bytesOf r.1).drop (off % 4)).take size, r.2)

/-- The word that has bytes at byte position `k`, zeros elsewhere, and its mask. -/
def placeBytes : List Byte → Nat → Word × Word
  | [], _ => (0, 0)
  | b :: t, k => (put b (8 * k) ||| (placeBytes t (k + 1)).1, put 0xFF#8 (8 * k) ||| (placeBytes t (k + 1)).2)

/-- A write of bytes at an offset of the region (49_private_memory_region.md R400). -/
def regionWrite (n : CpuId) (off : Nat) (bytes : List Byte) (s : State) : Option State :=
  let p := placeBytes bytes (off % 4)
  regionWriteWord n (off / 4 * 4) p.1 p.2 s

/-- The model refuses an access of a size the register does not allow (U34), also in an alias window that is denied or of an absent
CPU, which answers an access of a word with DECERR (D30); no rule orders the two: DESIGN CHOICE (notes/assumptions/91.md). -/
def regionRefuses (off size : Nat) : Bool := wordOnly off && (decide (size ≠ 4) || decide (off % 4 ≠ 0))

end Sys2Proof.Machine
end

