-- ==== Sys2Proof/Machine/Cache.lean ====
section
/-!
DEFINITION. The memory system behind translation: the level two system, the data and instruction caches, the store buffer
(20_memory.md R90, R95, R99, 92_eei_decisions.md D3), and the accesses of the other agents.
-/

namespace Sys2Proof.Machine

/-- The answer of the level two system to a transfer of `n` bytes that begins at `pa` (92_eei_decisions.md D5). -/
def busErrorIn (c : Config) (pa : Word) : Nat → Option BusError
  | 0 => none
  | n + 1 => match busError c pa with
    | some e => some e
    | none => busErrorIn c (pa + 1) n

/-- The state with the memory replaced. -/
def State.setMem (s : State) (m : Mem) : State := { s with mem := m }

/-- An imprecise external abort is reported: the response arrives now or later, and a second one merges with the first
(20_memory.md R85, 60_exceptions.md R527, D34). Of two that merge the first one's SD and direction are kept, and two responses that
are still outstanding merge already then: DESIGN CHOICE (notes/assumptions/93.md). -/
def raiseImprecise (a : ImpreciseAbort) (s : State) : State :=
  withBool s fun now s =>
    if now then { s with imprecise := some (s.imprecise.getD a) }
    else { s with inFlight := some (s.inFlight.getD a) }

/-- The outstanding bus response arrives (60_exceptions.md R527, D34). -/
def busResponse (s : State) : State :=
  match s.inFlight with
  | none => s
  | some a => { s with imprecise := some (s.imprecise.getD a), inFlight := none }

/-- A write to the level two system; an error is reported as an imprecise abort and the data is lost
(20_memory.md R85). -/
def busWrite (pa : Word) (bytes : List Byte) (s : State) : State :=
  match busErrorIn s.cfg pa bytes.length with
  | some e => raiseImprecise { sd := errorSd e, write := true } s
  | none => s.setMem (s.mem.writeBytes pa bytes)

/-! ## Caches -/

/-- The logarithm of the number of sets of a cache way (43_cp15_c7_cache_ops.md R220). -/
def setBitsOf : CacheSize → Nat
  | .kb16 => 7
  | .kb32 => 8
  | .kb64 => 9

/-- The set of an address in a cache of a size (20_memory.md R95, R99). -/
def setOf (z : CacheSize) (a : Word) : Nat := a.toNat / 32 % 2 ^ setBitsOf z

/-- This CPU's data cache size. -/
def dsize (c : Config) : CacheSize := c.dcache.get c.cpu

/-- The line number of a physical address. -/
def lineTag (pa : Word) : BitVec 27 := fld pa 5 27

/-- The first address of a line. -/
def tagAddr (tag : BitVec 27) : Word := put tag 5

/-- The 32 bytes of a line in memory. -/
def lineBytes (m : Mem) (tag : BitVec 27) : Vector Byte 32 :=
  Vector.ofFn fun i : Fin 32 => m.read ((tagAddr tag).toNat + i.val)

/-- A line with bytes written from an offset upward. -/
def Line.put (l : Line) (off : Nat) : List Byte → Line
  | [] => l
  | b :: t => Line.put { l with bytes := l.bytes.setIfInBounds off b } (off + 1) t

/-- The bytes of a line from an offset upward. -/
def Line.get (l : Line) (off n : Nat) : List Byte := (l.bytes.toList.drop off).take n

/-- The data cache line that holds a physical line. -/
def State.dline (s : State) (tag : BitVec 27) : Option Line := s.dcache.find? fun l => l.tag == tag

/-- The data cache without a line. -/
def State.dropLine (s : State) (tag : BitVec 27) : State := { s with dcache := s.dcache.filter fun l => l.tag != tag }

/-- The data cache with a line's contents replaced. -/
def State.setLine (s : State) (l : Line) : State := { s with dcache := s.dcache.map fun k => if k.tag == l.tag then l else k }

/-- The exclusive monitor opens when the line that holds its address is lost (20_memory.md R97). -/
def openMonitorAt (tag : BitVec 27) (s : State) : State :=
  match s.monitor with
  | .openAccess => s
  | .exclusive pa _ => if lineTag pa == tag then { s with monitor := .openAccess } else s

/-- The dirty bytes of a line are written to memory and the line is clean (43_cp15_c7_cache_ops.md R212). -/
def cleanLine (l : Line) (s : State) : State :=
  if l.dirty then (busWrite (tagAddr l.tag) l.bytes.toList s).setLine { l with dirty := false } else s

/-- A line leaves the cache without being written (43_cp15_c7_cache_ops.md R208). -/
def invalidateLine (l : Line) (s : State) : State := (openMonitorAt l.tag s).dropLine l.tag

/-- A line is cleaned and leaves the cache: eviction, and the clean and invalidate operations (20_memory.md R95). -/
def evictLine (l : Line) (s : State) : State := invalidateLine l (cleanLine l s)

/-- A way is open to allocation (44_cp15_c8_c10_tlb.md R235). -/
def wayOpen (s : State) (w : BitVec 2) : Bool :=
  let lock : BitVec 4 := fld s.cp15.dcacheLockdown 0 4
  if lock = 0xF#4 then w == 0 else !bitAt lock w.toNat

/-- The way the next data cache line goes to: the first open one from the replacement pointer on (20_memory.md R95). -/
def victimWay (s : State) : BitVec 2 :=
  ([s.dcVictim, s.dcVictim + 1, s.dcVictim + 2, s.dcVictim + 3].find? (wayOpen s)).getD 0

/-- A linefill of a line the cache does not hold; a line with an aborted word does not become valid (20_memory.md R85,
R95). -/
def linefill (tag : BitVec 27) (s : State) : State :=
  match busErrorIn s.cfg (tagAddr tag) 32 with
  | some _ => s
  | none =>
    let way := victimWay s
    let set := setOf (dsize s.cfg) (tagAddr tag)
    let s1 := match s.dcache.find? fun l => l.way == way && l.set == set with
      | some old => evictLine old s
      | none => s
    { s1 with
      dcache := { way := way, set := set, tag := tag, dirty := false, bytes := lineBytes s1.mem tag } :: s1.dcache
      dcVictim := way + 1 }

/-- A cachable read: a hit, or a linefill (20_memory.md R95); the error of a requested word is answered (R85). -/
def cacheRead (pa : Word) (n : Nat) (s : State) : Except BusError (List Byte) × State :=
  let off := (fld pa 0 5).toNat
  match s.dline (lineTag pa) with
  | some l => (.ok (l.get off n), s)
  | none =>
    match busErrorIn s.cfg pa n with
    | some e => (.error e, s)
    | none => (.ok (s.mem.readBytes pa n), linefill (lineTag pa) s)

/-- A cachable write: a linefill on a miss, then the line is dirty; after an aborted linefill the write is lost and an
imprecise abort reported (20_memory.md R85, R95). -/
def cacheWrite (pa : Word) (bytes : List Byte) (s : State) : State :=
  let tag := lineTag pa
  let off := (fld pa 0 5).toNat
  let s1 := match s.dline tag with
    | some _ => s
    | none => linefill tag s
  match s1.dline tag with
  | some l => s1.setLine { l.put off bytes with dirty := true }
  | none =>
    match busErrorIn s.cfg (tagAddr tag) 32 with
    | some e => raiseImprecise { sd := errorSd e, write := true } s1
    | none => s1

/-! ## The store buffer -/

/-- Two byte ranges overlap. -/
def overlap (a b : PendingStore) : Bool :=
  decide (a.pa.toNat < b.pa.toNat + b.bytes.length) && decide (b.pa.toNat < a.pa.toNat + a.bytes.length)

/-- A buffered write reaches the private memory region, the data cache or memory (20_memory.md R90, D3). -/
def retire (e : PendingStore) (s : State) : State :=
  if inRegion s.cfg e.pa then
    match regionWrite s.cfg.cpu (regionOffset e.pa) e.bytes s with
    | some s => s
    | none => raiseImprecise { sd := errorSd .decerr, write := true } s
  else if e.cachable then cacheWrite e.pa e.bytes s
  else busWrite e.pa e.bytes s

/-- Every write of a list is retired in order. -/
def retireAll : List PendingStore → State → State
  | [], s => s
  | e :: t, s => retireAll t (retire e s)

/-- The store buffer is drained (20_memory.md R90, R93). -/
def drainAll (s : State) : State := retireAll s.storeBuffer { s with storeBuffer := [] }

/-- An older write must go before a younger one: overlapping bytes, or Device writes of one sharedness
(20_memory.md R91, D3). -/
def mustPrecede (old young : PendingStore) : Bool :=
  overlap old young || (old.attr.ty == .device && young.attr.ty == .device && old.attr.shared == young.attr.shared)

/-- Buffered write `k` is retired, if no older one must go first (92_eei_decisions.md D3). -/
def drainStore (k : Nat) (s : State) : State :=
  match s.storeBuffer[k]? with
  | none => s
  | some e =>
    if (s.storeBuffer.take k).any (fun o => mustPrecede o e) then s
    else retire e { s with storeBuffer := s.storeBuffer.eraseIdx k }

/-- The 64-bit slots a list of buffered writes takes: Normal writes of one slot merge, Device writes do not
(20_memory.md R90). -/
def slotsUsed (l : List PendingStore) : Nat :=
  ((l.filter fun e => e.attr.ty == .normal).map fun e => fld e.pa 3 29).eraseDups.length +
    (l.filter fun e => e.attr.ty != .normal).length

/-- The oldest writes are retired until a new one fits into the four slots; the fuel is the number of writes. -/
def makeRoom (e : PendingStore) : Nat → State → State
  | 0, s => s
  | n + 1, s =>
    if slotsUsed (s.storeBuffer ++ [e]) ≤ 4 then s
    else match s.storeBuffer with
      | [] => s
      | o :: t => makeRoom e n (retire o { s with storeBuffer := t })

/-- A noncachable bufferable write is pending to a line (20_memory.md R107): a Normal one, or one of the type NCB itself, which is
Device memory (R69). -/
def pendingNoncachable (l : List PendingStore) (pa : Word) : Bool :=
  l.any fun e => !e.cachable && lineTag e.pa == lineTag pa

/-- A write enters the store buffer (20_memory.md R90). -/
def bufferStore (e : PendingStore) (s : State) : State :=
  let s := makeRoom e s.storeBuffer.length s
  { s with storeBuffer := s.storeBuffer ++ [e] }

/-- The newest buffered byte at an address (20_memory.md R90). -/
def bufferedByte (l : List PendingStore) (a : Word) : Option Byte :=
  l.foldl (fun r e =>
    let k := a.toNat - e.pa.toNat
    if decide (e.pa.toNat ≤ a.toNat) && decide (k < e.bytes.length) then e.bytes[k]? else r) none

/-- Bytes that the buffer holds all of: the data sent back to a read that hits in it (20_memory.md R90). -/
def bufferHit (l : List PendingStore) (pa : Word) : Nat → Option (List Byte)
  | 0 => some []
  | n + 1 =>
    match bufferedByte l pa, bufferHit l (pa + 1) n with
    | some b, some t => some (b :: t)
    | _, _ => none

/-- Bytes read from the cache, with the buffered bytes laid over them (20_memory.md R90, D3). -/
def forward (l : List PendingStore) (pa : Word) : List Byte → List Byte
  | [] => []
  | b :: t => (bufferedByte l pa).getD b :: forward l (pa + 1) t

/-- Data Synchronization Barrier: every earlier access completes, bus responses included (20_memory.md R93). -/
def dsb (s : State) : State := busResponse (drainAll s)

/-- Data Memory Barrier: the buffer is empty before a later access starts (20_memory.md R93, D3). -/
def dmb (s : State) : State := drainAll s

/-! ## Instruction cache -/

/-- The bytes of an instruction from the instruction cache or memory, filling a line when cachable (20_memory.md R86,
R99). The set comes from the virtual address, the tag from the physical one. -/
def instrRead (mva pa : Word) (n : Nat) (cachable : Bool) (s : State) : Except BusError (List Byte) × State :=
  let off := (fld pa 0 5).toNat
  let set := setOf s.cfg.icache mva
  let tag := lineTag pa
  if cachable then
    match s.icache.find? fun l => l.tag == tag && l.set == set with
    | some l => (.ok (l.get off n), s)
    | none =>
      match busErrorIn s.cfg pa n with
      | some e => (.error e, s)
      | none =>
        let data := s.mem.readBytes pa n
        match busErrorIn s.cfg (tagAddr tag) 32 with
        | some _ => (.ok data, s)
        | none =>
          let way := s.icVictim
          let kept := s.icache.filter fun l => !(l.way == way && l.set == set)
          (.ok data, { s with
            icache := { way := way, set := set, tag := tag, dirty := false, bytes := lineBytes s.mem tag } :: kept
            icVictim := way + 1 })
  else
    match busErrorIn s.cfg pa n with
    | some e => (.error e, s)
    | none => (.ok (s.mem.readBytes pa n), s)

/-! ## Other agents -/

/-- The lines that `n` bytes from an address upward touch. -/
def linesOf (pa : Word) (n : Nat) : List (BitVec 27) := ((List.range n).map fun k => lineTag (pa + BitVec.ofNat 32 k)).dedup

/-- Another CPU takes a coherent line for writing: a copy in this CPU's data cache is written back and lost, and the monitor
opens (20_memory.md R96, R97). -/
def yieldLine (s : State) (tag : BitVec 27) : State :=
  match s.dline tag with
  | some l => evictLine l s
  | none => openMonitorAt tag s

/-- A coherent write of another CPU: every line it touches is yielded, and the bytes reach memory (20_memory.md R96, R97). -/
def otherCpuWrite (pa : Word) (bytes : List Byte) (s : State) : State :=
  let s := (linesOf pa bytes.length).foldl yieldLine s
  s.setMem (s.mem.writeBytes pa bytes)

/-- A write of another CPU that is not coherent with this CPU's data cache: the monitor opens for every line it touches
(20_memory.md R97). -/
def otherCpuPlainWrite (pa : Word) (bytes : List Byte) (s : State) : State :=
  let s := (linesOf pa bytes.length).foldl (fun s tag => openMonitorAt tag s) s
  s.setMem (s.mem.writeBytes pa bytes)

/-- A coherent read of another CPU: the line is cleaned and shared (20_memory.md R96). -/
def snoopLine (pa : Word) (s : State) : State :=
  match s.dline (lineTag pa) with
  | some l => cleanLine l s
  | none => s

end Sys2Proof.Machine
end

