-- ==== Sys2Proof/Machine/Mmu.lean ====
section
/-!
DEFINITION. Address translation: the FCSE, the main TLB, the table walk, the memory attributes and the checks that can abort
an access (20_memory.md R50 to R64, R70 to R83).
-/

namespace Sys2Proof.Machine

/-! ## Words in memory -/

/-- The number that bytes in little-endian order make (20_memory.md R43). -/
def littleEndian : List Byte → Word
  | [] => 0
  | b :: t => put b 0 ||| littleEndian t <<< 8

/-- The value of the bytes of an access: little-endian, or byte-reversed (20_memory.md R43). -/
def laneValue (big : Bool) (bytes : List Byte) : Word := littleEndian (if big then bytes.reverse else bytes)

/-- The `n` bytes of a value in address order (20_memory.md R43). -/
def laneBytes (big : Bool) (v : Word) (n : Nat) : List Byte :=
  let l := (bytesOf v).take n
  if big then l.reverse else l

/-! ## Modified virtual addresses -/

/-- `FcseTranslate` (20_memory.md R51). -/
def fcse (s : State) (va : Word) : Word := if fld va 25 7 = 0#7 then put (fld s.cp15.fcsePid 25 7) 25 ||| va else va

/-- The current application space identifier (20_memory.md R59). -/
def State.asid (s : State) : BitVec 8 := fld s.cp15.contextId 0 8

/-! ## Memory attributes -/

/-- The control values in force (20_memory.md R56, R60). -/
def State.tlbControls (s : State) : TlbControls where
  xp := s.ctlXp
  forceAp := s.ctlForceAp
  texRemap := s.ctlTexRemap
  prrr := s.cp15.prrr
  nmrr := s.cp15.nmrr

/-- The type of a region without TEX remap (20_memory.md R61). -/
def plainAttr (tex : BitVec 3) (c b s : Bool) : Except Refusal MemAttr :=
  let normal (inner outer : BitVec 2) : Except Refusal MemAttr := .ok ⟨.normal, s, inner, outer⟩
  if bitAt tex 2 then normal (BitVec.ofBool c ++ BitVec.ofBool b) (fld tex 0 2)
  else match fld tex 0 2, c, b with
    | 0#2, false, false => .ok ⟨.stronglyOrdered, true, 0, 0⟩
    | 0#2, false, true => .ok ⟨.device, true, 0, 0⟩
    | 0#2, true, false => normal 2 2
    | 0#2, true, true => normal 3 3
    | 1#2, false, false => normal 0 0
    | 1#2, true, true => normal 1 1
    | 2#2, false, false => .ok ⟨.device, false, 0, 0⟩
    | _, _, _ => .error .reservedMemoryType

/-- The type of a region with TEX remap, looked up with `n = {TEX[0], C, B}` (20_memory.md R63,
44_cp15_c8_c10_tlb.md R237, R238). -/
def remappedAttr (k : TlbControls) (n : BitVec 3) (s : Bool) : Except Refusal MemAttr :=
  if n = 6#3 then .error .reservedMemoryType
  else
    match fld k.prrr (2 * n.toNat) 2 with
    | 0#2 => .ok ⟨.stronglyOrdered, true, 0, 0⟩
    | 1#2 => .ok ⟨.device, bitAt k.prrr (if s then 17 else 16), 0, 0⟩
    | 2#2 => .ok ⟨.normal, bitAt k.prrr (if s then 19 else 18), fld k.nmrr (2 * n.toNat) 2, fld k.nmrr (2 * n.toNat + 16) 2⟩
    | _ => .error .reservedRemapType

/-- The attributes of a TLB entry under control values: with XP = 0 no mapping has an S bit, also when the entry's is set, and
its Normal memory is then Non-Shared (20_memory.md R75). -/
def entryAttr (k : TlbControls) (e : TlbEntry) : Except Refusal MemAttr :=
  let shared := k.xp && e.s
  if k.texRemap then remappedAttr k (fld e.tex 0 1 ++ BitVec.ofBool e.c ++ BitVec.ofBool e.b) shared
  else plainAttr e.tex e.c e.b shared

/-- The attributes with the MMU disabled (20_memory.md R52, 44_cp15_c8_c10_tlb.md R239, D23). With TEX remap D23 gives the
index and no S bit, which a remapped type takes its sharedness from: S = 0, DESIGN CHOICE (notes/assumptions/54.md). -/
def flatAttr (k : TlbControls) (cachedFetch : Bool) : Except Refusal MemAttr :=
  if k.texRemap then remappedAttr k (if cachedFetch then 7 else 0) false
  else .ok (if cachedFetch then ⟨.normal, false, 1, 1⟩ else ⟨.stronglyOrdered, true, 0, 0⟩)

/-- Level one may cache Normal memory of these attributes (20_memory.md R62, R64). -/
def cachableAttr (s : State) (a : MemAttr) : Bool :=
  a.ty == .normal && (a.inner == 1 || a.inner == 3) &&
    (!a.shared || (bitAt s.cp15.auxControl 5 && bitAt s.dev.scu.control 0))

/-- A data access goes through the data cache (20_memory.md R52, R64). -/
def dataCachable (s : State) (a : MemAttr) : Bool := s.ctlC && s.ctlM && cachableAttr s a

/-- A fetch goes through the instruction cache (20_memory.md R52, R64). -/
def instrCachable (s : State) (a : MemAttr) : Bool := s.ctlI && cachableAttr s a

/-! ## Faults -/

/-- A fault of the memory management unit: its status, and the Domain field and SD bit where they are valid
(20_memory.md R83). -/
structure MmuFault where
  status : BitVec 5
  domain : Option (BitVec 4)
  sd : Option Bool
deriving DecidableEq, Repr

/-- Why an access does not go to memory. -/
inductive MmuStop where
  | fault (f : MmuFault)
  | refused (r : Refusal)
deriving DecidableEq, Repr

/-- The fault statuses of 20_memory.md R83. -/
def statusAlignment : BitVec 5 := 0b00001
def statusIcacheMaintenance : BitVec 5 := 0b00100
def statusWalk1 : BitVec 5 := 0b01100
def statusWalk2 : BitVec 5 := 0b01110
def statusTranslation (page : Bool) : BitVec 5 := if page then 0b00111 else 0b00101
def statusAccessBit (page : Bool) : BitVec 5 := if page then 0b00110 else 0b00011
def statusDomain (page : Bool) : BitVec 5 := if page then 0b01011 else 0b01001
def statusPermission (page : Bool) : BitVec 5 := if page then 0b01111 else 0b01101
def statusPreciseExternal : BitVec 5 := 0b01000

/-! ## The table walk -/

/-- One physical word read by the walk, in the endianness of the EE bit; it does not see the data cache or the store buffer
(20_memory.md R43, R70, R90). -/
def physWord (pa : Word) (s : State) : Except BusError Word × State :=
  if inRegion s.cfg pa then
    match regionRead s.cfg.cpu (regionOffset pa) 4 s with
    | none => (.error .decerr, s)
    | some (l, s) => (.ok (laneValue s.ctlEe l), s)
  else
    match busErrorIn s.cfg pa 4 with
    | some e => (.error e, s)
    | none => (.ok (laneValue s.ctlEe (s.mem.readBytes pa 4)), s)

/-- The first-level descriptor address (20_memory.md R71). -/
def firstLevelAddress (s : State) (mva : Word) : Word :=
  let n := (fld s.cp15.ttbcr 0 3).toNat
  if 0 < n ∧ mva >>> (32 - n) ≠ 0 then
    put (fld s.cp15.ttbr1 14 18) 14 ||| put (fld mva 20 12) 2
  else ((s.cp15.ttbr0 >>> (14 - n)) <<< (14 - n)) ||| put (fld mva 20 12) 2

/-- A word without its lowest `n` bits. -/
def clearLow (w : Word) (n : Nat) : Word := (w >>> n) <<< n

/-- The TLB entry of a section or supersection descriptor read under control values (20_memory.md R75, R76, R78). -/
def sectionEntry (k : TlbControls) (s : State) (mva d : Word) : TlbEntry :=
  let xp := k.xp
  let super := bitAt d 18
  let size := if super then 24 else 20
  { mvaBase := clearLow mva size
    log2Size := size
    globalMap := !(xp && bitAt d 17)
    asid := s.asid
    paBase := clearLow d size
    apx := xp && bitAt d 15
    ap0 := fld d 10 2
    spv := false
    ap1 := fld d 10 2
    ap2 := fld d 10 2
    ap3 := fld d 10 2
    domain := if super then 0 else fld d 5 4
    xn := xp && bitAt d 4
    tex := fld d 12 3
    c := bitAt d 3
    b := bitAt d 2
    s := xp && bitAt d 16
    sBit := s.ctlS
    rBit := s.ctlR }

/-- The TLB entry of a second-level descriptor `d` under a first-level descriptor of a domain, read under control values
(20_memory.md R74 to R77). A page whose subpages differ is one entry that holds the four permission pairs (R57), not an entry
for each 16KB or 1KB subpage, which R59 also allows: DESIGN CHOICE (notes/assumptions/77.md). -/
def pageEntry (k : TlbControls) (s : State) (mva : Word) (domain : BitVec 4) (d : Word) : TlbEntry :=
  let xp := k.xp
  let large := fld d 0 2 == 1#2
  let subpages := !xp && fld d 0 2 != 3#2 && !(fld d 4 2 == fld d 6 2 && fld d 6 2 == fld d 8 2 && fld d 8 2 == fld d 10 2)
  let size := if large then 16 else 12
  let sub (k : Nat) : BitVec 2 := if subpages then fld d k 2 else fld d 4 2
  { mvaBase := clearLow mva size
    log2Size := size
    globalMap := !(xp && bitAt d 11)
    asid := s.asid
    paBase := clearLow d size
    apx := xp && bitAt d 9
    ap0 := fld d 4 2
    spv := subpages
    ap1 := sub 6
    ap2 := sub 8
    ap3 := sub 10
    domain := domain
    xn := xp && (if large then bitAt d 15 else bitAt d 0)
    tex := if large then fld d 12 3 else if !xp && fld d 0 2 == 2#2 then 0 else fld d 6 3
    c := bitAt d 3
    b := bitAt d 2
    s := xp && bitAt d 10
    sBit := s.ctlS
    rBit := s.ctlR }

/-- `Translate`'s walk (20_memory.md R70 to R74, R87). -/
def walk (k : TlbControls) (mva : Word) (s : State) : Except MmuStop TlbEntry × State :=
  match physWord (firstLevelAddress s mva) s with
  | (.error e, s) => (.error (.fault ⟨statusWalk1, none, some (errorSd e)⟩), s)
  | (.ok l1, s) =>
    match fld l1 0 2 with
    | 2#2 => (.ok (sectionEntry k s mva l1), s)
    | 1#2 =>
      let domain : BitVec 4 := fld l1 5 4
      match physWord (clearLow l1 10 ||| put (fld mva 12 8) 2) s with
      | (.error e, s) => (.error (.fault ⟨statusWalk2, some domain, some (errorSd e)⟩), s)
      | (.ok l2, s) =>
        if fld l2 0 2 = 0#2 then (.error (.fault ⟨statusTranslation true, some domain, none⟩), s)
        else (.ok (pageEntry k s mva domain l2), s)
    | _ => (.error (.fault ⟨statusTranslation false, none, none⟩), s)

/-! ## The main TLB -/

/-- An entry matches a modified virtual address under an XP bit; with XP = 0 every mapping is global (20_memory.md R59). -/
def tlbMatches (xp : Bool) (s : State) (mva : Word) (e : TlbEntry) : Bool :=
  mva >>> e.log2Size == e.mvaBase >>> e.log2Size && (!xp || e.globalMap || e.asid == s.asid)

/-- The entries that match an address under an XP bit, valid lockdown entries first. -/
def tlbLookup (xp : Bool) (s : State) (mva : Word) : List TlbEntry :=
  (s.lockSlots.toList.filterMap (·.translation) ++ s.tlb).filter (tlbMatches xp s mva)

/-- The lockdown victim (44_cp15_c8_c10_tlb.md R236). -/
def State.tlbVictim (s : State) : BitVec 3 := fld s.cp15.tlbLockdown 26 3

/-- The state with a lockdown entry replaced (44_cp15_c8_c10_tlb.md R236). -/
def State.setLockSlot (s : State) (k : BitVec 3) (x : LockSlot) : State :=
  { s with lockSlots := s.lockSlots.set k.toNat x k.isLt }

/-- A walk result is written to the main TLB, unless loading is disabled (44_cp15_c8_c10_tlb.md R236,
45_cp15_c13_c15.md R261); the set-associative part keeps the 64 newest (20_memory.md R57, D10). -/
def tlbFill (e : TlbEntry) (s : State) : State :=
  if bitAt s.cp15.tlbDebugControl 4 then s
  else if bitAt s.cp15.tlbLockdown 0 then s.setLockSlot s.tlbVictim { entry := some e, locked := true, valid := true }
  else { s with tlb := (e :: s.tlb).take 64 }

/-- The Access Bit fault condition of an entry under control values: Force AP counts only in ARMv6 mode (20_memory.md
R56). -/
def accessBitClear (k : TlbControls) (e : TlbEntry) : Bool := k.xp && k.forceAp && !bitAt e.ap0 0

/-- One of several entries, by a draw for each that is passed over; a single entry takes no draw. -/
def drawEntry (e : TlbEntry) : List TlbEntry → State → TlbEntry × State
  | [], s => (e, s)
  | x :: t, s => withBool s fun next s => if next then drawEntry x t s else (e, s)

/-- The entry that translates an address: one that matches, or a walk's under control values (20_memory.md R59, R70). Which
of several matching entries is Unpredictable and drawn: the second choice that U2 gives a model (notes/assumptions/76.md). A
walk result with an Access Bit fault is not kept. -/
def tlbEntryFor (k : TlbControls) (mva : Word) (s : State) : Except MmuStop TlbEntry × State :=
  match tlbLookup k.xp s mva with
  | [] =>
    match walk k mva s with
    | (.error x, s) => (.error x, s)
    | (.ok e, s) => (.ok e, if accessBitClear k e then s else tlbFill e s)
  | e :: others =>
    let chosen := drawEntry e others s
    (.ok chosen.1, chosen.2)

/-! ## Control values that may be old -/

/-- One of the older values of a control that differ from the current one, or the current one: a draw for each (93 U14). -/
def drawOlder {α : Type} [DecidableEq α] (cur : α) : List α → State → α × State
  | [], s => (cur, s)
  | x :: t, s =>
    if x = cur then drawOlder cur t s
    else withBool s fun old s => if old then (x, s) else drawOlder cur t s

/-- The older controls whose XP and Force AP bits may still be in force: until the TLB has been invalidated since they were
replaced (20_memory.md R56, U14). -/
def State.olderAccess (s : State) : List TlbControls :=
  (s.remapOld.filter fun o => !o.invalidated).map OlderControls.controls

/-- The older controls whose remap values may still be in force: until the TLB has been invalidated and the prefetch buffer
flushed since they were replaced, in either order (44_cp15_c8_c10_tlb.md R239, U14). -/
def State.olderRemap (s : State) : List TlbControls := s.remapOld.map OlderControls.controls

/-- The controls that one translation is made with: each of XP, Force AP, TEX Remap, PRRR and NMRR may be an older one
(20_memory.md R56, R60, 44_cp15_c8_c10_tlb.md R239, U14). -/
def drawControls (s : State) : TlbControls × State :=
  let cur := s.tlbControls
  let xp := drawOlder cur.xp (s.olderAccess.map (·.xp)) s
  let forceAp := drawOlder cur.forceAp (s.olderAccess.map (·.forceAp)) xp.2
  let texRemap := drawOlder cur.texRemap (s.olderRemap.map (·.texRemap)) forceAp.2
  let prrr := drawOlder cur.prrr (s.olderRemap.map (·.prrr)) texRemap.2
  let nmrr := drawOlder cur.nmrr (s.olderRemap.map (·.nmrr)) prrr.2
  ({ xp := xp.1, forceAp := forceAp.1, texRemap := texRemap.1, prrr := prrr.1, nmrr := nmrr.1 }, nmrr.2)

/-! ## Permissions -/

/-- What an access may do: read, write; `none` for a reserved encoding (20_memory.md R55). -/
def permission (sBit rBit apx : Bool) (ap : BitVec 2) (user : Bool) : Option (Bool × Bool) :=
  match apx, ap with
  | false, 1#2 => some (!user, !user)
  | false, 2#2 => some (true, !user)
  | false, 3#2 => some (true, true)
  | false, _ =>
    match sBit, rBit with
    | false, false => some (false, false)
    | false, true => some (true, false)
    | true, false => some (!user, false)
    | true, true => none
  | true, ap =>
    if sBit || rBit then none
    else match ap with
      | 0#2 => none
      | 1#2 => some (!user, false)
      | _ => some (true, false)

/-- The permission pair of an entry: with XP = 0 that of the addressed subpage, if the entry has subpages; with XP = 1 there
are none, and the pair is AP0 (20_memory.md R77, 45_cp15_c13_c15.md R267). Of a section or supersection, to which only a
lockdown entry can give subpages, no rule names the address bits: those of a small page, DESIGN CHOICE
(notes/assumptions/55.md). -/
def entryAp (xp : Bool) (e : TlbEntry) (mva : Word) : BitVec 2 :=
  if e.spv && !xp then
    match (if e.log2Size = 16 then fld mva 14 2 else fld mva 10 2) with
    | 0#2 => e.ap0
    | 1#2 => e.ap1
    | 2#2 => e.ap2
    | _ => e.ap3
  else e.ap0

/-- What an access is for. -/
inductive Purpose where
  | read | write | fetch
deriving DecidableEq, Repr

/-- A permitted translation: the physical address, the attributes, the domain; with the MMU disabled there is none. -/
structure Translated where
  pa : Word
  attr : MemAttr
  domain : Option (BitVec 4)
deriving DecidableEq, Repr

/-- The physical address of an entry (20_memory.md R76). -/
def entryPa (e : TlbEntry) (mva : Word) : Word := e.paBase ||| (mva &&& (BitVec.allOnes 32 >>> (32 - e.log2Size)))

/-- A translation ends at a page (20_memory.md R54, R56). -/
def entryPage (e : TlbEntry) : Bool := decide (e.log2Size ≤ 16)

/-- The checks after the domain check, in order: alignment of Strongly Ordered and Device accesses, permission, execute
never (20_memory.md R82 steps 9 to 11, R55, D13). The APX and XN bits of an entry count only with XP = 1 (20_memory.md R56,
R75, 45_cp15_c13_c15.md R267). -/
def checkEntry (p : Purpose) (user aligned client : Bool) (u xp : Bool) (mva : Word) (e : TlbEntry) (a : MemAttr) :
    Except MmuStop Translated :=
  let denied : Except MmuStop Translated := .error (.fault ⟨statusPermission (entryPage e), some e.domain, none⟩)
  let granted : Except MmuStop Translated := .ok ⟨entryPa e mva, a, some e.domain⟩
  if u && a.ty != .normal && !aligned then .error (.fault ⟨statusAlignment, none, none⟩)
  else if client then
    match permission e.sBit e.rBit (xp && e.apx) (entryAp xp e mva) user with
    | none => .error (.refused .reservedPermission)
    | some (r, w) =>
      match p with
      | .read => if r then granted else denied
      | .write => if w then granted else denied
      | .fetch => if r && !(xp && e.xn) then granted else denied
  else granted

/-- `Translate` with its checks (20_memory.md R50 step 3, R52, R82). `aligned` says that the access is naturally aligned. -/
def translate (p : Purpose) (user aligned : Bool) (mva : Word) (s : State) : Except MmuStop Translated × State :=
  let k := drawControls s
  if s.ctlM then
    match tlbEntryFor k.1 mva k.2 with
    | (.error x, s) => (.error x, s)
    | (.ok e, s) =>
      let page := entryPage e
      let d := fld s.cp15.dacr (2 * e.domain.toNat) 2
      if accessBitClear k.1 e then
        (.error (.fault ⟨statusAccessBit page, if page then some e.domain else none, none⟩), s)
      else if !bitAt d 0 then (.error (.fault ⟨statusDomain page, some e.domain, none⟩), s)
      else match entryAttr k.1 e with
        | .error r => (.error (.refused r), s)
        | .ok a => (checkEntry p user aligned (d == 1#2) s.ctlU k.1.xp mva e a, s)
  else
    let s := k.2
    match flatAttr k.1 (p == .fetch && s.ctlI) with
    | .error r => (.error (.refused r), s)
    | .ok a =>
      (if s.ctlU && a.ty != .normal && !aligned then .error (.fault ⟨statusAlignment, none, none⟩)
       else .ok ⟨mva, a, none⟩, s)

/-- The translation of a cache maintenance operation by address: translation faults and external aborts of the walk only
(43_cp15_c7_cache_ops.md R225, D19). -/
def translateMaintenance (mva : Word) (s : State) : Except MmuStop Word × State :=
  if s.ctlM then
    let k := drawControls s
    match tlbEntryFor k.1 mva k.2 with
    | (.error x, s) => (.error x, s)
    | (.ok e, s) => (.ok (entryPa e mva), s)
  else (.ok mva, s)

end Sys2Proof.Machine
end

