-- ==== Sys2Proof/Machine/Matching.lean ====
section
/-!
DEFINITION. The comparisons of the debug unit: breakpoints, watchpoints and vector catches (46_cp14_debug.md R307 to R312,
R320 to R323). A comparison answers `none` where the specification leaves open whether the event is generated
(93_implementation_defined.md U32, and the reserved or ill-set fields of R309, R312).
-/

namespace Sys2Proof.Machine

/-- All conditions hold: one that fails decides, an open one leaves the conjunction open. -/
def allOf : List (Option Bool) → Option Bool
  | [] => some true
  | x :: t =>
    match x, allOf t with
    | some false, _ => some false
    | _, some false => some false
    | none, _ => none
    | _, none => none
    | some true, some true => some true

/-- Some condition holds. -/
def anyOf (l : List (Option Bool)) : Option Bool := (allOf (l.map fun x => x.map not)).map not

/-- An open comparison is a draw. -/
def resolve (x : Option Bool) (s : State) : Bool × State :=
  match x with
  | some b => (b, s)
  | none => s.drawBool

/-- The privilege field of a control register (46_cp14_debug.md R309, R312); b00 is reserved. -/
def privMatch (f : BitVec 2) (priv : Bool) : Option Bool :=
  match f with
  | 0#2 => none
  | 1#2 => some priv
  | 2#2 => some !priv
  | _ => some true

/-- `AddrMatch` (46_cp14_debug.md R320): some byte of the access is selected. -/
def addrMatch (value : Word) (bas : BitVec 4) (a : Word) (size : Nat) : Bool :=
  (List.range size).any fun k =>
    let b := a + BitVec.ofNat 32 k
    fld b 2 30 == fld value 2 30 && bitAt bas (fld b 0 2).toNat

/-- The linked breakpoint register holds an enabled match of the Context ID; open where the link is Unpredictable
(46_cp14_debug.md R310, R312). A watchpoint is compared with the BVR and BCR just written, whose writes R308 and R309 let take
effect later: DESIGN CHOICE (notes/assumptions/78.md). -/
def linkMatch (s : State) (z : BitVec 4) (self : Option Nat) : Option Bool :=
  match s.dbg.bcr[z.toNat]?, s.dbg.bvr[z.toNat]? with
  | some c, some v =>
    if self = some z.toNat then none
    else if fld c 20 2 ≠ 3#2 then none
    else some (bitAt c 0 && v == s.cp15.contextId)
  | _, _ => none

/-- Breakpoint register pair `y` matches on an instruction address, alone or linked (46_cp14_debug.md R320). -/
def brpAddrHit (s : State) (y : Nat) (iva : Word) (size : Nat) (priv : Bool) : Option Bool :=
  match s.dbg.bcr[y]?, s.dbg.bvr[y]? with
  | some c, some v =>
    if bitAt c 0 && !bitAt c 21 then
      if bitAt c 20 then
        match linkMatch s (fld c 16 4) (some y) with
        | none => allOf [privMatch (fld c 1 2) priv, none]
        | some m => allOf [privMatch (fld c 1 2) priv, some m, some (addrMatch v (fld c 5 4) iva size)]
      else allOf [privMatch (fld c 1 2) priv, some (addrMatch v (fld c 5 4) iva size)]
    else some false
  | _, _ => some false

/-- Breakpoint register pair `y` matches on the Context ID alone (46_cp14_debug.md R320). -/
def brpContextHit (s : State) (y : Nat) (priv : Bool) : Option Bool :=
  match s.dbg.bcr[y]?, s.dbg.bvr[y]? with
  | some c, some v =>
    if bitAt c 0 && bitAt c 21 && !bitAt c 20 then
      allOf [privMatch (fld c 1 2) priv, some (v == s.cp15.contextId), if fld c 5 4 = 0xF#4 then some true else none]
    else some false
  | _, _ => some false

/-- `VectorCatchHit` for one bit of the VCR (46_cp14_debug.md R307, R323). -/
def vectorHit (s : State) (iva : Word) (b : Nat) : Bool :=
  bitAt s.dbg.vcr b && iva == s.vectorBase + BitVec.ofNat 32 (4 * b)

/-- The debug events found when the instruction at `iva` is fetched (46_cp14_debug.md R320, R323). -/
def fetchHits (iva : Word) (size : Nat) (priv : Bool) (s : State) : DebugHits × State :=
  let a := resolve (anyOf ((List.range 6).map fun y => brpAddrHit s y iva size priv)) s
  let c := resolve (anyOf ((List.range 6).map fun y => brpContextHit a.2 y priv)) a.2
  ({ bkpt := a.1
     context := c.1
     vcatch := [0, 1, 2, 3, 4, 6, 7].any (vectorHit c.2 iva)
     abortCatch := [3, 4].any (vectorHit c.2 iva) }, c.2)

/-- `WrpHit` (46_cp14_debug.md R321): watchpoint register pair `y` against an access, which may count as a load, a store or
both. -/
def wrpHit (s : State) (y : Nat) (dva : Word) (size : Nat) (load store priv : Bool) : Option Bool :=
  match s.dbg.wcr[y]?, s.dbg.wvr[y]? with
  | some c, some v =>
    if bitAt c 0 then
      let ls : Option Bool := match (fld c 3 2 : BitVec 2) with
        | 0#2 => none
        | 1#2 => some load
        | 2#2 => some store
        | _ => some true
      let pl := [privMatch (fld c 1 2) priv, ls]
      if bitAt c 20 then
        match linkMatch s (fld c 16 4) none with
        | none => allOf (none :: pl)
        | some m => allOf (some m :: some (addrMatch v (fld c 5 4) dva size) :: pl)
      else allOf (some (addrMatch v (fld c 5 4) dva size) :: pl)
    else some false
  | _, _ => some false

/-- The watchpoint comparison of an access (20_memory.md R50 step 4, 46_cp14_debug.md R321); in debug state software debug
events are ignored (R331). -/
def watchAccess (dva : Word) (size : Nat) (load store priv : Bool) (s : State) : State :=
  if s.halted then s
  else
    let h := resolve (anyOf ((List.range 2).map fun y => wrpHit s y dva size load store priv)) s
    { h.2 with dbg := { h.2.dbg with watchHit := h.2.dbg.watchHit || h.1 } }

end Sys2Proof.Machine
end

