-- ==== Sys2Proof/Machine/Access.lean ====
section
/-!
DEFINITION. One data access or instruction fetch: alignment, translation, watchpoints, and the access itself by memory type
(20_memory.md R43 to R50, R85, R86, R90, R92, R97, R98, R100).
-/

namespace Sys2Proof.Machine

/-! ## Alignment -/

/-- The access types of 20_memory.md R44. -/
inductive AccessType where
  | byte | half | halfSync | wload | wstore | wordSync | multi | two | doubleSync
deriving DecidableEq, Repr

/-- What the alignment rules make of an access: made at its address, made at the word-aligned address, a fault, or outside
the specification (20_memory.md R45). -/
inductive Alignment where
  | direct | forced | fault
  | refused (r : Refusal)
deriving DecidableEq, Repr

/-- The table of 20_memory.md R45; `u` and `a` are the Control Register bits, `low` the address bits [2:0]. -/
def alignment (u a : Bool) (t : AccessType) (low : BitVec 3) : Alignment :=
  let odd := bitAt low 0
  let offWord := bitAt low 0 || bitAt low 1
  match t with
  | .byte => .direct
  | .half => if odd then (if a then .fault else if u then .direct else .refused .unalignedHalfword) else .direct
  | .halfSync => if odd then (if a || u then .fault else .refused .unalignedHalfword) else .direct
  | .wload | .wstore => if offWord then (if a then .fault else if u then .direct else .forced) else .direct
  | .wordSync => if offWord then (if a || u then .fault else .refused .unalignedSync) else .direct
  | .multi => if offWord then (if a || u then .fault else .forced) else .direct
  | .two =>
    if low = 0 then .direct
    else if offWord then (if a || u then .fault else .refused .unalignedSync)
    else if u then .direct else if a then .fault else .refused .unalignedSync
  | .doubleSync => if low = 0 then .direct else if a || u then .fault else .refused .unalignedSync

/-- A fault of a data access, with the fields that go to the fault registers (20_memory.md R83, R84). -/
def dataFault (f : MmuFault) (write : Bool) (mva : Word) : DataFault :=
  { status := f.status, domain := f.domain, sd := f.sd, write := some write, mva := mva, iside := false }

/-- The address an access is made at after the alignment rules (20_memory.md R45, R50 step 1); a data access with
U = 0, A = 0 and E = 1 is Reserved (41_cp15_c1_control.md R154). -/
def alignAccess (t : AccessType) (write : Bool) (va : Word) (s : State) : Res Word :=
  if !s.ctlU && !s.ctlA && s.eBit then .refused .reservedEndianness
  else match alignment s.ctlU s.ctlA t (fld va 0 3) with
    | .direct => .ok va s
    | .forced => .ok (clearLow va 2) s
    | .fault => .exc (.dataAbort (dataFault ⟨statusAlignment, none, none⟩ write (fcse s va))) s
    | .refused r => .refused r

/-! ## Physical accesses -/

/-- How an explicit access is made. -/
structure AccessMode where
  /-- With User permissions (20_memory.md R50). -/
  user : Bool
  /-- An external abort of a load is precise whatever the memory type: loads to the PC or the CPSR (20_memory.md R85). -/
  toPc : Bool
  /-- A locked or exclusive store access (20_memory.md R90, R98). -/
  locked : Bool
  /-- How a watchpoint counts it (46_cp14_debug.md R312). -/
  load : Bool
  store : Bool
deriving DecidableEq, Repr

/-- A plain load or store with the permissions of the current mode. -/
def plainMode (s : State) (write : Bool) : AccessMode :=
  { user := s.userAccess, toPc := false, locked := false, load := !write, store := write }

/-- A precise external abort (20_memory.md R83, R85). The status table marks its Domain field Valid; with the MMU disabled
there is no domain, and the field is a free value (notes/assumptions/56.md). -/
def preciseAbort {α : Type} (t : Translated) (write : Bool) (mva : Word) (s : State) : Res α :=
  .exc (.dataAbort (dataFault ⟨statusPreciseExternal, t.domain, none⟩ write mva)) s

/-- The result of a load that the bus answers with an error: a precise abort, or an imprecise one and a free value
(20_memory.md R85). -/
def loadError (precise : Bool) (e : BusError) (t : Translated) (mva : Word) (n : Nat) (s : State) : Res (List Byte) :=
  if precise then preciseAbort t false mva s
  else withWord (raiseImprecise { sd := errorSd e, write := false } s) fun w s => .ok ((bytesOf w).take n) s

/-- A naturally aligned read of `n` bytes (20_memory.md R50 steps 5 and 6): a cachable one looks in the store buffer, then in the
cache, then in memory (R90, D3), the others find the buffer drained. A load of the private memory region that is
answered with DECERR aborts precisely (49_private_memory_region.md R400). -/
def readPhys (m : AccessMode) (t : Translated) (mva : Word) (n : Nat) (s : State) : Res (List Byte) :=
  if inRegion s.cfg t.pa then
    if regionRefuses (regionOffset t.pa) n then .refused .privateRegionAccess
    else
      let s := drainAll s
      match regionRead s.cfg.cpu (regionOffset t.pa) n s with
      | some (l, s) => .ok l s
      | none => preciseAbort t false mva s
  else if dataCachable s t.attr then
    let s := if m.locked then drainAll s else s
    match bufferHit s.storeBuffer t.pa n with
    | some l => .ok l s
    | none =>
      match cacheRead t.pa n s with
      | (.ok l, s) => .ok (forward s.storeBuffer t.pa l) s
      | (.error e, s) => loadError (m.toPc || m.locked) e t mva n s
  else
    let s := drainAll s
    match busErrorIn s.cfg t.pa n with
    | some e => loadError (t.attr.ty == .stronglyOrdered || m.toPc || m.locked) e t mva n s
    | none => .ok (s.mem.readBytes t.pa n) s

/-- A naturally aligned write (20_memory.md R50 steps 5 and 6): Strongly Ordered and locked ones complete at once, the others
enter the store buffer. A cachable one must not meet a pending noncachable bufferable one of its line (R107, U12). -/
def writePhys (m : AccessMode) (t : Translated) (mva : Word) (bytes : List Byte) (s : State) : Res Unit :=
  let direct := t.attr.ty == .stronglyOrdered || m.locked
  if inRegion s.cfg t.pa then
    if regionRefuses (regionOffset t.pa) bytes.length then .refused .privateRegionAccess
    else if direct then
      let s := drainAll s
      match regionWrite s.cfg.cpu (regionOffset t.pa) bytes s with
      | some s => .ok () s
      | none => preciseAbort t true mva s
    else .ok () (bufferStore { pa := t.pa, bytes := bytes, attr := t.attr, cachable := false } s)
  else if dataCachable s t.attr && pendingNoncachable s.storeBuffer t.pa then .refused .storeBufferDeadlock
  else if direct then
    let s := drainAll s
    if dataCachable s t.attr then .ok () (cacheWrite t.pa bytes s)
    else match busErrorIn s.cfg t.pa bytes.length with
      | some _ => preciseAbort t true mva s
      | none => .ok () (s.setMem (s.mem.writeBytes t.pa bytes))
  else .ok () (bufferStore { pa := t.pa, bytes := bytes, attr := t.attr, cachable := dataCachable s t.attr } s)

/-! ## Explicit accesses -/

/-- `Translate` for a data access, its faults as Data Aborts (20_memory.md R50 step 3). -/
def dataTranslate (write user aligned : Bool) (va : Word) (s : State) : Res Translated :=
  let mva := fcse s va
  match translate (if write then .write else .read) user aligned mva s with
  | (.ok t, s) => .ok t s
  | (.error (.fault f), s) => .exc (.dataAbort (dataFault f write mva)) s
  | (.error (.refused r), _) => .refused r

/-- A store of several accesses that aborts: the earlier ones may have been made or not, a draw (60_exceptions.md R523, D36;
20_memory.md R48). `s0` is the state before the first. -/
def partialStore (s0 : State) (r : Res Unit) : Res Unit :=
  match r with
  | .exc x s => withBool s fun made s => .exc x (if made then s else { s0 with freeCtr := s.freeCtr })
  | .ok a s => .ok a s
  | .fault f => .fault f
  | .refused e => .refused e

/-- Single-byte reads in ascending order (20_memory.md R48, D12). -/
def readSplit (m : AccessMode) (va : Word) : Nat → State → Res (List Byte)
  | 0, s => .ok [] s
  | n + 1, s =>
    (dataTranslate false m.user false va s).bind fun t s =>
      (readPhys m t (fcse s va) 1 s).bind fun l s =>
        (readSplit m (va + 1) n s).bind fun r s => .ok (l ++ r) s

/-- Single-byte writes in ascending order (20_memory.md R48, D12). -/
def writeSplit (m : AccessMode) (va : Word) : List Byte → State → Res Unit
  | [], s => .ok () s
  | b :: t, s =>
    (dataTranslate true m.user false va s).bind fun x s =>
      (writePhys m x (fcse s va) [b] s).bind fun _ s => writeSplit m (va + 1) t s

/-- An address is a multiple of the access size. -/
def naturallyAligned (va : Word) (n : Nat) : Bool := va.toNat % n == 0

/-- A read of 1, 2 or 4 bytes at an address that has passed the alignment rules, as a value in the current endianness
(20_memory.md R43). -/
def readAt (m : AccessMode) (n : Nat) (va : Word) (s : State) : Res Word :=
  let s := watchAccess va n m.load m.store (!m.user) s
  (if naturallyAligned va n then
      (dataTranslate false m.user true va s).bind fun t s => readPhys m t (fcse s va) n s
    else readSplit m va n s).bind fun l s => .ok (laneValue s.eBit l) s

/-- A write of 1, 2 or 4 bytes at an address that has passed the alignment rules (20_memory.md R43). -/
def writeAt (m : AccessMode) (n : Nat) (va v : Word) (s : State) : Res Unit :=
  let s := watchAccess va n m.load m.store (!m.user) s
  let bytes := laneBytes s.eBit v n
  if naturallyAligned va n then
    (dataTranslate true m.user true va s).bind fun t s => writePhys m t (fcse s va) bytes s
  else partialStore s (writeSplit m va bytes s)

/-- A load of a byte, halfword or word; a word load at a forced address is rotated (20_memory.md R45, R46). -/
def loadValue (m : AccessMode) (ty : AccessType) (n : Nat) (va : Word) (s : State) : Res Word :=
  (alignAccess ty false va s).bind fun a s =>
    (readAt m n a s).bind fun w s =>
      .ok (if a = va then w else w.rotateRight (8 * (fld va 0 2).toNat)) s

/-- A store of a byte, halfword or word (20_memory.md R45, R46). -/
def storeValue (m : AccessMode) (ty : AccessType) (n : Nat) (va v : Word) (s : State) : Res Unit :=
  (alignAccess ty true va s).bind fun a s => writeAt m n a v s

/-- The words of a Multi-word load in ascending address order (20_memory.md R92), the first at an aligned address. Each word is
read once: that across a 1KB boundary of Device or a 4KB boundary of Strongly Ordered memory a word may be read again (R67,
R68, R108) is left out, DESIGN CHOICE (notes/assumptions/57.md). -/
def loadWords (m : AccessMode) (va : Word) : Nat → State → Res (List Word)
  | 0, s => .ok [] s
  | n + 1, s =>
    (readAt m 4 va s).bind fun w s => (loadWords m (va + 4) n s).bind fun r s => .ok (w :: r) s

/-- The words of a Multi-word store in ascending address order (20_memory.md R92), each written once, as `loadWords` reads
(notes/assumptions/57.md). -/
def storeWords (m : AccessMode) (va : Word) : List Word → State → Res Unit
  | [], s => .ok () s
  | w :: t, s => (writeAt m 4 va w s).bind fun _ s => storeWords m (va + 4) t s

/-- A Multi-word or Two-word load of `n` words (20_memory.md R45). -/
def loadMany (m : AccessMode) (ty : AccessType) (va : Word) (n : Nat) (s : State) : Res (List Word) :=
  (alignAccess ty false va s).bind fun a s => loadWords m a n s

/-- A Multi-word or Two-word store (20_memory.md R45). -/
def storeMany (m : AccessMode) (ty : AccessType) (va : Word) (l : List Word) (s : State) : Res Unit :=
  (alignAccess ty true va s).bind fun a s => partialStore s (storeWords m a l s)

/-! ## Exclusive accesses -/

/-- The physical reads of an exclusive load: one, or the two words of a doubleword, the lower address first
(20_memory.md R43, R97). -/
def exclusiveRead (m : AccessMode) (t : Translated) (mva : Word) (n : Nat) (s : State) : Res (List Word) :=
  if n = 8 then
    (readPhys m t mva 4 s).bind fun l s =>
      (readPhys m { t with pa := t.pa + 4 } (mva + 4) 4 s).bind fun h s =>
        .ok [laneValue s.eBit l, laneValue s.eBit h] s
  else (readPhys m t mva n s).bind fun l s => .ok [laneValue s.eBit l] s

/-- The physical writes of an exclusive store. -/
def exclusiveWrite (m : AccessMode) (t : Translated) (mva : Word) (n : Nat) : List Word → State → Res Unit
  | [], s => .ok () s
  | w :: r, s =>
    (writePhys m t mva (laneBytes s.eBit w (min n 4)) s).bind fun _ s =>
      exclusiveWrite m { t with pa := t.pa + 4 } (mva + 4) n r s

/-- An exclusive load of `n` bytes tags the monitor and loads (20_memory.md R97, D9). After a precise external abort of the load, for
which R97 gives no state, the monitor stays tagged with its address: DESIGN CHOICE (notes/assumptions/58.md). -/
def loadExclusive (ty : AccessType) (n : Nat) (va : Word) (s : State) : Res (List Word) :=
  let m := plainMode s false
  (alignAccess ty false va s).bind fun a s =>
    let s := watchAccess a n true false (!m.user) s
    (dataTranslate false m.user true a s).bind fun t s =>
      exclusiveRead m t (fcse s a) n { s with monitor := .exclusive t.pa n }

/-- An exclusive store of `n` bytes drains the store buffer (20_memory.md R90, D3) and stores only if the monitor holds the address
and size, and leaves it open; the answer is whether it stored (R97, D9). A doubleword whose second word aborts has stored the first
or not, as a store of several accesses (notes/assumptions/26.md). After a Data Abort, for which R97 gives no state, the monitor is
as it was: DESIGN CHOICE (notes/assumptions/58.md). -/
def storeExclusive (ty : AccessType) (n : Nat) (va : Word) (l : List Word) (s : State) : Res Bool :=
  let m := { plainMode s true with locked := true }
  (alignAccess ty true va s).bind fun a s =>
    let s := watchAccess a n false true (!m.user) s
    (dataTranslate true m.user true a s).bind fun t s =>
      let s := drainAll s
      if s.monitor = .exclusive t.pa n then
        (partialStore s (exclusiveWrite m t (fcse s a) n l s)).bind fun _ s => .ok true { s with monitor := .openAccess }
      else .ok false { s with monitor := .openAccess }

/-! ## Instruction fetch -/

/-- An instruction fetched at an address: its bits, or the fault it carries (20_memory.md R49, R50, R86). -/
def fetchAt (va : Word) (thumb priv : Bool) (s : State) : Except Refusal Fetched × State :=
  let mva := fcse s va
  match translate .fetch (!priv) true mva s with
  | (.error (.fault f), s) => (.ok (.faulted ⟨f.status, f.sd⟩), s)
  | (.error (.refused r), s) => (.error r, s)
  | (.ok t, s) =>
    if inRegion s.cfg t.pa then (.error .privateRegionAccess, s)
    else match instrRead mva t.pa (if thumb then 2 else 4) (instrCachable s t.attr) s with
      | (.ok l, s) => (.ok (.bits (littleEndian l)), s)
      | (.error _, s) => (.ok (.faulted ⟨statusPreciseExternal, none⟩), s)

/-! ## What a fetch sees of the changes since the last pipeline flush -/

/-- What fetches depend on (41_cp15_c1_control.md R156). -/
def State.fetchView (s : State) : FetchView where
  cp15 := s.cp15
  tlb := s.tlb
  lockSlots := s.lockSlots
  vcr := s.dbg.vcr
  bvr := s.dbg.bvr
  bcr := s.dbg.bcr

/-- A change of what fetches depend on: until the next pipeline flush a fetch may see what stood before it
(41_cp15_c1_control.md R156, 44_cp15_c8_c10_tlb.md R230, 45_cp15_c13_c15.md R250, R251, 46_cp14_debug.md R307 to R309,
D16). -/
def State.noteFetch (old new : State) : State := { new with fetchOld := old.fetchView :: old.fetchOld }

/-- A register group of which each register may be an older one: a draw for each that differs. -/
def drawEach (cur : Vector Word 6) (old : List (Vector Word 6)) : List Nat → State → Vector Word 6 × State
  | [], s => (cur, s)
  | k :: t, s =>
    let x := drawOlder (cur.getD k 0) (old.map (·.getD k 0)) s
    let r := drawEach cur old t x.2
    (r.1.setIfInBounds k x.1, r.2)

/-- What one fetch sees: of each register that changes how memory is accessed or that the fetch is compared with, and of the main
TLB, the current value or one from before a change since the last pipeline flush, a draw for each (41_cp15_c1_control.md R156,
46_cp14_debug.md R307 to R309). -/
def drawView (s : State) : FetchView × State :=
  let control := drawOlder s.cp15.control (s.fetchOld.map (·.cp15.control)) s
  let ttbr0 := drawOlder s.cp15.ttbr0 (s.fetchOld.map (·.cp15.ttbr0)) control.2
  let ttbr1 := drawOlder s.cp15.ttbr1 (s.fetchOld.map (·.cp15.ttbr1)) ttbr0.2
  let ttbcr := drawOlder s.cp15.ttbcr (s.fetchOld.map (·.cp15.ttbcr)) ttbr1.2
  let dacr := drawOlder s.cp15.dacr (s.fetchOld.map (·.cp15.dacr)) ttbcr.2
  let lockdown := drawOlder s.cp15.tlbLockdown (s.fetchOld.map (·.cp15.tlbLockdown)) dacr.2
  let pid := drawOlder s.cp15.fcsePid (s.fetchOld.map (·.cp15.fcsePid)) lockdown.2
  let context := drawOlder s.cp15.contextId (s.fetchOld.map (·.cp15.contextId)) pid.2
  let tlb := drawOlder (s.tlb, s.lockSlots) (s.fetchOld.map fun v => (v.tlb, v.lockSlots)) context.2
  let vcr := drawOlder s.dbg.vcr (s.fetchOld.map (·.vcr)) tlb.2
  let bvr := drawEach s.dbg.bvr (s.fetchOld.map (·.bvr)) (List.range 6) vcr.2
  let bcr := drawEach s.dbg.bcr (s.fetchOld.map (·.bcr)) (List.range 6) bvr.2
  ({ cp15 := { s.cp15 with
       control := control.1, ttbr0 := ttbr0.1, ttbr1 := ttbr1.1, ttbcr := ttbcr.1, dacr := dacr.1
       tlbLockdown := lockdown.1, fcsePid := pid.1, contextId := context.1 }
     tlb := tlb.1.1, lockSlots := tlb.1.2
     vcr := vcr.1, bvr := bvr.1, bcr := bcr.1 }, bcr.2)

/-- The state as a view shows it to a fetch. -/
def State.seenBy (s : State) (v : FetchView) : State :=
  { s with
    cp15 := v.cp15
    tlb := v.tlb
    lockSlots := v.lockSlots
    dbg := { s.dbg with vcr := v.vcr, bvr := v.bvr, bcr := v.bcr } }

/-- A fetch with the debug events found at that time (46_cp14_debug.md R320, R323). -/
def fetchWithHits (va : Word) (thumb priv : Bool) (s : State) : Except Refusal (Fetched × DebugHits) × State :=
  match fetchAt va thumb priv s with
  | (.error r, s) => (.error r, s)
  | (.ok f, s) =>
    let h := fetchHits va (if thumb then 2 else 4) priv s
    (.ok (f, h.1), h.2)

/-- A fetch with the older settings it may still see; of what it does to the TLB, what it does to the current one stays
(41_cp15_c1_control.md R156). -/
def fetchInWindow (va : Word) (thumb priv : Bool) (s : State) : Except Refusal (Fetched × DebugHits) × State :=
  match s.fetchOld with
  | [] => fetchWithHits va thumb priv s
  | _ :: _ =>
    let v := drawView s
    let r := fetchWithHits va thumb priv (v.2.seenBy v.1)
    let current := v.1.tlb == s.tlb && v.1.lockSlots == s.lockSlots
    (r.1, { r.2 with
      cp15 := s.cp15
      dbg := s.dbg
      tlb := if current then r.2.tlb else s.tlb
      lockSlots := if current then r.2.lockSlots else s.lockSlots })

/-- An instruction fetched ahead stands for a fetch (20_memory.md R100). -/
def prefetchMatches (va : Word) (thumb priv : Bool) (p : Prefetched) : Bool :=
  p.va == va && p.thumb == thumb && p.priv == priv

/-- The instruction at the PC: one fetched ahead, if there is one, or a fetch now, which after a change of how memory is accessed may
see the old settings (20_memory.md R100, 41_cp15_c1_control.md R156, D16). -/
def fetchNext (s : State) : Except Refusal (Fetched × DebugHits) × State :=
  let priv := !s.userAccess
  match s.prefetched.findIdx? (prefetchMatches s.pc s.thumb priv) with
  | some k =>
    match s.prefetched[k]? with
    | some p => (.ok (p.result, p.hits), { s with prefetched := s.prefetched.drop (k + 1) })
    | none => fetchInWindow s.pc s.thumb priv s
  | none => fetchInWindow s.pc s.thumb priv s

/-- Branch prediction is in use: with the MMU on, the Z bit set, and a predictor enabled by RS, DB or SB of the Auxiliary Control
Register (20_memory.md R52, R101, 41_cp15_c1_control.md R153, R159); F only folds predicted branches. -/
def State.predicts (s : State) : Bool := s.ctlM && s.ctlZ && fld s.cp15.auxControl 0 3 != 0#3

/-- The prefetch unit fetches an instruction within 64 bytes after the PC, or at a predicted branch target
(20_memory.md R100, R101, U11, U13), for an instruction set state and a privilege: those in which it may be executed after
writes that flush nothing (41_cp15_c1_control.md R156). A fetch the model refuses brings nothing. -/
def prefetchAt (va : Word) (thumb priv : Bool) (s : State) : State :=
  let ahead := decide ((va - s.pc).toNat ≤ 64) || (s.predicts && s.btac.any fun e => e.target == va)
  if !s.halted && ahead && naturallyAligned va (if thumb then 2 else 4) then
    match fetchInWindow va thumb priv s with
    | (.ok (f, h), s') =>
      { s' with prefetched := s'.prefetched ++ [{ va := va, thumb := thumb, priv := priv, result := f, hits := h }] }
    | (.error _, _) => s
  else s

end Sys2Proof.Machine
end

