-- ==== Sys2Proof/Machine/Debug.lean ====
section
/-!
DEFINITION. The debug unit: the CP14 registers and who may use them, debug events at commitment, the Debug Test Access Port
and its scan chains (46_cp14_debug.md R301 to R349).
-/

namespace Sys2Proof.Machine

/-! ## CP14 registers -/

/-- What a CP14 instruction does, for the access rules (46_cp14_debug.md R317). -/
inductive Cp14Kind where
  /-- Read DIDR, read DSCR, read or write DTR. -/
  | comms
  | dscrWrite
  | other
deriving DecidableEq, Repr

/-- Who may execute a CP14 debug instruction (46_cp14_debug.md R317). -/
def cp14Allowed (s : State) (k : Cp14Kind) : Bool :=
  if s.halted then true
  else match k with
    | .comms => s.privileged || !bitAt s.dbg.dscr 12
    | .dscrWrite => s.privileged
    | .other => s.privileged && s.debugMode == .monitor

/-- The Debug ID Register (46_cp14_debug.md R302). -/
def didr : Word := 0x15110004

/-- The DSCR as it is read (46_cp14_debug.md R303, R304). The stored sticky precise Data Abort bit is answered while DSCR[13] is 0
too, where R304 calls it Unpredictable: DESIGN CHOICE (notes/assumptions/61.md). -/
def dscrRead (s : State) : Word :=
  let v := s.dbg.dscr &&& 0x6000FEFF
  if s.cfg.dbgen then v else v &&& 0xFFFF3FFF

/-- The core's write of the DSCR (46_cp14_debug.md R304). -/
def dscrWrite (v : Word) (s : State) : State :=
  s.setDscr ((s.dbg.dscr &&& ~~~ (0x0000903C : Word)) ||| (v &&& 0x0000903C))

/-- The core's read of the rDTR and write of the wDTR (46_cp14_debug.md R306). -/
def rdtrRead (s : State) : Word × State := (s.dbg.rdtr, s.setDscr (setBit s.dbg.dscr 30 false))
def wdtrWrite (v : Word) (s : State) : State :=
  { s with dbg := { s.dbg with wdtr := v, dscr := setBit s.dbg.dscr 29 true } }

/-- The bits of BVRy and BCRy that are implemented (46_cp14_debug.md R308, R309). -/
def bvrMask (y : Nat) : Word := if y < 4 then 0xFFFFFFFC else 0xFFFFFFFF
def bcrMask (y : Nat) : Word := if y < 4 then 0x001F01E7 else 0x003F01E7

/-- Writes of the registers that fetches are compared with, by the core or the debugger: until the next pipeline flush a fetch may
be compared with the old value (46_cp14_debug.md R307 to R309, D16). -/
def vcrWrite (v : Word) (s : State) : State := s.noteFetch { s with dbg := { s.dbg with vcr := v &&& 0x000000DF } }
def bvrWrite (y : Nat) (v : Word) (s : State) : State :=
  s.noteFetch { s with dbg := { s.dbg with bvr := s.dbg.bvr.setIfInBounds y (v &&& bvrMask y) } }
def bcrWrite (y : Nat) (v : Word) (s : State) : State :=
  s.noteFetch { s with dbg := { s.dbg with bcr := s.dbg.bcr.setIfInBounds y (v &&& bcrMask y) } }

/-- Writes of the watchpoint registers, by the core or the debugger (46_cp14_debug.md R311, R312). R312 lets the update wait for the
next IMB; here the very next data access is compared with the new value: DESIGN CHOICE (notes/assumptions/78.md). -/
def wvrWrite (y : Nat) (v : Word) (s : State) : State :=
  { s with dbg := { s.dbg with wvr := s.dbg.wvr.setIfInBounds y (v &&& 0xFFFFFFFC) } }
def wcrWrite (y : Nat) (v : Word) (s : State) : State :=
  { s with dbg := { s.dbg with wcr := s.dbg.wcr.setIfInBounds y (v &&& 0x001F01FF) } }

/-- Reads of the debug registers. -/
def vcrRead (s : State) : Word := s.dbg.vcr
def bvrRead (y : Nat) (s : State) : Word := s.dbg.bvr.getD y 0
def bcrRead (y : Nat) (s : State) : Word := s.dbg.bcr.getD y 0
def wvrRead (y : Nat) (s : State) : Word := s.dbg.wvr.getD y 0
def wcrRead (y : Nat) (s : State) : Word := s.dbg.wcr.getD y 0

/-! ## Debug events -/

/-- The debug event of an instruction about to be executed, by debug mode (46_cp14_debug.md R326, R328): whether a
breakpoint or a vector catch stands when both match is a draw. -/
def commitEvent (h : DebugHits) (s : State) : Option State :=
  let enter (bkpt vcatch : Bool) (act : State → BitVec 4 → State) : Option State :=
    match bkpt, vcatch with
    | true, true => some (withBool s fun first s => act s (if first then entryBreakpoint else entryVectorCatch))
    | true, false => some (act s entryBreakpoint)
    | false, true => some (act s entryVectorCatch)
    | false, false => none
  match s.debugMode with
  | .disabled => none
  | .halting => enter (h.bkpt || h.context) h.vcatch enterDebugState
  | .monitor => enter (h.bkpt || (h.context && !s.privileged)) (h.vcatch && !h.abortCatch) debugPrefetchAbort

/-- The event of a watchpointed instruction, taken at its end (46_cp14_debug.md R318, R327, R328, D28). `wfar` is the
address of the instruction plus its offset. -/
def watchEvent (wfar : Word) (s : State) : State :=
  if s.dbg.watchHit then
    let s := s.clearWatch
    match s.debugMode with
    | .disabled => s
    | .halting => enterDebugState (s.setWfar wfar) entryWatchpoint
    | .monitor => debugDataAbort s wfar
  else s

/-- The bits of a PC value that the instruction set state allows (47_core_instructions.md R706). -/
def alignPc (s : State) (v : Word) : Word :=
  if s.tBit then v &&& 0xFFFFFFFE else if s.jBit then v else v &&& 0xFFFFFFFC

/-- Leaving debug state (46_cp14_debug.md R333, R334): without a write of the PC the restart address is a free value. DSCR[13], which
R304 and R341 call Unpredictable outside debug state, stays as it is, and the access port goes on as it does with that value:
DESIGN CHOICE (notes/assumptions/69.md). After a write of the PC that a change of CPSR.T or CPSR.J followed, which R333 calls
Unpredictable, the CPU restarts at the PC as written, in the new state: DESIGN CHOICE (notes/assumptions/79.md). The first
instruction is fetched anew with the current settings, as after a pipeline flush, which 41_cp15_c1_control.md R156 and D16 do not
say of leaving debug state: DESIGN CHOICE (notes/assumptions/81.md). -/
def leaveDebugState (s : State) : State :=
  withWord s fun free s =>
    let t := s.setDscr (setBit (setBit s.dbg.dscr 0 false) 1 true)
    let t := if s.dbg.pcWritten then t else t.setPc (alignPc s free)
    { t.flushPipeline with dbg := { t.dbg with pcWritten := false, touched := false } }

/-! ## The access port -/

/-- The next state of the controller on a TCK cycle (46_cp14_debug.md R336). -/
def TapState.next : TapState → Bool → TapState
  | .testLogicReset, tms => if tms then .testLogicReset else .runTestIdle
  | .runTestIdle, tms => if tms then .selectDr else .runTestIdle
  | .selectDr, tms => if tms then .selectIr else .captureDr
  | .captureDr, tms => if tms then .exit1Dr else .shiftDr
  | .shiftDr, tms => if tms then .exit1Dr else .shiftDr
  | .exit1Dr, tms => if tms then .updateDr else .pauseDr
  | .pauseDr, tms => if tms then .exit2Dr else .pauseDr
  | .exit2Dr, tms => if tms then .updateDr else .shiftDr
  | .updateDr, tms => if tms then .selectDr else .runTestIdle
  | .selectIr, tms => if tms then .testLogicReset else .captureIr
  | .captureIr, tms => if tms then .exit1Ir else .shiftIr
  | .shiftIr, tms => if tms then .exit1Ir else .shiftIr
  | .exit1Ir, tms => if tms then .updateIr else .pauseIr
  | .pauseIr, tms => if tms then .exit2Ir else .pauseIr
  | .exit2Ir, tms => if tms then .updateIr else .shiftIr
  | .updateIr, tms => if tms then .selectDr else .runTestIdle

/-- The DBGTAP instructions (46_cp14_debug.md R336). -/
def tapExtest : BitVec 5 := 0b00000
def tapScanN : BitVec 5 := 0b00010
def tapRestart : BitVec 5 := 0b00100
def tapHalt : BitVec 5 := 0b01000
def tapIntest : BitVec 5 := 0b01100
def tapItrsel : BitVec 5 := 0b11101
def tapIdcode : BitVec 5 := 0b11110
def tapBypass : BitVec 5 := 0b11111

/-- The register between TDI and TDO. -/
inductive DataRegister where
  | bypass | scanSelect | idcode
  | chain (n : BitVec 5)
deriving DecidableEq, Repr

/-- The data register the current instruction selects (46_cp14_debug.md R336, R337). -/
def Tap.register (t : Tap) : DataRegister :=
  if t.ir = tapScanN then .scanSelect
  else if t.ir = tapIdcode then .idcode
  else if t.ir = tapItrsel then .chain 4
  else if t.ir = tapExtest ∨ t.ir = tapIntest then .chain t.screg
  else .bypass

/-- The instruction writes the selected chain (46_cp14_debug.md R336, R337). -/
def Tap.writes (t : Tap) : Bool := t.ir == tapExtest || t.ir == tapItrsel

/-- The length of a data register (46_cp14_debug.md R336 to R343); of the chains not described, the model's choice. -/
def DataRegister.length : DataRegister → Nat
  | .bypass => 1
  | .scanSelect => 5
  | .idcode => 32
  | .chain n => if n = 1 then 32 else if n = 4 then 33 else if n = 5 then 34 else 40

/-- The state with the access port replaced. -/
def State.setTap (s : State) (t : Tap) : State := { s with dbg := { s.dbg with tap := t } }

/-- The InstCompl flag: always set with DSCR[13] clear (46_cp14_debug.md R340). -/
def instCompleted (s : State) : Bool := s.dbg.tap.instComplete || !bitAt s.dbg.dscr 13

/-- What scan chain 7 captures of a request that is complete: the register contents that the last request read, and free values
for the Address field, and for the Data field after a write request, which R342 does not give (notes/assumptions/80.md). -/
def chainCapture (t : Tap) (address data : Word) : BitVec 40 :=
  (fld address 0 7 : BitVec 7) ++ (if t.reqWrite then data else t.reqData) ++ 1#1

/-- Capture-DR (46_cp14_debug.md R330, R336 to R343). -/
def captureDr (s : State) : State :=
  let t := s.dbg.tap
  let load (v : BitVec 40) : Tap := { t with drShift := v }
  match t.register with
  | .bypass => s.setTap (load 0)
  | .scanSelect => s.setTap (load 0b10000)
  | .idcode => s.setTap (load (((s.cfg.dbgtapVersion ++ (0x7B37477 : BitVec 28)).setWidth 40)))
  | .chain n =>
    if n = 0 then s.setTap (load ((0x41 : BitVec 8) ++ didr))
    else if n = 1 then
      let u := s.setTap (load ((dscrRead s).setWidth 40))
      if t.ir = tapIntest then u.setDscr (setFld u.dbg.dscr 6 (0#2)) else u
    else if n = 4 then
      withWord s fun free s =>
        s.setTap { t with
          drShift := (BitVec.ofBool (instCompleted s) ++ free).setWidth 40
          ready := instCompleted s }
    else if n = 5 then
      let empty := !bitAt s.dbg.dscr 30
      let f := if t.ir = tapIntest then bitAt s.dbg.dscr 29 else empty
      let u := s.setTap { t with
        drShift := (BitVec.ofBool f ++ BitVec.ofBool (instCompleted s) ++ s.dbg.wdtr).setWidth 40
        ready := instCompleted s
        nRetry := empty }
      if t.ir = tapIntest then u.setDscr (setBit u.dbg.dscr 29 false) else u
    else if n = 7 then
      withWord s fun address s => withWord s fun data s =>
        s.setTap { t with
          drShift := if t.reqComplete then chainCapture t address data else 0
          reqReady := t.reqComplete }
    else withWord s fun high s => withWord s fun low s => s.setTap (load ((high ++ low).setWidth 40))

/-- Shift-DR: one bit in from TDI, one out to TDO; a chain 7 request in progress freezes the chain (46_cp14_debug.md R337,
R342). -/
def shiftDr (tdi : Bool) (t : Tap) : Tap :=
  if t.register = .chain 7 ∧ !t.reqReady then { t with drShift := 0 }
  else
    let v := (t.drShift >>> 1) &&& (BitVec.allOnes 40 >>> (41 - t.register.length))
    { t with drShift := v ||| ((BitVec.ofBool tdi).setWidth 40 <<< (t.register.length - 1)) }

/-- The registers scan chain 7 reaches (46_cp14_debug.md R342). -/
def chainRegister (a : BitVec 7) : Bool :=
  let n := a.toNat
  n == 7 || n == 8 || (decide (64 ≤ n) && decide (n ≤ 69)) || (decide (80 ≤ n) && decide (n ≤ 85)) || n == 96 || n == 97 ||
    n == 112 || n == 113

/-- The debugger's write of the DSCR (46_cp14_debug.md R304); DSCR[13] set outside debug state is Unpredictable (U33). -/
def dscrDebuggerWrite (v : Word) (s : State) : Except Refusal State :=
  if bitAt v 13 && !s.halted then .error .debugStateUnpredictable
  else .ok (s.setDscr ((s.dbg.dscr &&& ~~~ (0x00006E00 : Word)) ||| (v &&& 0x00006E00)))

/-- Update-DR (46_cp14_debug.md R337 to R342). -/
def updateDr (s : State) : Except Refusal State :=
  let t := s.dbg.tap
  match t.register with
  | .scanSelect => .ok (s.setTap { t with screg := fld t.drShift 0 5 })
  | .chain n =>
    if n = 1 ∧ t.writes then dscrDebuggerWrite (fld t.drShift 0 32) s
    else if n = 4 ∧ t.writes then .ok (if t.ready then s.setTap { t with itr := fld t.drShift 0 32 } else s)
    else if n = 5 ∧ t.writes then
      let ok := if bitAt s.dbg.dscr 13 then t.ready else t.nRetry
      .ok (if ok then
        { s with dbg := { s.dbg with rdtr := fld t.drShift 0 32, dscr := setBit s.dbg.dscr 30 true } }
      else s)
    else if n = 7 ∧ t.reqReady then
      let a : BitVec 7 := fld t.drShift 33 7
      if a = 0 then .ok s
      else if chainRegister a then
        .ok (s.setTap { t with
          reqWrite := bitAt t.drShift 0
          reqAddr := a
          reqData := fld t.drShift 1 32
          reqComplete := false })
      else .error .debugRegister
    else .ok s
  | _ => .ok s

/-- The sample that scan chain 7 reads of the PC of the instruction at the PC (46_cp14_debug.md R342). -/
def pcSample (s : State) : Word :=
  if s.tBit then (s.pc + 4) ||| 1
  else if s.jBit then (s.pc &&& 0xFFFFFFFC) ||| 2
  else (s.pc + 8) &&& 0xFFFFFFFC

/-- The instruction at the PC is committed for execution: it is the one a PC sample gives from now on (46_cp14_debug.md R342). -/
def State.committed (s : State) : State := { s with dbg := { s.dbg with pcSample := pcSample s } }

/-- What a chain 7 read request copies; in debug state a PC sample is Undefined (46_cp14_debug.md R342). -/
def chainRead (a : BitVec 7) (s : State) : Word × State :=
  let n := a.toNat
  let y := n % 16
  if n = 7 then (vcrRead s, s)
  else if n = 8 then (if s.halted then s.drawWord else (s.dbg.pcSample, s))
  else if n < 80 then (bvrRead y s, s)
  else if n < 96 then (bcrRead y s, s)
  else if n < 112 then (wvrRead y s, s)
  else (wcrRead y s, s)

/-- What a chain 7 write request does; a write of the PC is ignored (46_cp14_debug.md R342). -/
def chainWrite (a : BitVec 7) (v : Word) (s : State) : State :=
  let n := a.toNat
  let y := n % 16
  if n = 7 then vcrWrite v s
  else if n = 8 then s
  else if n < 80 then bvrWrite y v s
  else if n < 96 then bcrWrite y v s
  else if n < 112 then wvrWrite y v s
  else wcrWrite y v s

/-- The pending chain 7 request completes (46_cp14_debug.md R342). -/
def completeRequest (s : State) : State :=
  let t := s.dbg.tap
  if t.reqComplete then s
  else if t.reqWrite then (chainWrite t.reqAddr t.reqData s).setTap { t with reqComplete := true }
  else
    let r := chainRead t.reqAddr s
    r.2.setTap { t with reqComplete := true, reqData := r.1 }

/-- The ITR instruction is issued (46_cp14_debug.md R340). -/
def itrIssues (s : State) : Bool :=
  let t := s.dbg.tap
  s.halted && bitAt s.dbg.dscr 13 && (t.register == .chain 4 || t.register == .chain 5) && t.ready &&
    !bitAt s.dbg.dscr 6

/-- The controller enters Run-Test/Idle: Halt, Restart or the issue of the ITR (46_cp14_debug.md R334, R336, R340). A Restart of a
CPU that is not in debug state completes with nothing to leave: the Core restarted bit is set, as R334's pseudocode has it. -/
def enterIdle (s : State) : State :=
  let t := s.dbg.tap
  if t.ir = tapHalt then s.setTap { t with haltRequested := !s.halted }
  else if t.ir = tapRestart then (if s.halted then leaveDebugState s else s.setDscr (setBit s.dbg.dscr 1 true))
  else if itrIssues s then s.setTap { t with instComplete := false, issue := true }
  else s

/-- A reset of the access port (46_cp14_debug.md R336, 10_state.md R38): the ITR, whose reset value no rule gives, holds a free
value, and no instruction is incomplete. -/
def tapReset (s : State) : State :=
  withWord s fun free s =>
    s.setTap { s.dbg.tap with state := .testLogicReset, ir := tapIdcode, screg := 3, itr := free, instComplete := true }

/-- One TCK cycle: the controller moves and acts in the state it enters; a shift takes TDI in. A code that reaches Update-IR
waits for its own step, the DBGTAP instruction (46_cp14_debug.md R336, R337). -/
def tapClock (tms tdi : Bool) (s : State) : Except Refusal State :=
  let t0 := s.dbg.tap
  let shifted :=
    if t0.state = .shiftDr then shiftDr tdi t0
    else if t0.state = .shiftIr then { t0 with irShift := BitVec.ofBool tdi ++ fld t0.irShift 1 4 }
    else t0
  let next := t0.state.next tms
  let s := s.setTap { shifted with state := next }
  match next with
  | .testLogicReset => .ok (tapReset s)
  | .captureDr => .ok (captureDr s)
  | .updateDr => updateDr s
  | .captureIr => .ok (s.setTap { s.dbg.tap with irShift := 0b00001 })
  | .updateIr => .ok (s.setTap { s.dbg.tap with queue := s.dbg.tap.queue ++ [s.dbg.tap.irShift] })
  | .runTestIdle => .ok (if t0.state = .runTestIdle then s else enterIdle s)
  | _ => .ok s

end Sys2Proof.Machine
end

