-- ==== Sys2Proof/Machine/Operands.lean ====
section
/-!
DEFINITION. The operand forms: the shifter operand of the data-processing instructions (47_core_instructions.md R750) and
the addresses of the loads and stores (R770 to R772, 46_cp14_debug.md R315, 48_vfp.md R787).
-/

namespace Sys2Proof.Machine

/-- A shifter operand and its carry out. -/
structure Shifted where
  value : Word
  carry : Bool
deriving DecidableEq, Repr

/-- An 8-bit immediate rotated right by twice `rot` (47_core_instructions.md R750, I = 1). -/
def rotatedImm (rot : BitVec 4) (imm : BitVec 8) : Word := (imm.setWidth 32).rotateRight (2 * rot.toNat)

/-- The immediate operand (47_core_instructions.md R750, I = 1). -/
def immOperand (rot : BitVec 4) (imm : BitVec 8) (c : Bool) : Shifted :=
  { value := rotatedImm rot imm, carry := if rot = 0 then c else (rotatedImm rot imm).msb }

/-- A register shifted by an immediate amount (47_core_instructions.md R750, I = 0, bit [4] = 0). -/
def shiftImm (w : Word) (ty : BitVec 2) (amount : BitVec 5) (c : Bool) : Shifted :=
  let n := amount.toNat
  match ty with
  | 0#2 => if n = 0 then ⟨w, c⟩ else ⟨w <<< n, bitAt w (32 - n)⟩
  | 1#2 => if n = 0 then ⟨0, bitAt w 31⟩ else ⟨w >>> n, bitAt w (n - 1)⟩
  | 2#2 => if n = 0 then ⟨w.sshiftRight 31, bitAt w 31⟩ else ⟨w.sshiftRight n, bitAt w (n - 1)⟩
  | _ => if n = 0 then ⟨setBit (w >>> 1) 31 c, bitAt w 0⟩ else ⟨w.rotateRight n, bitAt w (n - 1)⟩

/-- A register shifted by the low byte of another (47_core_instructions.md R750, I = 0, bit [4] = 1). -/
def shiftReg (w : Word) (ty : BitVec 2) (amount : BitVec 8) (c : Bool) : Shifted :=
  let n := amount.toNat
  if n = 0 then ⟨w, c⟩
  else match ty with
    | 0#2 => if n < 32 then ⟨w <<< n, bitAt w (32 - n)⟩ else ⟨0, n == 32 && bitAt w 0⟩
    | 1#2 => if n < 32 then ⟨w >>> n, bitAt w (n - 1)⟩ else ⟨0, n == 32 && bitAt w 31⟩
    | 2#2 => if n < 32 then ⟨w.sshiftRight n, bitAt w (n - 1)⟩ else ⟨w.sshiftRight 31, bitAt w 31⟩
    | _ => if n % 32 = 0 then ⟨w, bitAt w 31⟩ else ⟨w.rotateRight (n % 32), bitAt w (n % 32 - 1)⟩

/-- The operand forms of the data-processing instructions. -/
def State.immOp (s : State) (rot : BitVec 4) (imm : BitVec 8) : Shifted := immOperand rot imm s.flagC
def State.shiftImmOp (s : State) (amount : BitVec 5) (ty : BitVec 2) (rm : RegNum) : Shifted :=
  shiftImm (s.reg rm) ty amount s.flagC
def State.shiftRegOp (s : State) (rs : RegNum) (ty : BitVec 2) (rm : RegNum) : Shifted :=
  shiftReg (s.reg rm) ty (fld (s.reg rs) 0 8) s.flagC

/-- A base plus or minus an offset (47_core_instructions.md R770). -/
def offsetAddr (u : Bool) (base off : Word) : Word := if u then base + off else base - off

/-- The address and the base written back by a load or store: offset, pre-indexed or post-indexed
(47_core_instructions.md R770). -/
structure Addressed where
  address : Word
  writeback : Option Word
deriving DecidableEq, Repr

/-- The addressing of the P, U and W bits; post-indexing always writes back (47_core_instructions.md R770). -/
def addressing (p u w : Bool) (base off : Word) : Addressed :=
  let a := offsetAddr u base off
  if p then { address := a, writeback := if w then some a else none }
  else { address := base, writeback := some a }

/-- The address and the written back base of an LDC or STC class instruction: the base with P = 0, the base and the offset with
P = 1; written back where W is set (46_cp14_debug.md R315, 48_vfp.md R787; notes/assumptions/15.md). -/
def copAddressing (p u w : Bool) (base off : Word) : Addressed :=
  let a := offsetAddr u base off
  { address := if p then a else base, writeback := if w then some a else none }

/-- The number of registers in a list (47_core_instructions.md R772). -/
def listCount (list : BitVec 16) : Nat := ((List.range 16).filter fun i => bitAt list i).length

/-- The numbers of the registers in a list, lowest first (47_core_instructions.md R772). -/
def listRegs (list : BitVec 16) : List RegNum := ((List.range 16).filter fun i => bitAt list i).map (BitVec.ofNat 4)

/-- The lowest address of a load or store multiple of `k` words (47_core_instructions.md R772). -/
def multipleStart (p u : Bool) (base : Word) (k : Nat) : Word :=
  if u then (if p then base + 4 else base)
  else (if p then base - BitVec.ofNat 32 (4 * k) else base - BitVec.ofNat 32 (4 * k) + 4)

/-- The base after a load or store multiple of `k` words (47_core_instructions.md R772). -/
def multipleBase (u : Bool) (base : Word) (k : Nat) : Word := offsetAddr u base (BitVec.ofNat 32 (4 * k))

/-- The state with the base register of an addressing form written back. -/
def State.writeBase (s : State) (rn : RegNum) : Option Word → State
  | none => s
  | some v => s.setReg rn v

end Sys2Proof.Machine
end

