-- ==== Sys2Proof/Machine/Cp14.lean ====
section
/-!
DEFINITION. The meanings of the CP14 debug instructions (46_cp14_debug.md R302 to R317).
-/

namespace Sys2Proof.Machine

/-- A CP14 instruction: its condition, then the access table of 46_cp14_debug.md R317. -/
def cp14Run (cond : Cond) (k : Cp14Kind) (s : State) (m : State → Res Unit) : Host.Outcome State Fault Refusal :=
  whenPasses cond s fun s => if cp14Allowed s k then m s else .exc .undefined s

/-- A CP14 register transfer of Rd, one of R0 to R14: with R15 it is Undefined (46_cp14_debug.md R301). -/
def cp14Transfer (cond : Cond) (k : Cp14Kind) (rd : RegNum) (s : State) (m : State → Res Unit) :
    Host.Outcome State Fault Refusal :=
  cp14Run cond k s fun s => if rd = 15 then .exc .undefined s else m s

/-- A CP14 register read into Rd, and one written from Rd. -/
def cp14Read (cond : Cond) (k : Cp14Kind) (rd : RegNum) (s : State) (v : State → Word) : Host.Outcome State Fault Refusal :=
  cp14Transfer cond k rd s fun s => .ok () (s.setReg rd (v s)).advance
def cp14Write (cond : Cond) (k : Cp14Kind) (rd : RegNum) (s : State) (f : Word → State → State) :
    Host.Outcome State Fault Refusal :=
  cp14Transfer cond k rd s fun s => .ok () (f (s.reg rd) s).advance

/-- MRC DIDR (46_cp14_debug.md R302). -/
def execMrcDidr (cond : Cond) (rd : RegNum) (s : State) : Host.Outcome State Fault Refusal :=
  cp14Read cond .comms rd s fun _ => didr
/-- MRC and MCR DSCR (46_cp14_debug.md R304). -/
def execMrcDscr (cond : Cond) (rd : RegNum) (s : State) : Host.Outcome State Fault Refusal :=
  cp14Read cond .comms rd s dscrRead
def execMcrDscr (cond : Cond) (rd : RegNum) (s : State) : Host.Outcome State Fault Refusal :=
  cp14Write cond .dscrWrite rd s dscrWrite
/-- MRC DTR reads the rDTR, MCR DTR writes the wDTR (46_cp14_debug.md R306). -/
def execMrcDtr (cond : Cond) (rd : RegNum) (s : State) : Host.Outcome State Fault Refusal :=
  cp14Transfer cond .comms rd s fun s => .ok () ((rdtrRead s).2.setReg rd (rdtrRead s).1).advance
def execMcrDtr (cond : Cond) (rd : RegNum) (s : State) : Host.Outcome State Fault Refusal :=
  cp14Write cond .comms rd s wdtrWrite
/-- MRC and MCR VCR (46_cp14_debug.md R307). -/
def execMrcVcr (cond : Cond) (rd : RegNum) (s : State) : Host.Outcome State Fault Refusal :=
  cp14Read cond .other rd s vcrRead
def execMcrVcr (cond : Cond) (rd : RegNum) (s : State) : Host.Outcome State Fault Refusal :=
  cp14Write cond .other rd s vcrWrite
/-- The Breakpoint Value Registers (46_cp14_debug.md R308). -/
def execMrcBvr0 (cond : Cond) (rd : RegNum) (s : State) : Host.Outcome State Fault Refusal :=
  cp14Read cond .other rd s (bvrRead 0)
def execMcrBvr0 (cond : Cond) (rd : RegNum) (s : State) : Host.Outcome State Fault Refusal :=
  cp14Write cond .other rd s (bvrWrite 0)
def execMrcBvr1 (cond : Cond) (rd : RegNum) (s : State) : Host.Outcome State Fault Refusal :=
  cp14Read cond .other rd s (bvrRead 1)
def execMcrBvr1 (cond : Cond) (rd : RegNum) (s : State) : Host.Outcome State Fault Refusal :=
  cp14Write cond .other rd s (bvrWrite 1)
def execMrcBvr2 (cond : Cond) (rd : RegNum) (s : State) : Host.Outcome State Fault Refusal :=
  cp14Read cond .other rd s (bvrRead 2)
def execMcrBvr2 (cond : Cond) (rd : RegNum) (s : State) : Host.Outcome State Fault Refusal :=
  cp14Write cond .other rd s (bvrWrite 2)
def execMrcBvr3 (cond : Cond) (rd : RegNum) (s : State) : Host.Outcome State Fault Refusal :=
  cp14Read cond .other rd s (bvrRead 3)
def execMcrBvr3 (cond : Cond) (rd : RegNum) (s : State) : Host.Outcome State Fault Refusal :=
  cp14Write cond .other rd s (bvrWrite 3)
def execMrcBvr4 (cond : Cond) (rd : RegNum) (s : State) : Host.Outcome State Fault Refusal :=
  cp14Read cond .other rd s (bvrRead 4)
def execMcrBvr4 (cond : Cond) (rd : RegNum) (s : State) : Host.Outcome State Fault Refusal :=
  cp14Write cond .other rd s (bvrWrite 4)
def execMrcBvr5 (cond : Cond) (rd : RegNum) (s : State) : Host.Outcome State Fault Refusal :=
  cp14Read cond .other rd s (bvrRead 5)
def execMcrBvr5 (cond : Cond) (rd : RegNum) (s : State) : Host.Outcome State Fault Refusal :=
  cp14Write cond .other rd s (bvrWrite 5)
/-- The Breakpoint Control Registers (46_cp14_debug.md R309). -/
def execMrcBcr0 (cond : Cond) (rd : RegNum) (s : State) : Host.Outcome State Fault Refusal :=
  cp14Read cond .other rd s (bcrRead 0)
def execMcrBcr0 (cond : Cond) (rd : RegNum) (s : State) : Host.Outcome State Fault Refusal :=
  cp14Write cond .other rd s (bcrWrite 0)
def execMrcBcr1 (cond : Cond) (rd : RegNum) (s : State) : Host.Outcome State Fault Refusal :=
  cp14Read cond .other rd s (bcrRead 1)
def execMcrBcr1 (cond : Cond) (rd : RegNum) (s : State) : Host.Outcome State Fault Refusal :=
  cp14Write cond .other rd s (bcrWrite 1)
def execMrcBcr2 (cond : Cond) (rd : RegNum) (s : State) : Host.Outcome State Fault Refusal :=
  cp14Read cond .other rd s (bcrRead 2)
def execMcrBcr2 (cond : Cond) (rd : RegNum) (s : State) : Host.Outcome State Fault Refusal :=
  cp14Write cond .other rd s (bcrWrite 2)
def execMrcBcr3 (cond : Cond) (rd : RegNum) (s : State) : Host.Outcome State Fault Refusal :=
  cp14Read cond .other rd s (bcrRead 3)
def execMcrBcr3 (cond : Cond) (rd : RegNum) (s : State) : Host.Outcome State Fault Refusal :=
  cp14Write cond .other rd s (bcrWrite 3)
def execMrcBcr4 (cond : Cond) (rd : RegNum) (s : State) : Host.Outcome State Fault Refusal :=
  cp14Read cond .other rd s (bcrRead 4)
def execMcrBcr4 (cond : Cond) (rd : RegNum) (s : State) : Host.Outcome State Fault Refusal :=
  cp14Write cond .other rd s (bcrWrite 4)
def execMrcBcr5 (cond : Cond) (rd : RegNum) (s : State) : Host.Outcome State Fault Refusal :=
  cp14Read cond .other rd s (bcrRead 5)
def execMcrBcr5 (cond : Cond) (rd : RegNum) (s : State) : Host.Outcome State Fault Refusal :=
  cp14Write cond .other rd s (bcrWrite 5)
/-- The Watchpoint Value Registers (46_cp14_debug.md R311). -/
def execMrcWvr0 (cond : Cond) (rd : RegNum) (s : State) : Host.Outcome State Fault Refusal :=
  cp14Read cond .other rd s (wvrRead 0)
def execMcrWvr0 (cond : Cond) (rd : RegNum) (s : State) : Host.Outcome State Fault Refusal :=
  cp14Write cond .other rd s (wvrWrite 0)
def execMrcWvr1 (cond : Cond) (rd : RegNum) (s : State) : Host.Outcome State Fault Refusal :=
  cp14Read cond .other rd s (wvrRead 1)
def execMcrWvr1 (cond : Cond) (rd : RegNum) (s : State) : Host.Outcome State Fault Refusal :=
  cp14Write cond .other rd s (wvrWrite 1)
/-- The Watchpoint Control Registers (46_cp14_debug.md R312). -/
def execMrcWcr0 (cond : Cond) (rd : RegNum) (s : State) : Host.Outcome State Fault Refusal :=
  cp14Read cond .other rd s (wcrRead 0)
def execMcrWcr0 (cond : Cond) (rd : RegNum) (s : State) : Host.Outcome State Fault Refusal :=
  cp14Write cond .other rd s (wcrWrite 0)
def execMrcWcr1 (cond : Cond) (rd : RegNum) (s : State) : Host.Outcome State Fault Refusal :=
  cp14Read cond .other rd s (wcrRead 1)
def execMcrWcr1 (cond : Cond) (rd : RegNum) (s : State) : Host.Outcome State Fault Refusal :=
  cp14Write cond .other rd s (wcrWrite 1)

/-- MRC DSCR with Rd = R15: Z and C from DSCR[30:29], N and V free values (46_cp14_debug.md R314). -/
def execMrcDscrFlags (cond : Cond) (s : State) : Host.Outcome State Fault Refusal :=
  cp14Run cond .comms s fun s =>
    withBool s fun n s => withBool s fun v s =>
      .ok () (s.setNzcv n (bitAt s.dbg.dscr 30) (bitAt s.dbg.dscr 29) v).advance

/-- A base that is the PC may not be written back: no rule of the sources gives such a form an effect (U38). -/
def cp14BadBase (w : Bool) (rn : RegNum) : Bool := w && rn == 15

/-- LDC: a memory word to the wDTR (46_cp14_debug.md R315). -/
def execLdcDtr (cond : Cond) (p u w : Bool) (rn : RegNum) (off : BitVec 8) (s : State) : Host.Outcome State Fault Refusal :=
  cp14Run cond .comms s fun s =>
    if cp14BadBase w rn then .refused .unpredictableForm
    else
      let x := copAddressing p u w (s.reg rn) (put off 2)
      (loadMany (plainMode s false) .multi x.address 1 s).bind fun l s =>
        .ok () ((wdtrWrite (l.headD 0) s).writeBase rn x.writeback).advance

/-- STC: the rDTR to memory (46_cp14_debug.md R316). -/
def execStcDtr (cond : Cond) (p u w : Bool) (rn : RegNum) (off : BitVec 8) (s : State) : Host.Outcome State Fault Refusal :=
  cp14Run cond .comms s fun s =>
    if cp14BadBase w rn then .refused .unpredictableForm
    else
      let x := copAddressing p u w (s.reg rn) (put off 2)
      (storeMany (plainMode s true) .multi x.address [s.dbg.rdtr] s).bind fun _ s =>
        .ok () ((rdtrRead s).2.writeBase rn x.writeback).advance

/-- Any other CP14 instruction is Undefined (47_core_instructions.md R704). -/
def execCp14Other (cond : Cond) (_hi : BitVec 14) (_lo : BitVec 8) (s : State) : Host.Outcome State Fault Refusal :=
  whenPasses cond s fun s => .exc .undefined s

end Sys2Proof.Machine
end

