-- ==== Sys2Proof/Machine/Cp15.lean ====
section
/-!
DEFINITION. The operations the CP15 meanings share: who may execute them, remap changes, cache and TLB maintenance, the
translation operations, the performance counters and the TLB lockdown entries (30_encoding.md R112 to R117 and the files
40_cp15_c0_id.md to 45_cp15_c13_c15.md).
-/

namespace Sys2Proof.Machine

/-! ## Access -/

/-- A CP15 transfer of a privileged register or operation: Undefined in User mode (30_encoding.md R114); Rd = R15 is outside
the specification (R113, U19). -/
def cp15Run (cond : Cond) (rd : RegNum) (s : State) (m : State → Res Unit) : Host.Outcome State Fault Refusal :=
  whenPasses cond s fun s =>
    if !s.privileged then .exc .undefined s else if rd = 15 then .refused .cp15R15 else m s

/-- A CP15 transfer that every mode may execute (30_encoding.md R114). -/
def cp15RunUser (cond : Cond) (rd : RegNum) (s : State) (m : State → Res Unit) : Host.Outcome State Fault Refusal :=
  whenPasses cond s fun s => if rd = 15 then .refused .cp15R15 else m s

/-- The value of a register moved to Rd (30_encoding.md R112). -/
def cp15Read (cond : Cond) (rd : RegNum) (s : State) (v : State → Word) : Host.Outcome State Fault Refusal :=
  cp15Run cond rd s fun s => .ok () (s.setReg rd (v s)).advance

/-- A value computed with a change of state moved to Rd (30_encoding.md R112). -/
def cp15ReadWith (cond : Cond) (rd : RegNum) (s : State) (v : State → Word × State) : Host.Outcome State Fault Refusal :=
  cp15Run cond rd s fun s => .ok () ((v s).2.setReg rd (v s).1).advance

/-- A register written from Rd, or an operation with operand Rd that cannot fail (30_encoding.md R112). -/
def cp15Write (cond : Cond) (rd : RegNum) (s : State) (f : Word → State → State) : Host.Outcome State Fault Refusal :=
  cp15Run cond rd s fun s => .ok () (f (s.reg rd) s).advance

/-- The state with the CP15 registers replaced. -/
def State.setCp15 (s : State) (c : Cp15) : State := { s with cp15 := c }

/-- The state with CP15 registers replaced of which one changes how memory is accessed: until the next pipeline flush a fetch may
see the old ones (41_cp15_c1_control.md R156, D16). -/
def State.setFetchCp15 (s : State) (c : Cp15) : State := s.noteFetch (s.setCp15 c)

/-! ## Remap changes -/

/-- A state whose TLB controls have changed since `old` may still use the older ones (20_memory.md R56, R60,
44_cp15_c8_c10_tlb.md R239, U14). -/
def noteRemap (old new : State) : State :=
  if old.tlbControls = new.tlbControls then new
  else { new with remapOld := { controls := old.tlbControls, invalidated := false, flushed := false } :: old.remapOld }

/-! ## Cache maintenance -/

/-- The set a Set/Way operand names, and its way (43_cp15_c7_cache_ops.md R220). -/
def operandSet (z : CacheSize) (v : Word) : Nat := v.toNat / 32 % 2 ^ setBitsOf z
def operandWay (v : Word) : BitVec 2 := fld v 30 2

/-- The instruction cache emptied, and the branch target address cache with it (43_cp15_c7_cache_ops.md R202). -/
def invalidateIcache (s : State) : State := { s with icache := [], btac := [] }

/-- One instruction cache line invalidated (43_cp15_c7_cache_ops.md R203, R204). -/
def dropInstrLines (p : Line → Bool) (s : State) : State := { s with icache := s.icache.filter fun l => !p l }

/-- An operation on every line of the data cache, after the store buffer has drained (43_cp15_c7_cache_ops.md R208, R212,
R217; notes/assumptions/16.md). -/
def everyDataLine (f : Line → State → State) (s : State) : State :=
  let s := drainAll s
  s.dcache.foldl (fun s l => f l s) s

/-- An operation on the data cache line a Set/Way operand names (43_cp15_c7_cache_ops.md R210, R216, R219). -/
def dataLineAt (f : Line → State → State) (v : Word) (s : State) : State :=
  let s := drainAll s
  match s.dcache.find? fun l => l.way == operandWay v && l.set == operandSet (dsize s.cfg) v with
  | some l => f l s
  | none => s

/-- The Data Abort of a maintenance operation by address (43_cp15_c7_cache_ops.md R225, D19). -/
def maintenanceFault (iside : Bool) (f : MmuFault) (mva : Word) : DataFault :=
  if iside then
    { status := statusIcacheMaintenance, domain := none, sd := none, write := some true, mva := mva, iside := true }
  else { status := f.status, domain := f.domain, sd := f.sd, write := some true, mva := mva, iside := false }

/-- `MaintTranslate`: the operand is a modified virtual address, bits [4:0] ignored (43_cp15_c7_cache_ops.md R221, R225). -/
def maintTranslate (iside : Bool) (v : Word) (s : State) : Res Word :=
  let mva := clearLow v 5
  match translateMaintenance mva s with
  | (.ok pa, s) => .ok pa s
  | (.error (.fault f), s) => .exc (.dataAbort (maintenanceFault iside f mva)) s
  | (.error (.refused r), _) => .refused r

/-- An operation on the data cache line that holds an address; no effect on a miss (43_cp15_c7_cache_ops.md R209, R213,
R218). -/
def dataLineByMva (f : Line → State → State) (v : Word) (s : State) : Res Unit :=
  (maintTranslate false v (drainAll s)).bind fun pa s =>
    match s.dline (lineTag pa) with
    | some l => .ok () (f l s)
    | none => .ok () s

/-- The instruction cache line of an address invalidated: the set from the virtual address, the tag from the physical one
(43_cp15_c7_cache_ops.md R203). -/
def instrLineByMva (v : Word) (s : State) : Res Unit :=
  (maintTranslate true v s).bind fun pa s =>
    .ok () (dropInstrLines (fun l => l.set == setOf s.cfg.icache v && l.tag == lineTag pa) s)

/-- The branch target address cache without the predictions of the branches in an eight-byte block
(43_cp15_c7_cache_ops.md R207). -/
def flushBtacEntry (v : Word) (s : State) : State :=
  { s with btac := s.btac.filter fun e => fld e.branch 3 29 != fld v 3 29 }

/-! ## VA to PA translation -/

/-- The type code of the PA Register (43_cp15_c7_cache_ops.md R224). -/
def paType : MemType → BitVec 2
  | .stronglyOrdered => 0b00
  | .device => 0b01
  | .normal => 0b10

/-- The PA Register after a translation that succeeded (43_cp15_c7_cache_ops.md R223, R224, D21). -/
def paSuccess (t : Translated) : Word :=
  let n := t.attr.ty == .normal
  (t.pa &&& 0xFFFFF000) ||| flag t.attr.shared 8 ||| put (paType t.attr.ty) 6 |||
    put (if n then t.attr.inner else 0) 4 ||| put (if n then t.attr.outer else 0) 2

/-- The PA Register after a translation that failed; where the SD bit is Invalid, a free one (43_cp15_c7_cache_ops.md
R224). -/
def paFailure (f : MmuFault) (free : Bool) : Word := flag (f.sd.getD free) 6 ||| put f.status 1 ||| 1

/-- The state with the PA Register replaced. -/
def State.setPa (s : State) (v : Word) : State := { s with cp15 := { s.cp15 with pa := v } }

/-- A VA to PA translation operation; the operand is a virtual address (43_cp15_c7_cache_ops.md R223). -/
def vaToPa (p : Purpose) (user : Bool) (v : Word) (s : State) : Res Unit :=
  match translate p user true (fcse s (clearLow v 10)) s with
  | (.ok t, s) => .ok () (s.setPa (paSuccess t))
  | (.error (.fault f), s) =>
    match f.sd with
    | some _ => .ok () (s.setPa (paFailure f false))
    | none => withBool s fun free s => .ok () (s.setPa (paFailure f free))
  | (.error (.refused r), _) => .refused r

/-! ## TLB maintenance -/

/-- Entries that satisfy a condition leave the TLB; of the lockdown entries too where `locked` says so
(44_cp15_c8_c10_tlb.md R231 to R234). -/
def dropTlb (locked : Bool) (p : TlbEntry → Bool) (s : State) : State :=
  s.noteFetch { s with
    tlb := s.tlb.filter fun e => !p e
    lockSlots := s.lockSlots.map fun k => if k.translation.any p && (locked || !k.locked) then LockSlot.empty else k }

/-- An entry covers a modified virtual address, bits [9:0] of the operand apart (44_cp15_c8_c10_tlb.md R232). -/
def tlbCovers (v : Word) (e : TlbEntry) : Bool := clearLow v 10 >>> e.log2Size == e.mvaBase >>> e.log2Size

/-- Invalidate TLB (44_cp15_c8_c10_tlb.md R231): every unlocked entry. It counts for the changes of the TLB controls (R239,
20_memory.md R56). -/
def invalidateTlb (s : State) : State :=
  State.noteOlder (fun o => { o with invalidated := true }) (dropTlb false (fun _ => true) s)

/-- Invalidate TLB Single Entry by MVA with ASID match (44_cp15_c8_c10_tlb.md R232). -/
def invalidateTlbEntry (v : Word) (s : State) : State :=
  dropTlb true (fun e => tlbCovers v e && (e.globalMap || e.asid == fld v 0 8)) s

/-- Invalidate TLB Entries on ASID match (44_cp15_c8_c10_tlb.md R233). -/
def invalidateTlbAsid (v : Word) (s : State) : State := dropTlb true (fun e => !e.globalMap && e.asid == fld v 0 8) s

/-- Invalidate TLB Single Entry on MVA only (44_cp15_c8_c10_tlb.md R234). -/
def invalidateTlbMva (v : Word) (s : State) : State := dropTlb true (tlbCovers v) s

/-! ## Performance counters -/

/-- The enabled counters advance by free amounts, and may overflow (45_cp15_c13_c15.md R260, D24). -/
def pmuAdvance (s : State) : State :=
  if bitAt s.cp15.pmnc 0 then
    withWord s fun c s => withWord s fun x s => withWord s fun y s => withWord s fun o s =>
      s.setCp15 { s.cp15 with
        ccnt := s.cp15.ccnt + c
        pmn0 := s.cp15.pmn0 + x
        pmn1 := s.cp15.pmn1 + y
        pmnc := s.cp15.pmnc ||| (o &&& 0x00000700) }
  else s

/-- This CPU's PMUIRQ output (45_cp15_c13_c15.md R255). -/
def State.pmuIrq (s : State) : Bool := (fld s.cp15.pmnc 8 3 &&& fld s.cp15.pmnc 4 3) != 0#3

/-- The Performance Monitor Control Register read: bits [2:1] are free values (45_cp15_c13_c15.md R255). -/
def pmncRead (s : State) : Word × State :=
  let s := pmuAdvance s
  withWord s fun free s => (s.cp15.pmnc ||| (free &&& 0x00000006), s)

/-- The Performance Monitor Control Register written: flags cleared by ones, counters reset (45_cp15_c13_c15.md R255). -/
def pmncWrite (v : Word) (s : State) : State :=
  let s := pmuAdvance s
  let c := s.cp15
  s.setCp15 { c with
    pmnc := (v &&& 0x0FFFF079) ||| (c.pmnc &&& 0x00000700 &&& ~~~ v)
    ccnt := if bitAt v 2 then 0 else c.ccnt
    pmn0 := if bitAt v 1 then 0 else c.pmn0
    pmn1 := if bitAt v 1 then 0 else c.pmn1 }

/-- The counters read and written (45_cp15_c13_c15.md R257 to R259). -/
def ccntRead (s : State) : Word × State := let s := pmuAdvance s; (s.cp15.ccnt, s)
def pmn0Read (s : State) : Word × State := let s := pmuAdvance s; (s.cp15.pmn0, s)
def pmn1Read (s : State) : Word × State := let s := pmuAdvance s; (s.cp15.pmn1, s)
def ccntWrite (v : Word) (s : State) : State := let s := pmuAdvance s; s.setCp15 { s.cp15 with ccnt := v }
def pmn0Write (v : Word) (s : State) : State := let s := pmuAdvance s; s.setCp15 { s.cp15 with pmn0 := v }
def pmn1Write (v : Word) (s : State) : State := let s := pmuAdvance s; s.setCp15 { s.cp15 with pmn1 := v }

/-! ## TLB lockdown entries -/

/-- The SZ code of an entry's size, and the size of a code (45_cp15_c13_c15.md R265). -/
def sizeField (log2Size : Nat) : BitVec 2 :=
  if log2Size = 12 then 0b01 else if log2Size = 16 then 0b10 else if log2Size = 20 then 0b11 else 0b00
def codeSize (sz : BitVec 2) : Nat :=
  match sz with
  | 1#2 => 12
  | 2#2 => 16
  | 3#2 => 20
  | _ => 24

/-- The three register images of a lockdown entry (45_cp15_c13_c15.md R264 to R266), valid or not; physical address bits below the
entry's size, and every field of an empty entry but V, are free values. The VPN bits below the entry's size, which are not significant,
are those of its base: DESIGN CHOICE (notes/assumptions/39.md). AP1 to AP3 of an entry without subpages are those it holds, copies
of its AP if a walk made it: DESIGN CHOICE (notes/assumptions/55.md). -/
def slotVa (k : LockSlot) (free : Word) : Word :=
  match k.entry with
  | none => free &&& 0xFFFFF3FF
  | some e => (e.mvaBase &&& 0xFFFFF000) ||| (if e.globalMap then 0x200 else put e.asid 0)
def slotPa (k : LockSlot) (free : Word) : Word :=
  match k.entry with
  | none => free &&& 0xFFFFF0CE
  | some e =>
    (e.paBase &&& 0xFFFFF000) ||| (free &&& 0xFFFFF000 &&& (BitVec.allOnes 32 >>> (32 - e.log2Size))) ||| put (sizeField e.log2Size) 6 |||
      flag e.apx 3 ||| put e.ap0 1 ||| flag k.locked 0
def slotAttr (k : LockSlot) (free : Word) : Word :=
  match k.entry with
  | none => free &&& 0xFE0007FF
  | some e =>
    put e.ap3 30 ||| put e.ap2 28 ||| put e.ap1 26 ||| flag e.spv 25 ||| put e.domain 7 ||| flag e.xn 6 ||| put e.tex 3 |||
      flag e.c 2 ||| flag e.b 1 ||| flag e.s 0

/-- Select Lockdown TLB Entry for Read (45_cp15_c13_c15.md R262, D25). -/
def selectLockRead (v : Word) (s : State) : State :=
  let i : BitVec 3 := fld v 0 3
  let k := s.lockSlots[i.toNat]'i.isLt
  withWord s fun x s => withWord s fun y s => withWord s fun z s =>
    { s.setCp15 { s.cp15 with
        tlbLockIndexRead := put i 0
        tlbLockVa := slotVa k x
        tlbLockPa := slotPa k y
        tlbLockAttr := slotAttr k z } with lockAccess := .reading false false }

/-- Select Lockdown TLB Entry for Write (45_cp15_c13_c15.md R263). -/
def selectLockWrite (v : Word) (s : State) : State :=
  { s.setCp15 { s.cp15 with tlbLockIndexWrite := put (fld v 0 3) 0 } with lockAccess := .writing (fld v 0 3) false false }

/-- The entry that the three registers describe, with the S and R bits of its load (45_cp15_c13_c15.md R263 to R267). One with
subpages that is not marked Global is taken as written, and matches by its ASID: DESIGN CHOICE (notes/assumptions/55.md). -/
def lockEntry (va pa attr : Word) (sBit rBit : Bool) : TlbEntry :=
  let size := codeSize (fld pa 6 2)
  { mvaBase := clearLow va size
    log2Size := size
    globalMap := bitAt va 9
    asid := fld va 0 8
    paBase := clearLow pa size
    apx := bitAt pa 3
    ap0 := fld pa 1 2
    spv := bitAt attr 25
    ap1 := fld attr 26 2
    ap2 := fld attr 28 2
    ap3 := fld attr 30 2
    domain := fld attr 7 4
    xn := bitAt attr 6
    tex := fld attr 3 3
    c := bitAt attr 2
    b := bitAt attr 1
    s := bitAt attr 0
    sBit := sBit
    rBit := rBit }

/-- Which of the three registers is accessed. -/
inductive LockRegister where
  | va | attr | pa
deriving DecidableEq, Repr

/-- A read of one of the registers within a read sequence; the PA register is not the first, and ends it (45_cp15_c13_c15.md R268,
U31). That the VA and the attributes may be read in either order and repeatedly, or one of them not at all, is a DESIGN CHOICE
(notes/assumptions/60.md). -/
def lockRead (k : LockRegister) (rd : RegNum) (v : Word) (s : State) : Res Unit :=
  match s.lockAccess, k with
  | .reading _ at', .va => .ok () ({ s with lockAccess := .reading true at' }.setReg rd v).advance
  | .reading va _, .attr => .ok () ({ s with lockAccess := .reading va true }.setReg rd v).advance
  | .reading va at', .pa =>
    if va || at' then .ok () ({ s with lockAccess := .none }.setReg rd v).advance else .refused .lockdownOrder
  | _, _ => .refused .lockdownOrder

/-- Writes of the VA and the attributes register within a write sequence (45_cp15_c13_c15.md R268, U31); a repeated one is
accepted: DESIGN CHOICE (notes/assumptions/60.md). -/
def lockWriteVa (v : Word) (s : State) : Res Unit :=
  match s.lockAccess with
  | .writing i _ a =>
    .ok () { s.setCp15 { s.cp15 with tlbLockVa := v &&& 0xFFFFF3FF } with lockAccess := .writing i true a }.advance
  | _ => .refused .lockdownOrder
def lockWriteAttr (v : Word) (s : State) : Res Unit :=
  match s.lockAccess with
  | .writing i va _ =>
    .ok () { s.setCp15 { s.cp15 with tlbLockAttr := v &&& 0xFE0007FF } with lockAccess := .writing i va true }.advance
  | _ => .refused .lockdownOrder

/-- The write of the PA register commits the entry: with V = 1 locked and valid, with V = 0 neither, its fields kept
(45_cp15_c13_c15.md R263, R265, R268). -/
def lockWritePa (v : Word) (s : State) : Res Unit :=
  match s.lockAccess with
  | .writing i true true =>
    let pa := v &&& 0xFFFFF0CF
    let e := lockEntry s.cp15.tlbLockVa pa s.cp15.tlbLockAttr s.ctlS s.ctlR
    let t := s.noteFetch (s.setLockSlot i { entry := some e, locked := bitAt v 0, valid := bitAt v 0 })
    .ok () { t.setCp15 { t.cp15 with tlbLockPa := pa } with lockAccess := .none }.advance
  | _ => .refused .lockdownOrder

end Sys2Proof.Machine
end

