-- ==== Sys2Proof/Machine/System.lean ====
section
/-!
DEFINITION. The meanings of the hints, SETEND, the status register instructions, the exception-handling instructions, SWI and
BKPT (47_core_instructions.md R703, R715, R716, R720 to R722, R745).
-/

namespace Sys2Proof.Machine

/-! ## Hints -/

/-- Wait For Interrupt (43_cp15_c7_cache_ops.md R201): a Data Synchronization Barrier, then standby. In debug state the debug
event that wakes the processor stands already (notes/assumptions/14.md). -/
def waitForInterrupt (s : State) : State := if s.halted then dsb s else { dsb s with standby := true }

/-- NOP, YIELD and SEV have no effect (47_core_instructions.md R703, D42). -/
def execNop (cond : Cond) (s : State) : Host.Outcome State Fault Refusal :=
  whenPasses cond s fun s => .ok () s.advance
def execYield (cond : Cond) (s : State) : Host.Outcome State Fault Refusal :=
  whenPasses cond s fun s => .ok () s.advance
def execSev (cond : Cond) (s : State) : Host.Outcome State Fault Refusal :=
  whenPasses cond s fun s => .ok () s.advance
/-- WFE may complete immediately, and does (47_core_instructions.md R703, D42): DESIGN CHOICE (notes/assumptions/45.md). -/
def execWfe (cond : Cond) (s : State) : Host.Outcome State Fault Refusal :=
  whenPasses cond s fun s => .ok () s.advance
/-- WFI: a NOP in User mode (47_core_instructions.md R703, D42). -/
def execWfi (cond : Cond) (s : State) : Host.Outcome State Fault Refusal :=
  whenPasses cond s fun s => .ok () (if s.privileged then waitForInterrupt s else s).advance

/-! ## SETEND -/

/-- SETEND, the ARM and the Thumb form (47_core_instructions.md R715). -/
def execSetend (e : Bool) (s : State) : Host.Outcome State Fault Refusal :=
  finish (.ok () (s.setCpsr (setBit s.cpsr 9 e)).advance)
def execSetendThumb (e : Bool) (s : State) : Host.Outcome State Fault Refusal :=
  finish (.ok () (s.setCpsr (setBit s.cpsr 9 e)).advance)

/-! ## MRS and MSR -/

/-- A status register read into a register; the PC is written as a data-processing result is (47_core_instructions.md R716,
R706). -/
def writeStatus (s : State) (rd : RegNum) (v : Word) : Res Unit :=
  if rd = 15 then aluWritePc s v else .ok () (s.setReg rd v).advance

/-- MRS (47_core_instructions.md R716; U30 for the SPSR of User and System mode). -/
def execMrs (cond : Cond) (r : Bool) (rd : RegNum) (s : State) : Host.Outcome State Fault Refusal :=
  whenPasses cond s fun s =>
    if r then
      match s.spsr with
      | none => .refused .noSpsr
      | some v => writeStatus s rd v
    else writeStatus s rd (s.cpsr &&& psrMask)

/-- The byte lanes an MSR mask selects (47_core_instructions.md R716). -/
def byteLanes (mask : BitVec 4) : Word :=
  (if bitAt mask 3 then 0xFF000000 else 0) ||| (if bitAt mask 2 then 0x00FF0000 else 0) |||
    (if bitAt mask 1 then 0x0000FF00 else 0) ||| (if bitAt mask 0 then 0x000000FF else 0)

/-- The CPSR bits an MSR may write (47_core_instructions.md R716, 10_state.md R34). -/
def msrWritable (s : State) : Word := if s.privileged then 0xF80F03DF else 0xF80F0200

/-- `MSR` of an operand (47_core_instructions.md R716). -/
def moveToStatus (r : Bool) (mask : BitVec 4) (v : Word) (s : State) : Res Unit :=
  let lanes := byteLanes mask
  if r then
    match s.spsr with
    | none => .refused .noSpsr
    | some old => .ok () (s.setSpsr s.bank (((old &&& ~~~ lanes) ||| (v &&& lanes)) &&& psrMask)).advance
  else
    let m := lanes &&& msrWritable s
    .ok () (s.writeCpsr ((s.cpsr &&& ~~~ m) ||| (v &&& m))).advance

/-- MSR, register and immediate form (47_core_instructions.md R716). -/
def execMsrReg (cond : Cond) (r : Bool) (mask : BitVec 4) (rm : RegNum) (s : State) : Host.Outcome State Fault Refusal :=
  whenPasses cond s fun s => moveToStatus r mask (s.reg rm) s
def execMsrImm (cond : Cond) (r : Bool) (mask rot : BitVec 4) (imm : BitVec 8) (s : State) :
    Host.Outcome State Fault Refusal :=
  whenPasses cond s fun s => moveToStatus r mask (rotatedImm rot imm) s

/-! ## SRS, RFE, CPS -/

/-- SRS (47_core_instructions.md R720): an invalid mode is UNPREDICTABLE, and User and System mode have no SPSR (U30). -/
def execSrs (p u w : Bool) (mode : BitVec 5) (s : State) : Host.Outcome State Fault Refusal :=
  finish <|
    if !legalMode mode then .refused .unpredictableForm
    else match s.spsr with
      | none => .refused .noSpsr
      | some psr =>
        let base := s.bankReg (bankOf mode) 13
        (storeMany (plainMode s true) .multi (multipleStart p u base 2) [s.reg 14, psr] s).bind fun _ s =>
          .ok () (if w then s.setBankReg (bankOf mode) 13 (multipleBase u base 2) else s).advance

/-- RFE (47_core_instructions.md R721): UNPREDICTABLE in User mode (U38); the word at the higher address is loaded first. Of a base
that is the PC the writeback is lost to the return address. -/
def execRfe (p u w : Bool) (rn : RegNum) (s : State) : Host.Outcome State Fault Refusal :=
  finish <|
    if !s.privileged then .refused .unpredictableForm
    else
      let base := s.reg rn
      let m := { plainMode s false with toPc := true }
      (alignAccess .multi false (multipleStart p u base 2) s).bind fun a s =>
        (readAt m 4 (a + 4) s).bind fun psr s =>
          (readAt m 4 a s).bind fun target s =>
            .ok () (exceptionReturn (if w then s.setReg rn (multipleBase u base 2) else s) psr target)

/-- The new CPSR of a CPS (47_core_instructions.md R722): `imod` b10 clears the named masks, b11 sets them. -/
def cpsValue (cpsr : Word) (imod : BitVec 2) (m a i f : Bool) (mode : BitVec 5) : Word :=
  let masks := flag a 8 ||| flag i 7 ||| flag f 6
  let w := if imod = 2#2 then cpsr &&& ~~~ masks else if imod = 3#2 then cpsr ||| masks else cpsr
  if m then setFld w 0 mode else w

/-- CPS, ARM form: no effect in User mode (47_core_instructions.md R722, 60_exceptions.md R531). -/
def execCps (imod : BitVec 2) (m a i f : Bool) (mode : BitVec 5) (s : State) : Host.Outcome State Fault Refusal :=
  finish (.ok () (if s.privileged then s.writeCpsr (cpsValue s.cpsr imod m a i f mode) else s).advance)

/-- CPS, Thumb form: only the masks (47_core_instructions.md R722). -/
def execCpsThumb (imod a i f : Bool) (s : State) : Host.Outcome State Fault Refusal :=
  finish (.ok () (if s.privileged then s.writeCpsr (cpsValue s.cpsr (if imod then 3 else 2) false a i f 0) else s).advance)

/-! ## SWI and BKPT -/

/-- SWI (60_exceptions.md R516). -/
def execSwi (cond : Cond) (_imm : BitVec 24) (s : State) : Host.Outcome State Fault Refusal :=
  whenPasses cond s fun s => .exc .swi s
def execSwiThumb (_imm : BitVec 8) (s : State) : Host.Outcome State Fault Refusal := finish (.exc .swi s)

/-- BKPT (60_exceptions.md R524, 46_cp14_debug.md R322). -/
def execBkpt (_imm : BitVec 12) (_immL : BitVec 4) (s : State) : Host.Outcome State Fault Refusal := finish (.exc .bkpt s)
def execBkptThumb (_imm : BitVec 8) (s : State) : Host.Outcome State Fault Refusal := finish (.exc .bkpt s)

end Sys2Proof.Machine
end

