-- ==== Sys2Proof/Machine/Cp15Cache.lean ====
section
/-!
DEFINITION. The meanings of CP15 c7: Wait For Interrupt, cache maintenance, barriers, VA to PA translation
(43_cp15_c7_cache_ops.md R200 to R227).
-/

namespace Sys2Proof.Machine

/-- Wait For Interrupt (43_cp15_c7_cache_ops.md R201). -/
def execMcrWaitForInterrupt (cond : Cond) (rd : RegNum) (s : State) : Host.Outcome State Fault Refusal :=
  cp15Write cond rd s fun _ s => waitForInterrupt s
/-- PA Register read (43_cp15_c7_cache_ops.md R224). -/
def execMrcPa (cond : Cond) (rd : RegNum) (s : State) : Host.Outcome State Fault Refusal :=
  cp15Read cond rd s fun s => s.cp15.pa
/-- Invalidate Entire Instruction Cache (43_cp15_c7_cache_ops.md R202). -/
def execMcrInvalidateICache (cond : Cond) (rd : RegNum) (s : State) : Host.Outcome State Fault Refusal :=
  cp15Write cond rd s fun _ s => invalidateIcache s
/-- Invalidate Instruction Cache Line using MVA (43_cp15_c7_cache_ops.md R203). -/
def execMcrInvalidateICacheMva (cond : Cond) (rd : RegNum) (s : State) : Host.Outcome State Fault Refusal :=
  cp15Run cond rd s fun s => (instrLineByMva (s.reg rd) s).bind fun _ s => .ok () s.advance
/-- Invalidate Instruction Cache Line using Set/Way (43_cp15_c7_cache_ops.md R204). -/
def execMcrInvalidateICacheIndex (cond : Cond) (rd : RegNum) (s : State) : Host.Outcome State Fault Refusal :=
  cp15Write cond rd s fun v s =>
    dropInstrLines (fun l => l.way == operandWay v && l.set == operandSet s.cfg.icache v) s
/-- Flush Prefetch Buffer, in every mode (43_cp15_c7_cache_ops.md R205). -/
def execMcrFlushPrefetchBuffer (cond : Cond) (rd : RegNum) (s : State) : Host.Outcome State Fault Refusal :=
  cp15RunUser cond rd s fun s => .ok () s.flushPrefetch.advance
/-- Flush Entire Branch Target Cache (43_cp15_c7_cache_ops.md R206). -/
def execMcrFlushBtac (cond : Cond) (rd : RegNum) (s : State) : Host.Outcome State Fault Refusal :=
  cp15Write cond rd s fun _ s => { s with btac := [] }
/-- Flush Branch Target Cache Entry (43_cp15_c7_cache_ops.md R207). -/
def execMcrFlushBtacEntry (cond : Cond) (rd : RegNum) (s : State) : Host.Outcome State Fault Refusal :=
  cp15Write cond rd s flushBtacEntry
/-- Invalidate Entire Data Cache (43_cp15_c7_cache_ops.md R208). -/
def execMcrInvalidateDCache (cond : Cond) (rd : RegNum) (s : State) : Host.Outcome State Fault Refusal :=
  cp15Write cond rd s fun _ s => everyDataLine invalidateLine s
/-- Invalidate Data Cache Line using MVA (43_cp15_c7_cache_ops.md R209). -/
def execMcrInvalidateDCacheMva (cond : Cond) (rd : RegNum) (s : State) : Host.Outcome State Fault Refusal :=
  cp15Run cond rd s fun s => (dataLineByMva invalidateLine (s.reg rd) s).bind fun _ s => .ok () s.advance
/-- Invalidate Data Cache Line using Set/Way (43_cp15_c7_cache_ops.md R210). -/
def execMcrInvalidateDCacheIndex (cond : Cond) (rd : RegNum) (s : State) : Host.Outcome State Fault Refusal :=
  cp15Write cond rd s fun v s => dataLineAt invalidateLine v s
/-- Invalidate Both Caches (43_cp15_c7_cache_ops.md R211). -/
def execMcrInvalidateBothCaches (cond : Cond) (rd : RegNum) (s : State) : Host.Outcome State Fault Refusal :=
  cp15Write cond rd s fun _ s => everyDataLine invalidateLine (invalidateIcache s)
/-- VA to PA translation with privileged read permission check (43_cp15_c7_cache_ops.md R223). -/
def execMcrVaToPaPrivRead (cond : Cond) (rd : RegNum) (s : State) : Host.Outcome State Fault Refusal :=
  cp15Run cond rd s fun s => (vaToPa .read false (s.reg rd) s).bind fun _ s => .ok () s.advance
/-- VA to PA translation with privileged write permission check (43_cp15_c7_cache_ops.md R223). -/
def execMcrVaToPaPrivWrite (cond : Cond) (rd : RegNum) (s : State) : Host.Outcome State Fault Refusal :=
  cp15Run cond rd s fun s => (vaToPa .write false (s.reg rd) s).bind fun _ s => .ok () s.advance
/-- VA to PA translation with user read permission check (43_cp15_c7_cache_ops.md R223). -/
def execMcrVaToPaUserRead (cond : Cond) (rd : RegNum) (s : State) : Host.Outcome State Fault Refusal :=
  cp15Run cond rd s fun s => (vaToPa .read true (s.reg rd) s).bind fun _ s => .ok () s.advance
/-- VA to PA translation with user write permission check (43_cp15_c7_cache_ops.md R223). -/
def execMcrVaToPaUserWrite (cond : Cond) (rd : RegNum) (s : State) : Host.Outcome State Fault Refusal :=
  cp15Run cond rd s fun s => (vaToPa .write true (s.reg rd) s).bind fun _ s => .ok () s.advance
/-- Clean Entire Data Cache (43_cp15_c7_cache_ops.md R212). -/
def execMcrCleanDCache (cond : Cond) (rd : RegNum) (s : State) : Host.Outcome State Fault Refusal :=
  cp15Write cond rd s fun _ s => everyDataLine cleanLine s
/-- Clean Data Cache Line using MVA (43_cp15_c7_cache_ops.md R213). -/
def execMcrCleanDCacheMva (cond : Cond) (rd : RegNum) (s : State) : Host.Outcome State Fault Refusal :=
  cp15Run cond rd s fun s => (dataLineByMva cleanLine (s.reg rd) s).bind fun _ s => .ok () s.advance
/-- Clean Data Cache Line using Set/Way (43_cp15_c7_cache_ops.md R216). -/
def execMcrCleanDCacheIndex (cond : Cond) (rd : RegNum) (s : State) : Host.Outcome State Fault Refusal :=
  cp15Write cond rd s fun v s => dataLineAt cleanLine v s
/-- Data Synchronization Barrier, in every mode (43_cp15_c7_cache_ops.md R214). -/
def execMcrDsb (cond : Cond) (rd : RegNum) (s : State) : Host.Outcome State Fault Refusal :=
  cp15RunUser cond rd s fun s => .ok () (dsb s).advance
/-- Data Memory Barrier, in every mode (43_cp15_c7_cache_ops.md R215). -/
def execMcrDmb (cond : Cond) (rd : RegNum) (s : State) : Host.Outcome State Fault Refusal :=
  cp15RunUser cond rd s fun s => .ok () (dmb s).advance
/-- Clean and Invalidate Entire Data Cache (43_cp15_c7_cache_ops.md R217). -/
def execMcrCleanInvDCache (cond : Cond) (rd : RegNum) (s : State) : Host.Outcome State Fault Refusal :=
  cp15Write cond rd s fun _ s => everyDataLine evictLine s
/-- Clean and Invalidate Data Cache Line using MVA (43_cp15_c7_cache_ops.md R218). -/
def execMcrCleanInvDCacheMva (cond : Cond) (rd : RegNum) (s : State) : Host.Outcome State Fault Refusal :=
  cp15Run cond rd s fun s => (dataLineByMva evictLine (s.reg rd) s).bind fun _ s => .ok () s.advance
/-- Clean and Invalidate Data Cache Line using Set/Way (43_cp15_c7_cache_ops.md R219). -/
def execMcrCleanInvDCacheIndex (cond : Cond) (rd : RegNum) (s : State) : Host.Outcome State Fault Refusal :=
  cp15Write cond rd s fun v s => dataLineAt evictLine v s

end Sys2Proof.Machine
end

