-- ==== Sys2Proof/Machine/Cp15Control.lean ====
section
/-!
DEFINITION. The meanings of CP15 c1 to c6: control, coprocessor access, translation tables, domains, fault registers
(41_cp15_c1_control.md R150 to R162, 42_cp15_c2_c6_mmu.md R170 to R179).
-/

namespace Sys2Proof.Machine

/-- A Control Register value as it is stored (41_cp15_c1_control.md R150). -/
def controlValue (c : Config) (v : Word) : Word := (v &&& 0x32C0BB07) ||| 0x00054078 ||| flag c.fiqIsNmi 27

/-- A write of the Control Register: fetches may see the old value until the next pipeline flush, and a change of XP, Force AP or
TEX Remap leaves the older values in force for a while (41_cp15_c1_control.md R150, R156, 20_memory.md R56,
44_cp15_c8_c10_tlb.md R239). -/
def controlWrite (v : Word) (s : State) : State :=
  noteRemap s (s.setFetchCp15 { s.cp15 with control := controlValue s.cfg v })

/-- A write of the Auxiliary Control Register; bit [6] exists with parity (41_cp15_c1_control.md R157). -/
def auxControlWrite (v : Word) (s : State) : State :=
  s.setCp15 { s.cp15 with auxControl := v &&& (if s.cfg.hasParity then 0x7F else 0x3F) }

/-- A write of the CPACR: only the fields of a coprocessor that exists, and the older rights may stay in force until the next
Flush Prefetch Buffer (41_cp15_c1_control.md R161, R162). -/
def cpacrWrite (v : Word) (s : State) : State :=
  let c := match s.cpacrOld with
    | none => (s.cp15.cpacr, s)
    | some old => withBool s fun newer s => (if newer then s.cp15.cpacr else old, s)
  { c.2.setCp15 { c.2.cp15 with cpacr := v &&& (if s.cfg.hasVfp then 0x00F00000 else 0) } with cpacrOld := some c.1 }

/-- Control Register read (41_cp15_c1_control.md R150). -/
def execMrcControl (cond : Cond) (rd : RegNum) (s : State) : Host.Outcome State Fault Refusal :=
  cp15Read cond rd s fun s => s.cp15.control
/-- Control Register written (41_cp15_c1_control.md R150). -/
def execMcrControl (cond : Cond) (rd : RegNum) (s : State) : Host.Outcome State Fault Refusal :=
  cp15Write cond rd s controlWrite
/-- Auxiliary Control Register read (41_cp15_c1_control.md R157). -/
def execMrcAuxControl (cond : Cond) (rd : RegNum) (s : State) : Host.Outcome State Fault Refusal :=
  cp15Read cond rd s fun s => s.cp15.auxControl
/-- Auxiliary Control Register written (41_cp15_c1_control.md R157). -/
def execMcrAuxControl (cond : Cond) (rd : RegNum) (s : State) : Host.Outcome State Fault Refusal :=
  cp15Write cond rd s auxControlWrite
/-- Coprocessor Access Control Register read (41_cp15_c1_control.md R160). -/
def execMrcCpacr (cond : Cond) (rd : RegNum) (s : State) : Host.Outcome State Fault Refusal :=
  cp15Read cond rd s fun s => s.cp15.cpacr
/-- Coprocessor Access Control Register written (41_cp15_c1_control.md R162). -/
def execMcrCpacr (cond : Cond) (rd : RegNum) (s : State) : Host.Outcome State Fault Refusal :=
  cp15Write cond rd s cpacrWrite
/-- Translation Table Base Register 0 read (42_cp15_c2_c6_mmu.md R170). -/
def execMrcTtbr0 (cond : Cond) (rd : RegNum) (s : State) : Host.Outcome State Fault Refusal :=
  cp15Read cond rd s fun s => s.cp15.ttbr0
/-- Translation Table Base Register 0 written (42_cp15_c2_c6_mmu.md R170). -/
def execMcrTtbr0 (cond : Cond) (rd : RegNum) (s : State) : Host.Outcome State Fault Refusal :=
  cp15Write cond rd s fun v s => s.setFetchCp15 { s.cp15 with ttbr0 := v &&& 0xFFFFFF9A }
/-- Translation Table Base Register 1 read (42_cp15_c2_c6_mmu.md R171). -/
def execMrcTtbr1 (cond : Cond) (rd : RegNum) (s : State) : Host.Outcome State Fault Refusal :=
  cp15Read cond rd s fun s => s.cp15.ttbr1
/-- Translation Table Base Register 1 written (42_cp15_c2_c6_mmu.md R171). -/
def execMcrTtbr1 (cond : Cond) (rd : RegNum) (s : State) : Host.Outcome State Fault Refusal :=
  cp15Write cond rd s fun v s => s.setFetchCp15 { s.cp15 with ttbr1 := v &&& 0xFFFFC01A }
/-- Translation Table Base Control Register read (42_cp15_c2_c6_mmu.md R172). -/
def execMrcTtbcr (cond : Cond) (rd : RegNum) (s : State) : Host.Outcome State Fault Refusal :=
  cp15Read cond rd s fun s => s.cp15.ttbcr
/-- Translation Table Base Control Register written (42_cp15_c2_c6_mmu.md R172). -/
def execMcrTtbcr (cond : Cond) (rd : RegNum) (s : State) : Host.Outcome State Fault Refusal :=
  cp15Write cond rd s fun v s => s.setFetchCp15 { s.cp15 with ttbcr := v &&& 0x00000007 }
/-- Domain Access Control Register read (42_cp15_c2_c6_mmu.md R174). -/
def execMrcDacr (cond : Cond) (rd : RegNum) (s : State) : Host.Outcome State Fault Refusal :=
  cp15Read cond rd s fun s => s.cp15.dacr
/-- Domain Access Control Register written (42_cp15_c2_c6_mmu.md R174). -/
def execMcrDacr (cond : Cond) (rd : RegNum) (s : State) : Host.Outcome State Fault Refusal :=
  cp15Write cond rd s fun v s => s.setFetchCp15 { s.cp15 with dacr := v }
/-- Data Fault Status Register read (42_cp15_c2_c6_mmu.md R175). -/
def execMrcDfsr (cond : Cond) (rd : RegNum) (s : State) : Host.Outcome State Fault Refusal :=
  cp15Read cond rd s fun s => s.cp15.dfsr
/-- Data Fault Status Register written (42_cp15_c2_c6_mmu.md R175). -/
def execMcrDfsr (cond : Cond) (rd : RegNum) (s : State) : Host.Outcome State Fault Refusal :=
  cp15Write cond rd s fun v s => s.setCp15 { s.cp15 with dfsr := v &&& 0x00001CFF }
/-- Instruction Fault Status Register read (42_cp15_c2_c6_mmu.md R176). -/
def execMrcIfsr (cond : Cond) (rd : RegNum) (s : State) : Host.Outcome State Fault Refusal :=
  cp15Read cond rd s fun s => s.cp15.ifsr
/-- Instruction Fault Status Register written (42_cp15_c2_c6_mmu.md R176). -/
def execMcrIfsr (cond : Cond) (rd : RegNum) (s : State) : Host.Outcome State Fault Refusal :=
  cp15Write cond rd s fun v s => s.setCp15 { s.cp15 with ifsr := v &&& 0x000014FF }
/-- Fault Address Register read (42_cp15_c2_c6_mmu.md R177). -/
def execMrcFar (cond : Cond) (rd : RegNum) (s : State) : Host.Outcome State Fault Refusal :=
  cp15Read cond rd s fun s => s.cp15.far
/-- Fault Address Register written (42_cp15_c2_c6_mmu.md R177). -/
def execMcrFar (cond : Cond) (rd : RegNum) (s : State) : Host.Outcome State Fault Refusal :=
  cp15Write cond rd s fun v s => s.setCp15 { s.cp15 with far := v }
/-- Watchpoint Fault Address Register read (42_cp15_c2_c6_mmu.md R178). -/
def execMrcWfar (cond : Cond) (rd : RegNum) (s : State) : Host.Outcome State Fault Refusal :=
  cp15Read cond rd s fun s => s.cp15.wfar
/-- Watchpoint Fault Address Register written (42_cp15_c2_c6_mmu.md R178). -/
def execMcrWfar (cond : Cond) (rd : RegNum) (s : State) : Host.Outcome State Fault Refusal :=
  cp15Write cond rd s fun v s => s.setCp15 { s.cp15 with wfar := v }

end Sys2Proof.Machine
end

