-- ==== Sys2Proof/Machine/Cp15Id.lean ====
section
/-!
DEFINITION. The meanings of the CP15 c0 identification registers (40_cp15_c0_id.md R120 to R141).
-/

namespace Sys2Proof.Machine

/-- The Main ID Register (40_cp15_c0_id.md R120). -/
def mainId : Word := 0x410FB024

/-- The size code of the Cache Type Register (40_cp15_c0_id.md R121). -/
def cacheTypeSize : CacheSize → BitVec 3
  | .kb16 => 0b101
  | .kb32 => 0b110
  | .kb64 => 0b111

/-- The Cache Type Register (40_cp15_c0_id.md R121). -/
def cacheType (c : Config) : Word :=
  put (0b1110 : BitVec 4) 25 ||| flag true 24 ||| put (cacheTypeSize (dsize c)) 18 ||| put (0b010 : BitVec 3) 15 |||
    put (0b010 : BitVec 3) 12 ||| flag (c.icache != .kb16) 11 ||| put (cacheTypeSize c.icache) 6 |||
    put (0b010 : BitVec 3) 3 ||| put (0b010 : BitVec 3) 0

/-- The number of a CPU. -/
def cpuNumber : CpuId → BitVec 4
  | .cpu0 => 0
  | .cpu1 => 1
  | .cpu2 => 2
  | .cpu3 => 3

/-- The CPU ID Register (40_cp15_c0_id.md R123). -/
def cpuIdRegister (c : Config) : Word := put c.clusterId 8 ||| put (cpuNumber c.cpu) 0

/-- Main ID Register (40_cp15_c0_id.md R120). -/
def execMrcMainId (cond : Cond) (rd : RegNum) (s : State) : Host.Outcome State Fault Refusal :=
  cp15Read cond rd s fun _ => mainId
/-- Cache Type Register (40_cp15_c0_id.md R121). -/
def execMrcCacheType (cond : Cond) (rd : RegNum) (s : State) : Host.Outcome State Fault Refusal :=
  cp15Read cond rd s fun s => cacheType s.cfg
/-- TLB Type Register (40_cp15_c0_id.md R122). -/
def execMrcTlbType (cond : Cond) (rd : RegNum) (s : State) : Host.Outcome State Fault Refusal :=
  cp15Read cond rd s fun _ => 0x00000800
/-- CPU ID Register (40_cp15_c0_id.md R123). -/
def execMrcCpuId (cond : Cond) (rd : RegNum) (s : State) : Host.Outcome State Fault Refusal :=
  cp15Read cond rd s fun s => cpuIdRegister s.cfg
/-- ID_PFR0 (40_cp15_c0_id.md R125). -/
def execMrcIdPfr0 (cond : Cond) (rd : RegNum) (s : State) : Host.Outcome State Fault Refusal :=
  cp15Read cond rd s fun _ => 0x00000111
/-- ID_PFR1 (40_cp15_c0_id.md R126). -/
def execMrcIdPfr1 (cond : Cond) (rd : RegNum) (s : State) : Host.Outcome State Fault Refusal :=
  cp15Read cond rd s fun _ => 0x00000001
/-- ID_DFR0 (40_cp15_c0_id.md R127). -/
def execMrcIdDfr0 (cond : Cond) (rd : RegNum) (s : State) : Host.Outcome State Fault Refusal :=
  cp15Read cond rd s fun _ => 0x00000002
/-- The reserved slot c0, c1, 3 reads as zero (40_cp15_c0_id.md R132). -/
def execMrcIdReserved13 (cond : Cond) (rd : RegNum) (s : State) : Host.Outcome State Fault Refusal :=
  cp15Read cond rd s fun _ => 0
/-- ID_MMFR0 (40_cp15_c0_id.md R128). -/
def execMrcIdMmfr0 (cond : Cond) (rd : RegNum) (s : State) : Host.Outcome State Fault Refusal :=
  cp15Read cond rd s fun _ => 0x01100103
/-- ID_MMFR1 (40_cp15_c0_id.md R129). -/
def execMrcIdMmfr1 (cond : Cond) (rd : RegNum) (s : State) : Host.Outcome State Fault Refusal :=
  cp15Read cond rd s fun _ => 0x10020302
/-- ID_MMFR2 (40_cp15_c0_id.md R130). -/
def execMrcIdMmfr2 (cond : Cond) (rd : RegNum) (s : State) : Host.Outcome State Fault Refusal :=
  cp15Read cond rd s fun _ => 0x01222000
/-- ID_MMFR3 (40_cp15_c0_id.md R131). -/
def execMrcIdMmfr3 (cond : Cond) (rd : RegNum) (s : State) : Host.Outcome State Fault Refusal :=
  cp15Read cond rd s fun _ => 0x00000000
/-- ID_ISAR0 (40_cp15_c0_id.md R134). -/
def execMrcIdIsar0 (cond : Cond) (rd : RegNum) (s : State) : Host.Outcome State Fault Refusal :=
  cp15Read cond rd s fun _ => 0x00100011
/-- ID_ISAR1 (40_cp15_c0_id.md R135). -/
def execMrcIdIsar1 (cond : Cond) (rd : RegNum) (s : State) : Host.Outcome State Fault Refusal :=
  cp15Read cond rd s fun _ => 0x12002111
/-- ID_ISAR2 (40_cp15_c0_id.md R136). -/
def execMrcIdIsar2 (cond : Cond) (rd : RegNum) (s : State) : Host.Outcome State Fault Refusal :=
  cp15Read cond rd s fun _ => 0x11221011
/-- ID_ISAR3 (40_cp15_c0_id.md R137). -/
def execMrcIdIsar3 (cond : Cond) (rd : RegNum) (s : State) : Host.Outcome State Fault Refusal :=
  cp15Read cond rd s fun _ => 0x01102131
/-- ID_ISAR4 (40_cp15_c0_id.md R138). -/
def execMrcIdIsar4 (cond : Cond) (rd : RegNum) (s : State) : Host.Outcome State Fault Refusal :=
  cp15Read cond rd s fun _ => 0x00000141
/-- The reserved slot c0, c2, 5 reads as zero (40_cp15_c0_id.md R139). -/
def execMrcIdReserved25 (cond : Cond) (rd : RegNum) (s : State) : Host.Outcome State Fault Refusal :=
  cp15Read cond rd s fun _ => 0
/-- The reserved slot c0, c2, 6 reads as zero (40_cp15_c0_id.md R139). -/
def execMrcIdReserved26 (cond : Cond) (rd : RegNum) (s : State) : Host.Outcome State Fault Refusal :=
  cp15Read cond rd s fun _ => 0
/-- The reserved slot c0, c2, 7 reads as zero (40_cp15_c0_id.md R139). -/
def execMrcIdReserved27 (cond : Cond) (rd : RegNum) (s : State) : Host.Outcome State Fault Refusal :=
  cp15Read cond rd s fun _ => 0
/-- The unlisted register c0, c0, 2 reads as the Main ID Register (40_cp15_c0_id.md R140). -/
def execMrcC0Unlisted2 (cond : Cond) (rd : RegNum) (s : State) : Host.Outcome State Fault Refusal :=
  cp15Read cond rd s fun _ => mainId
/-- The unlisted register c0, c0, 4 reads as the Main ID Register (40_cp15_c0_id.md R140). -/
def execMrcC0Unlisted4 (cond : Cond) (rd : RegNum) (s : State) : Host.Outcome State Fault Refusal :=
  cp15Read cond rd s fun _ => mainId
/-- The unlisted register c0, c0, 6 reads as the Main ID Register (40_cp15_c0_id.md R140). -/
def execMrcC0Unlisted6 (cond : Cond) (rd : RegNum) (s : State) : Host.Outcome State Fault Refusal :=
  cp15Read cond rd s fun _ => mainId
/-- The unlisted register c0, c0, 7 reads as the Main ID Register (40_cp15_c0_id.md R140). -/
def execMrcC0Unlisted7 (cond : Cond) (rd : RegNum) (s : State) : Host.Outcome State Fault Refusal :=
  cp15Read cond rd s fun _ => mainId
/-- A write of c0: Undefined in User mode, else outside the specification (40_cp15_c0_id.md R141, U21). -/
def execMcrC0 (cond : Cond) (_rd : RegNum) (_opc2 : BitVec 3) (_crm : BitVec 4) (s : State) : Host.Outcome State Fault Refusal :=
  whenPasses cond s fun s => if s.privileged then .refused .cp15ReadOnly else .exc .undefined s

end Sys2Proof.Machine
end

