-- ==== Sys2Proof/Machine/Cp15Process.lean ====
section
/-!
DEFINITION. The meanings of CP15 c13 and c15: process and thread identifiers, performance monitor, TLB debug and lockdown entry
access (45_cp15_c13_c15.md R250 to R268), and of the encodings no table lists (30_encoding.md R115, R116).
-/

namespace Sys2Proof.Machine

/-- FCSE PID Register read (45_cp15_c13_c15.md R250). -/
def execMrcFcsePid (cond : Cond) (rd : RegNum) (s : State) : Host.Outcome State Fault Refusal :=
  cp15Read cond rd s fun s => s.cp15.fcsePid
/-- FCSE PID Register written; fetches may see the old one until the next pipeline flush (45_cp15_c13_c15.md R250, D16). -/
def execMcrFcsePid (cond : Cond) (rd : RegNum) (s : State) : Host.Outcome State Fault Refusal :=
  cp15Write cond rd s fun v s => s.setFetchCp15 { s.cp15 with fcsePid := v &&& 0xFE000000 }
/-- Context ID Register read (45_cp15_c13_c15.md R251). -/
def execMrcContextId (cond : Cond) (rd : RegNum) (s : State) : Host.Outcome State Fault Refusal :=
  cp15Read cond rd s fun s => s.cp15.contextId
/-- Context ID Register written; fetches may see the old one until the next pipeline flush (D16); with stores outstanding, the
Data Synchronization Barrier left out, outside the specification (45_cp15_c13_c15.md R251, U27). -/
def execMcrContextId (cond : Cond) (rd : RegNum) (s : State) : Host.Outcome State Fault Refusal :=
  cp15Run cond rd s fun s =>
    if s.storeBuffer.isEmpty then .ok () (s.setFetchCp15 { s.cp15 with contextId := s.reg rd }).advance
    else .refused .contextIdWithoutDsb
/-- Thread ID Register, user read/write, in every mode (45_cp15_c13_c15.md R252). -/
def execMrcThreadIdUrw (cond : Cond) (rd : RegNum) (s : State) : Host.Outcome State Fault Refusal :=
  cp15RunUser cond rd s fun s => .ok () (s.setReg rd s.cp15.threadUrw).advance
def execMcrThreadIdUrw (cond : Cond) (rd : RegNum) (s : State) : Host.Outcome State Fault Refusal :=
  cp15RunUser cond rd s fun s => .ok () (s.setCp15 { s.cp15 with threadUrw := s.reg rd }).advance
/-- Thread ID Register, user read-only: read in every mode, written in privileged ones (45_cp15_c13_c15.md R253). -/
def execMrcThreadIdUro (cond : Cond) (rd : RegNum) (s : State) : Host.Outcome State Fault Refusal :=
  cp15RunUser cond rd s fun s => .ok () (s.setReg rd s.cp15.threadUro).advance
/-- Thread ID Register, user read-only, written (45_cp15_c13_c15.md R253). -/
def execMcrThreadIdUro (cond : Cond) (rd : RegNum) (s : State) : Host.Outcome State Fault Refusal :=
  cp15Write cond rd s fun v s => s.setCp15 { s.cp15 with threadUro := v }
/-- Thread ID Register, privileged only, read (45_cp15_c13_c15.md R254). -/
def execMrcThreadIdPrw (cond : Cond) (rd : RegNum) (s : State) : Host.Outcome State Fault Refusal :=
  cp15Read cond rd s fun s => s.cp15.threadPrw
/-- Thread ID Register, privileged only, written (45_cp15_c13_c15.md R254). -/
def execMcrThreadIdPrw (cond : Cond) (rd : RegNum) (s : State) : Host.Outcome State Fault Refusal :=
  cp15Write cond rd s fun v s => s.setCp15 { s.cp15 with threadPrw := v }
/-- Performance Monitor Control Register read (45_cp15_c13_c15.md R255). -/
def execMrcPmnc (cond : Cond) (rd : RegNum) (s : State) : Host.Outcome State Fault Refusal :=
  cp15ReadWith cond rd s pmncRead
/-- Performance Monitor Control Register written (45_cp15_c13_c15.md R255). -/
def execMcrPmnc (cond : Cond) (rd : RegNum) (s : State) : Host.Outcome State Fault Refusal :=
  cp15Write cond rd s pmncWrite
/-- Cycle Counter Register read (45_cp15_c13_c15.md R257). -/
def execMrcCcnt (cond : Cond) (rd : RegNum) (s : State) : Host.Outcome State Fault Refusal :=
  cp15ReadWith cond rd s ccntRead
/-- Cycle Counter Register written (45_cp15_c13_c15.md R257). -/
def execMcrCcnt (cond : Cond) (rd : RegNum) (s : State) : Host.Outcome State Fault Refusal :=
  cp15Write cond rd s ccntWrite
/-- Count Register 0 read (45_cp15_c13_c15.md R258). -/
def execMrcPmn0 (cond : Cond) (rd : RegNum) (s : State) : Host.Outcome State Fault Refusal :=
  cp15ReadWith cond rd s pmn0Read
/-- Count Register 0 written (45_cp15_c13_c15.md R258). -/
def execMcrPmn0 (cond : Cond) (rd : RegNum) (s : State) : Host.Outcome State Fault Refusal :=
  cp15Write cond rd s pmn0Write
/-- Count Register 1 read (45_cp15_c13_c15.md R259). -/
def execMrcPmn1 (cond : Cond) (rd : RegNum) (s : State) : Host.Outcome State Fault Refusal :=
  cp15ReadWith cond rd s pmn1Read
/-- Count Register 1 written (45_cp15_c13_c15.md R259). -/
def execMcrPmn1 (cond : Cond) (rd : RegNum) (s : State) : Host.Outcome State Fault Refusal :=
  cp15Write cond rd s pmn1Write
/-- Select Lockdown TLB Entry for Read (45_cp15_c13_c15.md R262). -/
def execMcrTlbLockIndexRead (cond : Cond) (rd : RegNum) (s : State) : Host.Outcome State Fault Refusal :=
  cp15Write cond rd s selectLockRead
/-- Select Lockdown TLB Entry for Write (45_cp15_c13_c15.md R263). -/
def execMcrTlbLockIndexWrite (cond : Cond) (rd : RegNum) (s : State) : Host.Outcome State Fault Refusal :=
  cp15Write cond rd s selectLockWrite
/-- Main TLB Lockdown VA Register read (45_cp15_c13_c15.md R264). -/
def execMrcTlbLockVa (cond : Cond) (rd : RegNum) (s : State) : Host.Outcome State Fault Refusal :=
  cp15Run cond rd s fun s => lockRead .va rd s.cp15.tlbLockVa s
/-- Main TLB Lockdown VA Register written (45_cp15_c13_c15.md R264). -/
def execMcrTlbLockVa (cond : Cond) (rd : RegNum) (s : State) : Host.Outcome State Fault Refusal :=
  cp15Run cond rd s fun s => lockWriteVa (s.reg rd) s
/-- Main TLB Lockdown PA Register read (45_cp15_c13_c15.md R265). -/
def execMrcTlbLockPa (cond : Cond) (rd : RegNum) (s : State) : Host.Outcome State Fault Refusal :=
  cp15Run cond rd s fun s => lockRead .pa rd s.cp15.tlbLockPa s
/-- Main TLB Lockdown PA Register written (45_cp15_c13_c15.md R265). -/
def execMcrTlbLockPa (cond : Cond) (rd : RegNum) (s : State) : Host.Outcome State Fault Refusal :=
  cp15Run cond rd s fun s => lockWritePa (s.reg rd) s
/-- Main TLB Lockdown Attributes Register read (45_cp15_c13_c15.md R266). -/
def execMrcTlbLockAttr (cond : Cond) (rd : RegNum) (s : State) : Host.Outcome State Fault Refusal :=
  cp15Run cond rd s fun s => lockRead .attr rd s.cp15.tlbLockAttr s
/-- Main TLB Lockdown Attributes Register written (45_cp15_c13_c15.md R266). -/
def execMcrTlbLockAttr (cond : Cond) (rd : RegNum) (s : State) : Host.Outcome State Fault Refusal :=
  cp15Run cond rd s fun s => lockWriteAttr (s.reg rd) s
/-- TLB Debug Control Register read (45_cp15_c13_c15.md R261). -/
def execMrcTlbDebugControl (cond : Cond) (rd : RegNum) (s : State) : Host.Outcome State Fault Refusal :=
  cp15Read cond rd s fun s => s.cp15.tlbDebugControl
/-- TLB Debug Control Register written; IML and DML must agree (45_cp15_c13_c15.md R261, U29). -/
def execMcrTlbDebugControl (cond : Cond) (rd : RegNum) (s : State) : Host.Outcome State Fault Refusal :=
  cp15Run cond rd s fun s =>
    let v := s.reg rd
    if bitAt v 5 != bitAt v 4 then .refused .tlbDebugMismatch
    else .ok () (s.setCp15 { s.cp15 with tlbDebugControl := v &&& 0x00000030 }).advance

/-- A CP15 encoding that no table lists: Undefined in User mode, else outside the specification (30_encoding.md R114, R116,
U20). -/
def execCp15Unlisted (cond : Cond) (_opc1 : BitVec 3) (_l : Bool) (_crn : BitVec 4) (_rd : RegNum) (_opc2 : BitVec 3)
    (_crm : BitVec 4) (s : State) : Host.Outcome State Fault Refusal :=
  whenPasses cond s fun s => if s.privileged then .refused .cp15Unlisted else .exc .undefined s

/-- CDP of CP15 is Undefined in every mode (30_encoding.md R115). -/
def execCdpP15 (cond : Cond) (_opc1 _crn : BitVec 4) (_rd : RegNum) (_opc2 : BitVec 3) (_crm : BitVec 4) (s : State) :
    Host.Outcome State Fault Refusal :=
  whenPasses cond s fun s => .exc .undefined s
/-- LDC, STC, MCRR and MRRC of CP15 are Undefined in every mode (30_encoding.md R115). -/
def execLdcStcP15 (cond : Cond) (_p _u _n _w _l : Bool) (_rn _rd : RegNum) (_off : BitVec 8) (s : State) :
    Host.Outcome State Fault Refusal :=
  whenPasses cond s fun s => .exc .undefined s

end Sys2Proof.Machine
end

