-- ==== Sys2Proof/Machine/Cp15Tlb.lean ====
section
/-!
DEFINITION. The meanings of CP15 c8 to c10: TLB operations, cache and TLB lockdown, memory region remap
(44_cp15_c8_c10_tlb.md R230 to R240).
-/

namespace Sys2Proof.Machine

/-- Invalidate TLB, Instruction form; the TLB is unified (44_cp15_c8_c10_tlb.md R230, R231). -/
def execMcrInvalidateITlb (cond : Cond) (rd : RegNum) (s : State) : Host.Outcome State Fault Refusal :=
  cp15Write cond rd s fun _ s => invalidateTlb s
/-- Invalidate TLB Single Entry by MVA with ASID match, Instruction form (44_cp15_c8_c10_tlb.md R232). -/
def execMcrInvalidateITlbEntry (cond : Cond) (rd : RegNum) (s : State) : Host.Outcome State Fault Refusal :=
  cp15Write cond rd s invalidateTlbEntry
/-- Invalidate TLB Entries on ASID match, Instruction form (44_cp15_c8_c10_tlb.md R233). -/
def execMcrInvalidateITlbAsid (cond : Cond) (rd : RegNum) (s : State) : Host.Outcome State Fault Refusal :=
  cp15Write cond rd s invalidateTlbAsid
/-- Invalidate TLB Single Entry on MVA only, Instruction form (44_cp15_c8_c10_tlb.md R234). -/
def execMcrInvalidateITlbMva (cond : Cond) (rd : RegNum) (s : State) : Host.Outcome State Fault Refusal :=
  cp15Write cond rd s invalidateTlbMva
/-- Invalidate TLB, Data form; the TLB is unified (44_cp15_c8_c10_tlb.md R230, R231). -/
def execMcrInvalidateDTlb (cond : Cond) (rd : RegNum) (s : State) : Host.Outcome State Fault Refusal :=
  cp15Write cond rd s fun _ s => invalidateTlb s
/-- Invalidate TLB Single Entry by MVA with ASID match, Data form (44_cp15_c8_c10_tlb.md R232). -/
def execMcrInvalidateDTlbEntry (cond : Cond) (rd : RegNum) (s : State) : Host.Outcome State Fault Refusal :=
  cp15Write cond rd s invalidateTlbEntry
/-- Invalidate TLB Entries on ASID match, Data form (44_cp15_c8_c10_tlb.md R233). -/
def execMcrInvalidateDTlbAsid (cond : Cond) (rd : RegNum) (s : State) : Host.Outcome State Fault Refusal :=
  cp15Write cond rd s invalidateTlbAsid
/-- Invalidate TLB Single Entry on MVA only, Data form (44_cp15_c8_c10_tlb.md R234). -/
def execMcrInvalidateDTlbMva (cond : Cond) (rd : RegNum) (s : State) : Host.Outcome State Fault Refusal :=
  cp15Write cond rd s invalidateTlbMva
/-- Invalidate TLB, Unified form; the TLB is unified (44_cp15_c8_c10_tlb.md R230, R231). -/
def execMcrInvalidateUTlb (cond : Cond) (rd : RegNum) (s : State) : Host.Outcome State Fault Refusal :=
  cp15Write cond rd s fun _ s => invalidateTlb s
/-- Invalidate TLB Single Entry by MVA with ASID match, Unified form (44_cp15_c8_c10_tlb.md R232). -/
def execMcrInvalidateUTlbEntry (cond : Cond) (rd : RegNum) (s : State) : Host.Outcome State Fault Refusal :=
  cp15Write cond rd s invalidateTlbEntry
/-- Invalidate TLB Entries on ASID match, Unified form (44_cp15_c8_c10_tlb.md R233). -/
def execMcrInvalidateUTlbAsid (cond : Cond) (rd : RegNum) (s : State) : Host.Outcome State Fault Refusal :=
  cp15Write cond rd s invalidateTlbAsid
/-- Invalidate TLB Single Entry on MVA only, Unified form (44_cp15_c8_c10_tlb.md R234). -/
def execMcrInvalidateUTlbMva (cond : Cond) (rd : RegNum) (s : State) : Host.Outcome State Fault Refusal :=
  cp15Write cond rd s invalidateTlbMva
/-- Data Cache Lockdown Register read (44_cp15_c8_c10_tlb.md R235). -/
def execMrcDCacheLockdown (cond : Cond) (rd : RegNum) (s : State) : Host.Outcome State Fault Refusal :=
  cp15Read cond rd s fun s => s.cp15.dcacheLockdown
/-- Data Cache Lockdown Register written (44_cp15_c8_c10_tlb.md R235). -/
def execMcrDCacheLockdown (cond : Cond) (rd : RegNum) (s : State) : Host.Outcome State Fault Refusal :=
  cp15Write cond rd s fun v s => s.setCp15 { s.cp15 with dcacheLockdown := v ||| 0xFFFFFFF0 }
/-- TLB Lockdown Register read (44_cp15_c8_c10_tlb.md R236). -/
def execMrcTlbLockdown (cond : Cond) (rd : RegNum) (s : State) : Host.Outcome State Fault Refusal :=
  cp15Read cond rd s fun s => s.cp15.tlbLockdown
/-- TLB Lockdown Register written (44_cp15_c8_c10_tlb.md R236). -/
def execMcrTlbLockdown (cond : Cond) (rd : RegNum) (s : State) : Host.Outcome State Fault Refusal :=
  cp15Write cond rd s fun v s => s.setFetchCp15 { s.cp15 with tlbLockdown := v &&& 0x1C000001 }
/-- Primary Region Remap Register read (44_cp15_c8_c10_tlb.md R237). -/
def execMrcPrrr (cond : Cond) (rd : RegNum) (s : State) : Host.Outcome State Fault Refusal :=
  cp15Read cond rd s fun s => s.cp15.prrr
/-- Primary Region Remap Register written (44_cp15_c8_c10_tlb.md R237, R239). -/
def execMcrPrrr (cond : Cond) (rd : RegNum) (s : State) : Host.Outcome State Fault Refusal :=
  cp15Write cond rd s fun v s => noteRemap s (s.setCp15 { s.cp15 with prrr := v &&& 0x000FCFFF })

/-- The Normal Memory Region Remap Register read: after a write of a nonzero value to bits [29:28] they read as a free value
(44_cp15_c8_c10_tlb.md R238, U26). -/
def nmrrRead (s : State) : Word × State :=
  if s.nmrrImplDefined then withWord s fun free s => (s.cp15.nmrr ||| (free &&& 0x30000000), s) else (s.cp15.nmrr, s)

/-- The Normal Memory Region Remap Register written (44_cp15_c8_c10_tlb.md R238, R239). -/
def nmrrWrite (v : Word) (s : State) : State :=
  { noteRemap s (s.setCp15 { s.cp15 with nmrr := v &&& 0xCFFFCFFF }) with
    nmrrImplDefined := s.nmrrImplDefined || fld v 28 2 != 0#2 }

/-- Normal Memory Region Remap Register read (44_cp15_c8_c10_tlb.md R238). -/
def execMrcNmrr (cond : Cond) (rd : RegNum) (s : State) : Host.Outcome State Fault Refusal :=
  cp15ReadWith cond rd s nmrrRead
/-- Normal Memory Region Remap Register written (44_cp15_c8_c10_tlb.md R238). -/
def execMcrNmrr (cond : Cond) (rd : RegNum) (s : State) : Host.Outcome State Fault Refusal :=
  cp15Write cond rd s nmrrWrite

end Sys2Proof.Machine
end

