-- ==== Sys2Proof/Machine/DataProcessing.lean ====
section
/-!
DEFINITION. The meanings of the sixteen data-processing instructions in their three operand forms
(47_core_instructions.md R750 to R766).
-/

namespace Sys2Proof.Machine

/-- The result of a data-processing instruction written: a register and, with S, the flags; or the PC, with S an exception
return (47_core_instructions.md R750). -/
def writeResult (s : State) (sb : Bool) (rd : RegNum) (value : Word) (flags : State → State) : Res Unit :=
  if rd = 15 then (if sb then returnFromSpsr s value else aluWritePc s value)
  else .ok () ((if sb then flags s else s).setReg rd value).advance

/-- The result of a logical operation, with the shifter's carry (47_core_instructions.md R750). -/
def writeLogic (s : State) (sb : Bool) (rd : RegNum) (carry : Bool) (value : Word) : Res Unit :=
  writeResult s sb rd value fun s => s.setLogicFlags value carry

/-- The result of an arithmetic operation (47_core_instructions.md R750). -/
def writeArith (s : State) (sb : Bool) (rd : RegNum) (x : Sum) : Res Unit :=
  writeResult s sb rd x.result fun s => s.setArithFlags x

/-- A logical comparison (47_core_instructions.md R759, R760). -/
def testLogic (s : State) (carry : Bool) (value : Word) : Res Unit := .ok () (s.setLogicFlags value carry).advance

/-- An arithmetic comparison (47_core_instructions.md R761, R762). -/
def testArith (s : State) (x : Sum) : Res Unit := .ok () (s.setArithFlags x).advance

/-- r15 in a register-shifted operand form is UNPREDICTABLE (47_core_instructions.md R750, U38). -/
def noPc (l : List RegNum) (r : Res Unit) : Res Unit := if l.contains 15 then .refused .unpredictableForm else r

/-- AND, immediate operand (47_core_instructions.md R751). -/
def execAndImm (cond : Cond) (sb : Bool) (rn rd : RegNum) (rot : BitVec 4) (imm : BitVec 8) (s : State) :
    Host.Outcome State Fault Refusal :=
  whenPasses cond s fun s =>
    let op := s.immOp rot imm
    writeLogic s sb rd op.carry (s.reg rn &&& op.value)

/-- AND, register shifted by an immediate (47_core_instructions.md R751). -/
def execAndShiftImm (cond : Cond) (sb : Bool) (rn rd : RegNum) (amount : BitVec 5) (ty : BitVec 2) (rm : RegNum) (s : State) :
    Host.Outcome State Fault Refusal :=
  whenPasses cond s fun s =>
    let op := s.shiftImmOp amount ty rm
    writeLogic s sb rd op.carry (s.reg rn &&& op.value)

/-- AND, register shifted by a register (47_core_instructions.md R751). -/
def execAndShiftReg (cond : Cond) (sb : Bool) (rn rd rs : RegNum) (ty : BitVec 2) (rm : RegNum) (s : State) :
    Host.Outcome State Fault Refusal :=
  whenPasses cond s fun s =>
    let op := s.shiftRegOp rs ty rm
    noPc [rn, rd, rs, rm] (writeLogic s sb rd op.carry (s.reg rn &&& op.value))

/-- EOR, immediate operand (47_core_instructions.md R752). -/
def execEorImm (cond : Cond) (sb : Bool) (rn rd : RegNum) (rot : BitVec 4) (imm : BitVec 8) (s : State) :
    Host.Outcome State Fault Refusal :=
  whenPasses cond s fun s =>
    let op := s.immOp rot imm
    writeLogic s sb rd op.carry (s.reg rn ^^^ op.value)

/-- EOR, register shifted by an immediate (47_core_instructions.md R752). -/
def execEorShiftImm (cond : Cond) (sb : Bool) (rn rd : RegNum) (amount : BitVec 5) (ty : BitVec 2) (rm : RegNum) (s : State) :
    Host.Outcome State Fault Refusal :=
  whenPasses cond s fun s =>
    let op := s.shiftImmOp amount ty rm
    writeLogic s sb rd op.carry (s.reg rn ^^^ op.value)

/-- EOR, register shifted by a register (47_core_instructions.md R752). -/
def execEorShiftReg (cond : Cond) (sb : Bool) (rn rd rs : RegNum) (ty : BitVec 2) (rm : RegNum) (s : State) :
    Host.Outcome State Fault Refusal :=
  whenPasses cond s fun s =>
    let op := s.shiftRegOp rs ty rm
    noPc [rn, rd, rs, rm] (writeLogic s sb rd op.carry (s.reg rn ^^^ op.value))

/-- SUB, immediate operand (47_core_instructions.md R753). -/
def execSubImm (cond : Cond) (sb : Bool) (rn rd : RegNum) (rot : BitVec 4) (imm : BitVec 8) (s : State) :
    Host.Outcome State Fault Refusal :=
  whenPasses cond s fun s =>
    let op := s.immOp rot imm
    writeArith s sb rd (addWithCarry (s.reg rn) (~~~ op.value) true)

/-- SUB, register shifted by an immediate (47_core_instructions.md R753). -/
def execSubShiftImm (cond : Cond) (sb : Bool) (rn rd : RegNum) (amount : BitVec 5) (ty : BitVec 2) (rm : RegNum) (s : State) :
    Host.Outcome State Fault Refusal :=
  whenPasses cond s fun s =>
    let op := s.shiftImmOp amount ty rm
    writeArith s sb rd (addWithCarry (s.reg rn) (~~~ op.value) true)

/-- SUB, register shifted by a register (47_core_instructions.md R753). -/
def execSubShiftReg (cond : Cond) (sb : Bool) (rn rd rs : RegNum) (ty : BitVec 2) (rm : RegNum) (s : State) :
    Host.Outcome State Fault Refusal :=
  whenPasses cond s fun s =>
    let op := s.shiftRegOp rs ty rm
    noPc [rn, rd, rs, rm] (writeArith s sb rd (addWithCarry (s.reg rn) (~~~ op.value) true))

/-- RSB, immediate operand (47_core_instructions.md R754). -/
def execRsbImm (cond : Cond) (sb : Bool) (rn rd : RegNum) (rot : BitVec 4) (imm : BitVec 8) (s : State) :
    Host.Outcome State Fault Refusal :=
  whenPasses cond s fun s =>
    let op := s.immOp rot imm
    writeArith s sb rd (addWithCarry op.value (~~~ s.reg rn) true)

/-- RSB, register shifted by an immediate (47_core_instructions.md R754). -/
def execRsbShiftImm (cond : Cond) (sb : Bool) (rn rd : RegNum) (amount : BitVec 5) (ty : BitVec 2) (rm : RegNum) (s : State) :
    Host.Outcome State Fault Refusal :=
  whenPasses cond s fun s =>
    let op := s.shiftImmOp amount ty rm
    writeArith s sb rd (addWithCarry op.value (~~~ s.reg rn) true)

/-- RSB, register shifted by a register (47_core_instructions.md R754). -/
def execRsbShiftReg (cond : Cond) (sb : Bool) (rn rd rs : RegNum) (ty : BitVec 2) (rm : RegNum) (s : State) :
    Host.Outcome State Fault Refusal :=
  whenPasses cond s fun s =>
    let op := s.shiftRegOp rs ty rm
    noPc [rn, rd, rs, rm] (writeArith s sb rd (addWithCarry op.value (~~~ s.reg rn) true))

/-- ADD, immediate operand (47_core_instructions.md R755). -/
def execAddImm (cond : Cond) (sb : Bool) (rn rd : RegNum) (rot : BitVec 4) (imm : BitVec 8) (s : State) :
    Host.Outcome State Fault Refusal :=
  whenPasses cond s fun s =>
    let op := s.immOp rot imm
    writeArith s sb rd (addWithCarry (s.reg rn) op.value false)

/-- ADD, register shifted by an immediate (47_core_instructions.md R755). -/
def execAddShiftImm (cond : Cond) (sb : Bool) (rn rd : RegNum) (amount : BitVec 5) (ty : BitVec 2) (rm : RegNum) (s : State) :
    Host.Outcome State Fault Refusal :=
  whenPasses cond s fun s =>
    let op := s.shiftImmOp amount ty rm
    writeArith s sb rd (addWithCarry (s.reg rn) op.value false)

/-- ADD, register shifted by a register (47_core_instructions.md R755). -/
def execAddShiftReg (cond : Cond) (sb : Bool) (rn rd rs : RegNum) (ty : BitVec 2) (rm : RegNum) (s : State) :
    Host.Outcome State Fault Refusal :=
  whenPasses cond s fun s =>
    let op := s.shiftRegOp rs ty rm
    noPc [rn, rd, rs, rm] (writeArith s sb rd (addWithCarry (s.reg rn) op.value false))

/-- ADC, immediate operand (47_core_instructions.md R756). -/
def execAdcImm (cond : Cond) (sb : Bool) (rn rd : RegNum) (rot : BitVec 4) (imm : BitVec 8) (s : State) :
    Host.Outcome State Fault Refusal :=
  whenPasses cond s fun s =>
    let op := s.immOp rot imm
    writeArith s sb rd (addWithCarry (s.reg rn) op.value s.flagC)

/-- ADC, register shifted by an immediate (47_core_instructions.md R756). -/
def execAdcShiftImm (cond : Cond) (sb : Bool) (rn rd : RegNum) (amount : BitVec 5) (ty : BitVec 2) (rm : RegNum) (s : State) :
    Host.Outcome State Fault Refusal :=
  whenPasses cond s fun s =>
    let op := s.shiftImmOp amount ty rm
    writeArith s sb rd (addWithCarry (s.reg rn) op.value s.flagC)

/-- ADC, register shifted by a register (47_core_instructions.md R756). -/
def execAdcShiftReg (cond : Cond) (sb : Bool) (rn rd rs : RegNum) (ty : BitVec 2) (rm : RegNum) (s : State) :
    Host.Outcome State Fault Refusal :=
  whenPasses cond s fun s =>
    let op := s.shiftRegOp rs ty rm
    noPc [rn, rd, rs, rm] (writeArith s sb rd (addWithCarry (s.reg rn) op.value s.flagC))

/-- SBC, immediate operand (47_core_instructions.md R757). -/
def execSbcImm (cond : Cond) (sb : Bool) (rn rd : RegNum) (rot : BitVec 4) (imm : BitVec 8) (s : State) :
    Host.Outcome State Fault Refusal :=
  whenPasses cond s fun s =>
    let op := s.immOp rot imm
    writeArith s sb rd (addWithCarry (s.reg rn) (~~~ op.value) s.flagC)

/-- SBC, register shifted by an immediate (47_core_instructions.md R757). -/
def execSbcShiftImm (cond : Cond) (sb : Bool) (rn rd : RegNum) (amount : BitVec 5) (ty : BitVec 2) (rm : RegNum) (s : State) :
    Host.Outcome State Fault Refusal :=
  whenPasses cond s fun s =>
    let op := s.shiftImmOp amount ty rm
    writeArith s sb rd (addWithCarry (s.reg rn) (~~~ op.value) s.flagC)

/-- SBC, register shifted by a register (47_core_instructions.md R757). -/
def execSbcShiftReg (cond : Cond) (sb : Bool) (rn rd rs : RegNum) (ty : BitVec 2) (rm : RegNum) (s : State) :
    Host.Outcome State Fault Refusal :=
  whenPasses cond s fun s =>
    let op := s.shiftRegOp rs ty rm
    noPc [rn, rd, rs, rm] (writeArith s sb rd (addWithCarry (s.reg rn) (~~~ op.value) s.flagC))

/-- RSC, immediate operand (47_core_instructions.md R758). -/
def execRscImm (cond : Cond) (sb : Bool) (rn rd : RegNum) (rot : BitVec 4) (imm : BitVec 8) (s : State) :
    Host.Outcome State Fault Refusal :=
  whenPasses cond s fun s =>
    let op := s.immOp rot imm
    writeArith s sb rd (addWithCarry op.value (~~~ s.reg rn) s.flagC)

/-- RSC, register shifted by an immediate (47_core_instructions.md R758). -/
def execRscShiftImm (cond : Cond) (sb : Bool) (rn rd : RegNum) (amount : BitVec 5) (ty : BitVec 2) (rm : RegNum) (s : State) :
    Host.Outcome State Fault Refusal :=
  whenPasses cond s fun s =>
    let op := s.shiftImmOp amount ty rm
    writeArith s sb rd (addWithCarry op.value (~~~ s.reg rn) s.flagC)

/-- RSC, register shifted by a register (47_core_instructions.md R758). -/
def execRscShiftReg (cond : Cond) (sb : Bool) (rn rd rs : RegNum) (ty : BitVec 2) (rm : RegNum) (s : State) :
    Host.Outcome State Fault Refusal :=
  whenPasses cond s fun s =>
    let op := s.shiftRegOp rs ty rm
    noPc [rn, rd, rs, rm] (writeArith s sb rd (addWithCarry op.value (~~~ s.reg rn) s.flagC))

/-- TST, immediate operand (47_core_instructions.md R759). -/
def execTstImm (cond : Cond) (rn _rd : RegNum) (rot : BitVec 4) (imm : BitVec 8) (s : State) :
    Host.Outcome State Fault Refusal :=
  whenPasses cond s fun s =>
    let op := s.immOp rot imm
    testLogic s op.carry (s.reg rn &&& op.value)

/-- TST, register shifted by an immediate (47_core_instructions.md R759). -/
def execTstShiftImm (cond : Cond) (rn _rd : RegNum) (amount : BitVec 5) (ty : BitVec 2) (rm : RegNum) (s : State) :
    Host.Outcome State Fault Refusal :=
  whenPasses cond s fun s =>
    let op := s.shiftImmOp amount ty rm
    testLogic s op.carry (s.reg rn &&& op.value)

/-- TST, register shifted by a register (47_core_instructions.md R759). -/
def execTstShiftReg (cond : Cond) (rn rd rs : RegNum) (ty : BitVec 2) (rm : RegNum) (s : State) :
    Host.Outcome State Fault Refusal :=
  whenPasses cond s fun s =>
    let op := s.shiftRegOp rs ty rm
    noPc [rn, rd, rs, rm] (testLogic s op.carry (s.reg rn &&& op.value))

/-- TEQ, immediate operand (47_core_instructions.md R760). -/
def execTeqImm (cond : Cond) (rn _rd : RegNum) (rot : BitVec 4) (imm : BitVec 8) (s : State) :
    Host.Outcome State Fault Refusal :=
  whenPasses cond s fun s =>
    let op := s.immOp rot imm
    testLogic s op.carry (s.reg rn ^^^ op.value)

/-- TEQ, register shifted by an immediate (47_core_instructions.md R760). -/
def execTeqShiftImm (cond : Cond) (rn _rd : RegNum) (amount : BitVec 5) (ty : BitVec 2) (rm : RegNum) (s : State) :
    Host.Outcome State Fault Refusal :=
  whenPasses cond s fun s =>
    let op := s.shiftImmOp amount ty rm
    testLogic s op.carry (s.reg rn ^^^ op.value)

/-- TEQ, register shifted by a register (47_core_instructions.md R760). -/
def execTeqShiftReg (cond : Cond) (rn rd rs : RegNum) (ty : BitVec 2) (rm : RegNum) (s : State) :
    Host.Outcome State Fault Refusal :=
  whenPasses cond s fun s =>
    let op := s.shiftRegOp rs ty rm
    noPc [rn, rd, rs, rm] (testLogic s op.carry (s.reg rn ^^^ op.value))

/-- CMP, immediate operand (47_core_instructions.md R761). -/
def execCmpImm (cond : Cond) (rn _rd : RegNum) (rot : BitVec 4) (imm : BitVec 8) (s : State) :
    Host.Outcome State Fault Refusal :=
  whenPasses cond s fun s =>
    let op := s.immOp rot imm
    testArith s (addWithCarry (s.reg rn) (~~~ op.value) true)

/-- CMP, register shifted by an immediate (47_core_instructions.md R761). -/
def execCmpShiftImm (cond : Cond) (rn _rd : RegNum) (amount : BitVec 5) (ty : BitVec 2) (rm : RegNum) (s : State) :
    Host.Outcome State Fault Refusal :=
  whenPasses cond s fun s =>
    let op := s.shiftImmOp amount ty rm
    testArith s (addWithCarry (s.reg rn) (~~~ op.value) true)

/-- CMP, register shifted by a register (47_core_instructions.md R761). -/
def execCmpShiftReg (cond : Cond) (rn rd rs : RegNum) (ty : BitVec 2) (rm : RegNum) (s : State) :
    Host.Outcome State Fault Refusal :=
  whenPasses cond s fun s =>
    let op := s.shiftRegOp rs ty rm
    noPc [rn, rd, rs, rm] (testArith s (addWithCarry (s.reg rn) (~~~ op.value) true))

/-- CMN, immediate operand (47_core_instructions.md R762). -/
def execCmnImm (cond : Cond) (rn _rd : RegNum) (rot : BitVec 4) (imm : BitVec 8) (s : State) :
    Host.Outcome State Fault Refusal :=
  whenPasses cond s fun s =>
    let op := s.immOp rot imm
    testArith s (addWithCarry (s.reg rn) op.value false)

/-- CMN, register shifted by an immediate (47_core_instructions.md R762). -/
def execCmnShiftImm (cond : Cond) (rn _rd : RegNum) (amount : BitVec 5) (ty : BitVec 2) (rm : RegNum) (s : State) :
    Host.Outcome State Fault Refusal :=
  whenPasses cond s fun s =>
    let op := s.shiftImmOp amount ty rm
    testArith s (addWithCarry (s.reg rn) op.value false)

/-- CMN, register shifted by a register (47_core_instructions.md R762). -/
def execCmnShiftReg (cond : Cond) (rn rd rs : RegNum) (ty : BitVec 2) (rm : RegNum) (s : State) :
    Host.Outcome State Fault Refusal :=
  whenPasses cond s fun s =>
    let op := s.shiftRegOp rs ty rm
    noPc [rn, rd, rs, rm] (testArith s (addWithCarry (s.reg rn) op.value false))

/-- ORR, immediate operand (47_core_instructions.md R763). -/
def execOrrImm (cond : Cond) (sb : Bool) (rn rd : RegNum) (rot : BitVec 4) (imm : BitVec 8) (s : State) :
    Host.Outcome State Fault Refusal :=
  whenPasses cond s fun s =>
    let op := s.immOp rot imm
    writeLogic s sb rd op.carry (s.reg rn ||| op.value)

/-- ORR, register shifted by an immediate (47_core_instructions.md R763). -/
def execOrrShiftImm (cond : Cond) (sb : Bool) (rn rd : RegNum) (amount : BitVec 5) (ty : BitVec 2) (rm : RegNum) (s : State) :
    Host.Outcome State Fault Refusal :=
  whenPasses cond s fun s =>
    let op := s.shiftImmOp amount ty rm
    writeLogic s sb rd op.carry (s.reg rn ||| op.value)

/-- ORR, register shifted by a register (47_core_instructions.md R763). -/
def execOrrShiftReg (cond : Cond) (sb : Bool) (rn rd rs : RegNum) (ty : BitVec 2) (rm : RegNum) (s : State) :
    Host.Outcome State Fault Refusal :=
  whenPasses cond s fun s =>
    let op := s.shiftRegOp rs ty rm
    noPc [rn, rd, rs, rm] (writeLogic s sb rd op.carry (s.reg rn ||| op.value))

/-- MOV, immediate operand (47_core_instructions.md R764). -/
def execMovImm (cond : Cond) (sb : Bool) (_rn rd : RegNum) (rot : BitVec 4) (imm : BitVec 8) (s : State) :
    Host.Outcome State Fault Refusal :=
  whenPasses cond s fun s =>
    let op := s.immOp rot imm
    writeLogic s sb rd op.carry (op.value)

/-- MOV, register shifted by an immediate (47_core_instructions.md R764). -/
def execMovShiftImm (cond : Cond) (sb : Bool) (_rn rd : RegNum) (amount : BitVec 5) (ty : BitVec 2) (rm : RegNum) (s : State) :
    Host.Outcome State Fault Refusal :=
  whenPasses cond s fun s =>
    let op := s.shiftImmOp amount ty rm
    writeLogic s sb rd op.carry (op.value)

/-- MOV, register shifted by a register (47_core_instructions.md R764). -/
def execMovShiftReg (cond : Cond) (sb : Bool) (rn rd rs : RegNum) (ty : BitVec 2) (rm : RegNum) (s : State) :
    Host.Outcome State Fault Refusal :=
  whenPasses cond s fun s =>
    let op := s.shiftRegOp rs ty rm
    noPc [rn, rd, rs, rm] (writeLogic s sb rd op.carry (op.value))

/-- BIC, immediate operand (47_core_instructions.md R765). -/
def execBicImm (cond : Cond) (sb : Bool) (rn rd : RegNum) (rot : BitVec 4) (imm : BitVec 8) (s : State) :
    Host.Outcome State Fault Refusal :=
  whenPasses cond s fun s =>
    let op := s.immOp rot imm
    writeLogic s sb rd op.carry (s.reg rn &&& ~~~ op.value)

/-- BIC, register shifted by an immediate (47_core_instructions.md R765). -/
def execBicShiftImm (cond : Cond) (sb : Bool) (rn rd : RegNum) (amount : BitVec 5) (ty : BitVec 2) (rm : RegNum) (s : State) :
    Host.Outcome State Fault Refusal :=
  whenPasses cond s fun s =>
    let op := s.shiftImmOp amount ty rm
    writeLogic s sb rd op.carry (s.reg rn &&& ~~~ op.value)

/-- BIC, register shifted by a register (47_core_instructions.md R765). -/
def execBicShiftReg (cond : Cond) (sb : Bool) (rn rd rs : RegNum) (ty : BitVec 2) (rm : RegNum) (s : State) :
    Host.Outcome State Fault Refusal :=
  whenPasses cond s fun s =>
    let op := s.shiftRegOp rs ty rm
    noPc [rn, rd, rs, rm] (writeLogic s sb rd op.carry (s.reg rn &&& ~~~ op.value))

/-- MVN, immediate operand (47_core_instructions.md R766). -/
def execMvnImm (cond : Cond) (sb : Bool) (_rn rd : RegNum) (rot : BitVec 4) (imm : BitVec 8) (s : State) :
    Host.Outcome State Fault Refusal :=
  whenPasses cond s fun s =>
    let op := s.immOp rot imm
    writeLogic s sb rd op.carry (~~~ op.value)

/-- MVN, register shifted by an immediate (47_core_instructions.md R766). -/
def execMvnShiftImm (cond : Cond) (sb : Bool) (_rn rd : RegNum) (amount : BitVec 5) (ty : BitVec 2) (rm : RegNum) (s : State) :
    Host.Outcome State Fault Refusal :=
  whenPasses cond s fun s =>
    let op := s.shiftImmOp amount ty rm
    writeLogic s sb rd op.carry (~~~ op.value)

/-- MVN, register shifted by a register (47_core_instructions.md R766). -/
def execMvnShiftReg (cond : Cond) (sb : Bool) (rn rd rs : RegNum) (ty : BitVec 2) (rm : RegNum) (s : State) :
    Host.Outcome State Fault Refusal :=
  whenPasses cond s fun s =>
    let op := s.shiftRegOp rs ty rm
    noPc [rn, rd, rs, rm] (writeLogic s sb rd op.carry (~~~ op.value))

end Sys2Proof.Machine
end

