-- ==== Sys2Proof/Machine/Dbgtap.lean ====
section
/-!
DEFINITION. The meanings of the DBGTAP instructions: a code that has been shifted into the Instruction Register takes effect
at Update-IR (46_cp14_debug.md R336). What an instruction does to the data registers follows when the controller moves on
(`captureDr`, `shiftDr`, `updateDr`), and Halt and Restart act when it enters Run-Test/Idle (`enterIdle`).
-/

namespace Sys2Proof.Machine

/-- The Instruction Register loaded at Update-IR (46_cp14_debug.md R336). -/
def loadTapIr (code : BitVec 5) (s : State) : State := s.setTap { s.dbg.tap with ir := code }

/-- EXTEST: the selected scan chain is written (46_cp14_debug.md R336, R337). -/
def execDbgtapExtest (s : State) : Host.Outcome State Fault Refusal := .next (loadTapIr tapExtest s)
/-- Scan_N: the Scan Chain Select Register is placed between TDI and TDO (46_cp14_debug.md R336, R337). -/
def execDbgtapScanN (s : State) : Host.Outcome State Fault Refusal := .next (loadTapIr tapScanN s)
/-- Restart: the Core restarted bit reads 0 until the Restart sequence is complete, whatever state the CPU is in
(46_cp14_debug.md R304, R334, R336). -/
def execDbgtapRestart (s : State) : Host.Outcome State Fault Refusal :=
  .next (loadTapIr tapRestart (s.setDscr (setBit s.dbg.dscr 1 false)))
/-- Halt: a debug state entry request once Run-Test/Idle is reached (46_cp14_debug.md R324, R336). -/
def execDbgtapHalt (s : State) : Host.Outcome State Fault Refusal := .next (loadTapIr tapHalt s)
/-- INTEST: the selected scan chain is read (46_cp14_debug.md R336, R337). -/
def execDbgtapIntest (s : State) : Host.Outcome State Fault Refusal := .next (loadTapIr tapIntest s)
/-- ITRsel: scan chain 4 as in EXTEST, the Scan Chain Select Register unchanged (46_cp14_debug.md R336). -/
def execDbgtapItrsel (s : State) : Host.Outcome State Fault Refusal := .next (loadTapIr tapItrsel s)
/-- IDcode: the identification register is selected (46_cp14_debug.md R330, R336). -/
def execDbgtapIdcode (s : State) : Host.Outcome State Fault Refusal := .next (loadTapIr tapIdcode s)
/-- Bypass: a one-bit register is selected (46_cp14_debug.md R336). -/
def execDbgtapBypass (s : State) : Host.Outcome State Fault Refusal := .next (loadTapIr tapBypass s)

end Sys2Proof.Machine
end

