-- ==== Sys2Proof/Machine/LoadStore.lean ====
section
/-!
DEFINITION. The meanings of the loads and stores of words, bytes, halfwords and doublewords, and of the load and store
multiples (47_core_instructions.md R725, R770 to R772).
-/

namespace Sys2Proof.Machine

/-! ## Shared operations -/

/-- The operand forms of 47_core_instructions.md R770 that are UNPREDICTABLE: writeback with Rn = 15 or Rn = Rd, and Rm = 15
(`rm` is 0 in the immediate forms) (U38). -/
def badAddressing (p w : Bool) (rn rd rm : RegNum) : Bool := ((!p || w) && (rn == 15 || rn == rd)) || rm == 15

/-- The access of a single load: with User permissions in the forms P = 0, W = 1 (47_core_instructions.md R770). -/
def loadMode (s : State) (p w : Bool) (rd : RegNum) : AccessMode :=
  { plainMode s false with user := s.userAccess || (!p && w), toPc := rd == 15 }

/-- The access of a single store (47_core_instructions.md R770). -/
def storeMode (s : State) (p w : Bool) : AccessMode :=
  { plainMode s true with user := s.userAccess || (!p && w) }

/-- A word load that would load the PC from an address that is not word-aligned: an alignment fault with U = 1, outside the
specification with U = 0 (20_memory.md R47, D11, U5). -/
def checkPcLoad (rd : RegNum) (a : Word) (s : State) : Res Unit :=
  if rd = 15 ∧ fld a 0 2 ≠ 0#2 ∧ !s.ctlA then
    if s.ctlU then .exc (.dataAbort (dataFault ⟨statusAlignment, none, none⟩ false (fcse s a))) s
    else .refused .rotatedPcLoad
  else .ok () s

/-- The value of a load to a register and the base, or to the PC (47_core_instructions.md R770, R705). -/
def writeLoaded (rn rd : RegNum) (x : Addressed) (v : Word) (s : State) : Res Unit :=
  let s := s.writeBase rn x.writeback
  if rd = 15 then loadWritePc s v else .ok () (s.setReg rd v).advance

/-- LDR (47_core_instructions.md R770): LDRT with Rd = 15 is UNPREDICTABLE. -/
def loadWord (p u w : Bool) (rn rd rm : RegNum) (off : Word) (s : State) : Res Unit :=
  if badAddressing p w rn rd rm || (!p && w && rd == 15) then .refused .unpredictableForm
  else
    let x := addressing p u w (s.reg rn) off
    (checkPcLoad rd x.address s).bind fun _ s =>
      (loadValue (loadMode s p w rd) .wload 4 x.address s).bind fun v s => writeLoaded rn rd x v s

/-- A load of a byte or halfword, `ext` extending it to a register; Rd = 15 is UNPREDICTABLE (47_core_instructions.md R770,
R771; 20_memory.md R47). -/
def loadPart (ty : AccessType) (n : Nat) (ext : Word → Word) (p u w : Bool) (rn rd rm : RegNum) (off : Word) (s : State) :
    Res Unit :=
  if badAddressing p w rn rd rm || rd == 15 then .refused .unpredictableForm
  else
    let x := addressing p u w (s.reg rn) off
    (loadValue (loadMode s p w rd) ty n x.address s).bind fun v s => writeLoaded rn rd x (ext v) s

/-- A store of a word, byte or halfword. The value of a stored r15 is open: a free value; a byte store of it is
UNPREDICTABLE (47_core_instructions.md R770, R771; notes/assumptions/12.md). -/
def storeSingle (ty : AccessType) (n : Nat) (p u w : Bool) (rn rd rm : RegNum) (off : Word) (s : State) : Res Unit :=
  if badAddressing p w rn rd rm || (n == 1 && rd == 15) then .refused .unpredictableForm
  else
    let x := addressing p u w (s.reg rn) off
    let v := if rd = 15 then s.drawWord.1 else s.reg rd
    let s := if rd = 15 then s.drawWord.2 else s
    (storeValue (storeMode s p w) ty n x.address v s).bind fun _ s =>
      .ok () (s.writeBase rn x.writeback).advance

/-- The halfword, signed and doubleword forms have no P = 0, W = 1 (47_core_instructions.md R771). -/
def extraForm (p w : Bool) (r : Res Unit) : Res Unit := if !p && w then .refused .unpredictableForm else r

/-- The registers of a doubleword transfer: Rd must be even and not 14 (47_core_instructions.md R771). -/
def badPair (rd : RegNum) : Bool := bitAt rd 0 || rd == 14

/-- LDRD (47_core_instructions.md R771): the base is written back, then the loaded words are written, also where Rn = Rd + 1. -/
def loadDouble (p u w : Bool) (rn rd rm : RegNum) (off : Word) (s : State) : Res Unit :=
  if badAddressing p w rn rd rm || badPair rd then .refused .unpredictableForm
  else
    let x := addressing p u w (s.reg rn) off
    (loadMany (loadMode s p w rd) .two x.address 2 s).bind fun l s =>
      .ok () (((s.writeBase rn x.writeback).setReg rd (l.getD 0 0)).setReg (rd + 1) (l.getD 1 0)).advance

/-- STRD (47_core_instructions.md R771): both words are stored, then the base is written back. -/
def storeDouble (p u w : Bool) (rn rd rm : RegNum) (off : Word) (s : State) : Res Unit :=
  if badAddressing p w rn rd rm || badPair rd then .refused .unpredictableForm
  else
    let x := addressing p u w (s.reg rn) off
    (storeMany (storeMode s p w) .two x.address [s.reg rd, s.reg (rd + 1)] s).bind fun _ s =>
      .ok () (s.writeBase rn x.writeback).advance

/-- The offset of the immediate forms of 47_core_instructions.md R771. -/
def splitOffset (immH immL : BitVec 4) : Word := (immH ++ immL).setWidth 32

/-- The sign extension of a loaded byte and halfword (47_core_instructions.md R771). -/
def signByte (v : Word) : Word := (fld v 0 8).signExtend 32
def signHalf (v : Word) : Word := (fld v 0 16).signExtend 32

/-- The register offset of 47_core_instructions.md R770. -/
def State.shiftedOffset (s : State) (amount : BitVec 5) (ty : BitVec 2) (rm : RegNum) : Word :=
  (s.shiftImmOp amount ty rm).value

/-! ## Load and store multiple -/

/-- The registers and addresses of a multiple transfer, ascending (47_core_instructions.md R772). -/
def transfers (list : BitVec 16) (a : Word) : List (RegNum × Word) :=
  (listRegs list).zipIdx.map fun x => (x.1, a + BitVec.ofNat 32 (4 * x.2))

/-- The order of the accesses of one transfer can be seen: an address is in the private memory region, or its access fails
(93_implementation_defined.md U18: visible only on Device memory). -/
def orderShows (m : AccessMode) (write : Bool) (s : State) (l : List (RegNum × Word)) : Bool :=
  l.any fun x =>
    match (translate (if write then .write else .read) m.user true (fcse s x.2) s).1 with
    | .ok t => inRegion s.cfg t.pa || (busErrorIn s.cfg t.pa 4).isSome
    | .error _ => true

/-- A list in a free order: each element goes to a free place among those before it. -/
def shuffle {α : Type} : List α → State → List α × State
  | [], s => ([], s)
  | x :: t, s =>
    let r := shuffle t s
    let d := r.2.drawWord
    (r.1.insertIdx (d.1.toNat % (r.1.length + 1)) x, d.2)

/-- The order in which a transfer is made: ascending, or a free order where the list names the PC and the order shows
(47_core_instructions.md R725, U18). -/
def transferOrder (m : AccessMode) (write : Bool) (l : List (RegNum × Word)) (s : State) : List (RegNum × Word) × State :=
  if (l.any fun x => x.1 == 15) && orderShows m write s l then shuffle l s else (l, s)

/-- The word loads of a multiple, in the order given; the access of the PC's word is precise (20_memory.md R85). Each word is
accessed once, also across a 1KB or 4KB boundary, where more accesses may be made (20_memory.md R67, R68, R108): DESIGN CHOICE
(notes/assumptions/57.md). -/
def loadList (m : AccessMode) : List (RegNum × Word) → State → Res (List (RegNum × Word))
  | [], s => .ok [] s
  | x :: t, s =>
    (readAt { m with toPc := x.1 == 15 } 4 x.2 s).bind fun v s =>
      (loadList m t s).bind fun r s => .ok ((x.1, v) :: r) s

/-- The word stores of a multiple: register, address and value, in the order given; each word once, as `loadList`
(notes/assumptions/57.md). -/
def storeList (m : AccessMode) (value : RegNum → Word) : List (RegNum × Word) → State → Res Unit
  | [], s => .ok () s
  | x :: t, s => (writeAt m 4 x.2 (value x.1) s).bind fun _ s => storeList m value t s

/-- Loaded registers written in a bank (47_core_instructions.md R772). -/
def writeList (b : Bank) : List (RegNum × Word) → State → State
  | [], s => s
  | x :: t, s => writeList b t (s.setBankReg b x.1 x.2)

/-- After a Data Abort of a load multiple the listed registers other than the base, a register of the current mode, and the PC
hold free values (60_exceptions.md R523, D36). -/
def scrambleList (b : Bank) (rn : RegNum) (list : BitVec 16) (s : State) : State :=
  (listRegs list).foldl
    (fun s i => if physIndex b i = physIndex s.bank rn then s else withWord s fun v s => s.setBankReg b i v) s

/-- A change of the state in which a Data Abort is taken. -/
def onAbort {α : Type} (f : State → State) (r : Res α) : Res α :=
  match r with
  | .ok a s => .ok a s
  | .exc x s => .exc x (f s)
  | .fault e => .fault e
  | .refused e => .refused e

/-- The forms of 47_core_instructions.md R772 that are UNPREDICTABLE: an empty list, Rn = 15, and W with the User mode
registers (U38). -/
def badMultiple (usr w : Bool) (rn : RegNum) (list : BitVec 16) : Bool := list == 0 || rn == 15 || (usr && w)

/-- The base after a multiple transfer; a load that also lists it leaves it open: a free value (47_core_instructions.md
R772; notes/assumptions/12.md). -/
def multipleWriteBack (w unknown : Bool) (rn : RegNum) (v : Word) (s : State) : State :=
  if w then (if unknown then withWord s fun free s => s.setReg rn free else s.setReg rn v) else s

/-- LDM (1), (2) and (3) (47_core_instructions.md R772). The base that LDM (3) writes back is the one it was read from, of the mode
before the return, as R721 says of RFE; R772 lists the write after that of the CPSR: DESIGN CHOICE (notes/assumptions/82.md). -/
def loadMultiple (p u sb w : Bool) (rn : RegNum) (list : BitVec 16) (s : State) : Res Unit :=
  let usr := sb && !bitAt list 15
  if badMultiple usr w rn list then .refused .unpredictableForm
  else if sb && bitAt list 15 && s.spsr.isNone then .refused .noSpsr
  else
    let k := listCount list
    let base := s.reg rn
    let bank := if usr then .usr else s.bank
    let m := plainMode s false
    onAbort (scrambleList bank rn list) <|
      (alignAccess .multi false (multipleStart p u base k) s).bind fun a s =>
        let o := transferOrder m false (transfers list a) s
        (loadList m o.1 o.2).bind fun l s =>
          let s := multipleWriteBack w (bitAt list rn.toNat) rn (multipleBase u base k) (writeList bank l s)
          match l.find? fun x => x.1 == 15 with
          | none => .ok () s.advance
          | some x => if sb then returnFromSpsr s x.2 else loadWritePc s x.2

/-- The value of a register stored by a multiple. The value of r15, and of a base that is written back and is not the lowest
register of the list, are open: a free value each (47_core_instructions.md R772; notes/assumptions/12.md). -/
def storedValue (s : State) (bank : Bank) (w : Bool) (rn : RegNum) (list : BitVec 16) (freePc freeBase : Word) (i : RegNum) :
    Word :=
  if i = 15 then freePc
  else if w ∧ i = rn ∧ (listRegs list).head? ≠ some rn then freeBase
  else s.bankReg bank i

/-- A multiple store has an open value. -/
def storesOpen (w : Bool) (rn : RegNum) (list : BitVec 16) : Bool :=
  bitAt list 15 || (w && bitAt list rn.toNat && (listRegs list).head? != some rn)

/-- STM (1) and (2) (47_core_instructions.md R772). -/
def storeMultiple (p u sb w : Bool) (rn : RegNum) (list : BitVec 16) (s : State) : Res Unit :=
  if badMultiple sb w rn list then .refused .unpredictableForm
  else
    let k := listCount list
    let base := s.reg rn
    let bank := if sb then .usr else s.bank
    let m := plainMode s true
    let second := s.drawWord.2.drawWord
    let value := storedValue s bank w rn list s.drawWord.1 second.1
    let s := if storesOpen w rn list then second.2 else s
    (alignAccess .multi true (multipleStart p u base k) s).bind fun a s =>
      let o := transferOrder m true (transfers list a) s
      (partialStore o.2 (storeList m value o.1 o.2)).bind fun _ s =>
        .ok () (multipleWriteBack w false rn (multipleBase u base k) s).advance

/-! ## Meanings -/

/-- LDR, LDRT, immediate offset (47_core_instructions.md R770). -/
def execLdrImm (cond : Cond) (p u w : Bool) (rn rd : RegNum) (off : BitVec 12) (s : State) :
    Host.Outcome State Fault Refusal :=
  whenPasses cond s fun s => loadWord p u w rn rd 0 (off.setWidth 32) s

/-- LDR, LDRT, register offset (47_core_instructions.md R770). -/
def execLdrReg (cond : Cond) (p u w : Bool) (rn rd : RegNum) (amount : BitVec 5) (ty : BitVec 2) (rm : RegNum) (s : State) :
    Host.Outcome State Fault Refusal :=
  whenPasses cond s fun s => loadWord p u w rn rd rm (s.shiftedOffset amount ty rm) s

/-- STR, STRT, immediate offset (47_core_instructions.md R770). -/
def execStrImm (cond : Cond) (p u w : Bool) (rn rd : RegNum) (off : BitVec 12) (s : State) :
    Host.Outcome State Fault Refusal :=
  whenPasses cond s fun s => storeSingle .wstore 4 p u w rn rd 0 (off.setWidth 32) s

/-- STR, STRT, register offset (47_core_instructions.md R770). -/
def execStrReg (cond : Cond) (p u w : Bool) (rn rd : RegNum) (amount : BitVec 5) (ty : BitVec 2) (rm : RegNum) (s : State) :
    Host.Outcome State Fault Refusal :=
  whenPasses cond s fun s => storeSingle .wstore 4 p u w rn rd rm (s.shiftedOffset amount ty rm) s

/-- LDRB, LDRBT, immediate offset (47_core_instructions.md R770). -/
def execLdrbImm (cond : Cond) (p u w : Bool) (rn rd : RegNum) (off : BitVec 12) (s : State) :
    Host.Outcome State Fault Refusal :=
  whenPasses cond s fun s => loadPart .byte 1 id p u w rn rd 0 (off.setWidth 32) s

/-- LDRB, LDRBT, register offset (47_core_instructions.md R770). -/
def execLdrbReg (cond : Cond) (p u w : Bool) (rn rd : RegNum) (amount : BitVec 5) (ty : BitVec 2) (rm : RegNum) (s : State) :
    Host.Outcome State Fault Refusal :=
  whenPasses cond s fun s => loadPart .byte 1 id p u w rn rd rm (s.shiftedOffset amount ty rm) s

/-- STRB, STRBT, immediate offset (47_core_instructions.md R770). -/
def execStrbImm (cond : Cond) (p u w : Bool) (rn rd : RegNum) (off : BitVec 12) (s : State) :
    Host.Outcome State Fault Refusal :=
  whenPasses cond s fun s => storeSingle .byte 1 p u w rn rd 0 (off.setWidth 32) s

/-- STRB, STRBT, register offset (47_core_instructions.md R770). -/
def execStrbReg (cond : Cond) (p u w : Bool) (rn rd : RegNum) (amount : BitVec 5) (ty : BitVec 2) (rm : RegNum) (s : State) :
    Host.Outcome State Fault Refusal :=
  whenPasses cond s fun s => storeSingle .byte 1 p u w rn rd rm (s.shiftedOffset amount ty rm) s

/-- STRH, immediate offset (47_core_instructions.md R771). -/
def execStrhImm (cond : Cond) (p u w : Bool) (rn rd : RegNum) (immH immL : BitVec 4) (s : State) :
    Host.Outcome State Fault Refusal :=
  whenPasses cond s fun s => extraForm p w (storeSingle .half 2 p u w rn rd 0 (splitOffset immH immL) s)

/-- STRH, register offset (47_core_instructions.md R771). -/
def execStrhReg (cond : Cond) (p u w : Bool) (rn rd rm : RegNum) (s : State) : Host.Outcome State Fault Refusal :=
  whenPasses cond s fun s => extraForm p w (storeSingle .half 2 p u w rn rd rm (s.reg rm) s)

/-- LDRH, immediate offset (47_core_instructions.md R771). -/
def execLdrhImm (cond : Cond) (p u w : Bool) (rn rd : RegNum) (immH immL : BitVec 4) (s : State) :
    Host.Outcome State Fault Refusal :=
  whenPasses cond s fun s => extraForm p w (loadPart .half 2 id p u w rn rd 0 (splitOffset immH immL) s)

/-- LDRH, register offset (47_core_instructions.md R771). -/
def execLdrhReg (cond : Cond) (p u w : Bool) (rn rd rm : RegNum) (s : State) : Host.Outcome State Fault Refusal :=
  whenPasses cond s fun s => extraForm p w (loadPart .half 2 id p u w rn rd rm (s.reg rm) s)

/-- LDRSB, immediate offset (47_core_instructions.md R771). -/
def execLdrsbImm (cond : Cond) (p u w : Bool) (rn rd : RegNum) (immH immL : BitVec 4) (s : State) :
    Host.Outcome State Fault Refusal :=
  whenPasses cond s fun s => extraForm p w (loadPart .byte 1 signByte p u w rn rd 0 (splitOffset immH immL) s)

/-- LDRSB, register offset (47_core_instructions.md R771). -/
def execLdrsbReg (cond : Cond) (p u w : Bool) (rn rd rm : RegNum) (s : State) : Host.Outcome State Fault Refusal :=
  whenPasses cond s fun s => extraForm p w (loadPart .byte 1 signByte p u w rn rd rm (s.reg rm) s)

/-- LDRSH, immediate offset (47_core_instructions.md R771). -/
def execLdrshImm (cond : Cond) (p u w : Bool) (rn rd : RegNum) (immH immL : BitVec 4) (s : State) :
    Host.Outcome State Fault Refusal :=
  whenPasses cond s fun s => extraForm p w (loadPart .half 2 signHalf p u w rn rd 0 (splitOffset immH immL) s)

/-- LDRSH, register offset (47_core_instructions.md R771). -/
def execLdrshReg (cond : Cond) (p u w : Bool) (rn rd rm : RegNum) (s : State) : Host.Outcome State Fault Refusal :=
  whenPasses cond s fun s => extraForm p w (loadPart .half 2 signHalf p u w rn rd rm (s.reg rm) s)

/-- LDRD, immediate offset (47_core_instructions.md R771). -/
def execLdrdImm (cond : Cond) (p u w : Bool) (rn rd : RegNum) (immH immL : BitVec 4) (s : State) :
    Host.Outcome State Fault Refusal :=
  whenPasses cond s fun s => extraForm p w (loadDouble p u w rn rd 0 (splitOffset immH immL) s)

/-- LDRD, register offset (47_core_instructions.md R771). -/
def execLdrdReg (cond : Cond) (p u w : Bool) (rn rd rm : RegNum) (s : State) : Host.Outcome State Fault Refusal :=
  whenPasses cond s fun s => extraForm p w (loadDouble p u w rn rd rm (s.reg rm) s)

/-- STRD, immediate offset (47_core_instructions.md R771). -/
def execStrdImm (cond : Cond) (p u w : Bool) (rn rd : RegNum) (immH immL : BitVec 4) (s : State) :
    Host.Outcome State Fault Refusal :=
  whenPasses cond s fun s => extraForm p w (storeDouble p u w rn rd 0 (splitOffset immH immL) s)

/-- STRD, register offset (47_core_instructions.md R771). -/
def execStrdReg (cond : Cond) (p u w : Bool) (rn rd rm : RegNum) (s : State) : Host.Outcome State Fault Refusal :=
  whenPasses cond s fun s => extraForm p w (storeDouble p u w rn rd rm (s.reg rm) s)

/-- LDM (47_core_instructions.md R772). -/
def execLdm (cond : Cond) (p u sb w : Bool) (rn : RegNum) (list : BitVec 16) (s : State) : Host.Outcome State Fault Refusal :=
  whenPasses cond s fun s => loadMultiple p u sb w rn list s

/-- STM (47_core_instructions.md R772). -/
def execStm (cond : Cond) (p u sb w : Bool) (rn : RegNum) (list : BitVec 16) (s : State) : Host.Outcome State Fault Refusal :=
  whenPasses cond s fun s => storeMultiple p u sb w rn list s

end Sys2Proof.Machine
end

