-- ==== Sys2Proof/Machine/Sync.lean ====
section
/-!
DEFINITION. The meanings of the exclusive accesses and the swaps (47_core_instructions.md R730; 20_memory.md R97, R98).
-/

namespace Sys2Proof.Machine

/-- A loaded exclusive value written to one register, or the two words of a doubleword to Rd and Rd + 1, the lower address
first (20_memory.md R43, R97). -/
def writeExclusive (rd : RegNum) (l : List Word) (s : State) : State :=
  match l with
  | [v] => s.setReg rd v
  | v :: h :: _ => (s.setReg rd v).setReg (rd + 1) h
  | [] => s

/-- An exclusive load; one to the PC is UNPREDICTABLE (20_memory.md R47). A doubleword needs an even register other than 14, as
LDRD does (47_core_instructions.md R771; notes/assumptions/13.md). -/
def exclusiveLoad (ty : AccessType) (n : Nat) (rn rd : RegNum) (s : State) : Res Unit :=
  if rd = 15 ∨ (n = 8 ∧ (bitAt rd 0 ∨ rd = 14)) then .refused .unpredictableForm
  else (loadExclusive ty n (s.reg rn) s).bind fun l s => .ok () (writeExclusive rd l s).advance

/-- The words an exclusive store stores; a stored r15 is a free value (47_core_instructions.md R770). -/
def exclusiveValue (s : State) (n : Nat) (rm : RegNum) : List Word :=
  if n = 8 then [s.reg rm, s.reg (rm + 1)] else if rm = 15 then [s.drawWord.1] else [s.reg rm]

/-- An exclusive store: Rd is 0 after a store and 1 if none was made (20_memory.md R97). -/
def exclusiveStore (ty : AccessType) (n : Nat) (rn rd rm : RegNum) (s : State) : Res Unit :=
  if rd = 15 ∨ (n = 8 ∧ (bitAt rm 0 ∨ rm = 14)) then .refused .unpredictableForm
  else
    let l := exclusiveValue s n rm
    let s := if n ≠ 8 ∧ rm = 15 then s.drawWord.2 else s
    (storeExclusive ty n (s.reg rn) l s).bind fun stored s =>
      .ok () (s.setReg rd (if stored then 0 else 1)).advance

/-- LDREX, STREX and the doubleword, byte and halfword forms (47_core_instructions.md R730). -/
def execLdrex (cond : Cond) (rn rd : RegNum) (s : State) : Host.Outcome State Fault Refusal :=
  whenPasses cond s fun s => exclusiveLoad .wordSync 4 rn rd s
def execStrex (cond : Cond) (rn rd rm : RegNum) (s : State) : Host.Outcome State Fault Refusal :=
  whenPasses cond s fun s => exclusiveStore .wordSync 4 rn rd rm s
def execLdrexd (cond : Cond) (rn rd : RegNum) (s : State) : Host.Outcome State Fault Refusal :=
  whenPasses cond s fun s => exclusiveLoad .doubleSync 8 rn rd s
def execStrexd (cond : Cond) (rn rd rm : RegNum) (s : State) : Host.Outcome State Fault Refusal :=
  whenPasses cond s fun s => exclusiveStore .doubleSync 8 rn rd rm s
def execLdrexb (cond : Cond) (rn rd : RegNum) (s : State) : Host.Outcome State Fault Refusal :=
  whenPasses cond s fun s => exclusiveLoad .byte 1 rn rd s
def execStrexb (cond : Cond) (rn rd rm : RegNum) (s : State) : Host.Outcome State Fault Refusal :=
  whenPasses cond s fun s => exclusiveStore .byte 1 rn rd rm s
def execLdrexh (cond : Cond) (rn rd : RegNum) (s : State) : Host.Outcome State Fault Refusal :=
  whenPasses cond s fun s => exclusiveLoad .halfSync 2 rn rd s
def execStrexh (cond : Cond) (rn rd rm : RegNum) (s : State) : Host.Outcome State Fault Refusal :=
  whenPasses cond s fun s => exclusiveStore .halfSync 2 rn rd rm s

/-- CLREX opens the monitor (20_memory.md R97). -/
def execClrex (s : State) : Host.Outcome State Fault Refusal := finish (.ok () { s with monitor := .openAccess }.advance)

/-- SWP and SWPB: the load, then the store, as a locked pair (20_memory.md R44, R98); to the PC UNPREDICTABLE (R47); a stored
r15 is a free value. -/
def swap (lty sty : AccessType) (n : Nat) (rn rd rm : RegNum) (s : State) : Res Unit :=
  if rd = 15 then .refused .unpredictableForm
  else
    let m : AccessMode := { user := s.userAccess, toPc := false, locked := true, load := true, store := true }
    let a := s.reg rn
    let new := if rm = 15 then s.drawWord.1 else s.reg rm
    let s := if rm = 15 then s.drawWord.2 else s
    (loadValue m lty n a s).bind fun v s =>
      (storeValue m sty n a new s).bind fun _ s => .ok () (s.setReg rd v).advance

/-- SWP: its accesses are WLoad and WStore with U = 0, WSync with U = 1 (20_memory.md R44). -/
def execSwp (cond : Cond) (rn rd rm : RegNum) (s : State) : Host.Outcome State Fault Refusal :=
  whenPasses cond s fun s =>
    if s.ctlU then swap .wordSync .wordSync 4 rn rd rm s else swap .wload .wstore 4 rn rd rm s
/-- SWPB (20_memory.md R98). -/
def execSwpb (cond : Cond) (rn rd rm : RegNum) (s : State) : Host.Outcome State Fault Refusal :=
  whenPasses cond s fun s => swap .byte .byte 1 rn rd rm s

end Sys2Proof.Machine
end

