-- ==== Sys2Proof/Machine/Vfp.lean ====
section
/-!
DEFINITION. The VFP11 coprocessor (48_vfp.md R780 to R798): the access check, transfers, loads and stores, and the
data-processing instructions over the external arithmetic `VFPISA`.
-/

namespace Sys2Proof.Machine

/-! ## Registers -/

/-- The number of a single-precision register: the field, then its low bit (48_vfp.md R784). -/
def sNumber (f : BitVec 4) (x : Bool) : BitVec 5 := f ++ BitVec.ofBool x

/-- S[n], and its replacement (48_vfp.md R781). -/
def State.sreg (s : State) (n : BitVec 5) : Word := s.vfp.regs[n.toNat]'n.isLt
def State.setSreg (s : State) (n : BitVec 5) (v : Word) : State :=
  { s with vfp := { s.vfp with regs := s.vfp.regs.set n.toNat v n.isLt } }

/-- D[n] and its halves are two consecutive S registers, the lower half the even one (48_vfp.md R781). -/
def State.dreg (s : State) (n : BitVec 4) : BitVec 64 := s.sreg (sNumber n true) ++ s.sreg (sNumber n false)
def State.setDreg (s : State) (n : BitVec 4) (v : BitVec 64) : State :=
  (s.setSreg (sNumber n false) (fld v 0 32)).setSreg (sNumber n true) (fld v 32 32)

/-- The FPSCR bits that exist (48_vfp.md R785): flags, DN, FZ, rounding mode, STRIDE, LEN, trap enables, cumulative flags. -/
def fpscrMask : Word := 0xF3F79F9F

/-- The system register numbers (48_vfp.md R786). -/
def vfpFpsid : BitVec 4 := 0
def vfpFpscr : BitVec 4 := 1
def vfpMvfr1 : BitVec 4 := 6
def vfpMvfr0 : BitVec 4 := 7
def vfpFpexc : BitVec 4 := 8
def vfpFpinst : BitVec 4 := 9
def vfpFpinst2 : BitVec 4 := 10

/-! ## The access check -/

/-- The access rights of a CPACR value (41_cp15_c1_control.md R160); unequal fields and b10 are outside it (U25). -/
def cpacrAllows (v : Word) (privileged : Bool) : Except Refusal Bool :=
  if fld v 20 2 ≠ fld v 22 2 then .error .reservedCoprocessorAccess
  else if fld v 20 2 = 2#2 then .error .reservedCoprocessorAccess
  else .ok (fld v 20 2 == 3#2 || (fld v 20 2 == 1#2 && privileged))

/-- The CPACR a VFP instruction is checked against: after a write and before the next flush the old or the new value
(41_cp15_c1_control.md R161). -/
def cpacrInForce (s : State) : Word × State :=
  match s.cpacrOld with
  | none => (s.cp15.cpacr, s)
  | some old => withBool s fun new s => (if new then s.cp15.cpacr else old, s)

/-- FMXR and FMRX that need no FPEXC.EN: those of the FPSID and FPEXC, and in a privileged mode all (48_vfp.md R781). -/
def enableExempt (privileged : Bool) : Option (BitVec 4) → Bool
  | none => false
  | some r => r == vfpFpsid || r == vfpFpexc || privileged

/-- FMXR and FMRX of these registers are privileged (48_vfp.md R786). -/
def privilegedSystem : Option (BitVec 4) → Bool
  | none => false
  | some r => r == vfpFpexc || r == vfpFpinst || r == vfpFpinst2

/-- A pending support-code trap is raised: FPEXC but for its enable bit, FPINST and FPINST2 then hold free values
(48_vfp.md R790). -/
def raiseBounce (s : State) : Res Unit :=
  withWord s fun x s => withWord s fun i s => withWord s fun j s =>
    .exc .undefined { s with vfp := { s.vfp with
      bounce := false
      fpexc := setBit x 30 (bitAt s.vfp.fpexc 30)
      fpinst := i
      fpinst2 := j } }

/-- `VFPCheck` (48_vfp.md R781), then a pending support-code trap: a system register transfer raises it, any other VFP
instruction may (R790, R796). -/
def vfpCheck (sys : Option (BitVec 4)) (s : State) : Res Unit :=
  if !s.cfg.hasVfp then .exc .undefined s
  else
    let c := cpacrInForce s
    let s := c.2
    match cpacrAllows c.1 s.privileged with
    | .error r => .refused r
    | .ok false => .exc .undefined s
    | .ok true =>
      if !bitAt s.vfp.fpexc 30 && !enableExempt s.privileged sys then .exc .undefined s
      else if privilegedSystem sys && !s.privileged then .exc .undefined s
      else if s.vfp.bounce then
        if sys.isSome then raiseBounce s
        else withBool s fun now s => if now then raiseBounce s else .ok () s
      else .ok () s

/-- A VFP instruction: its condition, the access check, its effect (48_vfp.md R781). -/
def vfpRun (cond : Cond) (sys : Option (BitVec 4)) (s : State) (m : State → Res Unit) : Host.Outcome State Fault Refusal :=
  whenPasses cond s fun s => (vfpCheck sys s).bind fun _ s => m s

/-! ## Transfers -/

/-- A VFP register moved to an ARM register: no flags (48_vfp.md R786). With r15 the PC is not written; 10_state.md R28 and
30_encoding.md R113 have any MRC with r15 write the flags, R786 has these write none, and no ruling decides: a draw
(notes/assumptions/59.md). Flags that are written in debug state count as a write of the CPSR (46_cp14_debug.md R333). -/
def moveFromVfp (rd : RegNum) (v : Word) (s : State) : Res Unit :=
  if rd = 15 then withBool s fun keep s => moveToCore 15 (if keep then s.cpsr else v) (s.noteStatus !keep)
  else .ok () (s.setReg rd v).advance

/-- FMSR and FMRS (48_vfp.md R786). -/
def execFmsr (cond : Cond) (fn : BitVec 4) (rd : RegNum) (n : Bool) (s : State) : Host.Outcome State Fault Refusal :=
  vfpRun cond none s fun s => .ok () (s.setSreg (sNumber fn n) (s.reg rd)).advance
def execFmrs (cond : Cond) (fn : BitVec 4) (rd : RegNum) (n : Bool) (s : State) : Host.Outcome State Fault Refusal :=
  vfpRun cond none s fun s => moveFromVfp rd (s.sreg (sNumber fn n)) s

/-- FMDLR, FMDHR, FMRDL and FMRDH (48_vfp.md R786). -/
def execFmdlr (cond : Cond) (fn : BitVec 4) (rd : RegNum) (s : State) : Host.Outcome State Fault Refusal :=
  vfpRun cond none s fun s => .ok () (s.setSreg (sNumber fn false) (s.reg rd)).advance
def execFmdhr (cond : Cond) (fn : BitVec 4) (rd : RegNum) (s : State) : Host.Outcome State Fault Refusal :=
  vfpRun cond none s fun s => .ok () (s.setSreg (sNumber fn true) (s.reg rd)).advance
def execFmrdl (cond : Cond) (fn : BitVec 4) (rd : RegNum) (s : State) : Host.Outcome State Fault Refusal :=
  vfpRun cond none s fun s => moveFromVfp rd (s.sreg (sNumber fn false)) s
def execFmrdh (cond : Cond) (fn : BitVec 4) (rd : RegNum) (s : State) : Host.Outcome State Fault Refusal :=
  vfpRun cond none s fun s => moveFromVfp rd (s.sreg (sNumber fn true)) s

/-- A system register as it is read; a number the specification does not name has none (48_vfp.md R785, R786). -/
def vfpSystemRead (s : State) (r : BitVec 4) : Option Word :=
  if r = vfpFpsid then some s.cfg.fpsid
  else if r = vfpFpscr then some s.vfp.fpscr
  else if r = vfpMvfr1 then some s.cfg.mvfr1
  else if r = vfpMvfr0 then some s.cfg.mvfr0
  else if r = vfpFpexc then some s.vfp.fpexc
  else if r = vfpFpinst then some s.vfp.fpinst
  else if r = vfpFpinst2 then some s.vfp.fpinst2
  else none

/-- A write of a system register; one of the FPSID changes nothing (48_vfp.md R785, R786), and one of the MVFRs, constants
(R782), neither. -/
def vfpSystemWrite (s : State) (r : BitVec 4) (v : Word) : Option State :=
  if r = vfpFpsid ∨ r = vfpMvfr0 ∨ r = vfpMvfr1 then some s
  else if r = vfpFpscr then some { s with vfp := { s.vfp with fpscr := v &&& fpscrMask } }
  else if r = vfpFpexc then some { s with vfp := { s.vfp with fpexc := v } }
  else if r = vfpFpinst then some { s with vfp := { s.vfp with fpinst := v } }
  else if r = vfpFpinst2 then some { s with vfp := { s.vfp with fpinst2 := v } }
  else none

/-- FMXR (48_vfp.md R786). -/
def execFmxr (cond : Cond) (reg : BitVec 4) (rd : RegNum) (s : State) : Host.Outcome State Fault Refusal :=
  vfpRun cond (some reg) s fun s =>
    match vfpSystemWrite s reg (s.reg rd) with
    | some s => .ok () s.advance
    | none => .refused .vfpUnlisted

/-- FMRX (48_vfp.md R786). -/
def execFmrx (cond : Cond) (reg : BitVec 4) (rd : RegNum) (s : State) : Host.Outcome State Fault Refusal :=
  vfpRun cond (some reg) s fun s =>
    match vfpSystemRead s reg with
    | some v => moveToCore rd v s
    | none => .refused .vfpUnlisted

/-- FMSTAT: the FPSCR flags to the CPSR (48_vfp.md R789). -/
def execFmstat (cond : Cond) (s : State) : Host.Outcome State Fault Refusal :=
  vfpRun cond (some vfpFpscr) s fun s => moveToCore 15 s.vfp.fpscr s

/-- Two values moved to ARM registers, the first to Rd. A value moved to r15 is written to the PC as by an instruction that does
not interwork (47_core_instructions.md R706; notes/assumptions/59.md); with one register for both no order is given, and it
gets a free value (notes/assumptions/15.md). -/
def moveTwoToCore (rd rn : RegNum) (low high : Word) (s : State) : Res Unit :=
  if rd = rn then withWord s fun free s => if rd = 15 then .ok () (returnWritePc s free) else .ok () (s.setReg rd free).advance
  else if rd = 15 then aluWritePc (s.setReg rn high) low
  else if rn = 15 then aluWritePc (s.setReg rd low) high
  else .ok () ((s.setReg rd low).setReg rn high).advance

/-- FMDRR and FMRRD (48_vfp.md R786). -/
def execFmdrr (cond : Cond) (rn rd : RegNum) (fm : BitVec 4) (s : State) : Host.Outcome State Fault Refusal :=
  vfpRun cond none s fun s => .ok () (s.setDreg fm (s.reg rn ++ s.reg rd)).advance
def execFmrrd (cond : Cond) (rn rd : RegNum) (fm : BitVec 4) (s : State) : Host.Outcome State Fault Refusal :=
  vfpRun cond none s fun s => moveTwoToCore rd rn (s.sreg (sNumber fm false)) (s.sreg (sNumber fm true)) s

/-- FMSRR and FMRRS; S31 has no successor (48_vfp.md R786, U39). -/
def execFmsrr (cond : Cond) (rn rd : RegNum) (m : Bool) (fm : BitVec 4) (s : State) : Host.Outcome State Fault Refusal :=
  vfpRun cond none s fun s =>
    let n := sNumber fm m
    if n = 31 then .refused .vfpRegister
    else .ok () ((s.setSreg n (s.reg rd)).setSreg (n + 1) (s.reg rn)).advance
def execFmrrs (cond : Cond) (rn rd : RegNum) (m : Bool) (fm : BitVec 4) (s : State) : Host.Outcome State Fault Refusal :=
  vfpRun cond none s fun s =>
    let n := sNumber fm m
    if n = 31 then .refused .vfpRegister else moveTwoToCore rd rn (s.sreg n) (s.sreg (n + 1)) s

/-! ## Loads and stores -/

/-- The S registers of a transfer in the order of their words in memory: ascending; of a double the upper half comes first
when E is set (48_vfp.md R787). -/
def vfpWordRegs (double big : Bool) (first : BitVec 5) (n : Nat) : List (BitVec 5) :=
  (List.range n).map fun i =>
    if double && big then (first + BitVec.ofNat 5 i) ^^^ 1 else first + BitVec.ofNat 5 i

/-- Loaded words written to S registers. -/
def writeSregs : List (BitVec 5 × Word) → State → State
  | [], s => s
  | x :: t, s => writeSregs t (s.setSreg x.1 x.2)

/-- After a Data Abort of a load of several words the listed registers hold free values (60_exceptions.md R523, D36). -/
def scrambleSregs : List (BitVec 5) → State → State
  | [], s => s
  | n :: t, s => withWord s fun v s => scrambleSregs t (s.setSreg n v)

/-- The registers of a transfer of `n` words from `first` on are all in the register file, and a double-precision transfer
has its D bit clear (48_vfp.md R784, R787, U39). Of FLDM and FSTM that run past the last register R787 says nothing: the model
refuses them, PRESUMED (notes/assumptions/71.md). -/
def vfpRangeOk (double : Bool) (first : BitVec 5) (n : Nat) : Bool :=
  decide (first.toNat + n ≤ 32) && !(double && bitAt first 0)

/-- A VFP load of `n` words from `a`; the base is written back after it (48_vfp.md R787). -/
def vfpLoad (double : Bool) (first : BitVec 5) (n : Nat) (rn : RegNum) (x : Addressed) (s : State) : Res Unit :=
  if !vfpRangeOk double first n then .refused .vfpRegister
  else if x.writeback.isSome && rn == 15 then .refused .unpredictableForm
  else
    let regs := vfpWordRegs double s.eBit first n
    match loadMany (plainMode s false) .multi x.address n s with
    | .ok l s => .ok () ((writeSregs (regs.zip l) s).writeBase rn x.writeback).advance
    | .exc e s => .exc e (if n = 1 then s else scrambleSregs regs s)
    | .fault e => .fault e
    | .refused r => .refused r

/-- A VFP store of `n` words to `a` (48_vfp.md R787). -/
def vfpStore (double : Bool) (first : BitVec 5) (n : Nat) (rn : RegNum) (x : Addressed) (s : State) : Res Unit :=
  if !vfpRangeOk double first n then .refused .vfpRegister
  else if x.writeback.isSome && rn == 15 then .refused .unpredictableForm
  else
    let words := (vfpWordRegs double s.eBit first n).map s.sreg
    (storeMany (plainMode s true) .multi x.address words s).bind fun _ s => .ok () (s.writeBase rn x.writeback).advance

/-- The word offset of these instructions in bytes (48_vfp.md R787). -/
def vfpOffset (off : BitVec 8) : Word := put off 2

/-- FLDS, FSTS, FLDD and FSTD: an offset address without writeback (48_vfp.md R787). -/
def execFlds (cond : Cond) (u d : Bool) (rn : RegNum) (fd : BitVec 4) (off : BitVec 8) (s : State) :
    Host.Outcome State Fault Refusal :=
  vfpRun cond none s fun s =>
    vfpLoad false (sNumber fd d) 1 rn (addressing true u false (s.reg rn) (vfpOffset off)) s
def execFsts (cond : Cond) (u d : Bool) (rn : RegNum) (fd : BitVec 4) (off : BitVec 8) (s : State) :
    Host.Outcome State Fault Refusal :=
  vfpRun cond none s fun s =>
    vfpStore false (sNumber fd d) 1 rn (addressing true u false (s.reg rn) (vfpOffset off)) s
def execFldd (cond : Cond) (u : Bool) (rn : RegNum) (fd : BitVec 4) (off : BitVec 8) (s : State) :
    Host.Outcome State Fault Refusal :=
  vfpRun cond none s fun s =>
    vfpLoad true (sNumber fd false) 2 rn (addressing true u false (s.reg rn) (vfpOffset off)) s
def execFstd (cond : Cond) (u : Bool) (rn : RegNum) (fd : BitVec 4) (off : BitVec 8) (s : State) :
    Host.Outcome State Fault Refusal :=
  vfpRun cond none s fun s =>
    vfpStore true (sNumber fd false) 2 rn (addressing true u false (s.reg rn) (vfpOffset off)) s

/-- The words of a multiple transfer: the offset, of which an odd one (the X form) moves the doubles below it
(48_vfp.md R787). Of a transfer of no word R787 says nothing: it moves nothing and writes the base back, DESIGN CHOICE
(notes/assumptions/71.md). -/
def vfpMultipleWords (double : Bool) (off : BitVec 8) : Nat := if double then off.toNat / 2 * 2 else off.toNat

/-- FLDM and FSTM; P = 0, U = 0, W = 0 belongs to the MCRR and MRRC space and names nothing else there
(48_vfp.md R787). -/
def execFldm (cond : Cond) (p u d w : Bool) (rn : RegNum) (fd : BitVec 4) (cp1 : Bool) (off : BitVec 8) (s : State) :
    Host.Outcome State Fault Refusal :=
  vfpRun cond none s fun s =>
    if !p && !u && !w then .refused .vfpUnlisted
    else vfpLoad cp1 (sNumber fd d) (vfpMultipleWords cp1 off) rn (copAddressing p u w (s.reg rn) (vfpOffset off)) s
def execFstm (cond : Cond) (p u d w : Bool) (rn : RegNum) (fd : BitVec 4) (cp1 : Bool) (off : BitVec 8) (s : State) :
    Host.Outcome State Fault Refusal :=
  vfpRun cond none s fun s =>
    if !p && !u && !w then .refused .vfpUnlisted
    else vfpStore cp1 (sNumber fd d) (vfpMultipleWords cp1 off) rn (copAddressing p u w (s.reg rn) (vfpOffset off)) s

/-! ## Numbers -/

/-- The FPSCR bits FZ and DN (48_vfp.md R785, R793). -/
def fpFz (fpscr : Word) : Bool := bitAt fpscr 24
def fpDn (fpscr : Word) : Bool := bitAt fpscr 25

/-- The cumulative flags IOC, DZC, OFC, UFC, IXC and IDC; the enable of each stands eight bits higher (48_vfp.md R785). -/
def fpIoc : Word := 0x01
def fpDzc : Word := 0x02
def fpOfc : Word := 0x04
def fpUfc : Word := 0x08
def fpIxc : Word := 0x10
def fpIdc : Word := 0x80

/-- The exception enable bits of the FPSCR (48_vfp.md R785). -/
def vfpEnables : Word := 0x00009F00

/-- RunFast mode: flush-to-zero, default NaN and no exception enabled (48_vfp.md R793). -/
def runFast (fpscr : Word) : Bool := fpFz fpscr && fpDn fpscr && (fpscr &&& vfpEnables) == 0

/-- The sign bit, the exponent and the fraction of a number in a precision (48_vfp.md R783). -/
def fpSignBit (double : Bool) : Nat := if double then 63 else 31
def fpSign (double : Bool) (v : BitVec 64) : Bool := bitAt v (fpSignBit double)
def fpExpZero (double : Bool) (v : BitVec 64) : Bool := if double then fld v 52 11 == 0#11 else fld v 23 8 == 0#8
def fpExpOnes (double : Bool) (v : BitVec 64) : Bool :=
  if double then fld v 52 11 == BitVec.allOnes 11 else fld v 23 8 == BitVec.allOnes 8
def fpFraction (double : Bool) (v : BitVec 64) : Nat := if double then (fld v 0 52 : BitVec 52).toNat else (fld v 0 23 : BitVec 23).toNat

/-- A subnormal number, a NaN, and a signaling NaN: one whose top fraction bit is clear (48_vfp.md R783, R790). -/
def isSubnormal (double : Bool) (v : BitVec 64) : Bool := fpExpZero double v && fpFraction double v != 0
def isNan (double : Bool) (v : BitVec 64) : Bool := fpExpOnes double v && fpFraction double v != 0
def isSnan (double : Bool) (v : BitVec 64) : Bool := isNan double v && !bitAt v (if double then 51 else 22)

/-- A number with its sign bit replaced. -/
def fpWithSign (double : Bool) (v : BitVec 64) (sign : Bool) : BitVec 64 := setField v (fpSignBit double) (BitVec.ofBool sign)

/-- FNEG and FABS of any bits (48_vfp.md R788, R793). -/
def fpNeg (double : Bool) (v : BitVec 64) : BitVec 64 := fpWithSign double v (!fpSign double v)
def fpAbs (double : Bool) (v : BitVec 64) : BitVec 64 := fpWithSign double v false

/-- The default NaN (48_vfp.md R793). -/
def defaultNan (double : Bool) : BitVec 64 := if double then 0x7FF8000000000000 else 0x7FC00000

/-- The place of a number, no NaN, in the order of the reals; both zeros have one (48_vfp.md R783). -/
def fpOrder (double : Bool) (v : BitVec 64) : Int :=
  let magnitude : Int := if double then (fld v 0 63 : BitVec 63).toNat else (fld v 0 31 : BitVec 31).toNat
  if fpSign double v then -magnitude else magnitude

/-! ## Data processing -/

/-- The number of operations of a short vector, and its stride, 2 for b11 (48_vfp.md R785, R792). -/
def vfpLength (fpscr : Word) : Nat := (fld fpscr 16 3).toNat + 1
def vfpStep (fpscr : Word) : Nat :=
  match (fld fpscr 20 2 : BitVec 2) with
  | 0#2 => 1
  | 3#2 => 2
  | f => Config.vfpStride f

/-- The bank of a register: eight single or four double registers (48_vfp.md R792). -/
def vfpBank (double : Bool) (n : Nat) : Nat := n / (if double then 4 else 8)

/-- The register `k` places after another, within its bank (48_vfp.md R792). -/
def vfpAfter (double : Bool) (n k : Nat) : Nat :=
  let size := if double then 4 else 8
  n / size * size + (n + k) % size

/-- A VFP register as an operand, single or double, and its replacement. -/
def vfpGet (double : Bool) (n : Nat) (s : State) : BitVec 64 :=
  if double then s.dreg (BitVec.ofNat 4 n) else (s.sreg (BitVec.ofNat 5 n)).setWidth 64
def vfpSet (double : Bool) (n : Nat) (v : BitVec 64) (s : State) : State :=
  if double then s.setDreg (BitVec.ofNat 4 n) v else s.setSreg (BitVec.ofNat 5 n) (fld v 0 32)

/-- The FPSCR with cumulative flags set (48_vfp.md R785, R794). -/
def accumulate (flags : Word) (s : State) : State :=
  { s with vfp := { s.vfp with fpscr := s.vfp.fpscr ||| (flags &&& 0x0000009F) } }

/-- A value of an operation and the cumulative flags it raises. -/
structure VfpResult where
  value : BitVec 64
  flags : Word
deriving DecidableEq, Repr

/-- An operand that needs support code: a subnormal one when not in flush-to-zero mode, a NaN when not in default NaN mode
(48_vfp.md R790). -/
def operandBounces (double : Bool) (fpscr : Word) (v : BitVec 64) : Bool :=
  (!fpFz fpscr && isSubnormal double v) || (!fpDn fpscr && isNan double v)

/-- An operand after the input flush: a subnormal one is a positive zero in flush-to-zero mode (48_vfp.md R793). -/
def flushInput (double : Bool) (fpscr : Word) (v : BitVec 64) : VfpResult :=
  if fpFz fpscr && isSubnormal double v then ⟨0, fpIdc⟩ else ⟨v, 0⟩

/-- A result whose flags raise an enabled exception is left to support code (48_vfp.md R790, R794). -/
def vfpTrap (fpscr : Word) (r : VfpResult) : Option VfpResult := if r.flags &&& (fpscr >>> 8) &&& 0x9F = 0 then some r else none

/-- The precision of the operands of a rounding, and of its result; `none` for an integer (48_vfp.md R788). -/
def arithSource (double : Bool) : VfpArith → Option Bool
  | .fromInt _ => none
  | .widen => some false
  | .narrow => some true
  | _ => some double
def arithTarget (double : Bool) : VfpArith → Option Bool
  | .toInt _ => none
  | .widen => some true
  | .narrow => some false
  | _ => some double

/-- The rounding mode of the FPSCR, bits [23:22] (48_vfp.md R785); the codes are the family's: PRESUMED
(notes/assumptions/32.md). -/
def vfpRounding (fpscr : Word) : VfpRounding :=
  match (fld fpscr 22 2 : BitVec 2) with
  | 0#2 => .nearest
  | 1#2 => .plusInfinity
  | 2#2 => .minusInfinity
  | _ => .zero

/-- The hardware takes the operation to have the potential of a condition that it leaves to support code: of an underflow when
not in flush-to-zero mode, of an overflow with that exception enabled, and of a conversion, of an integer that does not fit
with Invalid Operation enabled (48_vfp.md R790). -/
def vfpMayBounce (op : VfpArith) (mode : VfpRounding) (double : Bool) (fpscr : Word) (a b : BitVec 64) : Bool :=
  let may (c : VfpPotential) : Bool := Config.vfpMay c op double mode a b
  match op with
  | .toInt _ => bitAt fpscr 8 && may .unrepresentable
  | _ => (!fpFz fpscr && may .underflow) || (bitAt fpscr 10 && may .overflow)

/-- The flags of a rounded result in flush-to-zero mode or without a tiny result (48_vfp.md R785, R793, R794). -/
def roundedFlags (r : VfpRounded) : Word :=
  (if r.invalid then fpIoc else 0) ||| (if r.divByZero then fpDzc else 0) ||| (if r.overflow then fpOfc else 0) |||
    (if r.inexact then fpIxc else 0)

/-- The signs that an operation changes (48_vfp.md R788): of its first and second operand, and of its result. -/
structure VfpSigns where
  first : Bool
  second : Bool
  result : Bool
deriving DecidableEq, Repr

/-- No sign changed. -/
def VfpSigns.none : VfpSigns := { first := false, second := false, result := false }

/-- A number with its sign changed where `negate` says so; a NaN that arithmetic has made keeps its sign. -/
def fpSigned (double negate : Bool) (v : BitVec 64) : BitVec 64 := if negate && !isNan double v then fpNeg double v else v

/-- A rounded result delivered in a precision, its sign changed or not: a tiny one is a positive zero, whatever its sign, with the
Underflow flag in flush-to-zero mode, and support code's otherwise; a NaN is the default NaN in default NaN mode (48_vfp.md
R790, R793). -/
def vfpDeliver (target : Bool) (fpscr : Word) (negate : Bool) (r : VfpRounded) : Option VfpResult :=
  if r.tiny then (if fpFz fpscr then some ⟨0, fpUfc⟩ else none)
  else some ⟨if fpDn fpscr && isNan target r.value then defaultNan target else fpSigned target negate r.value, roundedFlags r⟩

/-- An operand as the arithmetic takes it, after the input flush: its sign changed or not, a flushed one's too; of a NaN, which only
default NaN mode lets through, no fraction bit counts (48_vfp.md R793). -/
def vfpTaken (double negate : Bool) (v : BitVec 64) : BitVec 64 :=
  if isNan double v then defaultNan double else fpSigned double negate v

/-- One arithmetic operation with a single rounding; `none` where support code must complete it (48_vfp.md R790 to R794). A NaN
operand, in default NaN mode, makes the default NaN, a signaling one an invalid operation; a conversion of a NaN to an integer is
invalid. -/
def vfpArith (op : VfpArith) (mode : VfpRounding) (g : VfpSigns) (double : Bool) (fpscr : Word) (a b : BitVec 64) :
    Option VfpResult :=
  match arithSource double op with
  | none =>
    (vfpDeliver ((arithTarget double op).getD double) fpscr g.result (Config.vfpRound op double mode a b)).bind (vfpTrap fpscr)
  | some src =>
    if operandBounces src fpscr a || operandBounces src fpscr b then none
    else
      let x := flushInput src fpscr a
      let y := flushInput src fpscr b
      let u := vfpTaken src g.first x.value
      let v := vfpTaken src g.second y.value
      let nan := isNan src a || isNan src b
      let snan := isSnan src a || isSnan src b
      if vfpMayBounce op mode double fpscr u v then none
      else
        let r := Config.vfpRound op double mode u v
        let out : Option VfpResult := match arithTarget double op with
          | none => some ⟨r.value, roundedFlags { r with invalid := r.invalid || nan }⟩
          | some tgt => if nan then some ⟨defaultNan tgt, if snan then fpIoc else 0⟩ else vfpDeliver tgt fpscr g.result r
        (out.map fun z => { z with flags := z.flags ||| x.flags ||| y.flags }).bind (vfpTrap fpscr)

/-- A product, its sign changed where `minus` says so, then its sum with an addend, whose sign `subtract` changes, each rounded and
checked; `none` where one needs support code (48_vfp.md R788, R791). -/
def vfpChain (double : Bool) (fpscr : Word) (minus subtract : Bool) (addend n m : BitVec 64) : Option VfpResult :=
  let mode := vfpRounding fpscr
  (vfpArith .mul mode { VfpSigns.none with result := minus } double fpscr n m).bind fun p =>
    (vfpArith .add mode { VfpSigns.none with first := subtract } double fpscr addend p.value).map fun r =>
      { r with flags := r.flags ||| p.flags }

/-- A two-operand operation, given the old Fd, Fn and Fm, with the signs of 48_vfp.md R788. -/
def vfpDyadicResult (op : VfpDyadic) (double : Bool) (fpscr : Word) (d n m : BitVec 64) : Option VfpResult :=
  let mode := vfpRounding fpscr
  match op with
  | .fadd => vfpArith .add mode .none double fpscr n m
  | .fsub => vfpArith .add mode { VfpSigns.none with second := true } double fpscr n m
  | .fmul => vfpArith .mul mode .none double fpscr n m
  | .fnmul => vfpArith .mul mode { VfpSigns.none with result := true } double fpscr n m
  | .fdiv => vfpArith .div mode .none double fpscr n m
  | .fmac => vfpChain double fpscr false false d n m
  | .fnmac => vfpChain double fpscr true false d n m
  | .fmsc => vfpChain double fpscr false true d n m
  | .fnmsc => vfpChain double fpscr true true d n m

/-- FCPY, FABS and FNEG change at most the sign bit, and flush-to-zero does not touch them (48_vfp.md R788, R793); a subnormal or a
NaN operand needs support code as of any operation (R790). -/
def vfpCopyResult (f : BitVec 64 → BitVec 64) (double : Bool) (fpscr : Word) (m : BitVec 64) : Option VfpResult :=
  if operandBounces double fpscr m then none else some ⟨f m, 0⟩

/-- What a compare leaves: the FPSCR flags N, Z, C, V, and the cumulative flags. -/
structure VfpCompare where
  nzcv : BitVec 4
  flags : Word
deriving DecidableEq, Repr

/-- A compare (48_vfp.md R788 to R790, R793): less N, equal Z and C, greater C, unordered C and V; with a NaN it is unordered,
invalid if the NaN is signaling or the form is one with NaN exceptions. `none` where support code must complete it. -/
def vfpCompareResult (nanInvalid double : Bool) (fpscr : Word) (d m : BitVec 64) : Option VfpCompare :=
  if operandBounces double fpscr d || operandBounces double fpscr m then none
  else
    let x := flushInput double fpscr d
    let y := flushInput double fpscr m
    let nan := isNan double d || isNan double m
    let invalid := isSnan double d || isSnan double m || (nan && nanInvalid)
    let a := fpOrder double x.value
    let b := fpOrder double y.value
    let nzcv : BitVec 4 :=
      if nan then 0b0011 else if a < b then 0b1000 else if a = b then 0b0110 else 0b0010
    (vfpTrap fpscr ⟨0, x.flags ||| y.flags ||| (if invalid then fpIoc else 0)⟩).map fun r => ⟨nzcv, r.flags⟩

/-- The registers of one operation of a vector: destination, first and second operand. -/
structure VfpTriple where
  d : Nat
  n : Nat
  m : Nat
deriving DecidableEq, Repr

/-- The operations of an instruction in order (48_vfp.md R792): one if LEN is 1 or Fd is in bank 0; Fm stands still if it is
in bank 0. Every length and stride runs, the combinations too that the lost tables call UNPREDICTABLE: DESIGN CHOICE
(notes/assumptions/72.md). -/
def vfpIterations (double : Bool) (fpscr : Word) (x : VfpTriple) : List VfpTriple :=
  if vfpLength fpscr = 1 ∨ vfpBank double x.d = 0 then [x]
  else (List.range (vfpLength fpscr)).map fun i =>
    let k := i * vfpStep fpscr
    { d := vfpAfter double x.d k
      n := vfpAfter double x.n k
      m := if vfpBank double x.m = 0 then x.m else vfpAfter double x.m k }

/-- The operations made one after the other, given each one's result from Fd, Fn and Fm; `none` where one needs support code
(48_vfp.md R790 to R792). -/
def vfpOperate (double : Bool) (f : BitVec 64 → BitVec 64 → BitVec 64 → Option VfpResult) : List VfpTriple → State → Option State
  | [], s => some s
  | x :: t, s =>
    match f (vfpGet double x.d s) (vfpGet double x.n s) (vfpGet double x.m s) with
    | none => none
    | some r => vfpOperate double f t (accumulate r.flags (vfpSet double x.d r.value s))

/-- The bits that select a two-operand operation: opcode_1 without the D bit, opcode_2 without the N and M bits, the precision;
and those that select another one: the Fn field and the N bit too (48_vfp.md R784; OPEN `VFPISA`). -/
def vfpOperation (opc1 : BitVec 4) (cp1 : Bool) (opc2 : BitVec 3) : Word :=
  put (opc1 &&& 0b1011) 20 ||| flag cp1 8 ||| put (opc2 &&& 0b010) 5
def vfpSelector (opc1 fn : BitVec 4) (cp1 : Bool) (opc2 : BitVec 3) : Word :=
  put (opc1 &&& 0b1011) 20 ||| put fn 16 ||| flag cp1 8 ||| put (opc2 &&& 0b110) 5

/-- A register operand of a data-processing instruction (48_vfp.md R784). -/
def vfpOperand (double : Bool) (f : BitVec 4) (x : Bool) : Nat := if double then f.toNat else (sNumber f x).toNat

/-- Whether the destination, and the operand, of an operation other than the two-operand ones is a double: the integers of the
conversions are words in single registers (48_vfp.md R783, R788). -/
def monadicDoubleD (double : Bool) : VfpMonadic → Bool
  | .toInt _ _ => false
  | .fcvtds => true
  | .fcvtsd => false
  | _ => double
def monadicDoubleM (double : Bool) : VfpMonadic → Bool
  | .fromInt _ => false
  | .fcmp _ true => false
  | .fcvtds => false
  | .fcvtsd => true
  | _ => double

/-- A conversion, always scalar, or the compares, which write no register (48_vfp.md R788, R792); the state after it, `none` where
support code must complete it. The forms with a Z round towards zero whatever the FPSCR says. -/
def vfpConvert (op : VfpArith) (toZero double dd dm : Bool) (d m : Nat) (s : State) : Option State :=
  let mode := if toZero then .zero else vfpRounding s.vfp.fpscr
  (vfpArith op mode .none double s.vfp.fpscr (vfpGet dm m s) 0).map fun r => accumulate r.flags (vfpSet dd d r.value s)
def vfpCompare (nanInvalid zero double : Bool) (d m : Nat) (s : State) : Option State :=
  (vfpCompareResult nanInvalid double s.vfp.fpscr (vfpGet double d s) (if zero then 0 else vfpGet double m s)).map fun r =>
    let t := accumulate r.flags s
    { t with vfp := { t.vfp with fpscr := setFld t.vfp.fpscr 28 r.nzcv } }

/-- The state after a data-processing instruction that the hardware completes; `none` where support code must
(48_vfp.md R788 to R794). Inexact enabled sends every one there; in RunFast mode none goes. -/
def vfpCompute (opc1 fn fd : BitVec 4) (cp1 : Bool) (opc2 : BitVec 3) (fm : BitVec 4) (s : State) : Option State :=
  let fpscr := s.vfp.fpscr
  let vector (f : BitVec 64 → BitVec 64 → BitVec 64 → Option VfpResult) : Option State :=
    vfpOperate cp1 f
      (vfpIterations cp1 fpscr
        { d := vfpOperand cp1 fd (bitAt opc1 2)
          n := vfpOperand cp1 fn (bitAt opc2 2)
          m := vfpOperand cp1 fm (bitAt opc2 0) }) s
  if bitAt fpscr 12 then none
  else match Config.vfpDyadic (vfpOperation opc1 cp1 opc2) with
    | some op => vector (vfpDyadicResult op cp1 fpscr)
    | none =>
      let op := Config.vfpMonadic (vfpSelector opc1 fn cp1 opc2)
      let dd := monadicDoubleD cp1 op
      let dm := monadicDoubleM cp1 op
      let d := vfpOperand dd fd (bitAt opc1 2)
      let m := vfpOperand dm fm (bitAt opc2 0)
      match op with
      | .fcpy => vector fun _ _ m => vfpCopyResult id cp1 fpscr m
      | .fabs => vector fun _ _ m => vfpCopyResult (fpAbs cp1) cp1 fpscr m
      | .fneg => vector fun _ _ m => vfpCopyResult (fpNeg cp1) cp1 fpscr m
      | .fsqrt => vector fun _ _ m => vfpArith .sqrt (vfpRounding fpscr) .none cp1 fpscr m 0
      | .fcmp e z => vfpCompare e z cp1 d m s
      | .fromInt g => vfpConvert (.fromInt g) false cp1 dd dm d m s
      | .toInt g z => vfpConvert (.toInt g) z cp1 dd dm d m s
      | .fcvtds => vfpConvert .widen false cp1 dd dm d m s
      | .fcvtsd => vfpConvert .narrow false cp1 dd dm d m s

/-- A double-precision operand with its M, N or D bit set (48_vfp.md R784, U39). -/
def vfpBadDouble (opc1 fn : BitVec 4) (cp1 : Bool) (opc2 : BitVec 3) : Bool :=
  match Config.vfpDyadic (vfpOperation opc1 cp1 opc2) with
  | some _ => cp1 && (bitAt opc1 2 || bitAt opc2 2 || bitAt opc2 0)
  | none =>
    let op := Config.vfpMonadic (vfpSelector opc1 fn cp1 opc2)
    (monadicDoubleD cp1 op && bitAt opc1 2) || (monadicDoubleM cp1 op && bitAt opc2 0)

/-- VFP data processing (48_vfp.md R788, R790): an operation that needs support code writes nothing, and the Undefined
Instruction exception is taken by it or by a later VFP instruction. One that needs support code while an earlier one still waits for
its exception makes no second one: the two take one exception, DESIGN CHOICE (notes/assumptions/73.md). -/
def execVfpData (cond : Cond) (opc1 fn fd : BitVec 4) (cp1 : Bool) (opc2 : BitVec 3) (fm : BitVec 4) (s : State) :
    Host.Outcome State Fault Refusal :=
  vfpRun cond none s fun s =>
    if vfpBadDouble opc1 fn cp1 opc2 then .refused .vfpRegister
    else match vfpCompute opc1 fn fd cp1 opc2 fm s with
      | some s => .ok () s.advance
      | none =>
        withBool s fun now s =>
          if now then raiseBounce s else .ok () { s with vfp := { s.vfp with bounce := true } }.advance

end Sys2Proof.Machine
end

