-- ==== Sys2Proof/Machine/Dispatch.lean ====
section
/-!
DEFINITION. One arm for each instruction: the call of its meaning.
-/

namespace Sys2Proof.Machine

def exec (i : Instr) (s : State) : Host.Outcome State Fault Refusal :=
  match i with
  | .mrcMainId cond rd => Sys2Proof.Machine.execMrcMainId cond rd s
  | .mrcCacheType cond rd => Sys2Proof.Machine.execMrcCacheType cond rd s
  | .mrcTlbType cond rd => Sys2Proof.Machine.execMrcTlbType cond rd s
  | .mrcCpuId cond rd => Sys2Proof.Machine.execMrcCpuId cond rd s
  | .mrcIdPfr0 cond rd => Sys2Proof.Machine.execMrcIdPfr0 cond rd s
  | .mrcIdPfr1 cond rd => Sys2Proof.Machine.execMrcIdPfr1 cond rd s
  | .mrcIdDfr0 cond rd => Sys2Proof.Machine.execMrcIdDfr0 cond rd s
  | .mrcIdReserved13 cond rd => Sys2Proof.Machine.execMrcIdReserved13 cond rd s
  | .mrcIdMmfr0 cond rd => Sys2Proof.Machine.execMrcIdMmfr0 cond rd s
  | .mrcIdMmfr1 cond rd => Sys2Proof.Machine.execMrcIdMmfr1 cond rd s
  | .mrcIdMmfr2 cond rd => Sys2Proof.Machine.execMrcIdMmfr2 cond rd s
  | .mrcIdMmfr3 cond rd => Sys2Proof.Machine.execMrcIdMmfr3 cond rd s
  | .mrcIdIsar0 cond rd => Sys2Proof.Machine.execMrcIdIsar0 cond rd s
  | .mrcIdIsar1 cond rd => Sys2Proof.Machine.execMrcIdIsar1 cond rd s
  | .mrcIdIsar2 cond rd => Sys2Proof.Machine.execMrcIdIsar2 cond rd s
  | .mrcIdIsar3 cond rd => Sys2Proof.Machine.execMrcIdIsar3 cond rd s
  | .mrcIdIsar4 cond rd => Sys2Proof.Machine.execMrcIdIsar4 cond rd s
  | .mrcIdReserved25 cond rd => Sys2Proof.Machine.execMrcIdReserved25 cond rd s
  | .mrcIdReserved26 cond rd => Sys2Proof.Machine.execMrcIdReserved26 cond rd s
  | .mrcIdReserved27 cond rd => Sys2Proof.Machine.execMrcIdReserved27 cond rd s
  | .mrcC0Unlisted2 cond rd => Sys2Proof.Machine.execMrcC0Unlisted2 cond rd s
  | .mrcC0Unlisted4 cond rd => Sys2Proof.Machine.execMrcC0Unlisted4 cond rd s
  | .mrcC0Unlisted6 cond rd => Sys2Proof.Machine.execMrcC0Unlisted6 cond rd s
  | .mrcC0Unlisted7 cond rd => Sys2Proof.Machine.execMrcC0Unlisted7 cond rd s
  | .mcrC0 cond rd opc2 crm => Sys2Proof.Machine.execMcrC0 cond rd opc2 crm s
  | .mrcControl cond rd => Sys2Proof.Machine.execMrcControl cond rd s
  | .mcrControl cond rd => Sys2Proof.Machine.execMcrControl cond rd s
  | .mrcAuxControl cond rd => Sys2Proof.Machine.execMrcAuxControl cond rd s
  | .mcrAuxControl cond rd => Sys2Proof.Machine.execMcrAuxControl cond rd s
  | .mrcCpacr cond rd => Sys2Proof.Machine.execMrcCpacr cond rd s
  | .mcrCpacr cond rd => Sys2Proof.Machine.execMcrCpacr cond rd s
  | .mrcTtbr0 cond rd => Sys2Proof.Machine.execMrcTtbr0 cond rd s
  | .mcrTtbr0 cond rd => Sys2Proof.Machine.execMcrTtbr0 cond rd s
  | .mrcTtbr1 cond rd => Sys2Proof.Machine.execMrcTtbr1 cond rd s
  | .mcrTtbr1 cond rd => Sys2Proof.Machine.execMcrTtbr1 cond rd s
  | .mrcTtbcr cond rd => Sys2Proof.Machine.execMrcTtbcr cond rd s
  | .mcrTtbcr cond rd => Sys2Proof.Machine.execMcrTtbcr cond rd s
  | .mrcDacr cond rd => Sys2Proof.Machine.execMrcDacr cond rd s
  | .mcrDacr cond rd => Sys2Proof.Machine.execMcrDacr cond rd s
  | .mrcDfsr cond rd => Sys2Proof.Machine.execMrcDfsr cond rd s
  | .mcrDfsr cond rd => Sys2Proof.Machine.execMcrDfsr cond rd s
  | .mrcIfsr cond rd => Sys2Proof.Machine.execMrcIfsr cond rd s
  | .mcrIfsr cond rd => Sys2Proof.Machine.execMcrIfsr cond rd s
  | .mrcFar cond rd => Sys2Proof.Machine.execMrcFar cond rd s
  | .mcrFar cond rd => Sys2Proof.Machine.execMcrFar cond rd s
  | .mrcWfar cond rd => Sys2Proof.Machine.execMrcWfar cond rd s
  | .mcrWfar cond rd => Sys2Proof.Machine.execMcrWfar cond rd s
  | .mcrWaitForInterrupt cond rd => Sys2Proof.Machine.execMcrWaitForInterrupt cond rd s
  | .mrcPa cond rd => Sys2Proof.Machine.execMrcPa cond rd s
  | .mcrInvalidateICache cond rd => Sys2Proof.Machine.execMcrInvalidateICache cond rd s
  | .mcrInvalidateICacheMva cond rd => Sys2Proof.Machine.execMcrInvalidateICacheMva cond rd s
  | .mcrInvalidateICacheIndex cond rd => Sys2Proof.Machine.execMcrInvalidateICacheIndex cond rd s
  | .mcrFlushPrefetchBuffer cond rd => Sys2Proof.Machine.execMcrFlushPrefetchBuffer cond rd s
  | .mcrFlushBtac cond rd => Sys2Proof.Machine.execMcrFlushBtac cond rd s
  | .mcrFlushBtacEntry cond rd => Sys2Proof.Machine.execMcrFlushBtacEntry cond rd s
  | .mcrInvalidateDCache cond rd => Sys2Proof.Machine.execMcrInvalidateDCache cond rd s
  | .mcrInvalidateDCacheMva cond rd => Sys2Proof.Machine.execMcrInvalidateDCacheMva cond rd s
  | .mcrInvalidateDCacheIndex cond rd => Sys2Proof.Machine.execMcrInvalidateDCacheIndex cond rd s
  | .mcrInvalidateBothCaches cond rd => Sys2Proof.Machine.execMcrInvalidateBothCaches cond rd s
  | .mcrVaToPaPrivRead cond rd => Sys2Proof.Machine.execMcrVaToPaPrivRead cond rd s
  | .mcrVaToPaPrivWrite cond rd => Sys2Proof.Machine.execMcrVaToPaPrivWrite cond rd s
  | .mcrVaToPaUserRead cond rd => Sys2Proof.Machine.execMcrVaToPaUserRead cond rd s
  | .mcrVaToPaUserWrite cond rd => Sys2Proof.Machine.execMcrVaToPaUserWrite cond rd s
  | .mcrCleanDCache cond rd => Sys2Proof.Machine.execMcrCleanDCache cond rd s
  | .mcrCleanDCacheMva cond rd => Sys2Proof.Machine.execMcrCleanDCacheMva cond rd s
  | .mcrCleanDCacheIndex cond rd => Sys2Proof.Machine.execMcrCleanDCacheIndex cond rd s
  | .mcrDsb cond rd => Sys2Proof.Machine.execMcrDsb cond rd s
  | .mcrDmb cond rd => Sys2Proof.Machine.execMcrDmb cond rd s
  | .mcrCleanInvDCache cond rd => Sys2Proof.Machine.execMcrCleanInvDCache cond rd s
  | .mcrCleanInvDCacheMva cond rd => Sys2Proof.Machine.execMcrCleanInvDCacheMva cond rd s
  | .mcrCleanInvDCacheIndex cond rd => Sys2Proof.Machine.execMcrCleanInvDCacheIndex cond rd s
  | .mcrInvalidateITlb cond rd => Sys2Proof.Machine.execMcrInvalidateITlb cond rd s
  | .mcrInvalidateITlbEntry cond rd => Sys2Proof.Machine.execMcrInvalidateITlbEntry cond rd s
  | .mcrInvalidateITlbAsid cond rd => Sys2Proof.Machine.execMcrInvalidateITlbAsid cond rd s
  | .mcrInvalidateITlbMva cond rd => Sys2Proof.Machine.execMcrInvalidateITlbMva cond rd s
  | .mcrInvalidateDTlb cond rd => Sys2Proof.Machine.execMcrInvalidateDTlb cond rd s
  | .mcrInvalidateDTlbEntry cond rd => Sys2Proof.Machine.execMcrInvalidateDTlbEntry cond rd s
  | .mcrInvalidateDTlbAsid cond rd => Sys2Proof.Machine.execMcrInvalidateDTlbAsid cond rd s
  | .mcrInvalidateDTlbMva cond rd => Sys2Proof.Machine.execMcrInvalidateDTlbMva cond rd s
  | .mcrInvalidateUTlb cond rd => Sys2Proof.Machine.execMcrInvalidateUTlb cond rd s
  | .mcrInvalidateUTlbEntry cond rd => Sys2Proof.Machine.execMcrInvalidateUTlbEntry cond rd s
  | .mcrInvalidateUTlbAsid cond rd => Sys2Proof.Machine.execMcrInvalidateUTlbAsid cond rd s
  | .mcrInvalidateUTlbMva cond rd => Sys2Proof.Machine.execMcrInvalidateUTlbMva cond rd s
  | .mrcDCacheLockdown cond rd => Sys2Proof.Machine.execMrcDCacheLockdown cond rd s
  | .mcrDCacheLockdown cond rd => Sys2Proof.Machine.execMcrDCacheLockdown cond rd s
  | .mrcTlbLockdown cond rd => Sys2Proof.Machine.execMrcTlbLockdown cond rd s
  | .mcrTlbLockdown cond rd => Sys2Proof.Machine.execMcrTlbLockdown cond rd s
  | .mrcPrrr cond rd => Sys2Proof.Machine.execMrcPrrr cond rd s
  | .mcrPrrr cond rd => Sys2Proof.Machine.execMcrPrrr cond rd s
  | .mrcNmrr cond rd => Sys2Proof.Machine.execMrcNmrr cond rd s
  | .mcrNmrr cond rd => Sys2Proof.Machine.execMcrNmrr cond rd s
  | .mrcFcsePid cond rd => Sys2Proof.Machine.execMrcFcsePid cond rd s
  | .mcrFcsePid cond rd => Sys2Proof.Machine.execMcrFcsePid cond rd s
  | .mrcContextId cond rd => Sys2Proof.Machine.execMrcContextId cond rd s
  | .mcrContextId cond rd => Sys2Proof.Machine.execMcrContextId cond rd s
  | .mrcThreadIdUrw cond rd => Sys2Proof.Machine.execMrcThreadIdUrw cond rd s
  | .mcrThreadIdUrw cond rd => Sys2Proof.Machine.execMcrThreadIdUrw cond rd s
  | .mrcThreadIdUro cond rd => Sys2Proof.Machine.execMrcThreadIdUro cond rd s
  | .mcrThreadIdUro cond rd => Sys2Proof.Machine.execMcrThreadIdUro cond rd s
  | .mrcThreadIdPrw cond rd => Sys2Proof.Machine.execMrcThreadIdPrw cond rd s
  | .mcrThreadIdPrw cond rd => Sys2Proof.Machine.execMcrThreadIdPrw cond rd s
  | .mrcPmnc cond rd => Sys2Proof.Machine.execMrcPmnc cond rd s
  | .mcrPmnc cond rd => Sys2Proof.Machine.execMcrPmnc cond rd s
  | .mrcCcnt cond rd => Sys2Proof.Machine.execMrcCcnt cond rd s
  | .mcrCcnt cond rd => Sys2Proof.Machine.execMcrCcnt cond rd s
  | .mrcPmn0 cond rd => Sys2Proof.Machine.execMrcPmn0 cond rd s
  | .mcrPmn0 cond rd => Sys2Proof.Machine.execMcrPmn0 cond rd s
  | .mrcPmn1 cond rd => Sys2Proof.Machine.execMrcPmn1 cond rd s
  | .mcrPmn1 cond rd => Sys2Proof.Machine.execMcrPmn1 cond rd s
  | .mcrTlbLockIndexRead cond rd => Sys2Proof.Machine.execMcrTlbLockIndexRead cond rd s
  | .mcrTlbLockIndexWrite cond rd => Sys2Proof.Machine.execMcrTlbLockIndexWrite cond rd s
  | .mrcTlbLockVa cond rd => Sys2Proof.Machine.execMrcTlbLockVa cond rd s
  | .mcrTlbLockVa cond rd => Sys2Proof.Machine.execMcrTlbLockVa cond rd s
  | .mrcTlbLockPa cond rd => Sys2Proof.Machine.execMrcTlbLockPa cond rd s
  | .mcrTlbLockPa cond rd => Sys2Proof.Machine.execMcrTlbLockPa cond rd s
  | .mrcTlbLockAttr cond rd => Sys2Proof.Machine.execMrcTlbLockAttr cond rd s
  | .mcrTlbLockAttr cond rd => Sys2Proof.Machine.execMcrTlbLockAttr cond rd s
  | .mrcTlbDebugControl cond rd => Sys2Proof.Machine.execMrcTlbDebugControl cond rd s
  | .mcrTlbDebugControl cond rd => Sys2Proof.Machine.execMcrTlbDebugControl cond rd s
  | .cp15Unlisted cond opc1 l crn rd opc2 crm => Sys2Proof.Machine.execCp15Unlisted cond opc1 l crn rd opc2 crm s
  | .cdpP15 cond opc1 crn rd opc2 crm => Sys2Proof.Machine.execCdpP15 cond opc1 crn rd opc2 crm s
  | .ldcStcP15 cond p u n w l rn rd off => Sys2Proof.Machine.execLdcStcP15 cond p u n w l rn rd off s
  | .mrcDidr cond rd => Sys2Proof.Machine.execMrcDidr cond rd s
  | .mrcDscr cond rd => Sys2Proof.Machine.execMrcDscr cond rd s
  | .mcrDscr cond rd => Sys2Proof.Machine.execMcrDscr cond rd s
  | .mrcDtr cond rd => Sys2Proof.Machine.execMrcDtr cond rd s
  | .mcrDtr cond rd => Sys2Proof.Machine.execMcrDtr cond rd s
  | .mrcVcr cond rd => Sys2Proof.Machine.execMrcVcr cond rd s
  | .mcrVcr cond rd => Sys2Proof.Machine.execMcrVcr cond rd s
  | .mrcBvr0 cond rd => Sys2Proof.Machine.execMrcBvr0 cond rd s
  | .mcrBvr0 cond rd => Sys2Proof.Machine.execMcrBvr0 cond rd s
  | .mrcBvr1 cond rd => Sys2Proof.Machine.execMrcBvr1 cond rd s
  | .mcrBvr1 cond rd => Sys2Proof.Machine.execMcrBvr1 cond rd s
  | .mrcBvr2 cond rd => Sys2Proof.Machine.execMrcBvr2 cond rd s
  | .mcrBvr2 cond rd => Sys2Proof.Machine.execMcrBvr2 cond rd s
  | .mrcBvr3 cond rd => Sys2Proof.Machine.execMrcBvr3 cond rd s
  | .mcrBvr3 cond rd => Sys2Proof.Machine.execMcrBvr3 cond rd s
  | .mrcBvr4 cond rd => Sys2Proof.Machine.execMrcBvr4 cond rd s
  | .mcrBvr4 cond rd => Sys2Proof.Machine.execMcrBvr4 cond rd s
  | .mrcBvr5 cond rd => Sys2Proof.Machine.execMrcBvr5 cond rd s
  | .mcrBvr5 cond rd => Sys2Proof.Machine.execMcrBvr5 cond rd s
  | .mrcBcr0 cond rd => Sys2Proof.Machine.execMrcBcr0 cond rd s
  | .mcrBcr0 cond rd => Sys2Proof.Machine.execMcrBcr0 cond rd s
  | .mrcBcr1 cond rd => Sys2Proof.Machine.execMrcBcr1 cond rd s
  | .mcrBcr1 cond rd => Sys2Proof.Machine.execMcrBcr1 cond rd s
  | .mrcBcr2 cond rd => Sys2Proof.Machine.execMrcBcr2 cond rd s
  | .mcrBcr2 cond rd => Sys2Proof.Machine.execMcrBcr2 cond rd s
  | .mrcBcr3 cond rd => Sys2Proof.Machine.execMrcBcr3 cond rd s
  | .mcrBcr3 cond rd => Sys2Proof.Machine.execMcrBcr3 cond rd s
  | .mrcBcr4 cond rd => Sys2Proof.Machine.execMrcBcr4 cond rd s
  | .mcrBcr4 cond rd => Sys2Proof.Machine.execMcrBcr4 cond rd s
  | .mrcBcr5 cond rd => Sys2Proof.Machine.execMrcBcr5 cond rd s
  | .mcrBcr5 cond rd => Sys2Proof.Machine.execMcrBcr5 cond rd s
  | .mrcWvr0 cond rd => Sys2Proof.Machine.execMrcWvr0 cond rd s
  | .mcrWvr0 cond rd => Sys2Proof.Machine.execMcrWvr0 cond rd s
  | .mrcWvr1 cond rd => Sys2Proof.Machine.execMrcWvr1 cond rd s
  | .mcrWvr1 cond rd => Sys2Proof.Machine.execMcrWvr1 cond rd s
  | .mrcWcr0 cond rd => Sys2Proof.Machine.execMrcWcr0 cond rd s
  | .mcrWcr0 cond rd => Sys2Proof.Machine.execMcrWcr0 cond rd s
  | .mrcWcr1 cond rd => Sys2Proof.Machine.execMrcWcr1 cond rd s
  | .mcrWcr1 cond rd => Sys2Proof.Machine.execMcrWcr1 cond rd s
  | .mrcDscrFlags cond => Sys2Proof.Machine.execMrcDscrFlags cond s
  | .ldcDtr cond p u w rn off => Sys2Proof.Machine.execLdcDtr cond p u w rn off s
  | .stcDtr cond p u w rn off => Sys2Proof.Machine.execStcDtr cond p u w rn off s
  | .cp14Other cond hi lo => Sys2Proof.Machine.execCp14Other cond hi lo s
  | .nop cond => Sys2Proof.Machine.execNop cond s
  | .yield cond => Sys2Proof.Machine.execYield cond s
  | .wfe cond => Sys2Proof.Machine.execWfe cond s
  | .wfi cond => Sys2Proof.Machine.execWfi cond s
  | .sev cond => Sys2Proof.Machine.execSev cond s
  | .setend e => Sys2Proof.Machine.execSetend e s
  | .setendThumb e => Sys2Proof.Machine.execSetendThumb e s
  | .mrs cond r rd => Sys2Proof.Machine.execMrs cond r rd s
  | .msrReg cond r mask rm => Sys2Proof.Machine.execMsrReg cond r mask rm s
  | .msrImm cond r mask rot imm => Sys2Proof.Machine.execMsrImm cond r mask rot imm s
  | .srs p u w mode => Sys2Proof.Machine.execSrs p u w mode s
  | .rfe p u w rn => Sys2Proof.Machine.execRfe p u w rn s
  | .cps imod m aMask iMask fMask mode => Sys2Proof.Machine.execCps imod m aMask iMask fMask mode s
  | .cpsThumb imod aMask iMask fMask => Sys2Proof.Machine.execCpsThumb imod aMask iMask fMask s
  | .ldrex cond rn rd => Sys2Proof.Machine.execLdrex cond rn rd s
  | .strex cond rn rd rm => Sys2Proof.Machine.execStrex cond rn rd rm s
  | .ldrexd cond rn rd => Sys2Proof.Machine.execLdrexd cond rn rd s
  | .strexd cond rn rd rm => Sys2Proof.Machine.execStrexd cond rn rd rm s
  | .ldrexb cond rn rd => Sys2Proof.Machine.execLdrexb cond rn rd s
  | .strexb cond rn rd rm => Sys2Proof.Machine.execStrexb cond rn rd rm s
  | .ldrexh cond rn rd => Sys2Proof.Machine.execLdrexh cond rn rd s
  | .strexh cond rn rd rm => Sys2Proof.Machine.execStrexh cond rn rd rm s
  | .clrex => Sys2Proof.Machine.execClrex s
  | .swp cond rn rd rm => Sys2Proof.Machine.execSwp cond rn rd rm s
  | .swpb cond rn rd rm => Sys2Proof.Machine.execSwpb cond rn rd rm s
  | .swi cond imm => Sys2Proof.Machine.execSwi cond imm s
  | .swiThumb imm => Sys2Proof.Machine.execSwiThumb imm s
  | .bkpt imm immL => Sys2Proof.Machine.execBkpt imm immL s
  | .bkptThumb imm => Sys2Proof.Machine.execBkptThumb imm s
  | .andImm cond sb rn rd rot imm => Sys2Proof.Machine.execAndImm cond sb rn rd rot imm s
  | .andShiftImm cond sb rn rd amount ty rm => Sys2Proof.Machine.execAndShiftImm cond sb rn rd amount ty rm s
  | .andShiftReg cond sb rn rd rs ty rm => Sys2Proof.Machine.execAndShiftReg cond sb rn rd rs ty rm s
  | .eorImm cond sb rn rd rot imm => Sys2Proof.Machine.execEorImm cond sb rn rd rot imm s
  | .eorShiftImm cond sb rn rd amount ty rm => Sys2Proof.Machine.execEorShiftImm cond sb rn rd amount ty rm s
  | .eorShiftReg cond sb rn rd rs ty rm => Sys2Proof.Machine.execEorShiftReg cond sb rn rd rs ty rm s
  | .subImm cond sb rn rd rot imm => Sys2Proof.Machine.execSubImm cond sb rn rd rot imm s
  | .subShiftImm cond sb rn rd amount ty rm => Sys2Proof.Machine.execSubShiftImm cond sb rn rd amount ty rm s
  | .subShiftReg cond sb rn rd rs ty rm => Sys2Proof.Machine.execSubShiftReg cond sb rn rd rs ty rm s
  | .rsbImm cond sb rn rd rot imm => Sys2Proof.Machine.execRsbImm cond sb rn rd rot imm s
  | .rsbShiftImm cond sb rn rd amount ty rm => Sys2Proof.Machine.execRsbShiftImm cond sb rn rd amount ty rm s
  | .rsbShiftReg cond sb rn rd rs ty rm => Sys2Proof.Machine.execRsbShiftReg cond sb rn rd rs ty rm s
  | .addImm cond sb rn rd rot imm => Sys2Proof.Machine.execAddImm cond sb rn rd rot imm s
  | .addShiftImm cond sb rn rd amount ty rm => Sys2Proof.Machine.execAddShiftImm cond sb rn rd amount ty rm s
  | .addShiftReg cond sb rn rd rs ty rm => Sys2Proof.Machine.execAddShiftReg cond sb rn rd rs ty rm s
  | .adcImm cond sb rn rd rot imm => Sys2Proof.Machine.execAdcImm cond sb rn rd rot imm s
  | .adcShiftImm cond sb rn rd amount ty rm => Sys2Proof.Machine.execAdcShiftImm cond sb rn rd amount ty rm s
  | .adcShiftReg cond sb rn rd rs ty rm => Sys2Proof.Machine.execAdcShiftReg cond sb rn rd rs ty rm s
  | .sbcImm cond sb rn rd rot imm => Sys2Proof.Machine.execSbcImm cond sb rn rd rot imm s
  | .sbcShiftImm cond sb rn rd amount ty rm => Sys2Proof.Machine.execSbcShiftImm cond sb rn rd amount ty rm s
  | .sbcShiftReg cond sb rn rd rs ty rm => Sys2Proof.Machine.execSbcShiftReg cond sb rn rd rs ty rm s
  | .rscImm cond sb rn rd rot imm => Sys2Proof.Machine.execRscImm cond sb rn rd rot imm s
  | .rscShiftImm cond sb rn rd amount ty rm => Sys2Proof.Machine.execRscShiftImm cond sb rn rd amount ty rm s
  | .rscShiftReg cond sb rn rd rs ty rm => Sys2Proof.Machine.execRscShiftReg cond sb rn rd rs ty rm s
  | .tstImm cond rn rd rot imm => Sys2Proof.Machine.execTstImm cond rn rd rot imm s
  | .tstShiftImm cond rn rd amount ty rm => Sys2Proof.Machine.execTstShiftImm cond rn rd amount ty rm s
  | .tstShiftReg cond rn rd rs ty rm => Sys2Proof.Machine.execTstShiftReg cond rn rd rs ty rm s
  | .teqImm cond rn rd rot imm => Sys2Proof.Machine.execTeqImm cond rn rd rot imm s
  | .teqShiftImm cond rn rd amount ty rm => Sys2Proof.Machine.execTeqShiftImm cond rn rd amount ty rm s
  | .teqShiftReg cond rn rd rs ty rm => Sys2Proof.Machine.execTeqShiftReg cond rn rd rs ty rm s
  | .cmpImm cond rn rd rot imm => Sys2Proof.Machine.execCmpImm cond rn rd rot imm s
  | .cmpShiftImm cond rn rd amount ty rm => Sys2Proof.Machine.execCmpShiftImm cond rn rd amount ty rm s
  | .cmpShiftReg cond rn rd rs ty rm => Sys2Proof.Machine.execCmpShiftReg cond rn rd rs ty rm s
  | .cmnImm cond rn rd rot imm => Sys2Proof.Machine.execCmnImm cond rn rd rot imm s
  | .cmnShiftImm cond rn rd amount ty rm => Sys2Proof.Machine.execCmnShiftImm cond rn rd amount ty rm s
  | .cmnShiftReg cond rn rd rs ty rm => Sys2Proof.Machine.execCmnShiftReg cond rn rd rs ty rm s
  | .orrImm cond sb rn rd rot imm => Sys2Proof.Machine.execOrrImm cond sb rn rd rot imm s
  | .orrShiftImm cond sb rn rd amount ty rm => Sys2Proof.Machine.execOrrShiftImm cond sb rn rd amount ty rm s
  | .orrShiftReg cond sb rn rd rs ty rm => Sys2Proof.Machine.execOrrShiftReg cond sb rn rd rs ty rm s
  | .movImm cond sb rn rd rot imm => Sys2Proof.Machine.execMovImm cond sb rn rd rot imm s
  | .movShiftImm cond sb rn rd amount ty rm => Sys2Proof.Machine.execMovShiftImm cond sb rn rd amount ty rm s
  | .movShiftReg cond sb rn rd rs ty rm => Sys2Proof.Machine.execMovShiftReg cond sb rn rd rs ty rm s
  | .bicImm cond sb rn rd rot imm => Sys2Proof.Machine.execBicImm cond sb rn rd rot imm s
  | .bicShiftImm cond sb rn rd amount ty rm => Sys2Proof.Machine.execBicShiftImm cond sb rn rd amount ty rm s
  | .bicShiftReg cond sb rn rd rs ty rm => Sys2Proof.Machine.execBicShiftReg cond sb rn rd rs ty rm s
  | .mvnImm cond sb rn rd rot imm => Sys2Proof.Machine.execMvnImm cond sb rn rd rot imm s
  | .mvnShiftImm cond sb rn rd amount ty rm => Sys2Proof.Machine.execMvnShiftImm cond sb rn rd amount ty rm s
  | .mvnShiftReg cond sb rn rd rs ty rm => Sys2Proof.Machine.execMvnShiftReg cond sb rn rd rs ty rm s
  | .b cond imm => Sys2Proof.Machine.execB cond imm s
  | .bl cond imm => Sys2Proof.Machine.execBl cond imm s
  | .bx cond rm => Sys2Proof.Machine.execBx cond rm s
  | .blxReg cond rm => Sys2Proof.Machine.execBlxReg cond rm s
  | .bxj cond rm => Sys2Proof.Machine.execBxj cond rm s
  | .blxImm h imm => Sys2Proof.Machine.execBlxImm h imm s
  | .ldrImm cond p u w rn rd off => Sys2Proof.Machine.execLdrImm cond p u w rn rd off s
  | .ldrReg cond p u w rn rd amount ty rm => Sys2Proof.Machine.execLdrReg cond p u w rn rd amount ty rm s
  | .strImm cond p u w rn rd off => Sys2Proof.Machine.execStrImm cond p u w rn rd off s
  | .strReg cond p u w rn rd amount ty rm => Sys2Proof.Machine.execStrReg cond p u w rn rd amount ty rm s
  | .ldrbImm cond p u w rn rd off => Sys2Proof.Machine.execLdrbImm cond p u w rn rd off s
  | .ldrbReg cond p u w rn rd amount ty rm => Sys2Proof.Machine.execLdrbReg cond p u w rn rd amount ty rm s
  | .strbImm cond p u w rn rd off => Sys2Proof.Machine.execStrbImm cond p u w rn rd off s
  | .strbReg cond p u w rn rd amount ty rm => Sys2Proof.Machine.execStrbReg cond p u w rn rd amount ty rm s
  | .strhImm cond p u w rn rd immH immL => Sys2Proof.Machine.execStrhImm cond p u w rn rd immH immL s
  | .strhReg cond p u w rn rd rm => Sys2Proof.Machine.execStrhReg cond p u w rn rd rm s
  | .ldrhImm cond p u w rn rd immH immL => Sys2Proof.Machine.execLdrhImm cond p u w rn rd immH immL s
  | .ldrhReg cond p u w rn rd rm => Sys2Proof.Machine.execLdrhReg cond p u w rn rd rm s
  | .ldrsbImm cond p u w rn rd immH immL => Sys2Proof.Machine.execLdrsbImm cond p u w rn rd immH immL s
  | .ldrsbReg cond p u w rn rd rm => Sys2Proof.Machine.execLdrsbReg cond p u w rn rd rm s
  | .ldrshImm cond p u w rn rd immH immL => Sys2Proof.Machine.execLdrshImm cond p u w rn rd immH immL s
  | .ldrshReg cond p u w rn rd rm => Sys2Proof.Machine.execLdrshReg cond p u w rn rd rm s
  | .ldrdImm cond p u w rn rd immH immL => Sys2Proof.Machine.execLdrdImm cond p u w rn rd immH immL s
  | .ldrdReg cond p u w rn rd rm => Sys2Proof.Machine.execLdrdReg cond p u w rn rd rm s
  | .strdImm cond p u w rn rd immH immL => Sys2Proof.Machine.execStrdImm cond p u w rn rd immH immL s
  | .strdReg cond p u w rn rd rm => Sys2Proof.Machine.execStrdReg cond p u w rn rd rm s
  | .ldm cond p u sb w rn list => Sys2Proof.Machine.execLdm cond p u sb w rn list s
  | .stm cond p u sb w rn list => Sys2Proof.Machine.execStm cond p u sb w rn list s
  | .mul cond sb rd rs rm => Sys2Proof.Machine.execMul cond sb rd rs rm s
  | .mla cond sb rd rn rs rm => Sys2Proof.Machine.execMla cond sb rd rn rs rm s
  | .clz cond rd rm => Sys2Proof.Machine.execClz cond rd rm s
  | .fmsr cond fn rd n => Sys2Proof.Machine.execFmsr cond fn rd n s
  | .fmrs cond fn rd n => Sys2Proof.Machine.execFmrs cond fn rd n s
  | .fmdlr cond fn rd => Sys2Proof.Machine.execFmdlr cond fn rd s
  | .fmdhr cond fn rd => Sys2Proof.Machine.execFmdhr cond fn rd s
  | .fmrdl cond fn rd => Sys2Proof.Machine.execFmrdl cond fn rd s
  | .fmrdh cond fn rd => Sys2Proof.Machine.execFmrdh cond fn rd s
  | .fmxr cond reg rd => Sys2Proof.Machine.execFmxr cond reg rd s
  | .fmrx cond reg rd => Sys2Proof.Machine.execFmrx cond reg rd s
  | .fmstat cond => Sys2Proof.Machine.execFmstat cond s
  | .fmdrr cond rn rd fm => Sys2Proof.Machine.execFmdrr cond rn rd fm s
  | .fmrrd cond rn rd fm => Sys2Proof.Machine.execFmrrd cond rn rd fm s
  | .fmsrr cond rn rd m fm => Sys2Proof.Machine.execFmsrr cond rn rd m fm s
  | .fmrrs cond rn rd m fm => Sys2Proof.Machine.execFmrrs cond rn rd m fm s
  | .flds cond u d rn fd off => Sys2Proof.Machine.execFlds cond u d rn fd off s
  | .fsts cond u d rn fd off => Sys2Proof.Machine.execFsts cond u d rn fd off s
  | .fldd cond u rn fd off => Sys2Proof.Machine.execFldd cond u rn fd off s
  | .fstd cond u rn fd off => Sys2Proof.Machine.execFstd cond u rn fd off s
  | .fldm cond p u d w rn fd cp1 off => Sys2Proof.Machine.execFldm cond p u d w rn fd cp1 off s
  | .fstm cond p u d w rn fd cp1 off => Sys2Proof.Machine.execFstm cond p u d w rn fd cp1 off s
  | .vfpData cond opc1 fn fd cp1 opc2 fm => Sys2Proof.Machine.execVfpData cond opc1 fn fd cp1 opc2 fm s
  | .dbgtapExtest => Sys2Proof.Machine.execDbgtapExtest s
  | .dbgtapScanN => Sys2Proof.Machine.execDbgtapScanN s
  | .dbgtapRestart => Sys2Proof.Machine.execDbgtapRestart s
  | .dbgtapHalt => Sys2Proof.Machine.execDbgtapHalt s
  | .dbgtapIntest => Sys2Proof.Machine.execDbgtapIntest s
  | .dbgtapItrsel => Sys2Proof.Machine.execDbgtapItrsel s
  | .dbgtapIdcode => Sys2Proof.Machine.execDbgtapIdcode s
  | .dbgtapBypass => Sys2Proof.Machine.execDbgtapBypass s

end Sys2Proof.Machine
end

