-- ==== Sys2Proof/Machine/Environment.lean ====
section
/-!
DEFINITION. The resets, the power modes and the events of the other agents (70_reset_and_hazards.md R601 to R606, R640;
00_scope.md R17).
-/

namespace Sys2Proof

/-- What the main TLB holds when its contents are arbitrary (70_reset_and_hazards.md R606, R640). -/
opaque Config.freeTlb : Nat → List Machine.TlbEntry

/-- What the lockdown entries hold when they are arbitrary. -/
opaque Config.freeSlot : Nat → Machine.LockSlot

/-- What a cache holds when its contents are arbitrary. -/
opaque Config.freeLines : Nat → List Machine.Line

/-- What the branch prediction holds when its contents are arbitrary. -/
opaque Config.freeBtac : Nat → List Machine.BtacEntry

end Sys2Proof

namespace Sys2Proof.Machine

/-! ## Resets -/

/-- The counter of free values advanced past `n` of them. -/
def State.skipDraws (s : State) (n : Nat) : State := { s with freeCtr := s.freeCtr + n }

/-- Free words `k` to `k + n - 1` of the current draw, as a register file. -/
def freeRegs (s : State) (k n : Nat) : Vector Word n := Vector.ofFn fun i : Fin n => Config.freeWord (s.freeCtr + k + i.val)

/-- The general registers, the SPSRs and the open CPSR bits are indeterminate (10_state.md R35, D8); the reserved PSR bits
are zero (D7). -/
def scrambleCore (s : State) : State :=
  let w (k : Nat) : Word := Config.freeWord (s.freeCtr + k) &&& psrMask
  { s.skipDraws 36 with
    regs := freeRegs s 0 30
    psrs := { cpsr := resetCpsr s.cfg ||| (w 30 &&& 0xF80F0000), fiq := w 31, irq := w 32, svc := w 33, abt := w 34, und := w 35 } }

/-- The CP15 registers after nCPURESET, what the specification leaves open drawn (70_reset_and_hazards.md R603). The reset ends the
use of older TLB controls, though the TLB keeps its contents (R606) and 44_cp15_c8_c10_tlb.md R239 speaks of no reset: DESIGN
CHOICE (notes/assumptions/88.md). -/
def resetCp15 (s : State) : State :=
  let w (k : Nat) : Word := Config.freeWord (s.freeCtr + k)
  { s.skipDraws 9 with
    cp15 := { Cp15.reset s.cfg with
      dfsr := w 0 &&& 0x00001CFF
      ifsr := w 1 &&& 0x000014FF
      far := w 2
      wfar := w 3
      ccnt := w 4
      pmn0 := w 5
      pmn1 := w 6
      tlbLockIndexRead := w 7 &&& 7
      tlbLockIndexWrite := w 8 &&& 7 }
    lockAccess := .none
    nmrrImplDefined := false
    remapOld := []
    cpacrOld := none
    fetchOld := [] }

/-- The VFP11 registers after reset (48_vfp.md R782, D46). -/
def resetVfp (s : State) : State :=
  { s.skipDraws 34 with
    vfp := { Vfp.reset with
      regs := freeRegs s 0 32
      fpinst := Config.freeWord (s.freeCtr + 32)
      fpinst2 := Config.freeWord (s.freeCtr + 33) } }

/-- `ResetCPU` (70_reset_and_hazards.md R603): the buffered stores complete first (D41); debug state ends (46_cp14_debug.md R332),
with DSCR[13] as it was (notes/assumptions/69.md), and an instruction of the ITR that was issued and not yet run is lost and
counts as complete, of which no rule speaks: DESIGN CHOICE (notes/assumptions/87.md); the caches and the TLB keep their contents
(R606). -/
def resetCpu (s : State) : State :=
  let t := resetVfp (resetCp15 (scrambleCore (drainAll s)))
  { t with
    pc := resetVector t.cfg
    prefetched := []
    monitor := .openAccess
    imprecise := none
    inFlight := none
    irqSeen := false
    fiqSeen := false
    power := .run
    standby := false
    stuck := false
    dbg := { t.dbg with
      dscr := setBit (setBit t.dbg.dscr 0 false) 1 true
      pcWritten := false
      touched := false
      watchHit := false
      tap := { t.dbg.tap with issue := false, instComplete := true } } }

/-- `ResetCP14` (46_cp14_debug.md R313); the fields with no reset value are drawn, the pins and the access port keep their
state. -/
def resetCp14 (s : State) : State :=
  let w (k : Nat) : Word := Config.freeWord (s.freeCtr + k)
  { s.skipDraws 19 with
    dbg := { Debug.reset with
      rdtr := w 0
      wdtr := w 1
      bvr := Vector.ofFn fun i : Fin 6 => w (2 + i.val) &&& bvrMask i.val
      bcr := Vector.ofFn fun i : Fin 6 => w (8 + i.val) &&& bcrMask i.val &&& 0xFFFFFFFE
      wvr := Vector.ofFn fun i : Fin 2 => w (14 + i.val) &&& 0xFFFFFFFC
      wcr := Vector.ofFn fun i : Fin 2 => w (16 + i.val) &&& 0x001F01FE
      pcSample := w 18
      edbgrq := s.dbg.edbgrq
      tap := s.dbg.tap } }

/-- `ResetSCU` (70_reset_and_hazards.md R604): every register of the private memory region but the Watchdog Reset Status
flags; the levels of the input pins and the other CPUs' SMP bits are inputs. The duplicate tags are not invalidated
(R606). -/
def resetScu (s : State) : State :=
  let d := Devices.reset s.cfg
  let keepFlag (n : CpuId) (d : Devices) : Devices :=
    d.setTimer n { d.timers.get n with wdReset := (s.dev.timers.get n).wdReset }
  let keepPin (n : CpuId) (d : Devices) : Devices :=
    d.setCpu n { d.cpus.get n with nIrq := (s.dev.cpus.get n).nIrq }
  let d := allCpus.foldl (fun d n => keepPin n (keepFlag n d)) d
  s.setDev ((d.setDist { d.dist with lines := s.dev.dist.lines }).setScu
    { d.scu with otherSmp := s.dev.scu.otherSmp, staleTags := BitVec.allOnes 16 })

/-- nWDRESET clears the Watchdog Reset Status flags of a mask of CPUs, and a CPU reset answers its reset request
(49_private_memory_region.md R416, R419). -/
def resetWatchdogs (wd cpu : BitVec 4) (s : State) : State :=
  s.setDev (allCpus.foldl (fun d n =>
    let t := d.timers.get n
    d.setTimer n { t with
      wdReset := t.wdReset && !bitAt wd (cpuNat n)
      resetReq := t.resetReq && !bitAt cpu (cpuNat n) }) s.dev)

/-- A CPU that is reset leaves SMP mode (41_cp15_c1_control.md R157). -/
def resetOthers (cpu : BitVec 4) (s : State) : State :=
  s.setDev (s.dev.setScu { s.dev.scu with otherSmp := s.dev.scu.otherSmp &&& ~~~ cpu })

/-- The TLB contents are arbitrary (70_reset_and_hazards.md R606, R640). -/
def freeTlb (s : State) : State :=
  { s.skipDraws 9 with
    tlb := Config.freeTlb s.freeCtr
    lockSlots := Vector.ofFn fun i : Fin 8 => Config.freeSlot (s.freeCtr + 1 + i.val) }

/-- The cache contents are arbitrary (70_reset_and_hazards.md R606, R640). -/
def freeCaches (s : State) : State :=
  { s.skipDraws 2 with icache := Config.freeLines s.freeCtr, dcache := Config.freeLines (s.freeCtr + 1) }

/-- The branch prediction's contents are arbitrary (70_reset_and_hazards.md R606, R640). -/
def freePredictor (s : State) : State := { s.skipDraws 1 with btac := Config.freeBtac s.freeCtr }

/-- Whether a combination of reset inputs is one of 70_reset_and_hazards.md R601: the rows of Table 11-1, and a reset that
answers a watchdog request and so leaves nWDRESET of that CPU HIGH. A reset of this CPU while it has no power must be a power-on
reset (R640); while the power controller only emulates the power-down it may be any, and one that is not a power-on reset keeps the
CP14 state (46_cp14_debug.md R346, R348). With nSCURESET LOW every nPORESET may stay HIGH while a watchdog requests a reset, where
the table has them LOW and the text excepts nWDRESET alone: DESIGN CHOICE (notes/assumptions/85.md). -/
def resetAllowed (s : State) (scu : Bool) (por wd cpu : BitVec 4) : Bool :=
  let all := presentMask s.cfg
  let answers := allCpus.all fun n =>
    bitAt wd (cpuNat n) == bitAt cpu (cpuNat n) ||
      (bitAt cpu (cpuNat n) && (s.dev.timers.get n).resetReq)
  let me := cpuNat s.cfg.cpu
  let powered := s.power == .run || s.dbgnopwrdwn || !bitAt cpu me || bitAt por me
  let watchdog := allCpus.any fun n => (s.dev.timers.get n).resetReq
  (wd &&& ~~~ cpu) == 0 && answers && powered &&
    (if scu then cpu &&& all == all && (por &&& all == all || (por == 0 && watchdog)) else por == 0 || por == cpu)

/-- The reset inputs are asserted (70_reset_and_hazards.md R601): the shared blocks first, then the debug logic, the watchdog flags
and the CPU, whose buffered stores complete before it is reset; what a power-on reset leaves arbitrary is so after it. -/
def applyReset (trst scu : Bool) (por wd cpu : BitVec 4) (s : State) : Except Refusal State :=
  let s := if trst then tapReset s else s
  if scu || por != 0 || wd != 0 || cpu != 0 then
    if resetAllowed s scu por wd cpu then
      let me := cpuNat s.cfg.cpu
      let s := if scu then resetScu s else s
      let s := if bitAt por me then resetCp14 s else s
      let s := resetWatchdogs wd cpu s
      let s := if bitAt cpu me then resetCpu s else s
      let s := if scu && bitAt por me then freePredictor (freeCaches (freeTlb s)) else s
      .ok (resetOthers cpu s)
    else .error .resetCombination
  else .ok s

/-! ## Power -/

/-- The CP15 registers of a CPU without power (70_reset_and_hazards.md R640): their implemented bits are free values. -/
def freeCp15 (s : State) : State :=
  let w (k : Nat) : Word := Config.freeWord (s.freeCtr + k)
  { s.skipDraws 31 with
    cp15 := {
      control := controlValue s.cfg (w 0), auxControl := w 1 &&& 0x7F, cpacr := w 2 &&& 0x00F00000
      ttbr0 := w 3 &&& 0xFFFFFF9A, ttbr1 := w 4 &&& 0xFFFFC01A, ttbcr := w 5 &&& 7, dacr := w 6
      dfsr := w 7 &&& 0x00001CFF, ifsr := w 8 &&& 0x000014FF, far := w 9, wfar := w 10, pa := w 11
      dcacheLockdown := w 12 ||| 0xFFFFFFF0, tlbLockdown := w 13 &&& 0x1C000001
      prrr := w 14 &&& 0x000FCFFF, nmrr := w 15 &&& 0xCFFFCFFF
      fcsePid := w 16 &&& 0xFE000000, contextId := w 17, threadUrw := w 18, threadUro := w 19, threadPrw := w 20
      pmnc := w 21 &&& 0x0FFFF779, ccnt := w 22, pmn0 := w 23, pmn1 := w 24
      tlbLockIndexRead := w 25 &&& 7, tlbLockIndexWrite := w 26 &&& 7, tlbLockVa := w 27 &&& 0xFFFFF3FF
      tlbLockPa := w 28 &&& 0xFFFFF0CF, tlbLockAttr := w 29 &&& 0xFE0007FF, tlbDebugControl := w 30 &&& 0x30 }
    lockAccess := .none
    remapOld := []
    cpacrOld := none
    fetchOld := [] }

/-- The VFP11 registers of a CPU without power. -/
def freeVfp (s : State) : State :=
  { s.skipDraws 36 with
    vfp := {
      regs := freeRegs s 0 32
      fpscr := Config.freeWord (s.freeCtr + 32) &&& fpscrMask
      fpexc := Config.freeWord (s.freeCtr + 33)
      fpinst := Config.freeWord (s.freeCtr + 34)
      fpinst2 := Config.freeWord (s.freeCtr + 35)
      bounce := false } }

/-- The CP14 registers of a CPU without power: lost, every implemented bit a free value, unless DSCR[9] makes the power controller
emulate the power-down (46_cp14_debug.md R346, R348). It is not in debug state, and DSCR[9] was and is 0. -/
def freeCp14 (s : State) : State :=
  if s.dbgnopwrdwn then s
  else
    let w (k : Nat) : Word := Config.freeWord (s.freeCtr + k)
    { s.skipDraws 22 with
      dbg := { s.dbg with
        dscr := w 0 &&& 0x6000FCFE
        vcr := w 1 &&& 0x000000DF
        rdtr := w 2
        wdtr := w 3
        bvr := Vector.ofFn fun i : Fin 6 => w (4 + i.val) &&& bvrMask i.val
        bcr := Vector.ofFn fun i : Fin 6 => w (10 + i.val) &&& bcrMask i.val
        wvr := Vector.ofFn fun i : Fin 2 => w (16 + i.val) &&& 0xFFFFFFFC
        wcr := Vector.ofFn fun i : Fin 2 => w (18 + i.val) &&& 0x001F01FF
        pcSample := w 20
        debugPc := w 21 } }

/-- A mode that a number selects, a different one of the seven for each of 0 to 6. -/
def anyMode (n : Nat) : BitVec 5 := [modeUser, modeFiq, modeIrq, modeSvc, modeAbt, modeUnd].getD (n % 7) modeSys

/-- The core registers of a CPU without power (70_reset_and_hazards.md R640): the general registers, the SPSRs, the PC and every
implemented bit of the CPSR are free values. Of the mode, one of the seven (notes/assumptions/66.md). -/
def freeCore (s : State) : State :=
  let t := scrambleCore s
  withWord t fun pc t => withWord t fun status t => withWord t fun mode t =>
    (t.setPc pc).setCpsr (setFld (status &&& psrMask) 0 (anyMode mode.toNat))

/-- The state of a CPU without power but its RAM arrays: unspecified (70_reset_and_hazards.md R640). No step of the CPU reads it
before the reset that ends it. -/
def losePower (p : Power) (s : State) : State :=
  { freePredictor (freeTlb (freeCp14 (freeVfp (freeCp15 (freeCore s))))) with power := p, prefetched := [] }

/-- The SCU CPU Status field of this CPU (49_private_memory_region.md R403). -/
def State.scuStatus (s : State) : BitVec 8 := (s.dev.scu.cpuStatus >>> (2 * cpuNat s.cfg.cpu)) &&& 3

/-- The power controller removes the power of a waiting CPU whose SCU status field says so (70_reset_and_hazards.md
R640). -/
def powerDown (p : Power) (s : State) : State :=
  if s.standby then
    match p with
    | .run => s
    | .dormant => if s.scuStatus == 2 then losePower .dormant s else s
    | .off => if s.scuStatus == 3 then freeCaches (losePower .off s) else s
  else s

/-- The access port reaches this CPU: one without power is bypassed in the debug scan chain (70_reset_and_hazards.md R640), unless
the power-down is emulated (46_cp14_debug.md R346, R348). -/
def tapReaches (s : State) : Bool := s.power == .run || s.dbgnopwrdwn

/-! ## Events -/

/-- The SCU sends this CPU coherency requests: in SMP mode, with the SCU enabled, and not to a CPU about to be or in dormant or
powered-off mode (20_memory.md R96, 49_private_memory_region.md R403). The Reserved status b01 counts as normal mode: DESIGN CHOICE
(notes/assumptions/74.md). -/
def coherencyRequests (s : State) : Bool :=
  bitAt s.cp15.auxControl 5 && bitAt s.dev.scu.control 0 && s.scuStatus != 2 && s.scuStatus != 3

/-- A write of another CPU (20_memory.md R96, R97). -/
def foreignWrite (pa : Word) (bytes : List Byte) (s : State) : State :=
  if inRegion s.cfg pa then s
  else if coherencyRequests s then otherCpuWrite pa bytes s
  else otherCpuPlainWrite pa bytes s

/-- An access of another CPU to the private memory region; what the region refuses has no effect. -/
def foreignRegionRead (n : CpuId) (off : Nat) (size : Nat) (s : State) : State :=
  if regionRefuses off size then s
  else match regionRead n off size s with
    | some (_, s) => s
    | none => s
def foreignRegionWrite (n : CpuId) (off : Nat) (bytes : List Byte) (s : State) : State :=
  if regionRefuses off bytes.length then s else (regionWrite n off bytes s).getD s

/-- A tick of a timer or watchdog; those of this CPU stand still in debug state (49_private_memory_region.md R412,
R416). -/
def tick (f : CpuId → Devices → Devices) (n : CpuId) (s : State) : State :=
  if n = s.cfg.cpu ∧ s.halted then s else s.setDev (f n s.dev)

/-- What only the logic of a CPU with power does (70_reset_and_hazards.md R640). -/
def whenPowered (f : State → State) (s : State) : State := if s.power == .run then f s else s

/-- What an event of the environment does. An eviction may take any line, also one of a way that is locked against linefills, which
no rule excludes: DESIGN CHOICE (notes/assumptions/48.md). -/
def applyEvent (e : EnvEvent) (s : State) : Except Refusal State :=
  match e with
  | .drainStore k => .ok (drainStore k s)
  | .busResponse => .ok (busResponse s)
  | .evictTlb k => .ok (whenPowered (fun s => { s with tlb := s.tlb.eraseIdx k }) s)
  | .evictLine k => .ok (whenPowered (fun s => match s.dcache[k]? with | some l => evictLine l s | none => s) s)
  | .evictInstrLine k => .ok (whenPowered (fun s => { s with icache := s.icache.eraseIdx k }) s)
  | .victims d i => .ok (whenPowered (fun s => { s with dcVictim := d, icVictim := i }) s)
  | .prefetch va thumb priv => .ok (whenPowered (prefetchAt va thumb priv) s)
  | .predict branch target =>
    .ok (whenPowered (fun s =>
      if s.predicts then { s with btac := ({ branch := branch, target := target } :: s.btac).take 128 } else s) s)
  | .irqPin n low => .ok (s.setDev (settle (s.dev.setCpu n { s.dev.cpus.get n with nIrq := low })))
  | .fiqPin low => .ok { s with fiqPin := low }
  | .sampleIrq => .ok { s with irqSeen := irqRequest s.cfg s.dev s.cfg.cpu }
  | .sampleFiq => .ok { s with fiqSeen := s.fiqPin }
  | .intLine id high => .ok (s.setDev (setLine s.cfg s.dev id high))
  | .timerTick n => .ok (tick timerTick n s)
  | .watchdogTick n => .ok (tick watchdogTick n s)
  | .pmuCount => .ok (whenPowered pmuAdvance s)
  | .scuCount => .ok (scuAdvance s)
  | .deviceRead n off size => .ok (foreignRegionRead n off.toNat size s)
  | .deviceWrite n off size v => .ok (foreignRegionWrite n off.toNat ((bytesOf v).take size) s)
  | .otherSmp b => .ok (s.setDev (s.dev.setScu { s.dev.scu with otherSmp := b }))
  | .cpuWrite pa bytes => .ok (foreignWrite pa bytes s)
  | .busWrite pa bytes => .ok (if inRegion s.cfg pa then s else s.setMem (s.mem.writeBytes pa bytes))
  | .snoop pa => .ok (if coherencyRequests s then snoopLine pa s else s)
  | .edbgrq high => .ok { s with dbg := { s.dbg with edbgrq := high } }
  | .tck tms tdi => if tapReaches s then tapClock tms tdi s else .ok s
  | .debugRequest => .ok (if tapReaches s then completeRequest s else s)
  | .reset trst scu por wd cpu => applyReset trst scu por wd cpu s
  | .powerDown p => .ok (powerDown p s)

/-- A DBGTAP instruction or an ITR instruction waits for its own step. -/
def tapWaits (s : State) : Bool := !s.dbg.tap.queue.isEmpty || s.dbg.tap.issue

/-- The events before a step, in order, until the access port has work for the processor: the events left, and the state. -/
def applyEvents : List EnvEvent → State → Except Refusal (List EnvEvent × State)
  | [], s => .ok ([], s)
  | e :: t, s =>
    if tapWaits s then .ok (e :: t, s)
    else match applyEvent e s with
      | .error r => .error r
      | .ok s => applyEvents t s

/-- The environment's part of a step: the events listed for it; those left come before the next step. -/
def environment (s : State) : Except Refusal State :=
  match s.env with
  | [] => .ok s
  | now :: later =>
    match applyEvents now s with
    | .error r => .error r
    | .ok ([], s) => .ok { s with env := later }
    | .ok (left, s) => .ok { s with env := left :: later }

end Sys2Proof.Machine
end

