-- ==== Sys2Proof/Machine/Cycle.lean ====
section
/-!
DEFINITION. One step of the CPU: the environment's part, then what the CPU does at the instruction boundary
(60_exceptions.md R529, R540, 46_cp14_debug.md R324, R331, R340, 43_cp15_c7_cache_ops.md R201).
-/

namespace Sys2Proof.Machine

noncomputable section

/-- What a step can end in. -/
abbrev Answer := Host.Outcome State Fault Refusal

/-- A change of the next state, if there is one. -/
def onNext (f : State → State) (o : Answer) : Answer :=
  match o with
  | .next s => .next (f s)
  | .fault e => .fault e
  | .refused r => .refused r

/-! ## One instruction -/

/-- PLD: a hint without an effect, which raises no abort (47_core_instructions.md R730). -/
def preload (s : State) : Answer := .next s.advance

/-- A word that is no instruction of the table: an absent coprocessor's is Undefined (30_encoding.md R110); an unlisted one of the VFP is
Undefined where the VFP may not be used, else outside the specification (48_vfp.md R780); the unconditional forms are
Undefined (30_encoding.md R115); PLD is a hint (47_core_instructions.md R730); a word outside the subset moves on if its
condition fails, which is all that is said of it (R700, R702). -/
def rejected (r : Reject) (s : State) : Answer :=
  match r with
  | .absentCoprocessor cond => whenPasses cond s fun s => .exc .undefined s
  | .vfpUnlisted cond => whenPasses cond s fun s => (vfpCheck none s).bind fun _ _ => .refused .vfpUnlisted
  | .unconditionalCoprocessor cp =>
    if cp = 10 ∨ cp = 11 then finish ((vfpCheck none s).bind fun _ _ => .refused .vfpUnlisted)
    else finish (.exc .undefined s)
  | .outsideSubset cond => whenPasses cond s fun _ => .refused .outsideSubset
  | .preload => preload s

/-- A code is decoded and executed (20_memory.md R50). -/
def runCode (c : Code) (s : State) : Answer :=
  match decode c with
  | .ok i => exec i s
  | .error r => rejected r s

/-- The code that fetched bits are, by instruction set state (47_core_instructions.md R707). -/
def codeOf (s : State) (w : Word) : Code := if s.thumb then .thumb (fld w 0 16) else .arm w

/-- A fetched instruction is committed: its abort, a debug event that stands on it, the Undefined Instruction exception of J and T
together (60_exceptions.md R540, 47_core_instructions.md R708), or its execution and then the watchpoint it hit
(60_exceptions.md R522, 46_cp14_debug.md R318, R320, R326, R342). -/
def commit (f : Fetched) (h : DebugHits) (s : State) : Answer :=
  match f with
  | .faulted x => finish (.exc (.prefetchAbort x) s)
  | .bits w =>
    match commitEvent h s with
    | some t => .next t
    | none =>
      if s.jBit then finish (.exc .undefined s)
      else onNext (watchEvent s.readPc) (runCode (codeOf s w) s.committed)

/-- The instruction at the PC (47_core_instructions.md R708: J alone is Jazelle state, D43). -/
def instruction (s : State) : Answer :=
  let s := s.clearWatch
  if s.jBit && !s.tBit then .refused .jazelle
  else match fetchNext s with
    | (.error r, _) => .refused r
    | (.ok (f, h), s) => commit f h s

/-! ## The instruction boundary -/

/-- IRQ and FIQ requests reach the CPU unless the debugger inhibits them (46_cp14_debug.md R304, DSCR[11]). -/
def interruptsReach (s : State) : Bool := !bitAt s.dbg.dscr 11
def fiqTaken (s : State) : Bool := s.fiqSeen && !s.fBit && interruptsReach s
def irqTaken (s : State) : Bool := s.irqSeen && !s.iBit && interruptsReach s

/-- A debug state entry request that is obeyed (46_cp14_debug.md R324). -/
def haltRequest (s : State) : Bool := s.cfg.dbgen && (s.dbg.tap.haltRequested || s.dbg.edbgrq)

/-- The entry on a request: Halt first, then EDBGRQ (46_cp14_debug.md R324). -/
def enterOnRequest (s : State) : State :=
  if s.dbg.tap.haltRequested then enterDebugState (s.setTap { s.dbg.tap with haltRequested := false }) entryHalt
  else enterDebugState s entryEdbgrq

/-- The asynchronous exception that is due: FIQ, then IRQ, then a pending imprecise Data Abort that A does not mask
(60_exceptions.md R520, R521, R527, R540). -/
def dueException (s : State) : Option State :=
  if fiqTaken s then some (takeFiq s)
  else if irqTaken s then some (takeIrq s)
  else match s.imprecise with
    | some a => if s.aBit then none else some (takeImpreciseAbort a s)
    | none => none

/-- What the CPU does at an instruction boundary (60_exceptions.md R540). A debug request against an interrupt is a draw (D37), and
so is one against a pending imprecise abort, whose order no rule gives: DESIGN CHOICE (notes/assumptions/70.md). -/
def boundary (s : State) : Answer :=
  match dueException s with
  | none => if haltRequest s then .next (enterOnRequest s) else instruction s
  | some t =>
    if haltRequest s then
      .next (withBool s fun debugFirst s => if debugFirst then enterOnRequest s else (dueException s).getD s)
    else .next t

/-! ## Standby -/

/-- The requests at the CPU's interrupt inputs (43_cp15_c7_cache_ops.md R201, 49_private_memory_region.md R458). -/
def irqAsserted (s : State) : Bool := s.irqSeen || irqRequest s.cfg s.dev s.cfg.cpu
def fiqAsserted (s : State) : Bool := s.fiqSeen || s.fiqPin

/-- A waiting CPU wakes on an interrupt, masked or not, and on a debug request (43_cp15_c7_cache_ops.md R201). Whether it does
is open for an inhibited interrupt and for a debug request while debug is disabled (90_conflicts.md C30): a draw. -/
def wakeUp (s : State) : State :=
  let irq := irqAsserted s || fiqAsserted s
  let debug := s.dbg.tap.haltRequested || s.dbg.edbgrq
  let awake (s : State) : State := { s with standby := false, irqSeen := irqAsserted s, fiqSeen := fiqAsserted s }
  if (irq && interruptsReach s) || (debug && s.cfg.dbgen) then awake s
  else if irq || debug then withBool s fun wakes s => if wakes then awake s else s
  else s

/-! ## Debug state -/

/-- The condition under which an ARM instruction writes the condition flags or the E bit of the CPSR, be the values new or not. Writes
of the whole CPSR and of the PC, and those that a draw decides, are noted where they are made (`State.writeCpsr`,
`State.markWritten`, `State.noteStatus`). -/
def statusWrite : Instr → Option Cond
  | .andImm c s .. | .andShiftImm c s .. | .andShiftReg c s ..
  | .eorImm c s .. | .eorShiftImm c s .. | .eorShiftReg c s ..
  | .subImm c s .. | .subShiftImm c s .. | .subShiftReg c s ..
  | .rsbImm c s .. | .rsbShiftImm c s .. | .rsbShiftReg c s ..
  | .addImm c s .. | .addShiftImm c s .. | .addShiftReg c s ..
  | .adcImm c s .. | .adcShiftImm c s .. | .adcShiftReg c s ..
  | .sbcImm c s .. | .sbcShiftImm c s .. | .sbcShiftReg c s ..
  | .rscImm c s .. | .rscShiftImm c s .. | .rscShiftReg c s ..
  | .orrImm c s .. | .orrShiftImm c s .. | .orrShiftReg c s ..
  | .movImm c s .. | .movShiftImm c s .. | .movShiftReg c s ..
  | .bicImm c s .. | .bicShiftImm c s .. | .bicShiftReg c s ..
  | .mvnImm c s .. | .mvnShiftImm c s .. | .mvnShiftReg c s ..
  | .mul c s .. | .mla c s .. => if s then some c else none
  | .tstImm c .. | .tstShiftImm c .. | .tstShiftReg c ..
  | .teqImm c .. | .teqShiftImm c .. | .teqShiftReg c ..
  | .cmpImm c .. | .cmpShiftImm c .. | .cmpShiftReg c ..
  | .cmnImm c .. | .cmnShiftImm c .. | .cmnShiftReg c ..
  | .mrcDscrFlags c | .fmstat c => some c
  | .fmrx c _ rd => if rd = 15 then some c else none
  | .setend _ => some 14
  | _ => none

/-- The instruction in the ITR writes the CPSR in this way. -/
def itrWritesStatus (s : State) : Bool :=
  match decode (.arm s.dbg.tap.itr) with
  | .ok i => (statusWrite i).any s.passes
  | .error _ => false

/-- In debug state, once the PC or the CPSR has been written, now or before, reads of the PC return free values
(46_cp14_debug.md R333). -/
def freshDebugPc (wrote : Bool) (s : State) : State :=
  if (wrote || s.dbg.touched) && s.halted then
    withWord s fun free s => { s with dbg := { s.dbg with touched := true, debugPc := free } }
  else s

/-- After an instruction issued through the ITR: it is complete (46_cp14_debug.md R333, R340). -/
def afterIssue (wrote : Bool) (s : State) : State :=
  freshDebugPc wrote (s.setTap { s.dbg.tap with issue := false, instComplete := true })

/-- A step in debug state: the ITR instruction that was issued, or nothing; a pending imprecise abort is taken, which writes the PC
and the CPSR (46_cp14_debug.md R331 to R333, R340). -/
def debugStep (s : State) : Answer :=
  if s.dbg.tap.issue then
    if s.jBit && s.tBit then .refused .debugStateUnpredictable
    else onNext (afterIssue (itrWritesStatus s)) (runCode (.arm s.dbg.tap.itr) s)
  else match s.imprecise with
    | some a => .next (freshDebugPc false (takeImpreciseAbort a s))
    | none => .next s

/-! ## The step -/

/-- What the CPU does in a step, the environment's part done. -/
def cpuStep (s : State) : Answer :=
  if s.power ≠ .run then .next s
  else if s.stuck then .fault .unrecoverable
  else if s.halted then debugStep s
  else
    let s := if s.standby then wakeUp s else s
    if s.standby then .next s else boundary s

/-- One step: a DBGTAP code that waits for Update-IR, or the environment's events and then the CPU (46_cp14_debug.md R336;
00_scope.md R17). -/
def cycle (s : State) : Answer :=
  match s.dbg.tap.queue with
  | c :: rest => runCode (.dbgtap c) (s.setTap { s.dbg.tap with queue := rest })
  | [] =>
    match environment s with
    | .error r => .refused r
    | .ok s => if s.dbg.tap.queue.isEmpty then cpuStep s else .next s

/-! ## Placing an instruction -/

/-- The physical address the next instruction is fetched from (20_memory.md R50). -/
def fetchAddress (s : State) : Word :=
  match (translate .fetch s.userAccess true (fcse s s.pc) s).1 with
  | .ok t => t.pa
  | .error _ => fcse s s.pc

/-- Bytes stored where the next instruction is fetched: in memory, past every copy of their line or instruction; the fetch sees the
current settings. -/
def State.placeCode (s : State) (thumb : Bool) (bytes : List Byte) : State :=
  let s := s.setCpsr (setBit (setBit s.cpsr 5 thumb) 24 false)
  let pa := fetchAddress s
  { s with
    mem := s.mem.writeBytes pa bytes
    prefetched := []
    fetchOld := []
    icache := s.icache.filter fun l => l.tag != lineTag pa
    env := []
    dbg := { s.dbg with tap := { s.dbg.tap with queue := [] } } }

end

end Sys2Proof.Machine
end

