-- ==== Sys2Proof/Machine/Step.lean ====
section
/-!
DEFINITION. The step, and the state in which the next step runs a given instruction.
-/

namespace Sys2Proof.Machine

noncomputable section

/-- One step of the machine (00_scope.md R17). -/
def step (s : State) : Host.Outcome State Fault Refusal := cycle s

/-- The state with an instruction stored where the next step fetches it: an ARM word or a Thumb halfword at the PC, or a code
on its way into the DBGTAP Instruction Register (20_memory.md R49, 46_cp14_debug.md R336). -/
def State.withFetchWord (s : State) (nbits w : Nat) : State :=
  let b := BitVec.ofNat 32 w
  match nbits with
  | 32 => s.placeCode false [fld b 0 8, fld b 8 8, fld b 16 8, fld b 24 8]
  | 16 => s.placeCode true [fld b 0 8, fld b 8 8]
  | 8 => { s with dbg := { s.dbg with tap := { s.dbg.tap with queue := [fld b 0 5] } } }
  | _ => s

end

end Sys2Proof.Machine
end

