-- ==== Sys2Proof/Laws/Decode.lean ====
section
/-!
SUPPORT. The fields of the words that the encoder makes, one lemma for each field that the decoder reads
(47_core_instructions.md R704, R750 to R774, 48_vfp.md R784). With them a decoding of an encoded instruction is a short `simp`.
-/

set_option linter.unusedSimpArgs false

namespace Sys2Proof

/-! ## Fields of a word -/

/-- A field that lies within a placed one. -/
theorem fld_put_in {n : Nat} (x : BitVec n) {k s l : Nat} (h1 : k ≤ s) (h2 : s + l ≤ k + n) (h3 : k + n ≤ 32) :
    fld (put x k) s l = fld x (s - k) l := by
  apply BitVec.eq_of_getLsbD_eq
  intro i hi
  simp only [fld, put, BitVec.getLsbD_extractLsb', BitVec.getLsbD_shiftLeft, BitVec.getLsbD_setWidth, hi]
  have h4 : s - k + i = s + i - k := by omega
  simp [h4, show s + i < 32 by omega, show ¬ (s + i < k) by omega, show s + i - k < 32 by omega]

/-- A field that lies apart from a placed one. -/
theorem fld_put_out {n : Nat} (x : BitVec n) {k s l : Nat} (h1 : s + l ≤ k ∨ k + n ≤ s) : fld (put x k) s l = 0#l := by
  apply BitVec.eq_of_getLsbD_eq
  intro i hi
  simp only [fld, put, BitVec.getLsbD_extractLsb', BitVec.getLsbD_shiftLeft, BitVec.getLsbD_setWidth, hi,
    BitVec.getLsbD_zero]
  by_cases h2 : s + i < k
  · simp [h2]
  · have : x.getLsbD (s + i - k) = false := BitVec.getLsbD_of_ge _ _ (by omega)
    simp [this]

/-- The fields of a union. -/
theorem fld_or (a b : Word) (s l : Nat) : fld (a ||| b) s l = fld a s l ||| fld b s l := by
  simp [fld, BitVec.extractLsb'_or]

/-- A bit as a field. -/
theorem bitAt_fld {m : Nat} (w : BitVec m) (k : Nat) : bitAt w k = (fld w k 1 == 1#1) := rfl

/-- The whole of a value as a field. -/
@[simp] theorem fld_whole {n : Nat} (x : BitVec n) : fld x 0 n = x := by simp [fld]

/-- A truth value placed and read back. -/
@[simp] theorem ofBool_beq (b : Bool) : (BitVec.ofBool b == 1#1) = b := by cases b <;> rfl

/-! ## encCop -/
@[simp] theorem encCop_fld_28_4 (cond : Cond) (opc1 : BitVec 3) (l : Bool) (crn : BitVec 4) (rd : RegNum)
    (cp : BitVec 4) (opc2 : BitVec 3) (crm : BitVec 4) :
    fld (encCop cond opc1 l crn rd cp opc2 crm) 28 4 = cond := by
  simp [encCop, flag, bitAt_fld, fld_or, fld_put_in, fld_put_out]
@[simp] theorem encCop_fld_25_3 (cond : Cond) (opc1 : BitVec 3) (l : Bool) (crn : BitVec 4) (rd : RegNum)
    (cp : BitVec 4) (opc2 : BitVec 3) (crm : BitVec 4) :
    fld (encCop cond opc1 l crn rd cp opc2 crm) 25 3 = 7#3 := by
  simp [encCop, flag, bitAt_fld, fld_or, fld_put_in, fld_put_out]
  decide
@[simp] theorem encCop_fld_21_3 (cond : Cond) (opc1 : BitVec 3) (l : Bool) (crn : BitVec 4) (rd : RegNum)
    (cp : BitVec 4) (opc2 : BitVec 3) (crm : BitVec 4) :
    fld (encCop cond opc1 l crn rd cp opc2 crm) 21 3 = opc1 := by
  simp [encCop, flag, bitAt_fld, fld_or, fld_put_in, fld_put_out]
@[simp] theorem encCop_fld_16_4 (cond : Cond) (opc1 : BitVec 3) (l : Bool) (crn : BitVec 4) (rd : RegNum)
    (cp : BitVec 4) (opc2 : BitVec 3) (crm : BitVec 4) :
    fld (encCop cond opc1 l crn rd cp opc2 crm) 16 4 = crn := by
  simp [encCop, flag, bitAt_fld, fld_or, fld_put_in, fld_put_out]
@[simp] theorem encCop_fld_12_4 (cond : Cond) (opc1 : BitVec 3) (l : Bool) (crn : BitVec 4) (rd : RegNum)
    (cp : BitVec 4) (opc2 : BitVec 3) (crm : BitVec 4) :
    fld (encCop cond opc1 l crn rd cp opc2 crm) 12 4 = rd := by
  simp [encCop, flag, bitAt_fld, fld_or, fld_put_in, fld_put_out]
@[simp] theorem encCop_fld_8_4 (cond : Cond) (opc1 : BitVec 3) (l : Bool) (crn : BitVec 4) (rd : RegNum)
    (cp : BitVec 4) (opc2 : BitVec 3) (crm : BitVec 4) :
    fld (encCop cond opc1 l crn rd cp opc2 crm) 8 4 = cp := by
  simp [encCop, flag, bitAt_fld, fld_or, fld_put_in, fld_put_out]
@[simp] theorem encCop_fld_5_3 (cond : Cond) (opc1 : BitVec 3) (l : Bool) (crn : BitVec 4) (rd : RegNum)
    (cp : BitVec 4) (opc2 : BitVec 3) (crm : BitVec 4) :
    fld (encCop cond opc1 l crn rd cp opc2 crm) 5 3 = opc2 := by
  simp [encCop, flag, bitAt_fld, fld_or, fld_put_in, fld_put_out]
@[simp] theorem encCop_fld_0_4 (cond : Cond) (opc1 : BitVec 3) (l : Bool) (crn : BitVec 4) (rd : RegNum)
    (cp : BitVec 4) (opc2 : BitVec 3) (crm : BitVec 4) :
    fld (encCop cond opc1 l crn rd cp opc2 crm) 0 4 = crm := by
  simp [encCop, flag, bitAt_fld, fld_or, fld_put_in, fld_put_out]
@[simp] theorem encCop_bit_24 (cond : Cond) (opc1 : BitVec 3) (l : Bool) (crn : BitVec 4) (rd : RegNum)
    (cp : BitVec 4) (opc2 : BitVec 3) (crm : BitVec 4) :
    bitAt (encCop cond opc1 l crn rd cp opc2 crm) 24 = false := by
  simp [encCop, flag, bitAt_fld, fld_or, fld_put_in, fld_put_out]
  decide
@[simp] theorem encCop_bit_20 (cond : Cond) (opc1 : BitVec 3) (l : Bool) (crn : BitVec 4) (rd : RegNum)
    (cp : BitVec 4) (opc2 : BitVec 3) (crm : BitVec 4) :
    bitAt (encCop cond opc1 l crn rd cp opc2 crm) 20 = l := by
  simp [encCop, flag, bitAt_fld, fld_or, fld_put_in, fld_put_out]
@[simp] theorem encCop_bit_4 (cond : Cond) (opc1 : BitVec 3) (l : Bool) (crn : BitVec 4) (rd : RegNum)
    (cp : BitVec 4) (opc2 : BitVec 3) (crm : BitVec 4) :
    bitAt (encCop cond opc1 l crn rd cp opc2 crm) 4 = true := by
  simp [encCop, flag, bitAt_fld, fld_or, fld_put_in, fld_put_out]

/-! ## encHint -/
@[simp] theorem encHint_fld_28_4 (cond : Cond) (hint : BitVec 8) :
    fld (encHint cond hint) 28 4 = cond := by
  simp [encHint, flag, bitAt_fld, fld_or, fld_put_in, fld_put_out]
@[simp] theorem encHint_fld_25_3 (cond : Cond) (hint : BitVec 8) :
    fld (encHint cond hint) 25 3 = 1#3 := by
  simp [encHint, flag, bitAt_fld, fld_or, fld_put_in, fld_put_out]
@[simp] theorem encHint_fld_23_2 (cond : Cond) (hint : BitVec 8) :
    fld (encHint cond hint) 23 2 = 2#2 := by
  simp [encHint, flag, bitAt_fld, fld_or, fld_put_in, fld_put_out]
  decide
@[simp] theorem encHint_fld_16_4 (cond : Cond) (hint : BitVec 8) :
    fld (encHint cond hint) 16 4 = 0#4 := by
  simp [encHint, flag, bitAt_fld, fld_or, fld_put_in, fld_put_out]
  decide
@[simp] theorem encHint_fld_12_4 (cond : Cond) (hint : BitVec 8) :
    fld (encHint cond hint) 12 4 = 15#4 := by
  simp [encHint, flag, bitAt_fld, fld_or, fld_put_in, fld_put_out]
  decide
@[simp] theorem encHint_fld_8_4 (cond : Cond) (hint : BitVec 8) :
    fld (encHint cond hint) 8 4 = 0#4 := by
  simp [encHint, flag, bitAt_fld, fld_or, fld_put_in, fld_put_out]
  decide
@[simp] theorem encHint_fld_0_8 (cond : Cond) (hint : BitVec 8) :
    fld (encHint cond hint) 0 8 = hint := by
  simp [encHint, flag, bitAt_fld, fld_or, fld_put_in, fld_put_out]
@[simp] theorem encHint_bit_20 (cond : Cond) (hint : BitVec 8) :
    bitAt (encHint cond hint) 20 = false := by
  simp [encHint, flag, bitAt_fld, fld_or, fld_put_in, fld_put_out]
  decide
@[simp] theorem encHint_bit_21 (cond : Cond) (hint : BitVec 8) :
    bitAt (encHint cond hint) 21 = true := by
  simp [encHint, flag, bitAt_fld, fld_or, fld_put_in, fld_put_out]
  decide
@[simp] theorem encHint_bit_22 (cond : Cond) (hint : BitVec 8) :
    bitAt (encHint cond hint) 22 = false := by
  simp [encHint, flag, bitAt_fld, fld_or, fld_put_in, fld_put_out]
  decide

/-! ## encDpImm -/
@[simp] theorem encDpImm_fld_28_4 (cond : Cond) (op : BitVec 4) (s : Bool) (rn rd : RegNum) (rot : BitVec 4)
    (imm : BitVec 8) :
    fld (encDpImm cond op s rn rd rot imm) 28 4 = cond := by
  simp [encDpImm, flag, bitAt_fld, fld_or, fld_put_in, fld_put_out]
@[simp] theorem encDpImm_fld_25_3 (cond : Cond) (op : BitVec 4) (s : Bool) (rn rd : RegNum) (rot : BitVec 4)
    (imm : BitVec 8) :
    fld (encDpImm cond op s rn rd rot imm) 25 3 = 1#3 := by
  simp [encDpImm, flag, bitAt_fld, fld_or, fld_put_in, fld_put_out]
@[simp] theorem encDpImm_fld_23_2 (cond : Cond) (op : BitVec 4) (s : Bool) (rn rd : RegNum) (rot : BitVec 4)
    (imm : BitVec 8) :
    fld (encDpImm cond op s rn rd rot imm) 23 2 = fld op 2 2 := by
  simp [encDpImm, flag, bitAt_fld, fld_or, fld_put_in, fld_put_out]
@[simp] theorem encDpImm_fld_21_4 (cond : Cond) (op : BitVec 4) (s : Bool) (rn rd : RegNum) (rot : BitVec 4)
    (imm : BitVec 8) :
    fld (encDpImm cond op s rn rd rot imm) 21 4 = op := by
  simp [encDpImm, flag, bitAt_fld, fld_or, fld_put_in, fld_put_out]
@[simp] theorem encDpImm_fld_16_4 (cond : Cond) (op : BitVec 4) (s : Bool) (rn rd : RegNum) (rot : BitVec 4)
    (imm : BitVec 8) :
    fld (encDpImm cond op s rn rd rot imm) 16 4 = rn := by
  simp [encDpImm, flag, bitAt_fld, fld_or, fld_put_in, fld_put_out]
@[simp] theorem encDpImm_fld_12_4 (cond : Cond) (op : BitVec 4) (s : Bool) (rn rd : RegNum) (rot : BitVec 4)
    (imm : BitVec 8) :
    fld (encDpImm cond op s rn rd rot imm) 12 4 = rd := by
  simp [encDpImm, flag, bitAt_fld, fld_or, fld_put_in, fld_put_out]
@[simp] theorem encDpImm_fld_8_4 (cond : Cond) (op : BitVec 4) (s : Bool) (rn rd : RegNum) (rot : BitVec 4)
    (imm : BitVec 8) :
    fld (encDpImm cond op s rn rd rot imm) 8 4 = rot := by
  simp [encDpImm, flag, bitAt_fld, fld_or, fld_put_in, fld_put_out]
@[simp] theorem encDpImm_fld_0_8 (cond : Cond) (op : BitVec 4) (s : Bool) (rn rd : RegNum) (rot : BitVec 4)
    (imm : BitVec 8) :
    fld (encDpImm cond op s rn rd rot imm) 0 8 = imm := by
  simp [encDpImm, flag, bitAt_fld, fld_or, fld_put_in, fld_put_out]
@[simp] theorem encDpImm_bit_20 (cond : Cond) (op : BitVec 4) (s : Bool) (rn rd : RegNum) (rot : BitVec 4)
    (imm : BitVec 8) :
    bitAt (encDpImm cond op s rn rd rot imm) 20 = s := by
  simp [encDpImm, flag, bitAt_fld, fld_or, fld_put_in, fld_put_out]
@[simp] theorem encDpImm_bit_21 (cond : Cond) (op : BitVec 4) (s : Bool) (rn rd : RegNum) (rot : BitVec 4)
    (imm : BitVec 8) :
    bitAt (encDpImm cond op s rn rd rot imm) 21 = bitAt op 0 := by
  simp [encDpImm, flag, bitAt_fld, fld_or, fld_put_in, fld_put_out]
@[simp] theorem encDpImm_bit_22 (cond : Cond) (op : BitVec 4) (s : Bool) (rn rd : RegNum) (rot : BitVec 4)
    (imm : BitVec 8) :
    bitAt (encDpImm cond op s rn rd rot imm) 22 = bitAt op 1 := by
  simp [encDpImm, flag, bitAt_fld, fld_or, fld_put_in, fld_put_out]

/-! ## encDpShiftImm -/
@[simp] theorem encDpShiftImm_fld_28_4 (cond : Cond) (op : BitVec 4) (s : Bool) (rn rd : RegNum) (amount : BitVec 5)
    (ty : BitVec 2) (rm : RegNum) :
    fld (encDpShiftImm cond op s rn rd amount ty rm) 28 4 = cond := by
  simp [encDpShiftImm, flag, bitAt_fld, fld_or, fld_put_in, fld_put_out]
@[simp] theorem encDpShiftImm_fld_25_3 (cond : Cond) (op : BitVec 4) (s : Bool) (rn rd : RegNum) (amount : BitVec 5)
    (ty : BitVec 2) (rm : RegNum) :
    fld (encDpShiftImm cond op s rn rd amount ty rm) 25 3 = 0#3 := by
  simp [encDpShiftImm, flag, bitAt_fld, fld_or, fld_put_in, fld_put_out]
@[simp] theorem encDpShiftImm_fld_23_2 (cond : Cond) (op : BitVec 4) (s : Bool) (rn rd : RegNum) (amount : BitVec 5)
    (ty : BitVec 2) (rm : RegNum) :
    fld (encDpShiftImm cond op s rn rd amount ty rm) 23 2 = fld op 2 2 := by
  simp [encDpShiftImm, flag, bitAt_fld, fld_or, fld_put_in, fld_put_out]
@[simp] theorem encDpShiftImm_fld_21_4 (cond : Cond) (op : BitVec 4) (s : Bool) (rn rd : RegNum) (amount : BitVec 5)
    (ty : BitVec 2) (rm : RegNum) :
    fld (encDpShiftImm cond op s rn rd amount ty rm) 21 4 = op := by
  simp [encDpShiftImm, flag, bitAt_fld, fld_or, fld_put_in, fld_put_out]
@[simp] theorem encDpShiftImm_fld_16_4 (cond : Cond) (op : BitVec 4) (s : Bool) (rn rd : RegNum) (amount : BitVec 5)
    (ty : BitVec 2) (rm : RegNum) :
    fld (encDpShiftImm cond op s rn rd amount ty rm) 16 4 = rn := by
  simp [encDpShiftImm, flag, bitAt_fld, fld_or, fld_put_in, fld_put_out]
@[simp] theorem encDpShiftImm_fld_12_4 (cond : Cond) (op : BitVec 4) (s : Bool) (rn rd : RegNum) (amount : BitVec 5)
    (ty : BitVec 2) (rm : RegNum) :
    fld (encDpShiftImm cond op s rn rd amount ty rm) 12 4 = rd := by
  simp [encDpShiftImm, flag, bitAt_fld, fld_or, fld_put_in, fld_put_out]
@[simp] theorem encDpShiftImm_fld_7_5 (cond : Cond) (op : BitVec 4) (s : Bool) (rn rd : RegNum) (amount : BitVec 5)
    (ty : BitVec 2) (rm : RegNum) :
    fld (encDpShiftImm cond op s rn rd amount ty rm) 7 5 = amount := by
  simp [encDpShiftImm, flag, bitAt_fld, fld_or, fld_put_in, fld_put_out]
@[simp] theorem encDpShiftImm_fld_5_2 (cond : Cond) (op : BitVec 4) (s : Bool) (rn rd : RegNum) (amount : BitVec 5)
    (ty : BitVec 2) (rm : RegNum) :
    fld (encDpShiftImm cond op s rn rd amount ty rm) 5 2 = ty := by
  simp [encDpShiftImm, flag, bitAt_fld, fld_or, fld_put_in, fld_put_out]
@[simp] theorem encDpShiftImm_fld_0_4 (cond : Cond) (op : BitVec 4) (s : Bool) (rn rd : RegNum) (amount : BitVec 5)
    (ty : BitVec 2) (rm : RegNum) :
    fld (encDpShiftImm cond op s rn rd amount ty rm) 0 4 = rm := by
  simp [encDpShiftImm, flag, bitAt_fld, fld_or, fld_put_in, fld_put_out]
@[simp] theorem encDpShiftImm_bit_20 (cond : Cond) (op : BitVec 4) (s : Bool) (rn rd : RegNum) (amount : BitVec 5)
    (ty : BitVec 2) (rm : RegNum) :
    bitAt (encDpShiftImm cond op s rn rd amount ty rm) 20 = s := by
  simp [encDpShiftImm, flag, bitAt_fld, fld_or, fld_put_in, fld_put_out]
@[simp] theorem encDpShiftImm_bit_4 (cond : Cond) (op : BitVec 4) (s : Bool) (rn rd : RegNum) (amount : BitVec 5)
    (ty : BitVec 2) (rm : RegNum) :
    bitAt (encDpShiftImm cond op s rn rd amount ty rm) 4 = false := by
  simp [encDpShiftImm, flag, bitAt_fld, fld_or, fld_put_in, fld_put_out]

/-! ## encDpShiftReg -/
@[simp] theorem encDpShiftReg_fld_28_4 (cond : Cond) (op : BitVec 4) (s : Bool) (rn rd rs : RegNum) (ty : BitVec 2)
    (rm : RegNum) :
    fld (encDpShiftReg cond op s rn rd rs ty rm) 28 4 = cond := by
  simp [encDpShiftReg, flag, bitAt_fld, fld_or, fld_put_in, fld_put_out]
@[simp] theorem encDpShiftReg_fld_25_3 (cond : Cond) (op : BitVec 4) (s : Bool) (rn rd rs : RegNum) (ty : BitVec 2)
    (rm : RegNum) :
    fld (encDpShiftReg cond op s rn rd rs ty rm) 25 3 = 0#3 := by
  simp [encDpShiftReg, flag, bitAt_fld, fld_or, fld_put_in, fld_put_out]
@[simp] theorem encDpShiftReg_fld_23_2 (cond : Cond) (op : BitVec 4) (s : Bool) (rn rd rs : RegNum) (ty : BitVec 2)
    (rm : RegNum) :
    fld (encDpShiftReg cond op s rn rd rs ty rm) 23 2 = fld op 2 2 := by
  simp [encDpShiftReg, flag, bitAt_fld, fld_or, fld_put_in, fld_put_out]
@[simp] theorem encDpShiftReg_fld_21_4 (cond : Cond) (op : BitVec 4) (s : Bool) (rn rd rs : RegNum) (ty : BitVec 2)
    (rm : RegNum) :
    fld (encDpShiftReg cond op s rn rd rs ty rm) 21 4 = op := by
  simp [encDpShiftReg, flag, bitAt_fld, fld_or, fld_put_in, fld_put_out]
@[simp] theorem encDpShiftReg_fld_16_4 (cond : Cond) (op : BitVec 4) (s : Bool) (rn rd rs : RegNum) (ty : BitVec 2)
    (rm : RegNum) :
    fld (encDpShiftReg cond op s rn rd rs ty rm) 16 4 = rn := by
  simp [encDpShiftReg, flag, bitAt_fld, fld_or, fld_put_in, fld_put_out]
@[simp] theorem encDpShiftReg_fld_12_4 (cond : Cond) (op : BitVec 4) (s : Bool) (rn rd rs : RegNum) (ty : BitVec 2)
    (rm : RegNum) :
    fld (encDpShiftReg cond op s rn rd rs ty rm) 12 4 = rd := by
  simp [encDpShiftReg, flag, bitAt_fld, fld_or, fld_put_in, fld_put_out]
@[simp] theorem encDpShiftReg_fld_8_4 (cond : Cond) (op : BitVec 4) (s : Bool) (rn rd rs : RegNum) (ty : BitVec 2)
    (rm : RegNum) :
    fld (encDpShiftReg cond op s rn rd rs ty rm) 8 4 = rs := by
  simp [encDpShiftReg, flag, bitAt_fld, fld_or, fld_put_in, fld_put_out]
@[simp] theorem encDpShiftReg_fld_5_2 (cond : Cond) (op : BitVec 4) (s : Bool) (rn rd rs : RegNum) (ty : BitVec 2)
    (rm : RegNum) :
    fld (encDpShiftReg cond op s rn rd rs ty rm) 5 2 = ty := by
  simp [encDpShiftReg, flag, bitAt_fld, fld_or, fld_put_in, fld_put_out]
@[simp] theorem encDpShiftReg_fld_0_4 (cond : Cond) (op : BitVec 4) (s : Bool) (rn rd rs : RegNum) (ty : BitVec 2)
    (rm : RegNum) :
    fld (encDpShiftReg cond op s rn rd rs ty rm) 0 4 = rm := by
  simp [encDpShiftReg, flag, bitAt_fld, fld_or, fld_put_in, fld_put_out]
@[simp] theorem encDpShiftReg_bit_20 (cond : Cond) (op : BitVec 4) (s : Bool) (rn rd rs : RegNum) (ty : BitVec 2)
    (rm : RegNum) :
    bitAt (encDpShiftReg cond op s rn rd rs ty rm) 20 = s := by
  simp [encDpShiftReg, flag, bitAt_fld, fld_or, fld_put_in, fld_put_out]
@[simp] theorem encDpShiftReg_bit_4 (cond : Cond) (op : BitVec 4) (s : Bool) (rn rd rs : RegNum) (ty : BitVec 2)
    (rm : RegNum) :
    bitAt (encDpShiftReg cond op s rn rd rs ty rm) 4 = true := by
  simp [encDpShiftReg, flag, bitAt_fld, fld_or, fld_put_in, fld_put_out]
@[simp] theorem encDpShiftReg_bit_7 (cond : Cond) (op : BitVec 4) (s : Bool) (rn rd rs : RegNum) (ty : BitVec 2)
    (rm : RegNum) :
    bitAt (encDpShiftReg cond op s rn rd rs ty rm) 7 = false := by
  simp [encDpShiftReg, flag, bitAt_fld, fld_or, fld_put_in, fld_put_out]

/-! ## encMisc -/
@[simp] theorem encMisc_fld_28_4 (cond : Cond) (op : BitVec 5) (a b c : BitVec 4) (lo : BitVec 4) (rm : RegNum) :
    fld (encMisc cond op a b c lo rm) 28 4 = cond := by
  simp [encMisc, flag, bitAt_fld, fld_or, fld_put_in, fld_put_out]
@[simp] theorem encMisc_fld_25_3 (cond : Cond) (op : BitVec 5) (a b c : BitVec 4) (lo : BitVec 4) (rm : RegNum) :
    fld (encMisc cond op a b c lo rm) 25 3 = 0#3 := by
  simp [encMisc, flag, bitAt_fld, fld_or, fld_put_in, fld_put_out]
@[simp] theorem encMisc_fld_23_2 (cond : Cond) (op : BitVec 5) (a b c : BitVec 4) (lo : BitVec 4) (rm : RegNum) :
    fld (encMisc cond op a b c lo rm) 23 2 = fld op 3 2 := by
  simp [encMisc, flag, bitAt_fld, fld_or, fld_put_in, fld_put_out]
@[simp] theorem encMisc_fld_20_5 (cond : Cond) (op : BitVec 5) (a b c : BitVec 4) (lo : BitVec 4) (rm : RegNum) :
    fld (encMisc cond op a b c lo rm) 20 5 = op := by
  simp [encMisc, flag, bitAt_fld, fld_or, fld_put_in, fld_put_out]
@[simp] theorem encMisc_fld_21_2 (cond : Cond) (op : BitVec 5) (a b c : BitVec 4) (lo : BitVec 4) (rm : RegNum) :
    fld (encMisc cond op a b c lo rm) 21 2 = fld op 1 2 := by
  simp [encMisc, flag, bitAt_fld, fld_or, fld_put_in, fld_put_out]
@[simp] theorem encMisc_fld_16_4 (cond : Cond) (op : BitVec 5) (a b c : BitVec 4) (lo : BitVec 4) (rm : RegNum) :
    fld (encMisc cond op a b c lo rm) 16 4 = a := by
  simp [encMisc, flag, bitAt_fld, fld_or, fld_put_in, fld_put_out]
@[simp] theorem encMisc_fld_12_4 (cond : Cond) (op : BitVec 5) (a b c : BitVec 4) (lo : BitVec 4) (rm : RegNum) :
    fld (encMisc cond op a b c lo rm) 12 4 = b := by
  simp [encMisc, flag, bitAt_fld, fld_or, fld_put_in, fld_put_out]
@[simp] theorem encMisc_fld_8_4 (cond : Cond) (op : BitVec 5) (a b c : BitVec 4) (lo : BitVec 4) (rm : RegNum) :
    fld (encMisc cond op a b c lo rm) 8 4 = c := by
  simp [encMisc, flag, bitAt_fld, fld_or, fld_put_in, fld_put_out]
@[simp] theorem encMisc_fld_8_12 (cond : Cond) (op : BitVec 5) (a b c : BitVec 4) (lo : BitVec 4) (rm : RegNum) :
    fld (encMisc cond op a b c lo rm) 8 12 = a ++ b ++ c := by
  apply BitVec.eq_of_getLsbD_eq
  intro i hi
  interval_cases i <;>
    simp only [encMisc, fld, put, flag, BitVec.getLsbD_extractLsb', BitVec.getLsbD_or, BitVec.getLsbD_shiftLeft,
      BitVec.getLsbD_setWidth,
      BitVec.getLsbD_append, BitVec.getLsbD_ofBool] <;> simp
@[simp] theorem encMisc_fld_0_12 (cond : Cond) (op : BitVec 5) (a b c : BitVec 4) (lo : BitVec 4) (rm : RegNum) :
    fld (encMisc cond op a b c lo rm) 0 12 = c ++ lo ++ rm := by
  apply BitVec.eq_of_getLsbD_eq
  intro i hi
  interval_cases i <;>
    simp only [encMisc, fld, put, flag, BitVec.getLsbD_extractLsb', BitVec.getLsbD_or, BitVec.getLsbD_shiftLeft,
      BitVec.getLsbD_setWidth,
      BitVec.getLsbD_append, BitVec.getLsbD_ofBool] <;> simp
@[simp] theorem encMisc_fld_4_4 (cond : Cond) (op : BitVec 5) (a b c : BitVec 4) (lo : BitVec 4) (rm : RegNum) :
    fld (encMisc cond op a b c lo rm) 4 4 = lo := by
  simp [encMisc, flag, bitAt_fld, fld_or, fld_put_in, fld_put_out]
@[simp] theorem encMisc_fld_5_2 (cond : Cond) (op : BitVec 5) (a b c : BitVec 4) (lo : BitVec 4) (rm : RegNum) :
    fld (encMisc cond op a b c lo rm) 5 2 = fld lo 1 2 := by
  simp [encMisc, flag, bitAt_fld, fld_or, fld_put_in, fld_put_out]
@[simp] theorem encMisc_fld_0_4 (cond : Cond) (op : BitVec 5) (a b c : BitVec 4) (lo : BitVec 4) (rm : RegNum) :
    fld (encMisc cond op a b c lo rm) 0 4 = rm := by
  simp [encMisc, flag, bitAt_fld, fld_or, fld_put_in, fld_put_out]
@[simp] theorem encMisc_bit_20 (cond : Cond) (op : BitVec 5) (a b c : BitVec 4) (lo : BitVec 4) (rm : RegNum) :
    bitAt (encMisc cond op a b c lo rm) 20 = bitAt op 0 := by
  simp [encMisc, flag, bitAt_fld, fld_or, fld_put_in, fld_put_out]
@[simp] theorem encMisc_bit_21 (cond : Cond) (op : BitVec 5) (a b c : BitVec 4) (lo : BitVec 4) (rm : RegNum) :
    bitAt (encMisc cond op a b c lo rm) 21 = bitAt op 1 := by
  simp [encMisc, flag, bitAt_fld, fld_or, fld_put_in, fld_put_out]
@[simp] theorem encMisc_bit_22 (cond : Cond) (op : BitVec 5) (a b c : BitVec 4) (lo : BitVec 4) (rm : RegNum) :
    bitAt (encMisc cond op a b c lo rm) 22 = bitAt op 2 := by
  simp [encMisc, flag, bitAt_fld, fld_or, fld_put_in, fld_put_out]
@[simp] theorem encMisc_bit_4 (cond : Cond) (op : BitVec 5) (a b c : BitVec 4) (lo : BitVec 4) (rm : RegNum) :
    bitAt (encMisc cond op a b c lo rm) 4 = bitAt lo 0 := by
  simp [encMisc, flag, bitAt_fld, fld_or, fld_put_in, fld_put_out]
@[simp] theorem encMisc_bit_7 (cond : Cond) (op : BitVec 5) (a b c : BitVec 4) (lo : BitVec 4) (rm : RegNum) :
    bitAt (encMisc cond op a b c lo rm) 7 = bitAt lo 3 := by
  simp [encMisc, flag, bitAt_fld, fld_or, fld_put_in, fld_put_out]

/-! ## encLsImm -/
@[simp] theorem encLsImm_fld_28_4 (cond : Cond) (p u b w l : Bool) (rn rd : RegNum) (off : BitVec 12) :
    fld (encLsImm cond p u b w l rn rd off) 28 4 = cond := by
  simp [encLsImm, flag, bitAt_fld, fld_or, fld_put_in, fld_put_out]
@[simp] theorem encLsImm_fld_25_3 (cond : Cond) (p u b w l : Bool) (rn rd : RegNum) (off : BitVec 12) :
    fld (encLsImm cond p u b w l rn rd off) 25 3 = 2#3 := by
  simp [encLsImm, flag, bitAt_fld, fld_or, fld_put_in, fld_put_out]
@[simp] theorem encLsImm_fld_16_4 (cond : Cond) (p u b w l : Bool) (rn rd : RegNum) (off : BitVec 12) :
    fld (encLsImm cond p u b w l rn rd off) 16 4 = rn := by
  simp [encLsImm, flag, bitAt_fld, fld_or, fld_put_in, fld_put_out]
@[simp] theorem encLsImm_fld_12_4 (cond : Cond) (p u b w l : Bool) (rn rd : RegNum) (off : BitVec 12) :
    fld (encLsImm cond p u b w l rn rd off) 12 4 = rd := by
  simp [encLsImm, flag, bitAt_fld, fld_or, fld_put_in, fld_put_out]
@[simp] theorem encLsImm_fld_0_12 (cond : Cond) (p u b w l : Bool) (rn rd : RegNum) (off : BitVec 12) :
    fld (encLsImm cond p u b w l rn rd off) 0 12 = off := by
  simp [encLsImm, flag, bitAt_fld, fld_or, fld_put_in, fld_put_out]
@[simp] theorem encLsImm_bit_24 (cond : Cond) (p u b w l : Bool) (rn rd : RegNum) (off : BitVec 12) :
    bitAt (encLsImm cond p u b w l rn rd off) 24 = p := by
  simp [encLsImm, flag, bitAt_fld, fld_or, fld_put_in, fld_put_out]
@[simp] theorem encLsImm_bit_23 (cond : Cond) (p u b w l : Bool) (rn rd : RegNum) (off : BitVec 12) :
    bitAt (encLsImm cond p u b w l rn rd off) 23 = u := by
  simp [encLsImm, flag, bitAt_fld, fld_or, fld_put_in, fld_put_out]
@[simp] theorem encLsImm_bit_22 (cond : Cond) (p u b w l : Bool) (rn rd : RegNum) (off : BitVec 12) :
    bitAt (encLsImm cond p u b w l rn rd off) 22 = b := by
  simp [encLsImm, flag, bitAt_fld, fld_or, fld_put_in, fld_put_out]
@[simp] theorem encLsImm_bit_21 (cond : Cond) (p u b w l : Bool) (rn rd : RegNum) (off : BitVec 12) :
    bitAt (encLsImm cond p u b w l rn rd off) 21 = w := by
  simp [encLsImm, flag, bitAt_fld, fld_or, fld_put_in, fld_put_out]
@[simp] theorem encLsImm_bit_20 (cond : Cond) (p u b w l : Bool) (rn rd : RegNum) (off : BitVec 12) :
    bitAt (encLsImm cond p u b w l rn rd off) 20 = l := by
  simp [encLsImm, flag, bitAt_fld, fld_or, fld_put_in, fld_put_out]

/-! ## encLsReg -/
@[simp] theorem encLsReg_fld_28_4 (cond : Cond) (p u b w l : Bool) (rn rd : RegNum) (amount : BitVec 5)
    (ty : BitVec 2) (rm : RegNum) :
    fld (encLsReg cond p u b w l rn rd amount ty rm) 28 4 = cond := by
  simp [encLsReg, flag, bitAt_fld, fld_or, fld_put_in, fld_put_out]
@[simp] theorem encLsReg_fld_25_3 (cond : Cond) (p u b w l : Bool) (rn rd : RegNum) (amount : BitVec 5)
    (ty : BitVec 2) (rm : RegNum) :
    fld (encLsReg cond p u b w l rn rd amount ty rm) 25 3 = 3#3 := by
  simp [encLsReg, flag, bitAt_fld, fld_or, fld_put_in, fld_put_out]
@[simp] theorem encLsReg_fld_16_4 (cond : Cond) (p u b w l : Bool) (rn rd : RegNum) (amount : BitVec 5)
    (ty : BitVec 2) (rm : RegNum) :
    fld (encLsReg cond p u b w l rn rd amount ty rm) 16 4 = rn := by
  simp [encLsReg, flag, bitAt_fld, fld_or, fld_put_in, fld_put_out]
@[simp] theorem encLsReg_fld_12_4 (cond : Cond) (p u b w l : Bool) (rn rd : RegNum) (amount : BitVec 5)
    (ty : BitVec 2) (rm : RegNum) :
    fld (encLsReg cond p u b w l rn rd amount ty rm) 12 4 = rd := by
  simp [encLsReg, flag, bitAt_fld, fld_or, fld_put_in, fld_put_out]
@[simp] theorem encLsReg_fld_7_5 (cond : Cond) (p u b w l : Bool) (rn rd : RegNum) (amount : BitVec 5)
    (ty : BitVec 2) (rm : RegNum) :
    fld (encLsReg cond p u b w l rn rd amount ty rm) 7 5 = amount := by
  simp [encLsReg, flag, bitAt_fld, fld_or, fld_put_in, fld_put_out]
@[simp] theorem encLsReg_fld_5_2 (cond : Cond) (p u b w l : Bool) (rn rd : RegNum) (amount : BitVec 5)
    (ty : BitVec 2) (rm : RegNum) :
    fld (encLsReg cond p u b w l rn rd amount ty rm) 5 2 = ty := by
  simp [encLsReg, flag, bitAt_fld, fld_or, fld_put_in, fld_put_out]
@[simp] theorem encLsReg_fld_0_4 (cond : Cond) (p u b w l : Bool) (rn rd : RegNum) (amount : BitVec 5)
    (ty : BitVec 2) (rm : RegNum) :
    fld (encLsReg cond p u b w l rn rd amount ty rm) 0 4 = rm := by
  simp [encLsReg, flag, bitAt_fld, fld_or, fld_put_in, fld_put_out]
@[simp] theorem encLsReg_bit_24 (cond : Cond) (p u b w l : Bool) (rn rd : RegNum) (amount : BitVec 5)
    (ty : BitVec 2) (rm : RegNum) :
    bitAt (encLsReg cond p u b w l rn rd amount ty rm) 24 = p := by
  simp [encLsReg, flag, bitAt_fld, fld_or, fld_put_in, fld_put_out]
@[simp] theorem encLsReg_bit_23 (cond : Cond) (p u b w l : Bool) (rn rd : RegNum) (amount : BitVec 5)
    (ty : BitVec 2) (rm : RegNum) :
    bitAt (encLsReg cond p u b w l rn rd amount ty rm) 23 = u := by
  simp [encLsReg, flag, bitAt_fld, fld_or, fld_put_in, fld_put_out]
@[simp] theorem encLsReg_bit_22 (cond : Cond) (p u b w l : Bool) (rn rd : RegNum) (amount : BitVec 5)
    (ty : BitVec 2) (rm : RegNum) :
    bitAt (encLsReg cond p u b w l rn rd amount ty rm) 22 = b := by
  simp [encLsReg, flag, bitAt_fld, fld_or, fld_put_in, fld_put_out]
@[simp] theorem encLsReg_bit_21 (cond : Cond) (p u b w l : Bool) (rn rd : RegNum) (amount : BitVec 5)
    (ty : BitVec 2) (rm : RegNum) :
    bitAt (encLsReg cond p u b w l rn rd amount ty rm) 21 = w := by
  simp [encLsReg, flag, bitAt_fld, fld_or, fld_put_in, fld_put_out]
@[simp] theorem encLsReg_bit_20 (cond : Cond) (p u b w l : Bool) (rn rd : RegNum) (amount : BitVec 5)
    (ty : BitVec 2) (rm : RegNum) :
    bitAt (encLsReg cond p u b w l rn rd amount ty rm) 20 = l := by
  simp [encLsReg, flag, bitAt_fld, fld_or, fld_put_in, fld_put_out]
@[simp] theorem encLsReg_bit_4 (cond : Cond) (p u b w l : Bool) (rn rd : RegNum) (amount : BitVec 5) (ty : BitVec 2)
    (rm : RegNum) :
    bitAt (encLsReg cond p u b w l rn rd amount ty rm) 4 = false := by
  simp [encLsReg, flag, bitAt_fld, fld_or, fld_put_in, fld_put_out]

/-! ## encLsExtra -/
@[simp] theorem encLsExtra_fld_28_4 (cond : Cond) (p u i w l : Bool) (rn rd : RegNum) (hi : BitVec 4)
    (lo : BitVec 4) (rm : BitVec 4) :
    fld (encLsExtra cond p u i w l rn rd hi lo rm) 28 4 = cond := by
  simp [encLsExtra, flag, bitAt_fld, fld_or, fld_put_in, fld_put_out]
@[simp] theorem encLsExtra_fld_25_3 (cond : Cond) (p u i w l : Bool) (rn rd : RegNum) (hi : BitVec 4)
    (lo : BitVec 4) (rm : BitVec 4) :
    fld (encLsExtra cond p u i w l rn rd hi lo rm) 25 3 = 0#3 := by
  simp [encLsExtra, flag, bitAt_fld, fld_or, fld_put_in, fld_put_out]
@[simp] theorem encLsExtra_fld_16_4 (cond : Cond) (p u i w l : Bool) (rn rd : RegNum) (hi : BitVec 4)
    (lo : BitVec 4) (rm : BitVec 4) :
    fld (encLsExtra cond p u i w l rn rd hi lo rm) 16 4 = rn := by
  simp [encLsExtra, flag, bitAt_fld, fld_or, fld_put_in, fld_put_out]
@[simp] theorem encLsExtra_fld_12_4 (cond : Cond) (p u i w l : Bool) (rn rd : RegNum) (hi : BitVec 4)
    (lo : BitVec 4) (rm : BitVec 4) :
    fld (encLsExtra cond p u i w l rn rd hi lo rm) 12 4 = rd := by
  simp [encLsExtra, flag, bitAt_fld, fld_or, fld_put_in, fld_put_out]
@[simp] theorem encLsExtra_fld_8_4 (cond : Cond) (p u i w l : Bool) (rn rd : RegNum) (hi : BitVec 4) (lo : BitVec 4)
    (rm : BitVec 4) :
    fld (encLsExtra cond p u i w l rn rd hi lo rm) 8 4 = hi := by
  simp [encLsExtra, flag, bitAt_fld, fld_or, fld_put_in, fld_put_out]
@[simp] theorem encLsExtra_fld_4_4 (cond : Cond) (p u i w l : Bool) (rn rd : RegNum) (hi : BitVec 4) (lo : BitVec 4)
    (rm : BitVec 4) :
    fld (encLsExtra cond p u i w l rn rd hi lo rm) 4 4 = lo := by
  simp [encLsExtra, flag, bitAt_fld, fld_or, fld_put_in, fld_put_out]
@[simp] theorem encLsExtra_fld_5_2 (cond : Cond) (p u i w l : Bool) (rn rd : RegNum) (hi : BitVec 4) (lo : BitVec 4)
    (rm : BitVec 4) :
    fld (encLsExtra cond p u i w l rn rd hi lo rm) 5 2 = fld lo 1 2 := by
  simp [encLsExtra, flag, bitAt_fld, fld_or, fld_put_in, fld_put_out]
@[simp] theorem encLsExtra_fld_0_4 (cond : Cond) (p u i w l : Bool) (rn rd : RegNum) (hi : BitVec 4) (lo : BitVec 4)
    (rm : BitVec 4) :
    fld (encLsExtra cond p u i w l rn rd hi lo rm) 0 4 = rm := by
  simp [encLsExtra, flag, bitAt_fld, fld_or, fld_put_in, fld_put_out]
@[simp] theorem encLsExtra_bit_24 (cond : Cond) (p u i w l : Bool) (rn rd : RegNum) (hi : BitVec 4) (lo : BitVec 4)
    (rm : BitVec 4) :
    bitAt (encLsExtra cond p u i w l rn rd hi lo rm) 24 = p := by
  simp [encLsExtra, flag, bitAt_fld, fld_or, fld_put_in, fld_put_out]
@[simp] theorem encLsExtra_bit_23 (cond : Cond) (p u i w l : Bool) (rn rd : RegNum) (hi : BitVec 4) (lo : BitVec 4)
    (rm : BitVec 4) :
    bitAt (encLsExtra cond p u i w l rn rd hi lo rm) 23 = u := by
  simp [encLsExtra, flag, bitAt_fld, fld_or, fld_put_in, fld_put_out]
@[simp] theorem encLsExtra_bit_22 (cond : Cond) (p u i w l : Bool) (rn rd : RegNum) (hi : BitVec 4) (lo : BitVec 4)
    (rm : BitVec 4) :
    bitAt (encLsExtra cond p u i w l rn rd hi lo rm) 22 = i := by
  simp [encLsExtra, flag, bitAt_fld, fld_or, fld_put_in, fld_put_out]
@[simp] theorem encLsExtra_bit_21 (cond : Cond) (p u i w l : Bool) (rn rd : RegNum) (hi : BitVec 4) (lo : BitVec 4)
    (rm : BitVec 4) :
    bitAt (encLsExtra cond p u i w l rn rd hi lo rm) 21 = w := by
  simp [encLsExtra, flag, bitAt_fld, fld_or, fld_put_in, fld_put_out]
@[simp] theorem encLsExtra_bit_20 (cond : Cond) (p u i w l : Bool) (rn rd : RegNum) (hi : BitVec 4) (lo : BitVec 4)
    (rm : BitVec 4) :
    bitAt (encLsExtra cond p u i w l rn rd hi lo rm) 20 = l := by
  simp [encLsExtra, flag, bitAt_fld, fld_or, fld_put_in, fld_put_out]
@[simp] theorem encLsExtra_bit_4 (cond : Cond) (p u i w l : Bool) (rn rd : RegNum) (hi : BitVec 4) (lo : BitVec 4)
    (rm : BitVec 4) :
    bitAt (encLsExtra cond p u i w l rn rd hi lo rm) 4 = bitAt lo 0 := by
  simp [encLsExtra, flag, bitAt_fld, fld_or, fld_put_in, fld_put_out]
@[simp] theorem encLsExtra_bit_7 (cond : Cond) (p u i w l : Bool) (rn rd : RegNum) (hi : BitVec 4) (lo : BitVec 4)
    (rm : BitVec 4) :
    bitAt (encLsExtra cond p u i w l rn rd hi lo rm) 7 = bitAt lo 3 := by
  simp [encLsExtra, flag, bitAt_fld, fld_or, fld_put_in, fld_put_out]

/-! ## encBlock -/
@[simp] theorem encBlock_fld_28_4 (cond : Cond) (p u s w l : Bool) (rn : RegNum) (list : BitVec 16) :
    fld (encBlock cond p u s w l rn list) 28 4 = cond := by
  simp [encBlock, flag, bitAt_fld, fld_or, fld_put_in, fld_put_out]
@[simp] theorem encBlock_fld_25_3 (cond : Cond) (p u s w l : Bool) (rn : RegNum) (list : BitVec 16) :
    fld (encBlock cond p u s w l rn list) 25 3 = 4#3 := by
  simp [encBlock, flag, bitAt_fld, fld_or, fld_put_in, fld_put_out]
@[simp] theorem encBlock_fld_16_4 (cond : Cond) (p u s w l : Bool) (rn : RegNum) (list : BitVec 16) :
    fld (encBlock cond p u s w l rn list) 16 4 = rn := by
  simp [encBlock, flag, bitAt_fld, fld_or, fld_put_in, fld_put_out]
@[simp] theorem encBlock_fld_0_16 (cond : Cond) (p u s w l : Bool) (rn : RegNum) (list : BitVec 16) :
    fld (encBlock cond p u s w l rn list) 0 16 = list := by
  simp [encBlock, flag, bitAt_fld, fld_or, fld_put_in, fld_put_out]
@[simp] theorem encBlock_fld_5_11 (cond : Cond) (p u s w l : Bool) (rn : RegNum) (list : BitVec 16) :
    fld (encBlock cond p u s w l rn list) 5 11 = fld list 5 11 := by
  simp [encBlock, flag, bitAt_fld, fld_or, fld_put_in, fld_put_out]
@[simp] theorem encBlock_fld_0_5 (cond : Cond) (p u s w l : Bool) (rn : RegNum) (list : BitVec 16) :
    fld (encBlock cond p u s w l rn list) 0 5 = fld list 0 5 := by
  simp [encBlock, flag, bitAt_fld, fld_or, fld_put_in, fld_put_out]
@[simp] theorem encBlock_bit_24 (cond : Cond) (p u s w l : Bool) (rn : RegNum) (list : BitVec 16) :
    bitAt (encBlock cond p u s w l rn list) 24 = p := by
  simp [encBlock, flag, bitAt_fld, fld_or, fld_put_in, fld_put_out]
@[simp] theorem encBlock_bit_23 (cond : Cond) (p u s w l : Bool) (rn : RegNum) (list : BitVec 16) :
    bitAt (encBlock cond p u s w l rn list) 23 = u := by
  simp [encBlock, flag, bitAt_fld, fld_or, fld_put_in, fld_put_out]
@[simp] theorem encBlock_bit_22 (cond : Cond) (p u s w l : Bool) (rn : RegNum) (list : BitVec 16) :
    bitAt (encBlock cond p u s w l rn list) 22 = s := by
  simp [encBlock, flag, bitAt_fld, fld_or, fld_put_in, fld_put_out]
@[simp] theorem encBlock_bit_21 (cond : Cond) (p u s w l : Bool) (rn : RegNum) (list : BitVec 16) :
    bitAt (encBlock cond p u s w l rn list) 21 = w := by
  simp [encBlock, flag, bitAt_fld, fld_or, fld_put_in, fld_put_out]
@[simp] theorem encBlock_bit_20 (cond : Cond) (p u s w l : Bool) (rn : RegNum) (list : BitVec 16) :
    bitAt (encBlock cond p u s w l rn list) 20 = l := by
  simp [encBlock, flag, bitAt_fld, fld_or, fld_put_in, fld_put_out]

/-! ## encCopMem -/
@[simp] theorem encCopMem_fld_28_4 (cond : Cond) (p u n w l : Bool) (rn : RegNum) (rd : BitVec 4) (cp : BitVec 4)
    (off : BitVec 8) :
    fld (encCopMem cond p u n w l rn rd cp off) 28 4 = cond := by
  simp [encCopMem, flag, bitAt_fld, fld_or, fld_put_in, fld_put_out]
@[simp] theorem encCopMem_fld_25_3 (cond : Cond) (p u n w l : Bool) (rn : RegNum) (rd : BitVec 4) (cp : BitVec 4)
    (off : BitVec 8) :
    fld (encCopMem cond p u n w l rn rd cp off) 25 3 = 6#3 := by
  simp [encCopMem, flag, bitAt_fld, fld_or, fld_put_in, fld_put_out]
@[simp] theorem encCopMem_fld_21_4 (cond : Cond) (p u n w l : Bool) (rn : RegNum) (rd : BitVec 4) (cp : BitVec 4)
    (off : BitVec 8) :
    fld (encCopMem cond p u n w l rn rd cp off) 21 4 = BitVec.ofBool p ++ BitVec.ofBool u ++ BitVec.ofBool n ++ BitVec.ofBool w := by
  apply BitVec.eq_of_getLsbD_eq
  intro i hi
  interval_cases i <;>
    simp only [encCopMem, fld, put, flag, BitVec.getLsbD_extractLsb', BitVec.getLsbD_or, BitVec.getLsbD_shiftLeft,
      BitVec.getLsbD_setWidth,
      BitVec.getLsbD_append, BitVec.getLsbD_ofBool] <;> simp
@[simp] theorem encCopMem_fld_16_4 (cond : Cond) (p u n w l : Bool) (rn : RegNum) (rd : BitVec 4) (cp : BitVec 4)
    (off : BitVec 8) :
    fld (encCopMem cond p u n w l rn rd cp off) 16 4 = rn := by
  simp [encCopMem, flag, bitAt_fld, fld_or, fld_put_in, fld_put_out]
@[simp] theorem encCopMem_fld_12_4 (cond : Cond) (p u n w l : Bool) (rn : RegNum) (rd : BitVec 4) (cp : BitVec 4)
    (off : BitVec 8) :
    fld (encCopMem cond p u n w l rn rd cp off) 12 4 = rd := by
  simp [encCopMem, flag, bitAt_fld, fld_or, fld_put_in, fld_put_out]
@[simp] theorem encCopMem_fld_8_4 (cond : Cond) (p u n w l : Bool) (rn : RegNum) (rd : BitVec 4) (cp : BitVec 4)
    (off : BitVec 8) :
    fld (encCopMem cond p u n w l rn rd cp off) 8 4 = cp := by
  simp [encCopMem, flag, bitAt_fld, fld_or, fld_put_in, fld_put_out]
@[simp] theorem encCopMem_fld_6_2 (cond : Cond) (p u n w l : Bool) (rn : RegNum) (rd : BitVec 4) (cp : BitVec 4)
    (off : BitVec 8) :
    fld (encCopMem cond p u n w l rn rd cp off) 6 2 = fld off 6 2 := by
  simp [encCopMem, flag, bitAt_fld, fld_or, fld_put_in, fld_put_out]
@[simp] theorem encCopMem_fld_0_8 (cond : Cond) (p u n w l : Bool) (rn : RegNum) (rd : BitVec 4) (cp : BitVec 4)
    (off : BitVec 8) :
    fld (encCopMem cond p u n w l rn rd cp off) 0 8 = off := by
  simp [encCopMem, flag, bitAt_fld, fld_or, fld_put_in, fld_put_out]
@[simp] theorem encCopMem_bit_24 (cond : Cond) (p u n w l : Bool) (rn : RegNum) (rd : BitVec 4) (cp : BitVec 4)
    (off : BitVec 8) :
    bitAt (encCopMem cond p u n w l rn rd cp off) 24 = p := by
  simp [encCopMem, flag, bitAt_fld, fld_or, fld_put_in, fld_put_out]
@[simp] theorem encCopMem_bit_23 (cond : Cond) (p u n w l : Bool) (rn : RegNum) (rd : BitVec 4) (cp : BitVec 4)
    (off : BitVec 8) :
    bitAt (encCopMem cond p u n w l rn rd cp off) 23 = u := by
  simp [encCopMem, flag, bitAt_fld, fld_or, fld_put_in, fld_put_out]
@[simp] theorem encCopMem_bit_22 (cond : Cond) (p u n w l : Bool) (rn : RegNum) (rd : BitVec 4) (cp : BitVec 4)
    (off : BitVec 8) :
    bitAt (encCopMem cond p u n w l rn rd cp off) 22 = n := by
  simp [encCopMem, flag, bitAt_fld, fld_or, fld_put_in, fld_put_out]
@[simp] theorem encCopMem_bit_21 (cond : Cond) (p u n w l : Bool) (rn : RegNum) (rd : BitVec 4) (cp : BitVec 4)
    (off : BitVec 8) :
    bitAt (encCopMem cond p u n w l rn rd cp off) 21 = w := by
  simp [encCopMem, flag, bitAt_fld, fld_or, fld_put_in, fld_put_out]
@[simp] theorem encCopMem_bit_20 (cond : Cond) (p u n w l : Bool) (rn : RegNum) (rd : BitVec 4) (cp : BitVec 4)
    (off : BitVec 8) :
    bitAt (encCopMem cond p u n w l rn rd cp off) 20 = l := by
  simp [encCopMem, flag, bitAt_fld, fld_or, fld_put_in, fld_put_out]
@[simp] theorem encCopMem_bit_4 (cond : Cond) (p u n w l : Bool) (rn : RegNum) (rd : BitVec 4) (cp : BitVec 4)
    (off : BitVec 8) :
    bitAt (encCopMem cond p u n w l rn rd cp off) 4 = bitAt off 4 := by
  simp [encCopMem, flag, bitAt_fld, fld_or, fld_put_in, fld_put_out]
@[simp] theorem encCopMem_bit_5 (cond : Cond) (p u n w l : Bool) (rn : RegNum) (rd : BitVec 4) (cp : BitVec 4)
    (off : BitVec 8) :
    bitAt (encCopMem cond p u n w l rn rd cp off) 5 = bitAt off 5 := by
  simp [encCopMem, flag, bitAt_fld, fld_or, fld_put_in, fld_put_out]

/-! ## encCopPair -/
@[simp] theorem encCopPair_fld_28_4 (cond : Cond) (l : Bool) (rn rd : RegNum) (cp : BitVec 4) (m : Bool) (fm : BitVec 4) :
    fld (encCopPair cond l rn rd cp m fm) 28 4 = cond := by
  simp [encCopPair, flag, bitAt_fld, fld_or, fld_put_in, fld_put_out]
@[simp] theorem encCopPair_fld_25_3 (cond : Cond) (l : Bool) (rn rd : RegNum) (cp : BitVec 4) (m : Bool) (fm : BitVec 4) :
    fld (encCopPair cond l rn rd cp m fm) 25 3 = 6#3 := by
  simp [encCopPair, flag, bitAt_fld, fld_or, fld_put_in, fld_put_out]
@[simp] theorem encCopPair_fld_21_4 (cond : Cond) (l : Bool) (rn rd : RegNum) (cp : BitVec 4) (m : Bool) (fm : BitVec 4) :
    fld (encCopPair cond l rn rd cp m fm) 21 4 = 2#4 := by
  simp [encCopPair, flag, bitAt_fld, fld_or, fld_put_in, fld_put_out]
@[simp] theorem encCopPair_fld_16_4 (cond : Cond) (l : Bool) (rn rd : RegNum) (cp : BitVec 4) (m : Bool) (fm : BitVec 4) :
    fld (encCopPair cond l rn rd cp m fm) 16 4 = rn := by
  simp [encCopPair, flag, bitAt_fld, fld_or, fld_put_in, fld_put_out]
@[simp] theorem encCopPair_fld_12_4 (cond : Cond) (l : Bool) (rn rd : RegNum) (cp : BitVec 4) (m : Bool) (fm : BitVec 4) :
    fld (encCopPair cond l rn rd cp m fm) 12 4 = rd := by
  simp [encCopPair, flag, bitAt_fld, fld_or, fld_put_in, fld_put_out]
@[simp] theorem encCopPair_fld_8_4 (cond : Cond) (l : Bool) (rn rd : RegNum) (cp : BitVec 4) (m : Bool) (fm : BitVec 4) :
    fld (encCopPair cond l rn rd cp m fm) 8 4 = cp := by
  simp [encCopPair, flag, bitAt_fld, fld_or, fld_put_in, fld_put_out]
@[simp] theorem encCopPair_fld_6_2 (cond : Cond) (l : Bool) (rn rd : RegNum) (cp : BitVec 4) (m : Bool) (fm : BitVec 4) :
    fld (encCopPair cond l rn rd cp m fm) 6 2 = 0#2 := by
  simp [encCopPair, flag, bitAt_fld, fld_or, fld_put_in, fld_put_out]
@[simp] theorem encCopPair_fld_0_4 (cond : Cond) (l : Bool) (rn rd : RegNum) (cp : BitVec 4) (m : Bool) (fm : BitVec 4) :
    fld (encCopPair cond l rn rd cp m fm) 0 4 = fm := by
  simp [encCopPair, flag, bitAt_fld, fld_or, fld_put_in, fld_put_out]
@[simp] theorem encCopPair_bit_20 (cond : Cond) (l : Bool) (rn rd : RegNum) (cp : BitVec 4) (m : Bool) (fm : BitVec 4) :
    bitAt (encCopPair cond l rn rd cp m fm) 20 = l := by
  simp [encCopPair, flag, bitAt_fld, fld_or, fld_put_in, fld_put_out]
@[simp] theorem encCopPair_bit_4 (cond : Cond) (l : Bool) (rn rd : RegNum) (cp : BitVec 4) (m : Bool) (fm : BitVec 4) :
    bitAt (encCopPair cond l rn rd cp m fm) 4 = true := by
  simp [encCopPair, flag, bitAt_fld, fld_or, fld_put_in, fld_put_out]
@[simp] theorem encCopPair_bit_5 (cond : Cond) (l : Bool) (rn rd : RegNum) (cp : BitVec 4) (m : Bool) (fm : BitVec 4) :
    bitAt (encCopPair cond l rn rd cp m fm) 5 = m := by
  simp [encCopPair, flag, bitAt_fld, fld_or, fld_put_in, fld_put_out]

/-! ## encVfpReg -/
@[simp] theorem encVfpReg_fld_28_4 (cond : Cond) (opc1 : BitVec 3) (l : Bool) (fn : BitVec 4) (rd : RegNum)
    (cp : BitVec 4) (n : Bool) :
    fld (encVfpReg cond opc1 l fn rd cp n) 28 4 = cond := by
  simp [encVfpReg, flag, bitAt_fld, fld_or, fld_put_in, fld_put_out]
@[simp] theorem encVfpReg_fld_25_3 (cond : Cond) (opc1 : BitVec 3) (l : Bool) (fn : BitVec 4) (rd : RegNum)
    (cp : BitVec 4) (n : Bool) :
    fld (encVfpReg cond opc1 l fn rd cp n) 25 3 = 7#3 := by
  simp [encVfpReg, flag, bitAt_fld, fld_or, fld_put_in, fld_put_out]
  decide
@[simp] theorem encVfpReg_fld_20_4 (cond : Cond) (opc1 : BitVec 3) (l : Bool) (fn : BitVec 4) (rd : RegNum)
    (cp : BitVec 4) (n : Bool) :
    fld (encVfpReg cond opc1 l fn rd cp n) 20 4 = opc1 ++ BitVec.ofBool l := by
  apply BitVec.eq_of_getLsbD_eq
  intro i hi
  interval_cases i <;>
    simp only [encVfpReg, fld, put, flag, BitVec.getLsbD_extractLsb', BitVec.getLsbD_or, BitVec.getLsbD_shiftLeft,
      BitVec.getLsbD_setWidth,
      BitVec.getLsbD_append, BitVec.getLsbD_ofBool] <;> simp
@[simp] theorem encVfpReg_fld_16_4 (cond : Cond) (opc1 : BitVec 3) (l : Bool) (fn : BitVec 4) (rd : RegNum)
    (cp : BitVec 4) (n : Bool) :
    fld (encVfpReg cond opc1 l fn rd cp n) 16 4 = fn := by
  simp [encVfpReg, flag, bitAt_fld, fld_or, fld_put_in, fld_put_out]
@[simp] theorem encVfpReg_fld_12_4 (cond : Cond) (opc1 : BitVec 3) (l : Bool) (fn : BitVec 4) (rd : RegNum)
    (cp : BitVec 4) (n : Bool) :
    fld (encVfpReg cond opc1 l fn rd cp n) 12 4 = rd := by
  simp [encVfpReg, flag, bitAt_fld, fld_or, fld_put_in, fld_put_out]
@[simp] theorem encVfpReg_fld_8_4 (cond : Cond) (opc1 : BitVec 3) (l : Bool) (fn : BitVec 4) (rd : RegNum)
    (cp : BitVec 4) (n : Bool) :
    fld (encVfpReg cond opc1 l fn rd cp n) 8 4 = cp := by
  simp [encVfpReg, flag, bitAt_fld, fld_or, fld_put_in, fld_put_out]
@[simp] theorem encVfpReg_fld_5_2 (cond : Cond) (opc1 : BitVec 3) (l : Bool) (fn : BitVec 4) (rd : RegNum)
    (cp : BitVec 4) (n : Bool) :
    fld (encVfpReg cond opc1 l fn rd cp n) 5 2 = 0#2 := by
  simp [encVfpReg, flag, bitAt_fld, fld_or, fld_put_in, fld_put_out]
@[simp] theorem encVfpReg_fld_5_3 (cond : Cond) (opc1 : BitVec 3) (l : Bool) (fn : BitVec 4) (rd : RegNum)
    (cp : BitVec 4) (n : Bool) :
    fld (encVfpReg cond opc1 l fn rd cp n) 5 3 = BitVec.ofBool n ++ 0#2 := by
  apply BitVec.eq_of_getLsbD_eq
  intro i hi
  interval_cases i <;>
    simp only [encVfpReg, fld, put, flag, BitVec.getLsbD_extractLsb', BitVec.getLsbD_or, BitVec.getLsbD_shiftLeft,
      BitVec.getLsbD_setWidth,
      BitVec.getLsbD_append, BitVec.getLsbD_ofBool] <;> simp
@[simp] theorem encVfpReg_fld_0_4 (cond : Cond) (opc1 : BitVec 3) (l : Bool) (fn : BitVec 4) (rd : RegNum)
    (cp : BitVec 4) (n : Bool) :
    fld (encVfpReg cond opc1 l fn rd cp n) 0 4 = 0#4 := by
  simp [encVfpReg, flag, bitAt_fld, fld_or, fld_put_in, fld_put_out]
@[simp] theorem encVfpReg_bit_24 (cond : Cond) (opc1 : BitVec 3) (l : Bool) (fn : BitVec 4) (rd : RegNum)
    (cp : BitVec 4) (n : Bool) :
    bitAt (encVfpReg cond opc1 l fn rd cp n) 24 = false := by
  simp [encVfpReg, flag, bitAt_fld, fld_or, fld_put_in, fld_put_out]
  decide
@[simp] theorem encVfpReg_bit_20 (cond : Cond) (opc1 : BitVec 3) (l : Bool) (fn : BitVec 4) (rd : RegNum)
    (cp : BitVec 4) (n : Bool) :
    bitAt (encVfpReg cond opc1 l fn rd cp n) 20 = l := by
  simp [encVfpReg, flag, bitAt_fld, fld_or, fld_put_in, fld_put_out]
@[simp] theorem encVfpReg_bit_4 (cond : Cond) (opc1 : BitVec 3) (l : Bool) (fn : BitVec 4) (rd : RegNum)
    (cp : BitVec 4) (n : Bool) :
    bitAt (encVfpReg cond opc1 l fn rd cp n) 4 = true := by
  simp [encVfpReg, flag, bitAt_fld, fld_or, fld_put_in, fld_put_out]
@[simp] theorem encVfpReg_bit_7 (cond : Cond) (opc1 : BitVec 3) (l : Bool) (fn : BitVec 4) (rd : RegNum)
    (cp : BitVec 4) (n : Bool) :
    bitAt (encVfpReg cond opc1 l fn rd cp n) 7 = n := by
  simp [encVfpReg, flag, bitAt_fld, fld_or, fld_put_in, fld_put_out]

end Sys2Proof
end

