-- ==== Sys2Proof/Laws/PerInstr.lean ====
section
/-!
SUPPORT. A statement about every instruction as syntax: the condition field (30_encoding.md R111). Its lemmas, one for each
constructor, are joined by the case split that the host writes.
-/

namespace Sys2Proof.Laws

/-- A well-formed conditional instruction is encoded as an ARM word with its condition in bits [31:28], and the condition is not
b1111, which marks the unconditional words (30_encoding.md R111). -/
def ConditionField.Statement (i : Instr) : Prop :=
  ∀ c, i.condition = some c → i.wellFormed = true → c ≠ 15 ∧ ∃ w, encode i = .arm w ∧ fld w 28 4 = c

/-- How the lemma of a conditional instruction is closed. -/
theorem conditionField_of {i : Instr} {c : Cond} {w : Word} (hc : i.condition = some c)
    (hw : i.wellFormed = true → c ≠ 15) (he : encode i = .arm w) (hf : fld w 28 4 = c) : ConditionField.Statement i := by
  intro d hd h
  obtain rfl : c = d := Option.some.inj (hc.symm.trans hd)
  exact ⟨hw h, w, he, hf⟩

/-- An instruction without a condition. -/
theorem conditionField_none {i : Instr} (hc : i.condition = Option.none) : ConditionField.Statement i := by
  intro d hd
  rw [hc] at hd
  exact nomatch hd

/-- A condition is well formed when it is not b1111. -/
theorem condOk_ne {c : Cond} (h : condOk c = true) : c ≠ 15 := by simpa [condOk] using h

/-- The condition of a well-formed instruction whose check names more than the condition. -/
theorem condOk_and {c : Cond} {b : Bool} (h : (condOk c && b) = true) : c ≠ 15 := condOk_ne (Bool.and_eq_true_iff.mp h).1

theorem ConditionField.mrcMainId  (cond : Cond) (rd : RegNum) :
    ConditionField.Statement (.mrcMainId cond rd) :=
  conditionField_of rfl condOk_ne rfl (by simp)
theorem ConditionField.mrcCacheType  (cond : Cond) (rd : RegNum) :
    ConditionField.Statement (.mrcCacheType cond rd) :=
  conditionField_of rfl condOk_ne rfl (by simp)
theorem ConditionField.mrcTlbType  (cond : Cond) (rd : RegNum) :
    ConditionField.Statement (.mrcTlbType cond rd) :=
  conditionField_of rfl condOk_ne rfl (by simp)
theorem ConditionField.mrcCpuId  (cond : Cond) (rd : RegNum) :
    ConditionField.Statement (.mrcCpuId cond rd) :=
  conditionField_of rfl condOk_ne rfl (by simp)
theorem ConditionField.mrcIdPfr0  (cond : Cond) (rd : RegNum) :
    ConditionField.Statement (.mrcIdPfr0 cond rd) :=
  conditionField_of rfl condOk_ne rfl (by simp)
theorem ConditionField.mrcIdPfr1  (cond : Cond) (rd : RegNum) :
    ConditionField.Statement (.mrcIdPfr1 cond rd) :=
  conditionField_of rfl condOk_ne rfl (by simp)
theorem ConditionField.mrcIdDfr0  (cond : Cond) (rd : RegNum) :
    ConditionField.Statement (.mrcIdDfr0 cond rd) :=
  conditionField_of rfl condOk_ne rfl (by simp)
theorem ConditionField.mrcIdReserved13  (cond : Cond) (rd : RegNum) :
    ConditionField.Statement (.mrcIdReserved13 cond rd) :=
  conditionField_of rfl condOk_ne rfl (by simp)
theorem ConditionField.mrcIdMmfr0  (cond : Cond) (rd : RegNum) :
    ConditionField.Statement (.mrcIdMmfr0 cond rd) :=
  conditionField_of rfl condOk_ne rfl (by simp)
theorem ConditionField.mrcIdMmfr1  (cond : Cond) (rd : RegNum) :
    ConditionField.Statement (.mrcIdMmfr1 cond rd) :=
  conditionField_of rfl condOk_ne rfl (by simp)
theorem ConditionField.mrcIdMmfr2  (cond : Cond) (rd : RegNum) :
    ConditionField.Statement (.mrcIdMmfr2 cond rd) :=
  conditionField_of rfl condOk_ne rfl (by simp)
theorem ConditionField.mrcIdMmfr3  (cond : Cond) (rd : RegNum) :
    ConditionField.Statement (.mrcIdMmfr3 cond rd) :=
  conditionField_of rfl condOk_ne rfl (by simp)
theorem ConditionField.mrcIdIsar0  (cond : Cond) (rd : RegNum) :
    ConditionField.Statement (.mrcIdIsar0 cond rd) :=
  conditionField_of rfl condOk_ne rfl (by simp)
theorem ConditionField.mrcIdIsar1  (cond : Cond) (rd : RegNum) :
    ConditionField.Statement (.mrcIdIsar1 cond rd) :=
  conditionField_of rfl condOk_ne rfl (by simp)
theorem ConditionField.mrcIdIsar2  (cond : Cond) (rd : RegNum) :
    ConditionField.Statement (.mrcIdIsar2 cond rd) :=
  conditionField_of rfl condOk_ne rfl (by simp)
theorem ConditionField.mrcIdIsar3  (cond : Cond) (rd : RegNum) :
    ConditionField.Statement (.mrcIdIsar3 cond rd) :=
  conditionField_of rfl condOk_ne rfl (by simp)
theorem ConditionField.mrcIdIsar4  (cond : Cond) (rd : RegNum) :
    ConditionField.Statement (.mrcIdIsar4 cond rd) :=
  conditionField_of rfl condOk_ne rfl (by simp)
theorem ConditionField.mrcIdReserved25  (cond : Cond) (rd : RegNum) :
    ConditionField.Statement (.mrcIdReserved25 cond rd) :=
  conditionField_of rfl condOk_ne rfl (by simp)
theorem ConditionField.mrcIdReserved26  (cond : Cond) (rd : RegNum) :
    ConditionField.Statement (.mrcIdReserved26 cond rd) :=
  conditionField_of rfl condOk_ne rfl (by simp)
theorem ConditionField.mrcIdReserved27  (cond : Cond) (rd : RegNum) :
    ConditionField.Statement (.mrcIdReserved27 cond rd) :=
  conditionField_of rfl condOk_ne rfl (by simp)
theorem ConditionField.mrcC0Unlisted2  (cond : Cond) (rd : RegNum) :
    ConditionField.Statement (.mrcC0Unlisted2 cond rd) :=
  conditionField_of rfl condOk_ne rfl (by simp)
theorem ConditionField.mrcC0Unlisted4  (cond : Cond) (rd : RegNum) :
    ConditionField.Statement (.mrcC0Unlisted4 cond rd) :=
  conditionField_of rfl condOk_ne rfl (by simp)
theorem ConditionField.mrcC0Unlisted6  (cond : Cond) (rd : RegNum) :
    ConditionField.Statement (.mrcC0Unlisted6 cond rd) :=
  conditionField_of rfl condOk_ne rfl (by simp)
theorem ConditionField.mrcC0Unlisted7  (cond : Cond) (rd : RegNum) :
    ConditionField.Statement (.mrcC0Unlisted7 cond rd) :=
  conditionField_of rfl condOk_ne rfl (by simp)
theorem ConditionField.mcrC0  (cond : Cond) (rd : RegNum) (opc2 : BitVec 3) (crm : BitVec 4) :
    ConditionField.Statement (.mcrC0 cond rd opc2 crm) :=
  conditionField_of rfl condOk_ne rfl (by simp)
theorem ConditionField.mrcControl  (cond : Cond) (rd : RegNum) :
    ConditionField.Statement (.mrcControl cond rd) :=
  conditionField_of rfl condOk_ne rfl (by simp)
theorem ConditionField.mcrControl  (cond : Cond) (rd : RegNum) :
    ConditionField.Statement (.mcrControl cond rd) :=
  conditionField_of rfl condOk_ne rfl (by simp)
theorem ConditionField.mrcAuxControl  (cond : Cond) (rd : RegNum) :
    ConditionField.Statement (.mrcAuxControl cond rd) :=
  conditionField_of rfl condOk_ne rfl (by simp)
theorem ConditionField.mcrAuxControl  (cond : Cond) (rd : RegNum) :
    ConditionField.Statement (.mcrAuxControl cond rd) :=
  conditionField_of rfl condOk_ne rfl (by simp)
theorem ConditionField.mrcCpacr  (cond : Cond) (rd : RegNum) :
    ConditionField.Statement (.mrcCpacr cond rd) :=
  conditionField_of rfl condOk_ne rfl (by simp)
theorem ConditionField.mcrCpacr  (cond : Cond) (rd : RegNum) :
    ConditionField.Statement (.mcrCpacr cond rd) :=
  conditionField_of rfl condOk_ne rfl (by simp)
theorem ConditionField.mrcTtbr0  (cond : Cond) (rd : RegNum) :
    ConditionField.Statement (.mrcTtbr0 cond rd) :=
  conditionField_of rfl condOk_ne rfl (by simp)
theorem ConditionField.mcrTtbr0  (cond : Cond) (rd : RegNum) :
    ConditionField.Statement (.mcrTtbr0 cond rd) :=
  conditionField_of rfl condOk_ne rfl (by simp)
theorem ConditionField.mrcTtbr1  (cond : Cond) (rd : RegNum) :
    ConditionField.Statement (.mrcTtbr1 cond rd) :=
  conditionField_of rfl condOk_ne rfl (by simp)
theorem ConditionField.mcrTtbr1  (cond : Cond) (rd : RegNum) :
    ConditionField.Statement (.mcrTtbr1 cond rd) :=
  conditionField_of rfl condOk_ne rfl (by simp)
theorem ConditionField.mrcTtbcr  (cond : Cond) (rd : RegNum) :
    ConditionField.Statement (.mrcTtbcr cond rd) :=
  conditionField_of rfl condOk_ne rfl (by simp)
theorem ConditionField.mcrTtbcr  (cond : Cond) (rd : RegNum) :
    ConditionField.Statement (.mcrTtbcr cond rd) :=
  conditionField_of rfl condOk_ne rfl (by simp)
theorem ConditionField.mrcDacr  (cond : Cond) (rd : RegNum) :
    ConditionField.Statement (.mrcDacr cond rd) :=
  conditionField_of rfl condOk_ne rfl (by simp)
theorem ConditionField.mcrDacr  (cond : Cond) (rd : RegNum) :
    ConditionField.Statement (.mcrDacr cond rd) :=
  conditionField_of rfl condOk_ne rfl (by simp)
theorem ConditionField.mrcDfsr  (cond : Cond) (rd : RegNum) :
    ConditionField.Statement (.mrcDfsr cond rd) :=
  conditionField_of rfl condOk_ne rfl (by simp)
theorem ConditionField.mcrDfsr  (cond : Cond) (rd : RegNum) :
    ConditionField.Statement (.mcrDfsr cond rd) :=
  conditionField_of rfl condOk_ne rfl (by simp)
theorem ConditionField.mrcIfsr  (cond : Cond) (rd : RegNum) :
    ConditionField.Statement (.mrcIfsr cond rd) :=
  conditionField_of rfl condOk_ne rfl (by simp)
theorem ConditionField.mcrIfsr  (cond : Cond) (rd : RegNum) :
    ConditionField.Statement (.mcrIfsr cond rd) :=
  conditionField_of rfl condOk_ne rfl (by simp)
theorem ConditionField.mrcFar  (cond : Cond) (rd : RegNum) :
    ConditionField.Statement (.mrcFar cond rd) :=
  conditionField_of rfl condOk_ne rfl (by simp)
theorem ConditionField.mcrFar  (cond : Cond) (rd : RegNum) :
    ConditionField.Statement (.mcrFar cond rd) :=
  conditionField_of rfl condOk_ne rfl (by simp)
theorem ConditionField.mrcWfar  (cond : Cond) (rd : RegNum) :
    ConditionField.Statement (.mrcWfar cond rd) :=
  conditionField_of rfl condOk_ne rfl (by simp)
theorem ConditionField.mcrWfar  (cond : Cond) (rd : RegNum) :
    ConditionField.Statement (.mcrWfar cond rd) :=
  conditionField_of rfl condOk_ne rfl (by simp)
theorem ConditionField.mcrWaitForInterrupt  (cond : Cond) (rd : RegNum) :
    ConditionField.Statement (.mcrWaitForInterrupt cond rd) :=
  conditionField_of rfl condOk_ne rfl (by simp)
theorem ConditionField.mrcPa  (cond : Cond) (rd : RegNum) :
    ConditionField.Statement (.mrcPa cond rd) :=
  conditionField_of rfl condOk_ne rfl (by simp)
theorem ConditionField.mcrInvalidateICache  (cond : Cond) (rd : RegNum) :
    ConditionField.Statement (.mcrInvalidateICache cond rd) :=
  conditionField_of rfl condOk_ne rfl (by simp)
theorem ConditionField.mcrInvalidateICacheMva  (cond : Cond) (rd : RegNum) :
    ConditionField.Statement (.mcrInvalidateICacheMva cond rd) :=
  conditionField_of rfl condOk_ne rfl (by simp)
theorem ConditionField.mcrInvalidateICacheIndex  (cond : Cond) (rd : RegNum) :
    ConditionField.Statement (.mcrInvalidateICacheIndex cond rd) :=
  conditionField_of rfl condOk_ne rfl (by simp)
theorem ConditionField.mcrFlushPrefetchBuffer  (cond : Cond) (rd : RegNum) :
    ConditionField.Statement (.mcrFlushPrefetchBuffer cond rd) :=
  conditionField_of rfl condOk_ne rfl (by simp)
theorem ConditionField.mcrFlushBtac  (cond : Cond) (rd : RegNum) :
    ConditionField.Statement (.mcrFlushBtac cond rd) :=
  conditionField_of rfl condOk_ne rfl (by simp)
theorem ConditionField.mcrFlushBtacEntry  (cond : Cond) (rd : RegNum) :
    ConditionField.Statement (.mcrFlushBtacEntry cond rd) :=
  conditionField_of rfl condOk_ne rfl (by simp)
theorem ConditionField.mcrInvalidateDCache  (cond : Cond) (rd : RegNum) :
    ConditionField.Statement (.mcrInvalidateDCache cond rd) :=
  conditionField_of rfl condOk_ne rfl (by simp)
theorem ConditionField.mcrInvalidateDCacheMva  (cond : Cond) (rd : RegNum) :
    ConditionField.Statement (.mcrInvalidateDCacheMva cond rd) :=
  conditionField_of rfl condOk_ne rfl (by simp)
theorem ConditionField.mcrInvalidateDCacheIndex  (cond : Cond) (rd : RegNum) :
    ConditionField.Statement (.mcrInvalidateDCacheIndex cond rd) :=
  conditionField_of rfl condOk_ne rfl (by simp)
theorem ConditionField.mcrInvalidateBothCaches  (cond : Cond) (rd : RegNum) :
    ConditionField.Statement (.mcrInvalidateBothCaches cond rd) :=
  conditionField_of rfl condOk_ne rfl (by simp)
theorem ConditionField.mcrVaToPaPrivRead  (cond : Cond) (rd : RegNum) :
    ConditionField.Statement (.mcrVaToPaPrivRead cond rd) :=
  conditionField_of rfl condOk_ne rfl (by simp)
theorem ConditionField.mcrVaToPaPrivWrite  (cond : Cond) (rd : RegNum) :
    ConditionField.Statement (.mcrVaToPaPrivWrite cond rd) :=
  conditionField_of rfl condOk_ne rfl (by simp)
theorem ConditionField.mcrVaToPaUserRead  (cond : Cond) (rd : RegNum) :
    ConditionField.Statement (.mcrVaToPaUserRead cond rd) :=
  conditionField_of rfl condOk_ne rfl (by simp)
theorem ConditionField.mcrVaToPaUserWrite  (cond : Cond) (rd : RegNum) :
    ConditionField.Statement (.mcrVaToPaUserWrite cond rd) :=
  conditionField_of rfl condOk_ne rfl (by simp)
theorem ConditionField.mcrCleanDCache  (cond : Cond) (rd : RegNum) :
    ConditionField.Statement (.mcrCleanDCache cond rd) :=
  conditionField_of rfl condOk_ne rfl (by simp)
theorem ConditionField.mcrCleanDCacheMva  (cond : Cond) (rd : RegNum) :
    ConditionField.Statement (.mcrCleanDCacheMva cond rd) :=
  conditionField_of rfl condOk_ne rfl (by simp)
theorem ConditionField.mcrCleanDCacheIndex  (cond : Cond) (rd : RegNum) :
    ConditionField.Statement (.mcrCleanDCacheIndex cond rd) :=
  conditionField_of rfl condOk_ne rfl (by simp)
theorem ConditionField.mcrDsb  (cond : Cond) (rd : RegNum) :
    ConditionField.Statement (.mcrDsb cond rd) :=
  conditionField_of rfl condOk_ne rfl (by simp)
theorem ConditionField.mcrDmb  (cond : Cond) (rd : RegNum) :
    ConditionField.Statement (.mcrDmb cond rd) :=
  conditionField_of rfl condOk_ne rfl (by simp)
theorem ConditionField.mcrCleanInvDCache  (cond : Cond) (rd : RegNum) :
    ConditionField.Statement (.mcrCleanInvDCache cond rd) :=
  conditionField_of rfl condOk_ne rfl (by simp)
theorem ConditionField.mcrCleanInvDCacheMva  (cond : Cond) (rd : RegNum) :
    ConditionField.Statement (.mcrCleanInvDCacheMva cond rd) :=
  conditionField_of rfl condOk_ne rfl (by simp)
theorem ConditionField.mcrCleanInvDCacheIndex  (cond : Cond) (rd : RegNum) :
    ConditionField.Statement (.mcrCleanInvDCacheIndex cond rd) :=
  conditionField_of rfl condOk_ne rfl (by simp)
theorem ConditionField.mcrInvalidateITlb  (cond : Cond) (rd : RegNum) :
    ConditionField.Statement (.mcrInvalidateITlb cond rd) :=
  conditionField_of rfl condOk_ne rfl (by simp)
theorem ConditionField.mcrInvalidateITlbEntry  (cond : Cond) (rd : RegNum) :
    ConditionField.Statement (.mcrInvalidateITlbEntry cond rd) :=
  conditionField_of rfl condOk_ne rfl (by simp)
theorem ConditionField.mcrInvalidateITlbAsid  (cond : Cond) (rd : RegNum) :
    ConditionField.Statement (.mcrInvalidateITlbAsid cond rd) :=
  conditionField_of rfl condOk_ne rfl (by simp)
theorem ConditionField.mcrInvalidateITlbMva  (cond : Cond) (rd : RegNum) :
    ConditionField.Statement (.mcrInvalidateITlbMva cond rd) :=
  conditionField_of rfl condOk_ne rfl (by simp)
theorem ConditionField.mcrInvalidateDTlb  (cond : Cond) (rd : RegNum) :
    ConditionField.Statement (.mcrInvalidateDTlb cond rd) :=
  conditionField_of rfl condOk_ne rfl (by simp)
theorem ConditionField.mcrInvalidateDTlbEntry  (cond : Cond) (rd : RegNum) :
    ConditionField.Statement (.mcrInvalidateDTlbEntry cond rd) :=
  conditionField_of rfl condOk_ne rfl (by simp)
theorem ConditionField.mcrInvalidateDTlbAsid  (cond : Cond) (rd : RegNum) :
    ConditionField.Statement (.mcrInvalidateDTlbAsid cond rd) :=
  conditionField_of rfl condOk_ne rfl (by simp)
theorem ConditionField.mcrInvalidateDTlbMva  (cond : Cond) (rd : RegNum) :
    ConditionField.Statement (.mcrInvalidateDTlbMva cond rd) :=
  conditionField_of rfl condOk_ne rfl (by simp)
theorem ConditionField.mcrInvalidateUTlb  (cond : Cond) (rd : RegNum) :
    ConditionField.Statement (.mcrInvalidateUTlb cond rd) :=
  conditionField_of rfl condOk_ne rfl (by simp)
theorem ConditionField.mcrInvalidateUTlbEntry  (cond : Cond) (rd : RegNum) :
    ConditionField.Statement (.mcrInvalidateUTlbEntry cond rd) :=
  conditionField_of rfl condOk_ne rfl (by simp)
theorem ConditionField.mcrInvalidateUTlbAsid  (cond : Cond) (rd : RegNum) :
    ConditionField.Statement (.mcrInvalidateUTlbAsid cond rd) :=
  conditionField_of rfl condOk_ne rfl (by simp)
theorem ConditionField.mcrInvalidateUTlbMva  (cond : Cond) (rd : RegNum) :
    ConditionField.Statement (.mcrInvalidateUTlbMva cond rd) :=
  conditionField_of rfl condOk_ne rfl (by simp)
theorem ConditionField.mrcDCacheLockdown  (cond : Cond) (rd : RegNum) :
    ConditionField.Statement (.mrcDCacheLockdown cond rd) :=
  conditionField_of rfl condOk_ne rfl (by simp)
theorem ConditionField.mcrDCacheLockdown  (cond : Cond) (rd : RegNum) :
    ConditionField.Statement (.mcrDCacheLockdown cond rd) :=
  conditionField_of rfl condOk_ne rfl (by simp)
theorem ConditionField.mrcTlbLockdown  (cond : Cond) (rd : RegNum) :
    ConditionField.Statement (.mrcTlbLockdown cond rd) :=
  conditionField_of rfl condOk_ne rfl (by simp)
theorem ConditionField.mcrTlbLockdown  (cond : Cond) (rd : RegNum) :
    ConditionField.Statement (.mcrTlbLockdown cond rd) :=
  conditionField_of rfl condOk_ne rfl (by simp)
theorem ConditionField.mrcPrrr  (cond : Cond) (rd : RegNum) :
    ConditionField.Statement (.mrcPrrr cond rd) :=
  conditionField_of rfl condOk_ne rfl (by simp)
theorem ConditionField.mcrPrrr  (cond : Cond) (rd : RegNum) :
    ConditionField.Statement (.mcrPrrr cond rd) :=
  conditionField_of rfl condOk_ne rfl (by simp)
theorem ConditionField.mrcNmrr  (cond : Cond) (rd : RegNum) :
    ConditionField.Statement (.mrcNmrr cond rd) :=
  conditionField_of rfl condOk_ne rfl (by simp)
theorem ConditionField.mcrNmrr  (cond : Cond) (rd : RegNum) :
    ConditionField.Statement (.mcrNmrr cond rd) :=
  conditionField_of rfl condOk_ne rfl (by simp)
theorem ConditionField.mrcFcsePid  (cond : Cond) (rd : RegNum) :
    ConditionField.Statement (.mrcFcsePid cond rd) :=
  conditionField_of rfl condOk_ne rfl (by simp)
theorem ConditionField.mcrFcsePid  (cond : Cond) (rd : RegNum) :
    ConditionField.Statement (.mcrFcsePid cond rd) :=
  conditionField_of rfl condOk_ne rfl (by simp)
theorem ConditionField.mrcContextId  (cond : Cond) (rd : RegNum) :
    ConditionField.Statement (.mrcContextId cond rd) :=
  conditionField_of rfl condOk_ne rfl (by simp)
theorem ConditionField.mcrContextId  (cond : Cond) (rd : RegNum) :
    ConditionField.Statement (.mcrContextId cond rd) :=
  conditionField_of rfl condOk_ne rfl (by simp)
theorem ConditionField.mrcThreadIdUrw  (cond : Cond) (rd : RegNum) :
    ConditionField.Statement (.mrcThreadIdUrw cond rd) :=
  conditionField_of rfl condOk_ne rfl (by simp)
theorem ConditionField.mcrThreadIdUrw  (cond : Cond) (rd : RegNum) :
    ConditionField.Statement (.mcrThreadIdUrw cond rd) :=
  conditionField_of rfl condOk_ne rfl (by simp)
theorem ConditionField.mrcThreadIdUro  (cond : Cond) (rd : RegNum) :
    ConditionField.Statement (.mrcThreadIdUro cond rd) :=
  conditionField_of rfl condOk_ne rfl (by simp)
theorem ConditionField.mcrThreadIdUro  (cond : Cond) (rd : RegNum) :
    ConditionField.Statement (.mcrThreadIdUro cond rd) :=
  conditionField_of rfl condOk_ne rfl (by simp)
theorem ConditionField.mrcThreadIdPrw  (cond : Cond) (rd : RegNum) :
    ConditionField.Statement (.mrcThreadIdPrw cond rd) :=
  conditionField_of rfl condOk_ne rfl (by simp)
theorem ConditionField.mcrThreadIdPrw  (cond : Cond) (rd : RegNum) :
    ConditionField.Statement (.mcrThreadIdPrw cond rd) :=
  conditionField_of rfl condOk_ne rfl (by simp)
theorem ConditionField.mrcPmnc  (cond : Cond) (rd : RegNum) :
    ConditionField.Statement (.mrcPmnc cond rd) :=
  conditionField_of rfl condOk_ne rfl (by simp)
theorem ConditionField.mcrPmnc  (cond : Cond) (rd : RegNum) :
    ConditionField.Statement (.mcrPmnc cond rd) :=
  conditionField_of rfl condOk_ne rfl (by simp)
theorem ConditionField.mrcCcnt  (cond : Cond) (rd : RegNum) :
    ConditionField.Statement (.mrcCcnt cond rd) :=
  conditionField_of rfl condOk_ne rfl (by simp)
theorem ConditionField.mcrCcnt  (cond : Cond) (rd : RegNum) :
    ConditionField.Statement (.mcrCcnt cond rd) :=
  conditionField_of rfl condOk_ne rfl (by simp)
theorem ConditionField.mrcPmn0  (cond : Cond) (rd : RegNum) :
    ConditionField.Statement (.mrcPmn0 cond rd) :=
  conditionField_of rfl condOk_ne rfl (by simp)
theorem ConditionField.mcrPmn0  (cond : Cond) (rd : RegNum) :
    ConditionField.Statement (.mcrPmn0 cond rd) :=
  conditionField_of rfl condOk_ne rfl (by simp)
theorem ConditionField.mrcPmn1  (cond : Cond) (rd : RegNum) :
    ConditionField.Statement (.mrcPmn1 cond rd) :=
  conditionField_of rfl condOk_ne rfl (by simp)
theorem ConditionField.mcrPmn1  (cond : Cond) (rd : RegNum) :
    ConditionField.Statement (.mcrPmn1 cond rd) :=
  conditionField_of rfl condOk_ne rfl (by simp)
theorem ConditionField.mcrTlbLockIndexRead  (cond : Cond) (rd : RegNum) :
    ConditionField.Statement (.mcrTlbLockIndexRead cond rd) :=
  conditionField_of rfl condOk_ne rfl (by simp)
theorem ConditionField.mcrTlbLockIndexWrite  (cond : Cond) (rd : RegNum) :
    ConditionField.Statement (.mcrTlbLockIndexWrite cond rd) :=
  conditionField_of rfl condOk_ne rfl (by simp)
theorem ConditionField.mrcTlbLockVa  (cond : Cond) (rd : RegNum) :
    ConditionField.Statement (.mrcTlbLockVa cond rd) :=
  conditionField_of rfl condOk_ne rfl (by simp)
theorem ConditionField.mcrTlbLockVa  (cond : Cond) (rd : RegNum) :
    ConditionField.Statement (.mcrTlbLockVa cond rd) :=
  conditionField_of rfl condOk_ne rfl (by simp)
theorem ConditionField.mrcTlbLockPa  (cond : Cond) (rd : RegNum) :
    ConditionField.Statement (.mrcTlbLockPa cond rd) :=
  conditionField_of rfl condOk_ne rfl (by simp)
theorem ConditionField.mcrTlbLockPa  (cond : Cond) (rd : RegNum) :
    ConditionField.Statement (.mcrTlbLockPa cond rd) :=
  conditionField_of rfl condOk_ne rfl (by simp)
theorem ConditionField.mrcTlbLockAttr  (cond : Cond) (rd : RegNum) :
    ConditionField.Statement (.mrcTlbLockAttr cond rd) :=
  conditionField_of rfl condOk_ne rfl (by simp)
theorem ConditionField.mcrTlbLockAttr  (cond : Cond) (rd : RegNum) :
    ConditionField.Statement (.mcrTlbLockAttr cond rd) :=
  conditionField_of rfl condOk_ne rfl (by simp)
theorem ConditionField.mrcTlbDebugControl  (cond : Cond) (rd : RegNum) :
    ConditionField.Statement (.mrcTlbDebugControl cond rd) :=
  conditionField_of rfl condOk_ne rfl (by simp)
theorem ConditionField.mcrTlbDebugControl  (cond : Cond) (rd : RegNum) :
    ConditionField.Statement (.mcrTlbDebugControl cond rd) :=
  conditionField_of rfl condOk_ne rfl (by simp)
theorem ConditionField.cp15Unlisted  (cond : Cond) (opc1 : BitVec 3) (l : Bool) (crn : BitVec 4) (rd : RegNum)
    (opc2 : BitVec 3) (crm : BitVec 4) :
    ConditionField.Statement (.cp15Unlisted cond opc1 l crn rd opc2 crm) :=
  conditionField_of rfl condOk_and rfl (by simp)
theorem ConditionField.cdpP15  (cond : Cond) (opc1 crn : BitVec 4) (rd : RegNum) (opc2 : BitVec 3) (crm : BitVec 4) :
    ConditionField.Statement (.cdpP15 cond opc1 crn rd opc2 crm) :=
  conditionField_of rfl condOk_ne rfl (by simp [fld_or, fld_put_in, fld_put_out])
theorem ConditionField.ldcStcP15  (cond : Cond) (p u n w l : Bool) (rn rd : RegNum) (off : BitVec 8) :
    ConditionField.Statement (.ldcStcP15 cond p u n w l rn rd off) :=
  conditionField_of rfl condOk_ne rfl (by simp)
theorem ConditionField.mrcDidr  (cond : Cond) (rd : RegNum) :
    ConditionField.Statement (.mrcDidr cond rd) :=
  conditionField_of rfl condOk_ne rfl (by simp)
theorem ConditionField.mrcDscr  (cond : Cond) (rd : RegNum) :
    ConditionField.Statement (.mrcDscr cond rd) :=
  conditionField_of rfl condOk_and rfl (by simp)
theorem ConditionField.mcrDscr  (cond : Cond) (rd : RegNum) :
    ConditionField.Statement (.mcrDscr cond rd) :=
  conditionField_of rfl condOk_ne rfl (by simp)
theorem ConditionField.mrcDtr  (cond : Cond) (rd : RegNum) :
    ConditionField.Statement (.mrcDtr cond rd) :=
  conditionField_of rfl condOk_ne rfl (by simp)
theorem ConditionField.mcrDtr  (cond : Cond) (rd : RegNum) :
    ConditionField.Statement (.mcrDtr cond rd) :=
  conditionField_of rfl condOk_ne rfl (by simp)
theorem ConditionField.mrcVcr  (cond : Cond) (rd : RegNum) :
    ConditionField.Statement (.mrcVcr cond rd) :=
  conditionField_of rfl condOk_ne rfl (by simp)
theorem ConditionField.mcrVcr  (cond : Cond) (rd : RegNum) :
    ConditionField.Statement (.mcrVcr cond rd) :=
  conditionField_of rfl condOk_ne rfl (by simp)
theorem ConditionField.mrcBvr0  (cond : Cond) (rd : RegNum) :
    ConditionField.Statement (.mrcBvr0 cond rd) :=
  conditionField_of rfl condOk_ne rfl (by simp)
theorem ConditionField.mcrBvr0  (cond : Cond) (rd : RegNum) :
    ConditionField.Statement (.mcrBvr0 cond rd) :=
  conditionField_of rfl condOk_ne rfl (by simp)
theorem ConditionField.mrcBvr1  (cond : Cond) (rd : RegNum) :
    ConditionField.Statement (.mrcBvr1 cond rd) :=
  conditionField_of rfl condOk_ne rfl (by simp)
theorem ConditionField.mcrBvr1  (cond : Cond) (rd : RegNum) :
    ConditionField.Statement (.mcrBvr1 cond rd) :=
  conditionField_of rfl condOk_ne rfl (by simp)
theorem ConditionField.mrcBvr2  (cond : Cond) (rd : RegNum) :
    ConditionField.Statement (.mrcBvr2 cond rd) :=
  conditionField_of rfl condOk_ne rfl (by simp)
theorem ConditionField.mcrBvr2  (cond : Cond) (rd : RegNum) :
    ConditionField.Statement (.mcrBvr2 cond rd) :=
  conditionField_of rfl condOk_ne rfl (by simp)
theorem ConditionField.mrcBvr3  (cond : Cond) (rd : RegNum) :
    ConditionField.Statement (.mrcBvr3 cond rd) :=
  conditionField_of rfl condOk_ne rfl (by simp)
theorem ConditionField.mcrBvr3  (cond : Cond) (rd : RegNum) :
    ConditionField.Statement (.mcrBvr3 cond rd) :=
  conditionField_of rfl condOk_ne rfl (by simp)
theorem ConditionField.mrcBvr4  (cond : Cond) (rd : RegNum) :
    ConditionField.Statement (.mrcBvr4 cond rd) :=
  conditionField_of rfl condOk_ne rfl (by simp)
theorem ConditionField.mcrBvr4  (cond : Cond) (rd : RegNum) :
    ConditionField.Statement (.mcrBvr4 cond rd) :=
  conditionField_of rfl condOk_ne rfl (by simp)
theorem ConditionField.mrcBvr5  (cond : Cond) (rd : RegNum) :
    ConditionField.Statement (.mrcBvr5 cond rd) :=
  conditionField_of rfl condOk_ne rfl (by simp)
theorem ConditionField.mcrBvr5  (cond : Cond) (rd : RegNum) :
    ConditionField.Statement (.mcrBvr5 cond rd) :=
  conditionField_of rfl condOk_ne rfl (by simp)
theorem ConditionField.mrcBcr0  (cond : Cond) (rd : RegNum) :
    ConditionField.Statement (.mrcBcr0 cond rd) :=
  conditionField_of rfl condOk_ne rfl (by simp)
theorem ConditionField.mcrBcr0  (cond : Cond) (rd : RegNum) :
    ConditionField.Statement (.mcrBcr0 cond rd) :=
  conditionField_of rfl condOk_ne rfl (by simp)
theorem ConditionField.mrcBcr1  (cond : Cond) (rd : RegNum) :
    ConditionField.Statement (.mrcBcr1 cond rd) :=
  conditionField_of rfl condOk_ne rfl (by simp)
theorem ConditionField.mcrBcr1  (cond : Cond) (rd : RegNum) :
    ConditionField.Statement (.mcrBcr1 cond rd) :=
  conditionField_of rfl condOk_ne rfl (by simp)
theorem ConditionField.mrcBcr2  (cond : Cond) (rd : RegNum) :
    ConditionField.Statement (.mrcBcr2 cond rd) :=
  conditionField_of rfl condOk_ne rfl (by simp)
theorem ConditionField.mcrBcr2  (cond : Cond) (rd : RegNum) :
    ConditionField.Statement (.mcrBcr2 cond rd) :=
  conditionField_of rfl condOk_ne rfl (by simp)
theorem ConditionField.mrcBcr3  (cond : Cond) (rd : RegNum) :
    ConditionField.Statement (.mrcBcr3 cond rd) :=
  conditionField_of rfl condOk_ne rfl (by simp)
theorem ConditionField.mcrBcr3  (cond : Cond) (rd : RegNum) :
    ConditionField.Statement (.mcrBcr3 cond rd) :=
  conditionField_of rfl condOk_ne rfl (by simp)
theorem ConditionField.mrcBcr4  (cond : Cond) (rd : RegNum) :
    ConditionField.Statement (.mrcBcr4 cond rd) :=
  conditionField_of rfl condOk_ne rfl (by simp)
theorem ConditionField.mcrBcr4  (cond : Cond) (rd : RegNum) :
    ConditionField.Statement (.mcrBcr4 cond rd) :=
  conditionField_of rfl condOk_ne rfl (by simp)
theorem ConditionField.mrcBcr5  (cond : Cond) (rd : RegNum) :
    ConditionField.Statement (.mrcBcr5 cond rd) :=
  conditionField_of rfl condOk_ne rfl (by simp)
theorem ConditionField.mcrBcr5  (cond : Cond) (rd : RegNum) :
    ConditionField.Statement (.mcrBcr5 cond rd) :=
  conditionField_of rfl condOk_ne rfl (by simp)
theorem ConditionField.mrcWvr0  (cond : Cond) (rd : RegNum) :
    ConditionField.Statement (.mrcWvr0 cond rd) :=
  conditionField_of rfl condOk_ne rfl (by simp)
theorem ConditionField.mcrWvr0  (cond : Cond) (rd : RegNum) :
    ConditionField.Statement (.mcrWvr0 cond rd) :=
  conditionField_of rfl condOk_ne rfl (by simp)
theorem ConditionField.mrcWvr1  (cond : Cond) (rd : RegNum) :
    ConditionField.Statement (.mrcWvr1 cond rd) :=
  conditionField_of rfl condOk_ne rfl (by simp)
theorem ConditionField.mcrWvr1  (cond : Cond) (rd : RegNum) :
    ConditionField.Statement (.mcrWvr1 cond rd) :=
  conditionField_of rfl condOk_ne rfl (by simp)
theorem ConditionField.mrcWcr0  (cond : Cond) (rd : RegNum) :
    ConditionField.Statement (.mrcWcr0 cond rd) :=
  conditionField_of rfl condOk_ne rfl (by simp)
theorem ConditionField.mcrWcr0  (cond : Cond) (rd : RegNum) :
    ConditionField.Statement (.mcrWcr0 cond rd) :=
  conditionField_of rfl condOk_ne rfl (by simp)
theorem ConditionField.mrcWcr1  (cond : Cond) (rd : RegNum) :
    ConditionField.Statement (.mrcWcr1 cond rd) :=
  conditionField_of rfl condOk_ne rfl (by simp)
theorem ConditionField.mcrWcr1  (cond : Cond) (rd : RegNum) :
    ConditionField.Statement (.mcrWcr1 cond rd) :=
  conditionField_of rfl condOk_ne rfl (by simp)
theorem ConditionField.mrcDscrFlags  (cond : Cond) :
    ConditionField.Statement (.mrcDscrFlags cond) :=
  conditionField_of rfl condOk_ne rfl (by simp)
theorem ConditionField.ldcDtr  (cond : Cond) (p u w : Bool) (rn : RegNum) (off : BitVec 8) :
    ConditionField.Statement (.ldcDtr cond p u w rn off) :=
  conditionField_of rfl condOk_ne rfl (by simp)
theorem ConditionField.stcDtr  (cond : Cond) (p u w : Bool) (rn : RegNum) (off : BitVec 8) :
    ConditionField.Statement (.stcDtr cond p u w rn off) :=
  conditionField_of rfl condOk_ne rfl (by simp)
theorem ConditionField.cp14Other  (cond : Cond) (hi : BitVec 14) (lo : BitVec 8) :
    ConditionField.Statement (.cp14Other cond hi lo) :=
  conditionField_of rfl (fun h => condOk_and (Bool.and_eq_true_iff.mp h).1) rfl (by simp [fld_or, fld_put_in, fld_put_out])
theorem ConditionField.nop  (cond : Cond) :
    ConditionField.Statement (.nop cond) :=
  conditionField_of rfl condOk_ne rfl (by simp)
theorem ConditionField.yield  (cond : Cond) :
    ConditionField.Statement (.yield cond) :=
  conditionField_of rfl condOk_ne rfl (by simp)
theorem ConditionField.wfe  (cond : Cond) :
    ConditionField.Statement (.wfe cond) :=
  conditionField_of rfl condOk_ne rfl (by simp)
theorem ConditionField.wfi  (cond : Cond) :
    ConditionField.Statement (.wfi cond) :=
  conditionField_of rfl condOk_ne rfl (by simp)
theorem ConditionField.sev  (cond : Cond) :
    ConditionField.Statement (.sev cond) :=
  conditionField_of rfl condOk_ne rfl (by simp)
theorem ConditionField.setend  (e : Bool) :
    ConditionField.Statement (.setend e) := conditionField_none rfl
theorem ConditionField.setendThumb  (e : Bool) :
    ConditionField.Statement (.setendThumb e) := conditionField_none rfl
theorem ConditionField.mrs  (cond : Cond) (r : Bool) (rd : RegNum) :
    ConditionField.Statement (.mrs cond r rd) :=
  conditionField_of rfl condOk_ne rfl (by simp [flag, fld_or, fld_put_in, fld_put_out])
theorem ConditionField.msrReg  (cond : Cond) (r : Bool) (mask : BitVec 4) (rm : RegNum) :
    ConditionField.Statement (.msrReg cond r mask rm) :=
  conditionField_of rfl condOk_ne rfl (by simp [flag, fld_or, fld_put_in, fld_put_out])
theorem ConditionField.msrImm  (cond : Cond) (r : Bool) (mask rot : BitVec 4) (imm : BitVec 8) :
    ConditionField.Statement (.msrImm cond r mask rot imm) :=
  conditionField_of rfl condOk_and rfl (by simp [flag, fld_or, fld_put_in, fld_put_out])
theorem ConditionField.srs  (p u w : Bool) (mode : BitVec 5) :
    ConditionField.Statement (.srs p u w mode) := conditionField_none rfl
theorem ConditionField.rfe  (p u w : Bool) (rn : RegNum) :
    ConditionField.Statement (.rfe p u w rn) := conditionField_none rfl
theorem ConditionField.cps  (imod : BitVec 2) (m a i f : Bool) (mode : BitVec 5) :
    ConditionField.Statement (.cps imod m a i f mode) := conditionField_none rfl
theorem ConditionField.cpsThumb  (imod a i f : Bool) :
    ConditionField.Statement (.cpsThumb imod a i f) := conditionField_none rfl
theorem ConditionField.ldrex  (cond : Cond) (rn rd : RegNum) :
    ConditionField.Statement (.ldrex cond rn rd) :=
  conditionField_of rfl condOk_ne rfl (by simp)
theorem ConditionField.strex  (cond : Cond) (rn rd rm : RegNum) :
    ConditionField.Statement (.strex cond rn rd rm) :=
  conditionField_of rfl condOk_ne rfl (by simp)
theorem ConditionField.ldrexd  (cond : Cond) (rn rd : RegNum) :
    ConditionField.Statement (.ldrexd cond rn rd) :=
  conditionField_of rfl condOk_ne rfl (by simp)
theorem ConditionField.strexd  (cond : Cond) (rn rd rm : RegNum) :
    ConditionField.Statement (.strexd cond rn rd rm) :=
  conditionField_of rfl condOk_ne rfl (by simp)
theorem ConditionField.ldrexb  (cond : Cond) (rn rd : RegNum) :
    ConditionField.Statement (.ldrexb cond rn rd) :=
  conditionField_of rfl condOk_ne rfl (by simp)
theorem ConditionField.strexb  (cond : Cond) (rn rd rm : RegNum) :
    ConditionField.Statement (.strexb cond rn rd rm) :=
  conditionField_of rfl condOk_ne rfl (by simp)
theorem ConditionField.ldrexh  (cond : Cond) (rn rd : RegNum) :
    ConditionField.Statement (.ldrexh cond rn rd) :=
  conditionField_of rfl condOk_ne rfl (by simp)
theorem ConditionField.strexh  (cond : Cond) (rn rd rm : RegNum) :
    ConditionField.Statement (.strexh cond rn rd rm) :=
  conditionField_of rfl condOk_ne rfl (by simp)
theorem ConditionField.clrex :
    ConditionField.Statement .clrex := conditionField_none rfl
theorem ConditionField.swp  (cond : Cond) (rn rd rm : RegNum) :
    ConditionField.Statement (.swp cond rn rd rm) :=
  conditionField_of rfl condOk_ne rfl (by simp)
theorem ConditionField.swpb  (cond : Cond) (rn rd rm : RegNum) :
    ConditionField.Statement (.swpb cond rn rd rm) :=
  conditionField_of rfl condOk_ne rfl (by simp)
theorem ConditionField.swi  (cond : Cond) (imm : BitVec 24) :
    ConditionField.Statement (.swi cond imm) :=
  conditionField_of rfl condOk_ne rfl (by simp [fld_or, fld_put_in, fld_put_out])
theorem ConditionField.swiThumb  (imm : BitVec 8) :
    ConditionField.Statement (.swiThumb imm) := conditionField_none rfl
theorem ConditionField.bkpt  (imm : BitVec 12) (immL : BitVec 4) :
    ConditionField.Statement (.bkpt imm immL) := conditionField_none rfl
theorem ConditionField.bkptThumb  (imm : BitVec 8) :
    ConditionField.Statement (.bkptThumb imm) := conditionField_none rfl
theorem ConditionField.andImm  (cond : Cond) (sb : Bool) (rn rd : RegNum) (rot : BitVec 4) (imm : BitVec 8) :
    ConditionField.Statement (.andImm cond sb rn rd rot imm) :=
  conditionField_of rfl condOk_ne rfl (by simp)
theorem ConditionField.andShiftImm  (cond : Cond) (sb : Bool) (rn rd : RegNum) (amount : BitVec 5) (ty : BitVec 2)
    (rm : RegNum) :
    ConditionField.Statement (.andShiftImm cond sb rn rd amount ty rm) :=
  conditionField_of rfl condOk_ne rfl (by simp)
theorem ConditionField.andShiftReg  (cond : Cond) (sb : Bool) (rn rd rs : RegNum) (ty : BitVec 2) (rm : RegNum) :
    ConditionField.Statement (.andShiftReg cond sb rn rd rs ty rm) :=
  conditionField_of rfl condOk_ne rfl (by simp)
theorem ConditionField.eorImm  (cond : Cond) (sb : Bool) (rn rd : RegNum) (rot : BitVec 4) (imm : BitVec 8) :
    ConditionField.Statement (.eorImm cond sb rn rd rot imm) :=
  conditionField_of rfl condOk_ne rfl (by simp)
theorem ConditionField.eorShiftImm  (cond : Cond) (sb : Bool) (rn rd : RegNum) (amount : BitVec 5) (ty : BitVec 2)
    (rm : RegNum) :
    ConditionField.Statement (.eorShiftImm cond sb rn rd amount ty rm) :=
  conditionField_of rfl condOk_ne rfl (by simp)
theorem ConditionField.eorShiftReg  (cond : Cond) (sb : Bool) (rn rd rs : RegNum) (ty : BitVec 2) (rm : RegNum) :
    ConditionField.Statement (.eorShiftReg cond sb rn rd rs ty rm) :=
  conditionField_of rfl condOk_ne rfl (by simp)
theorem ConditionField.subImm  (cond : Cond) (sb : Bool) (rn rd : RegNum) (rot : BitVec 4) (imm : BitVec 8) :
    ConditionField.Statement (.subImm cond sb rn rd rot imm) :=
  conditionField_of rfl condOk_ne rfl (by simp)
theorem ConditionField.subShiftImm  (cond : Cond) (sb : Bool) (rn rd : RegNum) (amount : BitVec 5) (ty : BitVec 2)
    (rm : RegNum) :
    ConditionField.Statement (.subShiftImm cond sb rn rd amount ty rm) :=
  conditionField_of rfl condOk_ne rfl (by simp)
theorem ConditionField.subShiftReg  (cond : Cond) (sb : Bool) (rn rd rs : RegNum) (ty : BitVec 2) (rm : RegNum) :
    ConditionField.Statement (.subShiftReg cond sb rn rd rs ty rm) :=
  conditionField_of rfl condOk_ne rfl (by simp)
theorem ConditionField.rsbImm  (cond : Cond) (sb : Bool) (rn rd : RegNum) (rot : BitVec 4) (imm : BitVec 8) :
    ConditionField.Statement (.rsbImm cond sb rn rd rot imm) :=
  conditionField_of rfl condOk_ne rfl (by simp)
theorem ConditionField.rsbShiftImm  (cond : Cond) (sb : Bool) (rn rd : RegNum) (amount : BitVec 5) (ty : BitVec 2)
    (rm : RegNum) :
    ConditionField.Statement (.rsbShiftImm cond sb rn rd amount ty rm) :=
  conditionField_of rfl condOk_ne rfl (by simp)
theorem ConditionField.rsbShiftReg  (cond : Cond) (sb : Bool) (rn rd rs : RegNum) (ty : BitVec 2) (rm : RegNum) :
    ConditionField.Statement (.rsbShiftReg cond sb rn rd rs ty rm) :=
  conditionField_of rfl condOk_ne rfl (by simp)
theorem ConditionField.addImm  (cond : Cond) (sb : Bool) (rn rd : RegNum) (rot : BitVec 4) (imm : BitVec 8) :
    ConditionField.Statement (.addImm cond sb rn rd rot imm) :=
  conditionField_of rfl condOk_ne rfl (by simp)
theorem ConditionField.addShiftImm  (cond : Cond) (sb : Bool) (rn rd : RegNum) (amount : BitVec 5) (ty : BitVec 2)
    (rm : RegNum) :
    ConditionField.Statement (.addShiftImm cond sb rn rd amount ty rm) :=
  conditionField_of rfl condOk_ne rfl (by simp)
theorem ConditionField.addShiftReg  (cond : Cond) (sb : Bool) (rn rd rs : RegNum) (ty : BitVec 2) (rm : RegNum) :
    ConditionField.Statement (.addShiftReg cond sb rn rd rs ty rm) :=
  conditionField_of rfl condOk_ne rfl (by simp)
theorem ConditionField.adcImm  (cond : Cond) (sb : Bool) (rn rd : RegNum) (rot : BitVec 4) (imm : BitVec 8) :
    ConditionField.Statement (.adcImm cond sb rn rd rot imm) :=
  conditionField_of rfl condOk_ne rfl (by simp)
theorem ConditionField.adcShiftImm  (cond : Cond) (sb : Bool) (rn rd : RegNum) (amount : BitVec 5) (ty : BitVec 2)
    (rm : RegNum) :
    ConditionField.Statement (.adcShiftImm cond sb rn rd amount ty rm) :=
  conditionField_of rfl condOk_ne rfl (by simp)
theorem ConditionField.adcShiftReg  (cond : Cond) (sb : Bool) (rn rd rs : RegNum) (ty : BitVec 2) (rm : RegNum) :
    ConditionField.Statement (.adcShiftReg cond sb rn rd rs ty rm) :=
  conditionField_of rfl condOk_ne rfl (by simp)
theorem ConditionField.sbcImm  (cond : Cond) (sb : Bool) (rn rd : RegNum) (rot : BitVec 4) (imm : BitVec 8) :
    ConditionField.Statement (.sbcImm cond sb rn rd rot imm) :=
  conditionField_of rfl condOk_ne rfl (by simp)
theorem ConditionField.sbcShiftImm  (cond : Cond) (sb : Bool) (rn rd : RegNum) (amount : BitVec 5) (ty : BitVec 2)
    (rm : RegNum) :
    ConditionField.Statement (.sbcShiftImm cond sb rn rd amount ty rm) :=
  conditionField_of rfl condOk_ne rfl (by simp)
theorem ConditionField.sbcShiftReg  (cond : Cond) (sb : Bool) (rn rd rs : RegNum) (ty : BitVec 2) (rm : RegNum) :
    ConditionField.Statement (.sbcShiftReg cond sb rn rd rs ty rm) :=
  conditionField_of rfl condOk_ne rfl (by simp)
theorem ConditionField.rscImm  (cond : Cond) (sb : Bool) (rn rd : RegNum) (rot : BitVec 4) (imm : BitVec 8) :
    ConditionField.Statement (.rscImm cond sb rn rd rot imm) :=
  conditionField_of rfl condOk_ne rfl (by simp)
theorem ConditionField.rscShiftImm  (cond : Cond) (sb : Bool) (rn rd : RegNum) (amount : BitVec 5) (ty : BitVec 2)
    (rm : RegNum) :
    ConditionField.Statement (.rscShiftImm cond sb rn rd amount ty rm) :=
  conditionField_of rfl condOk_ne rfl (by simp)
theorem ConditionField.rscShiftReg  (cond : Cond) (sb : Bool) (rn rd rs : RegNum) (ty : BitVec 2) (rm : RegNum) :
    ConditionField.Statement (.rscShiftReg cond sb rn rd rs ty rm) :=
  conditionField_of rfl condOk_ne rfl (by simp)
theorem ConditionField.tstImm  (cond : Cond) (rn rd : RegNum) (rot : BitVec 4) (imm : BitVec 8) :
    ConditionField.Statement (.tstImm cond rn rd rot imm) :=
  conditionField_of rfl condOk_ne rfl (by simp)
theorem ConditionField.tstShiftImm  (cond : Cond) (rn rd : RegNum) (amount : BitVec 5) (ty : BitVec 2) (rm : RegNum) :
    ConditionField.Statement (.tstShiftImm cond rn rd amount ty rm) :=
  conditionField_of rfl condOk_ne rfl (by simp)
theorem ConditionField.tstShiftReg  (cond : Cond) (rn rd rs : RegNum) (ty : BitVec 2) (rm : RegNum) :
    ConditionField.Statement (.tstShiftReg cond rn rd rs ty rm) :=
  conditionField_of rfl condOk_ne rfl (by simp)
theorem ConditionField.teqImm  (cond : Cond) (rn rd : RegNum) (rot : BitVec 4) (imm : BitVec 8) :
    ConditionField.Statement (.teqImm cond rn rd rot imm) :=
  conditionField_of rfl condOk_ne rfl (by simp)
theorem ConditionField.teqShiftImm  (cond : Cond) (rn rd : RegNum) (amount : BitVec 5) (ty : BitVec 2) (rm : RegNum) :
    ConditionField.Statement (.teqShiftImm cond rn rd amount ty rm) :=
  conditionField_of rfl condOk_ne rfl (by simp)
theorem ConditionField.teqShiftReg  (cond : Cond) (rn rd rs : RegNum) (ty : BitVec 2) (rm : RegNum) :
    ConditionField.Statement (.teqShiftReg cond rn rd rs ty rm) :=
  conditionField_of rfl condOk_ne rfl (by simp)
theorem ConditionField.cmpImm  (cond : Cond) (rn rd : RegNum) (rot : BitVec 4) (imm : BitVec 8) :
    ConditionField.Statement (.cmpImm cond rn rd rot imm) :=
  conditionField_of rfl condOk_ne rfl (by simp)
theorem ConditionField.cmpShiftImm  (cond : Cond) (rn rd : RegNum) (amount : BitVec 5) (ty : BitVec 2) (rm : RegNum) :
    ConditionField.Statement (.cmpShiftImm cond rn rd amount ty rm) :=
  conditionField_of rfl condOk_ne rfl (by simp)
theorem ConditionField.cmpShiftReg  (cond : Cond) (rn rd rs : RegNum) (ty : BitVec 2) (rm : RegNum) :
    ConditionField.Statement (.cmpShiftReg cond rn rd rs ty rm) :=
  conditionField_of rfl condOk_ne rfl (by simp)
theorem ConditionField.cmnImm  (cond : Cond) (rn rd : RegNum) (rot : BitVec 4) (imm : BitVec 8) :
    ConditionField.Statement (.cmnImm cond rn rd rot imm) :=
  conditionField_of rfl condOk_ne rfl (by simp)
theorem ConditionField.cmnShiftImm  (cond : Cond) (rn rd : RegNum) (amount : BitVec 5) (ty : BitVec 2) (rm : RegNum) :
    ConditionField.Statement (.cmnShiftImm cond rn rd amount ty rm) :=
  conditionField_of rfl condOk_ne rfl (by simp)
theorem ConditionField.cmnShiftReg  (cond : Cond) (rn rd rs : RegNum) (ty : BitVec 2) (rm : RegNum) :
    ConditionField.Statement (.cmnShiftReg cond rn rd rs ty rm) :=
  conditionField_of rfl condOk_ne rfl (by simp)
theorem ConditionField.orrImm  (cond : Cond) (sb : Bool) (rn rd : RegNum) (rot : BitVec 4) (imm : BitVec 8) :
    ConditionField.Statement (.orrImm cond sb rn rd rot imm) :=
  conditionField_of rfl condOk_ne rfl (by simp)
theorem ConditionField.orrShiftImm  (cond : Cond) (sb : Bool) (rn rd : RegNum) (amount : BitVec 5) (ty : BitVec 2)
    (rm : RegNum) :
    ConditionField.Statement (.orrShiftImm cond sb rn rd amount ty rm) :=
  conditionField_of rfl condOk_ne rfl (by simp)
theorem ConditionField.orrShiftReg  (cond : Cond) (sb : Bool) (rn rd rs : RegNum) (ty : BitVec 2) (rm : RegNum) :
    ConditionField.Statement (.orrShiftReg cond sb rn rd rs ty rm) :=
  conditionField_of rfl condOk_ne rfl (by simp)
theorem ConditionField.movImm  (cond : Cond) (sb : Bool) (rn rd : RegNum) (rot : BitVec 4) (imm : BitVec 8) :
    ConditionField.Statement (.movImm cond sb rn rd rot imm) :=
  conditionField_of rfl condOk_ne rfl (by simp)
theorem ConditionField.movShiftImm  (cond : Cond) (sb : Bool) (rn rd : RegNum) (amount : BitVec 5) (ty : BitVec 2)
    (rm : RegNum) :
    ConditionField.Statement (.movShiftImm cond sb rn rd amount ty rm) :=
  conditionField_of rfl condOk_ne rfl (by simp)
theorem ConditionField.movShiftReg  (cond : Cond) (sb : Bool) (rn rd rs : RegNum) (ty : BitVec 2) (rm : RegNum) :
    ConditionField.Statement (.movShiftReg cond sb rn rd rs ty rm) :=
  conditionField_of rfl condOk_ne rfl (by simp)
theorem ConditionField.bicImm  (cond : Cond) (sb : Bool) (rn rd : RegNum) (rot : BitVec 4) (imm : BitVec 8) :
    ConditionField.Statement (.bicImm cond sb rn rd rot imm) :=
  conditionField_of rfl condOk_ne rfl (by simp)
theorem ConditionField.bicShiftImm  (cond : Cond) (sb : Bool) (rn rd : RegNum) (amount : BitVec 5) (ty : BitVec 2)
    (rm : RegNum) :
    ConditionField.Statement (.bicShiftImm cond sb rn rd amount ty rm) :=
  conditionField_of rfl condOk_ne rfl (by simp)
theorem ConditionField.bicShiftReg  (cond : Cond) (sb : Bool) (rn rd rs : RegNum) (ty : BitVec 2) (rm : RegNum) :
    ConditionField.Statement (.bicShiftReg cond sb rn rd rs ty rm) :=
  conditionField_of rfl condOk_ne rfl (by simp)
theorem ConditionField.mvnImm  (cond : Cond) (sb : Bool) (rn rd : RegNum) (rot : BitVec 4) (imm : BitVec 8) :
    ConditionField.Statement (.mvnImm cond sb rn rd rot imm) :=
  conditionField_of rfl condOk_ne rfl (by simp)
theorem ConditionField.mvnShiftImm  (cond : Cond) (sb : Bool) (rn rd : RegNum) (amount : BitVec 5) (ty : BitVec 2)
    (rm : RegNum) :
    ConditionField.Statement (.mvnShiftImm cond sb rn rd amount ty rm) :=
  conditionField_of rfl condOk_ne rfl (by simp)
theorem ConditionField.mvnShiftReg  (cond : Cond) (sb : Bool) (rn rd rs : RegNum) (ty : BitVec 2) (rm : RegNum) :
    ConditionField.Statement (.mvnShiftReg cond sb rn rd rs ty rm) :=
  conditionField_of rfl condOk_ne rfl (by simp)
theorem ConditionField.b  (cond : Cond) (imm : BitVec 24) :
    ConditionField.Statement (.b cond imm) :=
  conditionField_of rfl condOk_ne rfl (by simp [fld_or, fld_put_in, fld_put_out])
theorem ConditionField.bl  (cond : Cond) (imm : BitVec 24) :
    ConditionField.Statement (.bl cond imm) :=
  conditionField_of rfl condOk_ne rfl (by simp [fld_or, fld_put_in, fld_put_out])
theorem ConditionField.bx  (cond : Cond) (rm : RegNum) :
    ConditionField.Statement (.bx cond rm) :=
  conditionField_of rfl condOk_ne rfl (by simp)
theorem ConditionField.blxReg  (cond : Cond) (rm : RegNum) :
    ConditionField.Statement (.blxReg cond rm) :=
  conditionField_of rfl condOk_ne rfl (by simp)
theorem ConditionField.bxj  (cond : Cond) (rm : RegNum) :
    ConditionField.Statement (.bxj cond rm) :=
  conditionField_of rfl condOk_ne rfl (by simp)
theorem ConditionField.blxImm  (h : Bool) (imm : BitVec 24) :
    ConditionField.Statement (.blxImm h imm) := conditionField_none rfl
theorem ConditionField.ldrImm  (cond : Cond) (p u w : Bool) (rn rd : RegNum) (off : BitVec 12) :
    ConditionField.Statement (.ldrImm cond p u w rn rd off) :=
  conditionField_of rfl condOk_ne rfl (by simp)
theorem ConditionField.ldrReg  (cond : Cond) (p u w : Bool) (rn rd : RegNum) (amount : BitVec 5) (ty : BitVec 2)
    (rm : RegNum) :
    ConditionField.Statement (.ldrReg cond p u w rn rd amount ty rm) :=
  conditionField_of rfl condOk_ne rfl (by simp)
theorem ConditionField.strImm  (cond : Cond) (p u w : Bool) (rn rd : RegNum) (off : BitVec 12) :
    ConditionField.Statement (.strImm cond p u w rn rd off) :=
  conditionField_of rfl condOk_ne rfl (by simp)
theorem ConditionField.strReg  (cond : Cond) (p u w : Bool) (rn rd : RegNum) (amount : BitVec 5) (ty : BitVec 2)
    (rm : RegNum) :
    ConditionField.Statement (.strReg cond p u w rn rd amount ty rm) :=
  conditionField_of rfl condOk_ne rfl (by simp)
theorem ConditionField.ldrbImm  (cond : Cond) (p u w : Bool) (rn rd : RegNum) (off : BitVec 12) :
    ConditionField.Statement (.ldrbImm cond p u w rn rd off) :=
  conditionField_of rfl condOk_ne rfl (by simp)
theorem ConditionField.ldrbReg  (cond : Cond) (p u w : Bool) (rn rd : RegNum) (amount : BitVec 5) (ty : BitVec 2)
    (rm : RegNum) :
    ConditionField.Statement (.ldrbReg cond p u w rn rd amount ty rm) :=
  conditionField_of rfl condOk_ne rfl (by simp)
theorem ConditionField.strbImm  (cond : Cond) (p u w : Bool) (rn rd : RegNum) (off : BitVec 12) :
    ConditionField.Statement (.strbImm cond p u w rn rd off) :=
  conditionField_of rfl condOk_ne rfl (by simp)
theorem ConditionField.strbReg  (cond : Cond) (p u w : Bool) (rn rd : RegNum) (amount : BitVec 5) (ty : BitVec 2)
    (rm : RegNum) :
    ConditionField.Statement (.strbReg cond p u w rn rd amount ty rm) :=
  conditionField_of rfl condOk_ne rfl (by simp)
theorem ConditionField.strhImm  (cond : Cond) (p u w : Bool) (rn rd : RegNum) (immH immL : BitVec 4) :
    ConditionField.Statement (.strhImm cond p u w rn rd immH immL) :=
  conditionField_of rfl condOk_ne rfl (by simp)
theorem ConditionField.strhReg  (cond : Cond) (p u w : Bool) (rn rd rm : RegNum) :
    ConditionField.Statement (.strhReg cond p u w rn rd rm) :=
  conditionField_of rfl condOk_ne rfl (by simp)
theorem ConditionField.ldrhImm  (cond : Cond) (p u w : Bool) (rn rd : RegNum) (immH immL : BitVec 4) :
    ConditionField.Statement (.ldrhImm cond p u w rn rd immH immL) :=
  conditionField_of rfl condOk_ne rfl (by simp)
theorem ConditionField.ldrhReg  (cond : Cond) (p u w : Bool) (rn rd rm : RegNum) :
    ConditionField.Statement (.ldrhReg cond p u w rn rd rm) :=
  conditionField_of rfl condOk_ne rfl (by simp)
theorem ConditionField.ldrsbImm  (cond : Cond) (p u w : Bool) (rn rd : RegNum) (immH immL : BitVec 4) :
    ConditionField.Statement (.ldrsbImm cond p u w rn rd immH immL) :=
  conditionField_of rfl condOk_ne rfl (by simp)
theorem ConditionField.ldrsbReg  (cond : Cond) (p u w : Bool) (rn rd rm : RegNum) :
    ConditionField.Statement (.ldrsbReg cond p u w rn rd rm) :=
  conditionField_of rfl condOk_ne rfl (by simp)
theorem ConditionField.ldrshImm  (cond : Cond) (p u w : Bool) (rn rd : RegNum) (immH immL : BitVec 4) :
    ConditionField.Statement (.ldrshImm cond p u w rn rd immH immL) :=
  conditionField_of rfl condOk_ne rfl (by simp)
theorem ConditionField.ldrshReg  (cond : Cond) (p u w : Bool) (rn rd rm : RegNum) :
    ConditionField.Statement (.ldrshReg cond p u w rn rd rm) :=
  conditionField_of rfl condOk_ne rfl (by simp)
theorem ConditionField.ldrdImm  (cond : Cond) (p u w : Bool) (rn rd : RegNum) (immH immL : BitVec 4) :
    ConditionField.Statement (.ldrdImm cond p u w rn rd immH immL) :=
  conditionField_of rfl condOk_ne rfl (by simp)
theorem ConditionField.ldrdReg  (cond : Cond) (p u w : Bool) (rn rd rm : RegNum) :
    ConditionField.Statement (.ldrdReg cond p u w rn rd rm) :=
  conditionField_of rfl condOk_ne rfl (by simp)
theorem ConditionField.strdImm  (cond : Cond) (p u w : Bool) (rn rd : RegNum) (immH immL : BitVec 4) :
    ConditionField.Statement (.strdImm cond p u w rn rd immH immL) :=
  conditionField_of rfl condOk_ne rfl (by simp)
theorem ConditionField.strdReg  (cond : Cond) (p u w : Bool) (rn rd rm : RegNum) :
    ConditionField.Statement (.strdReg cond p u w rn rd rm) :=
  conditionField_of rfl condOk_ne rfl (by simp)
theorem ConditionField.ldm  (cond : Cond) (p u sb w : Bool) (rn : RegNum) (list : BitVec 16) :
    ConditionField.Statement (.ldm cond p u sb w rn list) :=
  conditionField_of rfl condOk_ne rfl (by simp)
theorem ConditionField.stm  (cond : Cond) (p u sb w : Bool) (rn : RegNum) (list : BitVec 16) :
    ConditionField.Statement (.stm cond p u sb w rn list) :=
  conditionField_of rfl condOk_ne rfl (by simp)
theorem ConditionField.mul  (cond : Cond) (sb : Bool) (rd rs rm : RegNum) :
    ConditionField.Statement (.mul cond sb rd rs rm) :=
  conditionField_of rfl condOk_ne rfl (by simp [flag, fld_or, fld_put_in, fld_put_out])
theorem ConditionField.mla  (cond : Cond) (sb : Bool) (rd rn rs rm : RegNum) :
    ConditionField.Statement (.mla cond sb rd rn rs rm) :=
  conditionField_of rfl condOk_ne rfl (by simp [flag, fld_or, fld_put_in, fld_put_out])
theorem ConditionField.clz  (cond : Cond) (rd rm : RegNum) :
    ConditionField.Statement (.clz cond rd rm) :=
  conditionField_of rfl condOk_ne rfl (by simp)
theorem ConditionField.fmsr  (cond : Cond) (fn : BitVec 4) (rd : RegNum) (n : Bool) :
    ConditionField.Statement (.fmsr cond fn rd n) :=
  conditionField_of rfl condOk_ne rfl (by simp)
theorem ConditionField.fmrs  (cond : Cond) (fn : BitVec 4) (rd : RegNum) (n : Bool) :
    ConditionField.Statement (.fmrs cond fn rd n) :=
  conditionField_of rfl condOk_ne rfl (by simp)
theorem ConditionField.fmdlr  (cond : Cond) (fn : BitVec 4) (rd : RegNum) :
    ConditionField.Statement (.fmdlr cond fn rd) :=
  conditionField_of rfl condOk_ne rfl (by simp)
theorem ConditionField.fmdhr  (cond : Cond) (fn : BitVec 4) (rd : RegNum) :
    ConditionField.Statement (.fmdhr cond fn rd) :=
  conditionField_of rfl condOk_ne rfl (by simp)
theorem ConditionField.fmrdl  (cond : Cond) (fn : BitVec 4) (rd : RegNum) :
    ConditionField.Statement (.fmrdl cond fn rd) :=
  conditionField_of rfl condOk_ne rfl (by simp)
theorem ConditionField.fmrdh  (cond : Cond) (fn : BitVec 4) (rd : RegNum) :
    ConditionField.Statement (.fmrdh cond fn rd) :=
  conditionField_of rfl condOk_ne rfl (by simp)
theorem ConditionField.fmxr  (cond : Cond) (reg : BitVec 4) (rd : RegNum) :
    ConditionField.Statement (.fmxr cond reg rd) :=
  conditionField_of rfl condOk_ne rfl (by simp)
theorem ConditionField.fmrx  (cond : Cond) (reg : BitVec 4) (rd : RegNum) :
    ConditionField.Statement (.fmrx cond reg rd) :=
  conditionField_of rfl condOk_and rfl (by simp)
theorem ConditionField.fmstat  (cond : Cond) :
    ConditionField.Statement (.fmstat cond) :=
  conditionField_of rfl condOk_ne rfl (by simp)
theorem ConditionField.fmdrr  (cond : Cond) (rn rd : RegNum) (fm : BitVec 4) :
    ConditionField.Statement (.fmdrr cond rn rd fm) :=
  conditionField_of rfl condOk_ne rfl (by simp)
theorem ConditionField.fmrrd  (cond : Cond) (rn rd : RegNum) (fm : BitVec 4) :
    ConditionField.Statement (.fmrrd cond rn rd fm) :=
  conditionField_of rfl condOk_ne rfl (by simp)
theorem ConditionField.fmsrr  (cond : Cond) (rn rd : RegNum) (m : Bool) (fm : BitVec 4) :
    ConditionField.Statement (.fmsrr cond rn rd m fm) :=
  conditionField_of rfl condOk_ne rfl (by simp)
theorem ConditionField.fmrrs  (cond : Cond) (rn rd : RegNum) (m : Bool) (fm : BitVec 4) :
    ConditionField.Statement (.fmrrs cond rn rd m fm) :=
  conditionField_of rfl condOk_ne rfl (by simp)
theorem ConditionField.flds  (cond : Cond) (u d : Bool) (rn : RegNum) (fd : BitVec 4) (off : BitVec 8) :
    ConditionField.Statement (.flds cond u d rn fd off) :=
  conditionField_of rfl condOk_ne rfl (by simp)
theorem ConditionField.fsts  (cond : Cond) (u d : Bool) (rn : RegNum) (fd : BitVec 4) (off : BitVec 8) :
    ConditionField.Statement (.fsts cond u d rn fd off) :=
  conditionField_of rfl condOk_ne rfl (by simp)
theorem ConditionField.fldd  (cond : Cond) (u : Bool) (rn : RegNum) (fd : BitVec 4) (off : BitVec 8) :
    ConditionField.Statement (.fldd cond u rn fd off) :=
  conditionField_of rfl condOk_ne rfl (by simp)
theorem ConditionField.fstd  (cond : Cond) (u : Bool) (rn : RegNum) (fd : BitVec 4) (off : BitVec 8) :
    ConditionField.Statement (.fstd cond u rn fd off) :=
  conditionField_of rfl condOk_ne rfl (by simp)
theorem ConditionField.fldm  (cond : Cond) (p u d w : Bool) (rn : RegNum) (fd : BitVec 4) (cp1 : Bool) (off : BitVec 8) :
    ConditionField.Statement (.fldm cond p u d w rn fd cp1 off) :=
  conditionField_of rfl condOk_and rfl (by simp)
theorem ConditionField.fstm  (cond : Cond) (p u d w : Bool) (rn : RegNum) (fd : BitVec 4) (cp1 : Bool) (off : BitVec 8) :
    ConditionField.Statement (.fstm cond p u d w rn fd cp1 off) :=
  conditionField_of rfl condOk_and rfl (by simp)
theorem ConditionField.vfpData  (cond : Cond) (opc1 fn fd : BitVec 4) (cp1 : Bool) (opc2 : BitVec 3) (fm : BitVec 4) :
    ConditionField.Statement (.vfpData cond opc1 fn fd cp1 opc2 fm) :=
  conditionField_of rfl condOk_ne rfl (by simp [fld_or, fld_put_in, fld_put_out])
theorem ConditionField.dbgtapExtest :
    ConditionField.Statement .dbgtapExtest := conditionField_none rfl
theorem ConditionField.dbgtapScanN :
    ConditionField.Statement .dbgtapScanN := conditionField_none rfl
theorem ConditionField.dbgtapRestart :
    ConditionField.Statement .dbgtapRestart := conditionField_none rfl
theorem ConditionField.dbgtapHalt :
    ConditionField.Statement .dbgtapHalt := conditionField_none rfl
theorem ConditionField.dbgtapIntest :
    ConditionField.Statement .dbgtapIntest := conditionField_none rfl
theorem ConditionField.dbgtapItrsel :
    ConditionField.Statement .dbgtapItrsel := conditionField_none rfl
theorem ConditionField.dbgtapIdcode :
    ConditionField.Statement .dbgtapIdcode := conditionField_none rfl
theorem ConditionField.dbgtapBypass :
    ConditionField.Statement .dbgtapBypass := conditionField_none rfl

end Sys2Proof.Laws
end

