-- ==== Sys2Proof/Machine/Parallel.lean ====
section
/-!
DEFINITION. What the specification gives of the parallel additions and subtractions and of SEL: their results and the GE flags
(47_core_instructions.md R740, R741). No encoding of these instructions is in the specification, so no row of the opcode table
and no word decodes to them (R700); a `CoreISA` that adds the encodings has their operation here.
-/

namespace Sys2Proof.Machine

/-- The instructions of the GE table (47_core_instructions.md R740). -/
inductive ParallelOp where
  | sadd16 | ssub16 | saddsubx | ssubaddx | sadd8 | ssub8
  | uadd16 | usub16 | uaddsubx | usubaddx | uadd8 | usub8
deriving DecidableEq, Repr

/-- One lane: its sum or difference, truncated, and whether the exact one reaches 0, or 2^w for an unsigned sum
(47_core_instructions.md R740). -/
def lane {w : Nat} (signed add : Bool) (a b : BitVec w) : BitVec w × Bool :=
  (if add then a + b else a - b,
    match signed, add with
    | true, true => decide (0 ≤ a.toInt + b.toInt)
    | true, false => decide (0 ≤ a.toInt - b.toInt)
    | false, true => decide (2 ^ w ≤ a.toNat + b.toNat)
    | false, false => decide (b.toNat ≤ a.toNat))

/-- Two halfword lanes, each with the GE flag of both its bytes; `cross` exchanges the halfwords of Rm
(47_core_instructions.md R740). -/
def lanes16 (signed addHigh addLow cross : Bool) (rn rm : Word) : Word × BitVec 4 :=
  let h := lane signed addHigh (fld rn 16 16 : Half) (if cross then fld rm 0 16 else fld rm 16 16)
  let l := lane signed addLow (fld rn 0 16 : Half) (if cross then fld rm 16 16 else fld rm 0 16)
  (h.1 ++ l.1, BitVec.ofBool h.2 ++ BitVec.ofBool h.2 ++ BitVec.ofBool l.2 ++ BitVec.ofBool l.2)

/-- Four byte lanes (47_core_instructions.md R740). -/
def lanes8 (signed add : Bool) (rn rm : Word) : Word × BitVec 4 :=
  let x (k : Nat) : Byte × Bool := lane signed add (fld rn k 8) (fld rm k 8)
  ((x 24).1 ++ (x 16).1 ++ (x 8).1 ++ (x 0).1,
    BitVec.ofBool (x 24).2 ++ BitVec.ofBool (x 16).2 ++ BitVec.ofBool (x 8).2 ++ BitVec.ofBool (x 0).2)

/-- The result and the GE flags of a parallel instruction (47_core_instructions.md R740). -/
def parallel (op : ParallelOp) (rn rm : Word) : Word × BitVec 4 :=
  match op with
  | .sadd16 => lanes16 true true true false rn rm
  | .ssub16 => lanes16 true false false false rn rm
  | .saddsubx => lanes16 true true false true rn rm
  | .ssubaddx => lanes16 true false true true rn rm
  | .sadd8 => lanes8 true true rn rm
  | .ssub8 => lanes8 true false rn rm
  | .uadd16 => lanes16 false true true false rn rm
  | .usub16 => lanes16 false false false false rn rm
  | .uaddsubx => lanes16 false true false true rn rm
  | .usubaddx => lanes16 false false true true rn rm
  | .uadd8 => lanes8 false true rn rm
  | .usub8 => lanes8 false false rn rm

/-- The GE flags, CPSR[19:16] (10_state.md R31). -/
def State.setGe (s : State) (ge : BitVec 4) : State := s.setCpsr (setFld s.cpsr 16 ge)

/-- A byte of SEL: of the first operand where its GE flag is set (47_core_instructions.md R741). -/
def selectByte (ge : BitVec 4) (rn rm : Word) (i : Nat) : Byte := if bitAt ge i then fld rn (8 * i) 8 else fld rm (8 * i) 8

/-- The result of SEL (47_core_instructions.md R741). -/
def select (ge : BitVec 4) (rn rm : Word) : Word :=
  selectByte ge rn rm 3 ++ selectByte ge rn rm 2 ++ selectByte ge rn rm 1 ++ selectByte ge rn rm 0

end Sys2Proof.Machine
end

