-- ==== Sys2Proof/Safety.lean ====
section
/-!
DEFINITION. What a safe run is, the invariants of the machine, and the terms claims use for what a change leaves alone.
-/

namespace Sys2Proof.Machine

noncomputable section

/-! ## Runs -/

/-- The state after `n` steps, if none of them faults or is refused. -/
def after : Nat → State → Option State
  | 0, s => some s
  | n + 1, s =>
    match step s with
    | .next t => after n t
    | _ => none

/-- A state from which no run of up to `n` steps reaches the unrecoverable state (10_state.md R33): what may end the run is a
refusal, where the specification has no answer. -/
def safeFor : Nat → State → Prop
  | 0, _ => True
  | n + 1, s => (∀ e, step s ≠ .fault e) ∧ ∀ t, step s = .next t → safeFor n t

/-! ## Invariants -/

/-- Memory is in canonical form (20_memory.md R42). -/
def State.memCanonical (s : State) : Prop := s.mem.wf = true

/-- The mode bits hold one of the seven modes, unless an illegal one has been written (10_state.md R33). -/
def State.modeLegal (s : State) : Prop := s.stuck = true ∨ legalMode s.mode = true

/-- The bits of the Control Register that no write changes read as 41_cp15_c1_control.md R150 says. -/
def State.controlFixed (s : State) : Prop :=
  s.cp15.control &&& 0xCD3F44F8 = 0x00054078 ||| flag s.cfg.fiqIsNmi 27

/-! ## An instruction boundary with nothing else to do -/

/-- Nothing but the next instruction is due: no event of the environment, no DBGTAP instruction, the CPU running and not
waiting, no debug request, no interrupt taken, no imprecise abort taken (60_exceptions.md R540). -/
def State.undisturbed (s : State) : Prop :=
  s.env = [] ∧ s.dbg.tap.queue = [] ∧ s.power = .run ∧ s.stuck = false ∧ s.halted = false ∧ s.standby = false ∧
    haltRequest s = false ∧ fiqTaken s = false ∧ irqTaken s = false ∧ (s.imprecise = none ∨ s.aBit = true)

/-! ## Frames -/

/-- A state without what the memory system holds: the TLB, caches, store buffer, exclusive monitor, abort status, watchpoint
match, private memory region, memory, and the counter of free values. -/
def State.outsideMemory (s : State) : State :=
  { s with
    tlb := []
    lockSlots := Vector.replicate 8 LockSlot.empty
    icache := []
    icVictim := 0
    dcache := []
    dcVictim := 0
    storeBuffer := []
    monitor := .openAccess
    imprecise := none
    inFlight := none
    dbg := { s.dbg with watchHit := false }
    dev := Devices.reset s.cfg
    mem := []
    freeCtr := 0 }

/-- A change that only the memory system has seen: everything outside it is as before, and memory stays canonical. -/
def MemoryOnly (s t : State) : Prop := t.outsideMemory = s.outsideMemory ∧ (s.memCanonical → t.memCanonical)

/-- The states in which a result leaves the machine have seen only a change of the memory system. -/
def Res.MemoryOnly {α : Type} (s : State) (r : Res α) : Prop :=
  match r with
  | .ok _ t => Machine.MemoryOnly s t
  | .exc _ t => Machine.MemoryOnly s t
  | .fault _ => True
  | .refused _ => True

/-! ## What an instruction leaves alone -/

/-- The address of the next instruction in sequence (10_state.md R24); the PC of a CPU in debug state stands still
(46_cp14_debug.md R333). -/
def State.past (s : State) : Word := if s.halted then s.pc else if s.thumb then s.pc + 2 else s.pc + 4

/-- Every general register of every bank is as before, but those of the current bank whose numbers are listed; r15 is the PC
and no register of the file. -/
def RegsBut (s t : State) (l : List RegNum) : Prop :=
  ∀ k (_ : k < 30), (∀ n ∈ l, n ≠ 15 → k ≠ physIndex s.bank n) → t.regs[k] = s.regs[k]

/-- Every byte of memory reads as before. -/
def MemSame (s t : State) : Prop := ∀ a : Nat, t.mem.read a = s.mem.read a

/-- Every byte of memory reads as before, but the `n` bytes from an address up. -/
def MemBut (s t : State) (a : Word) (n : Nat) : Prop :=
  ∀ b : Nat, (∀ k, k < n → b ≠ (a + BitVec.ofNat 32 k).toNat) → t.mem.read b = s.mem.read b

/-- Outside the general registers, the PC and the program status registers nothing has changed. -/
def CoreOnly (s t : State) : Prop := t = { s with regs := t.regs, pc := t.pc, psrs := t.psrs }

/-- Outside the general registers, the PC, memory and the counter of free values nothing has changed. -/
def CoreMemOnly (s t : State) : Prop := t = { s with regs := t.regs, pc := t.pc, mem := t.mem, freeCtr := t.freeCtr }

/-- Only register `rd` has been written, with `v`, and the PC has moved on. -/
def WroteReg (s t : State) (rd : RegNum) (v : Word) : Prop :=
  t.bankReg s.bank rd = v ∧ RegsBut s t [rd] ∧ t.psrs = s.psrs ∧ t.pc = s.past ∧ CoreOnly s t ∧ MemSame s t

/-- The four condition flags (10_state.md R28). -/
def FlagsAre (t : State) (n z c v : Bool) : Prop := t.flagN = n ∧ t.flagZ = z ∧ t.flagC = c ∧ t.flagV = v

/-- Of the program status registers only the condition flags of the CPSR may have changed. -/
def OnlyFlags (s t : State) : Prop :=
  t.psrs = { s.psrs with cpsr := t.cpsr } ∧ t.cpsr &&& 0x0FFFFFFF = s.cpsr &&& 0x0FFFFFFF

/-- Only CP15 registers have changed, and the PC has moved on. -/
def Cp15Only (s t : State) : Prop := t = { s with cp15 := t.cp15, pc := s.past }

/-- From `s` an exception has been entered (60_exceptions.md R510): its mode, its banked r14 and SPSR, ARM state, the masks,
the E bit, the vector; the other condition and GE flags, registers, SPSRs and memory are as before. `a` and `f` say whether
the entry sets A and F. -/
def Entered (s t : State) (mode : BitVec 5) (offset link : Word) (a f : Bool) : Prop :=
  t.mode = mode ∧ t.bankReg (bankOf mode) 14 = link ∧ t.psrs.spsr (bankOf mode) = some s.cpsr ∧
    t.tBit = false ∧ t.jBit = false ∧ t.iBit = true ∧ t.aBit = (a || s.aBit) ∧ t.fBit = (f || s.fBit) ∧
    t.eBit = s.ctlEe ∧ t.cpsr &&& 0xF80F0000 = s.cpsr &&& 0xF80F0000 ∧
    t.pc = (if s.ctlV then 0xFFFF0000 else 0) + offset ∧
    (∀ k (_ : k < 30), k ≠ physIndex (bankOf mode) 14 → t.regs[k] = s.regs[k]) ∧
    (∀ b, b ≠ bankOf mode → t.psrs.spsr b = s.psrs.spsr b) ∧ MemSame s t ∧ t.prefetched = []

/-- Executing an instruction gives a next state that has a property. -/
def Gives (i : Instr) (s : State) (P : State → Prop) : Prop := ∃ t, exec i s = .next t ∧ P t

/-- An entry has changed nothing but the general registers, the PC, the program status registers and, by the flush, what had been
fetched ahead (92_eei_decisions.md D16). -/
def EntryOnly (s t : State) : Prop := t = { s.flushPipeline with regs := t.regs, pc := t.pc, psrs := t.psrs }

/-- An abort entry has changed, besides that, the fault registers, the watchpoint match and the counter of free values. -/
def AbortOnly (s t : State) : Prop :=
  t = { s.flushPipeline with
    regs := t.regs
    pc := t.pc
    psrs := t.psrs
    freeCtr := t.freeCtr
    dbg := { s.dbg with watchHit := t.dbg.watchHit }
    cp15 := { s.cp15 with dfsr := t.cp15.dfsr, ifsr := t.cp15.ifsr, far := t.cp15.far, wfar := t.cp15.wfar } }

/-- The Undefined Instruction exception has been entered from the instruction at the PC (60_exceptions.md R515). -/
def EnteredUndefined (s t : State) : Prop := Entered s t modeUnd 0x04 s.past false false ∧ EntryOnly s t

/-- The status bits [10, 3:0] of a fault status register (42_cp15_c2_c6_mmu.md R175, R176). -/
def faultBits (status : BitVec 5) : Word := flag (bitAt status 4) 10 ||| put (fld status 0 4) 0

/-- A precise Data Abort of the instruction at the PC has been entered, with the status, the direction and the address of the
access in the fault registers (60_exceptions.md R523, 20_memory.md R84, 42_cp15_c2_c6_mmu.md R175, R177). -/
def DataAborted (s t : State) (status : BitVec 5) (write : Bool) (mva : Word) : Prop :=
  Entered s t modeAbt 0x10 (s.pc + 8) true false ∧ t.cp15.dfsr &&& 0x00000C0F = faultBits status ||| flag write 11 ∧
    t.cp15.far = mva ∧ t.cp15.ifsr = s.cp15.ifsr ∧ AbortOnly s t

/-- A Prefetch Abort of the instruction at the PC has been entered, with the status in the IFSR (60_exceptions.md R522,
42_cp15_c2_c6_mmu.md R176). -/
def PrefetchAborted (s t : State) (status : BitVec 5) : Prop :=
  Entered s t modeAbt 0x0C (s.pc + 4) true false ∧ t.cp15.ifsr &&& 0x0000040F = faultBits status ∧
    t.cp15.dfsr = s.cp15.dfsr ∧ t.cp15.far = s.cp15.far

/-- Debug state has been entered with a method of entry, and nothing else has changed but what had been fetched ahead and the wait
for an interrupt (46_cp14_debug.md R304, R329). -/
def EnteredDebug (s t : State) (cause : BitVec 4) : Prop :=
  t = { s with
    standby := false
    prefetched := []
    dbg := { s.dbg with
      dscr := (s.dbg.dscr &&& 0xFFFFFFC3) ||| put cause 2 ||| 1
      debugPc := s.pc + (if s.tBit then 4 else if s.jBit then 0 else 8)
      pcWritten := false
      touched := false } }

/-- A Debug exception has been taken through the Prefetch Abort vector, the method of entry in DSCR[5:2] (46_cp14_debug.md R304,
R327). -/
def DebugAborted (s t : State) (cause : BitVec 4) : Prop :=
  PrefetchAborted s t 0b00010 ∧
    AbortOnly { s with dbg := { s.dbg with dscr := (s.dbg.dscr &&& 0xFFFFFFC3) ||| put cause 2 } } t

/-- The CPSR has been replaced by a return with a PSR value: the reserved bits are zero and NMFI keeps F from being set
(47_core_instructions.md R723, 60_exceptions.md R531). The PC is at the target, aligned for the instruction set state
(47_core_instructions.md R706). -/
def Returned (s t : State) (psr target : Word) : Prop :=
  t.psrs = { s.psrs with cpsr := t.cpsr } ∧
    t.cpsr = (if s.ctlNmfi && !s.fBit then psr &&& psrMask &&& 0xFFFFFFBF else psr &&& psrMask) ∧
    t.stuck = (s.stuck || !legalMode (fld t.cpsr 0 5)) ∧
    t.pc = (if t.tBit then target &&& 0xFFFFFFFE else if t.jBit then target else target &&& 0xFFFFFFFC) ∧
    t = { s.flushPipeline with regs := t.regs, pc := t.pc, psrs := t.psrs, stuck := t.stuck }

/-- A branch to a value whose bit [0] selects the instruction set state, bits [1:0] not b10 (47_core_instructions.md R705). -/
def Interworked (s t : State) (v : Word) : Prop :=
  t.psrs = { s.psrs with cpsr := t.cpsr } ∧
    if bitAt v 0 then t.cpsr = s.cpsr ||| 0x20 ∧ t.pc = v &&& 0xFFFFFFFE
    else t.cpsr = s.cpsr &&& 0xFFFFFFDF ∧ t.pc = v

/-- A value moved to an ARM register, or with r15 its top four bits to the flags (30_encoding.md R113). -/
def MovedToCore (s t : State) (rd : RegNum) (v : Word) : Prop :=
  if rd = 15 then
    FlagsAre t (bitAt v 31) (bitAt v 30) (bitAt v 29) (bitAt v 28) ∧ OnlyFlags s t ∧ t.regs = s.regs ∧ t.pc = s.past ∧
      CoreOnly s t
  else WroteReg s t rd v

/-- A value moved by an MRC that with r15 writes nothing or its top four bits to the flags (10_state.md R28, 30_encoding.md R113,
48_vfp.md R786; notes/assumptions/59.md); in debug state the flags count as a write of the CPSR (46_cp14_debug.md R333). -/
def MovedFromVfp (s t : State) (rd : RegNum) (v : Word) : Prop :=
  if rd = 15 then
    t = { s with pc := s.past, freeCtr := t.freeCtr } ∨
      MovedToCore { s with freeCtr := t.freeCtr, dbg := { s.dbg with touched := s.dbg.touched || s.halted } } t 15 v
  else WroteReg s t rd v

/-- Of a state, only what the TLB, caches, store buffer and the rest of the memory system hold may differ from another's. -/
def SameOutsideMemory (s t : State) : Prop := t.outsideMemory = s.outsideMemory

/-! ## Data-processing instructions by operation and operand form -/

/-- The three operand forms of a data-processing instruction (47_core_instructions.md R750). -/
inductive DpOperand where
  | imm (rot : BitVec 4) (imm : BitVec 8)
  | shiftImm (amount : BitVec 5) (ty : BitVec 2) (rm : RegNum)
  | shiftReg (rs : RegNum) (ty : BitVec 2) (rm : RegNum)
deriving DecidableEq, Repr

/-- The shifter operand and its carry out, as the operand forms compute them. -/
def DpOperand.eval (o : DpOperand) (s : State) : Shifted :=
  match o with
  | .imm rot v => s.immOp rot v
  | .shiftImm amount ty rm => s.shiftImmOp amount ty rm
  | .shiftReg rs ty rm => s.shiftRegOp rs ty rm

/-- No r15 in a register-shifted form, the listed fields of the instruction included (47_core_instructions.md R750, U38). -/
def DpOperand.usable (o : DpOperand) (l : List RegNum) : Prop :=
  match o with
  | .imm _ _ => True
  | .shiftImm _ _ _ => True
  | .shiftReg rs _ rm => 15 ∉ rs :: rm :: l

/-- The operations that write a register. -/
inductive DpOp where
  | and | eor | sub | rsb | add | adc | sbc | rsc | orr | mov | bic | mvn
deriving DecidableEq, Repr

/-- The instruction of an operation in an operand form: AND, EOR, SUB, RSB, ADD, ADC, SBC, RSC, ORR, MOV, BIC, MVN. -/
def dpInstr (op : DpOp) (cond : Cond) (sb : Bool) (rn rd : RegNum) (o : DpOperand) : Instr :=
  match o with
  | .imm rot imm =>
    match op with
    | .and => .andImm cond sb rn rd rot imm
    | .eor => .eorImm cond sb rn rd rot imm
    | .sub => .subImm cond sb rn rd rot imm
    | .rsb => .rsbImm cond sb rn rd rot imm
    | .add => .addImm cond sb rn rd rot imm
    | .adc => .adcImm cond sb rn rd rot imm
    | .sbc => .sbcImm cond sb rn rd rot imm
    | .rsc => .rscImm cond sb rn rd rot imm
    | .orr => .orrImm cond sb rn rd rot imm
    | .mov => .movImm cond sb rn rd rot imm
    | .bic => .bicImm cond sb rn rd rot imm
    | .mvn => .mvnImm cond sb rn rd rot imm
  | .shiftImm amount ty rm =>
    match op with
    | .and => .andShiftImm cond sb rn rd amount ty rm
    | .eor => .eorShiftImm cond sb rn rd amount ty rm
    | .sub => .subShiftImm cond sb rn rd amount ty rm
    | .rsb => .rsbShiftImm cond sb rn rd amount ty rm
    | .add => .addShiftImm cond sb rn rd amount ty rm
    | .adc => .adcShiftImm cond sb rn rd amount ty rm
    | .sbc => .sbcShiftImm cond sb rn rd amount ty rm
    | .rsc => .rscShiftImm cond sb rn rd amount ty rm
    | .orr => .orrShiftImm cond sb rn rd amount ty rm
    | .mov => .movShiftImm cond sb rn rd amount ty rm
    | .bic => .bicShiftImm cond sb rn rd amount ty rm
    | .mvn => .mvnShiftImm cond sb rn rd amount ty rm
  | .shiftReg rs ty rm =>
    match op with
    | .and => .andShiftReg cond sb rn rd rs ty rm
    | .eor => .eorShiftReg cond sb rn rd rs ty rm
    | .sub => .subShiftReg cond sb rn rd rs ty rm
    | .rsb => .rsbShiftReg cond sb rn rd rs ty rm
    | .add => .addShiftReg cond sb rn rd rs ty rm
    | .adc => .adcShiftReg cond sb rn rd rs ty rm
    | .sbc => .sbcShiftReg cond sb rn rd rs ty rm
    | .rsc => .rscShiftReg cond sb rn rd rs ty rm
    | .orr => .orrShiftReg cond sb rn rd rs ty rm
    | .mov => .movShiftReg cond sb rn rd rs ty rm
    | .bic => .bicShiftReg cond sb rn rd rs ty rm
    | .mvn => .mvnShiftReg cond sb rn rd rs ty rm

/-- The operations that only compare. -/
inductive DpTest where
  | tst | teq | cmp | cmn
deriving DecidableEq, Repr

/-- The comparing instruction of an operation in an operand form: TST, TEQ, CMP, CMN. -/
def testInstr (op : DpTest) (cond : Cond) (rn rd : RegNum) (o : DpOperand) : Instr :=
  match op, o with
  | .tst, .imm rot imm => .tstImm cond rn rd rot imm
  | .tst, .shiftImm amount ty rm => .tstShiftImm cond rn rd amount ty rm
  | .tst, .shiftReg rs ty rm => .tstShiftReg cond rn rd rs ty rm
  | .teq, .imm rot imm => .teqImm cond rn rd rot imm
  | .teq, .shiftImm amount ty rm => .teqShiftImm cond rn rd amount ty rm
  | .teq, .shiftReg rs ty rm => .teqShiftReg cond rn rd rs ty rm
  | .cmp, .imm rot imm => .cmpImm cond rn rd rot imm
  | .cmp, .shiftImm amount ty rm => .cmpShiftImm cond rn rd amount ty rm
  | .cmp, .shiftReg rs ty rm => .cmpShiftReg cond rn rd rs ty rm
  | .cmn, .imm rot imm => .cmnImm cond rn rd rot imm
  | .cmn, .shiftImm amount ty rm => .cmnShiftImm cond rn rd amount ty rm
  | .cmn, .shiftReg rs ty rm => .cmnShiftReg cond rn rd rs ty rm

/-- The carry and the overflow of the sum `a + b + c` of two words and a bit: the unsigned sum does not fit 32 bits; the
signed sum does not (47_core_instructions.md R750). -/
def sumCarry (a b : Word) (c : Bool) : Bool := decide (2 ^ 32 ≤ a.toNat + b.toNat + c.toNat)
def sumOverflow (a b : Word) (c : Bool) : Bool :=
  decide (a.toInt + b.toInt + c.toNat < -2 ^ 31 ∨ 2 ^ 31 ≤ a.toInt + b.toInt + c.toNat)

/-- The carry of the difference `a - b - k`, which is set when there is no borrow, and its overflow (47_core_instructions.md
R750). -/
def diffCarry (a b : Word) (k : Bool) : Bool := decide (b.toNat + k.toNat ≤ a.toNat)
def diffOverflow (a b : Word) (k : Bool) : Bool :=
  decide (a.toInt - b.toInt - k.toNat < -2 ^ 31 ∨ 2 ^ 31 ≤ a.toInt - b.toInt - k.toNat)

/-- The result of an operation on the first operand `a` and the shifter operand `b`, the carry flag being `c`
(47_core_instructions.md R751 to R766). -/
def DpOp.result (op : DpOp) (a b : Word) (c : Bool) : Word :=
  match op with
  | .and => a &&& b
  | .eor => a ^^^ b
  | .sub => a - b
  | .rsb => b - a
  | .add => a + b
  | .adc => a + b + (if c then 1 else 0)
  | .sbc => a - b - (if c then 0 else 1)
  | .rsc => b - a - (if c then 0 else 1)
  | .orr => a ||| b
  | .mov => b
  | .bic => a &&& ~~~ b
  | .mvn => ~~~ b

/-- Its carry: of a logical operation the shifter's (47_core_instructions.md R750). -/
def DpOp.carry (op : DpOp) (a b : Word) (c shifter : Bool) : Bool :=
  match op with
  | .add => sumCarry a b false
  | .adc => sumCarry a b c
  | .sub => diffCarry a b false
  | .rsb => diffCarry b a false
  | .sbc => diffCarry a b (!c)
  | .rsc => diffCarry b a (!c)
  | _ => shifter

/-- Its overflow: a logical operation keeps the flag `v` (47_core_instructions.md R750). -/
def DpOp.overflow (op : DpOp) (a b : Word) (c v : Bool) : Bool :=
  match op with
  | .add => sumOverflow a b false
  | .adc => sumOverflow a b c
  | .sub => diffOverflow a b false
  | .rsb => diffOverflow b a false
  | .sbc => diffOverflow a b (!c)
  | .rsc => diffOverflow b a (!c)
  | _ => v

/-- Register `rd` has been written with `v` and, with S, the flags N and Z from it and C and V as given; nothing else has
changed but the PC, which has moved on. -/
def ResultWritten (s t : State) (sb : Bool) (rd : RegNum) (v : Word) (c o : Bool) : Prop :=
  t.bankReg s.bank rd = v ∧ RegsBut s t [rd] ∧ t.pc = s.past ∧ CoreOnly s t ∧
    if sb then OnlyFlags s t ∧ FlagsAre t v.msb (v == 0) c o else t.psrs = s.psrs

/-- Only the flags have changed: N and Z from `v`, C and V as given, and the PC has moved on. -/
def Compared (s t : State) (v : Word) (c o : Bool) : Prop :=
  t.regs = s.regs ∧ t.pc = s.past ∧ CoreOnly s t ∧ OnlyFlags s t ∧ FlagsAre t v.msb (v == 0) c o

/-! ## Memory as a program sees it with the MMU off -/

/-- Data accesses go straight to physical memory at the address the program gives: the MMU is off, no remap control is open,
the FCSE adds nothing, the store buffer is empty, no watchpoint is enabled, the endianness is not the reserved one, and memory
is canonical (20_memory.md R45, R51, R52). -/
def State.flat (s : State) : Prop :=
  s.ctlM = false ∧ s.ctlTexRemap = false ∧ s.remapOld = [] ∧ fld s.cp15.fcsePid 25 7 = 0#7 ∧ s.storeBuffer = [] ∧
    (∀ k (_ : k < 2), bitAt s.dbg.wcr[k] 0 = false) ∧ (s.ctlU = true ∨ s.ctlA = true ∨ s.eBit = false) ∧ s.memCanonical

/-- The `n` bytes from an address up are ordinary memory: outside the private memory region, and no access to them is
answered with an error. -/
def State.ordinary (s : State) (a : Word) (n : Nat) : Prop :=
  ∀ k, k < n → inRegion s.cfg (a + BitVec.ofNat 32 k) = false ∧ busError s.cfg (a + BitVec.ofNat 32 k) = none

/-- The byte, halfword and word of memory at an address, in the endianness of the E bit (20_memory.md R43). -/
def State.byteAt (s : State) (a : Word) : Byte := s.mem.read a.toNat
def State.halfAt (s : State) (a : Word) : Half :=
  if s.eBit then s.byteAt a ++ s.byteAt (a + 1) else s.byteAt (a + 1) ++ s.byteAt a
def State.wordAt (s : State) (a : Word) : Word :=
  if s.eBit then s.byteAt a ++ s.byteAt (a + 1) ++ s.byteAt (a + 2) ++ s.byteAt (a + 3)
  else s.byteAt (a + 3) ++ s.byteAt (a + 2) ++ s.byteAt (a + 1) ++ s.byteAt a

/-- The register `base` plus or minus an offset (47_core_instructions.md R770, bit U). -/
def upDown (u : Bool) (base off : Word) : Word := if u then base + off else base - off

/-- The address of a transfer, and whether the base is written back (47_core_instructions.md R770, bits P and W). -/
def transferAddress (p u : Bool) (base off : Word) : Word := if p then upDown u base off else base
def transferWrites (p w : Bool) : Prop := p = false ∨ w = true

/-- What the writeback forms ask of their registers (47_core_instructions.md R770). -/
def addressingOk (p w : Bool) (rn rd : RegNum) : Prop := transferWrites p w → rn ≠ 15 ∧ rn ≠ rd

/-- The address of an access of `n` bytes with the low bits ignored. -/
def lowest (n : Nat) (a : Word) : Word := a &&& ~~~ BitVec.ofNat 32 (n - 1)

/-- A word access with the MMU off is made at a word-aligned address, or with U = 0 and A = 0 at the aligned address below
(20_memory.md R45, R46). -/
def State.wordFits (s : State) (a : Word) : Prop := fld a 0 2 = 0#2 ∨ (s.ctlU = false ∧ s.ctlA = false)

/-- The word of the aligned address below, rotated by the byte offset (20_memory.md R46). -/
def State.rotatedWord (s : State) (a : Word) : Word := (s.wordAt (lowest 4 a)).rotateRight (8 * (fld a 0 2).toNat)

/-- After a load: `rd` holds `v`, the base is written back where the form says so, and nothing else has changed. -/
def Loaded (s t : State) (p u w : Bool) (rn rd : RegNum) (off v : Word) : Prop :=
  t.bankReg s.bank rd = v ∧ (transferWrites p w → t.bankReg s.bank rn = upDown u (s.reg rn) off) ∧
    RegsBut s t (if p && !w then [rd] else [rd, rn]) ∧ t.psrs = s.psrs ∧ t.pc = s.past ∧ CoreOnly s t

/-- The instruction loads `v a`, where `a` is the address its operands give, if the alignment fits and the `n` bytes are
ordinary memory. -/
def LoadsFrom (s : State) (i : Instr) (p u w : Bool) (rn rd : RegNum) (off : Word) (n : Nat) (fits : Word → Prop)
    (v : Word → Word) : Prop :=
  let a := transferAddress p u (s.reg rn) off
  fits a → s.ordinary (lowest n a) n → Gives i s fun t => Loaded s t p u w rn rd off (v a)

/-- After a store of `n` bytes at `a`: the base is written back where the form says so, and outside those bytes nothing else
has changed. -/
def Stored (s t : State) (p u w : Bool) (rn : RegNum) (off a : Word) (n : Nat) : Prop :=
  (transferWrites p w → t.bankReg s.bank rn = upDown u (s.reg rn) off) ∧ RegsBut s t (if p && !w then [] else [rn]) ∧
    t.psrs = s.psrs ∧ t.pc = s.past ∧ CoreMemOnly s t ∧ MemBut s t a n

/-- The instruction stores register `rd` to the `n` bytes at the address `a` its operands give, aligned: `held t a` says that
memory holds it. The value of a stored r15 is open (47_core_instructions.md R770). -/
def StoresTo (s : State) (i : Instr) (p u w : Bool) (rn rd : RegNum) (off : Word) (n : Nat) (fits : Word → Prop)
    (held : State → Word → Prop) : Prop :=
  let a := transferAddress p u (s.reg rn) off
  fits a → s.ordinary (lowest n a) n → Gives i s fun t =>
    Stored s t p u w rn off (lowest n a) n ∧ (rd ≠ 15 → t.freeCtr = s.freeCtr ∧ held t (lowest n a))

/-- The instruction is stopped by the alignment Data Abort of an access at `a`, and changes nothing else (20_memory.md R45). -/
def AlignmentAborts (s : State) (i : Instr) (write : Bool) (a : Word) : Prop :=
  Gives i s fun t => DataAborted s t 0b00001 write (fcse s a)

/-! ## Unaligned accesses to Normal memory -/

/-- Unaligned halfwords and words are accessed byte by byte through the MMU: U = 1 and A = 0, no remap control open, the FCSE adds
nothing, the store buffer is empty, no watchpoint is enabled, and memory is canonical (20_memory.md R45, R48). -/
def State.splits (s : State) : Prop :=
  s.ctlU = true ∧ s.ctlA = false ∧ s.ctlM = true ∧ s.ctlTexRemap = false ∧ s.remapOld = [] ∧
    (s.ctlXp = false ∨ s.ctlForceAp = false) ∧ fld s.cp15.fcsePid 25 7 = 0#7 ∧ s.storeBuffer = [] ∧
    (∀ k (_ : k < 2), bitAt s.dbg.wcr[k] 0 = false) ∧ s.memCanonical

/-- The `n` bytes from `va` up, each translated by itself, are the bytes of ordinary Normal noncachable memory at `pa 0`, `pa 1` and
so on: entries of the TLB in a manager's domain map them (20_memory.md R48, R54, R59, R61). -/
def State.maps (s : State) (va : Word) (n : Nat) (pa : Nat → Word) : Prop :=
  ∀ k, k < n → let a := va + BitVec.ofNat 32 k
    s.ordinary (pa k) 1 ∧ ∃ e, tlbLookup s.ctlXp s a = [e] ∧ fld s.cp15.dacr (2 * e.domain.toNat) 2 = 3#2 ∧ e.tex = 1 ∧
      e.c = false ∧ e.b = false ∧ pa k = e.paBase ||| (a &&& (BitVec.allOnes 32 >>> (32 - e.log2Size)))

/-- Byte `k`, in address order, of a value of `n` bytes (20_memory.md R43). -/
def byteOf (big : Bool) (n : Nat) (v : Word) (k : Nat) : Byte := fld v (8 * if big then n - 1 - k else k) 8

/-- The instruction loads, from an address that is not aligned, `v` of the bytes there (20_memory.md R48). -/
def LoadsSplit (s : State) (i : Instr) (p u w : Bool) (rn rd : RegNum) (off : Word) (n : Nat) (v : (Nat → Byte) → Word) : Prop :=
  let a := transferAddress p u (s.reg rn) off
  ∀ pa, a.toNat % n ≠ 0 → s.maps a n pa → Gives i s fun t => Loaded s t p u w rn rd off (v fun k => s.byteAt (pa k))

/-- The instruction stores the `n` low bytes of register `rd`, at an address that is not aligned, to as many different places: they
are in the store buffer, and in memory once it has drained, where no other byte changes (20_memory.md R48, R90). -/
def StoresSplit (s : State) (i : Instr) (p u w : Bool) (rn rd : RegNum) (off : Word) (n : Nat) : Prop :=
  let a := transferAddress p u (s.reg rn) off
  ∀ pa, a.toNat % n ≠ 0 → s.maps a n pa → (∀ j < n, ∀ k < n, pa j = pa k → j = k) → Gives i s fun t =>
    (transferWrites p w → t.bankReg s.bank rn = upDown u (s.reg rn) off) ∧ RegsBut s t (if p && !w then [] else [rn]) ∧
      t = { s with regs := t.regs, pc := s.past, storeBuffer := t.storeBuffer, freeCtr := t.freeCtr } ∧
      (∀ b : Nat, (∀ k < n, b ≠ (pa k).toNat) → (drainAll t).mem.read b = s.mem.read b) ∧
      (rd ≠ 15 → t.freeCtr = s.freeCtr ∧
        ∀ k < n, (drainAll t).mem.read (pa k).toNat = byteOf s.eBit n (s.reg rd) k)

/-- How many registers of a list are below a number: its place in the block of memory (47_core_instructions.md R772). -/
def rankIn (list : BitVec 16) (i : RegNum) : Nat := ((List.range i.toNat).filter fun k => bitAt list k).length

/-- The address of a listed register's word in a block that begins at `a`. -/
def wordOf (a : Word) (list : BitVec 16) (i : RegNum) : Word := a + BitVec.ofNat 32 (4 * rankIn list i)

/-- After a load multiple from `a`: the listed registers of a bank hold their words, the base is written back where the form
says so (unless it is listed, when it is open), and every other register is as before (47_core_instructions.md R772). -/
def Reloaded (s t : State) (bank : Bank) (u w : Bool) (rn : RegNum) (list : BitVec 16) (a : Word) : Prop :=
  (∀ i : RegNum, i ≠ 15 → bitAt list i.toNat = true → ¬ (w = true ∧ i = rn) → t.bankReg bank i = s.wordAt (wordOf a list i)) ∧
    (w = true → bitAt list rn.toNat = false → t.bankReg s.bank rn = multipleBase u (s.reg rn) (listCount list)) ∧
    ∀ k (_ : k < 30), (∀ n : RegNum, n ≠ 15 → bitAt list n.toNat = true → k ≠ physIndex bank n) →
      (w = true → k ≠ physIndex s.bank rn) → t.regs[k] = s.regs[k]

/-- A word of memory as the table walk reads it, in the endianness of the EE bit (20_memory.md R43). -/
def State.walkWord (s : State) (a : Word) : Word :=
  if s.ctlEe then s.byteAt a ++ s.byteAt (a + 1) ++ s.byteAt (a + 2) ++ s.byteAt (a + 3)
  else s.byteAt (a + 3) ++ s.byteAt (a + 2) ++ s.byteAt (a + 1) ++ s.byteAt a

/-! ## CP15, CP14 and VFP rows -/

/-- The transfers of CP15 registers, or of operations, that only privileged modes may execute (30_encoding.md R114). -/
def cp15PrivilegedRows : List (Cond → RegNum → Instr) :=
  [ .mrcMainId, .mrcCacheType, .mrcTlbType, .mrcCpuId, .mrcIdPfr0, .mrcIdPfr1, .mrcIdDfr0, .mrcIdReserved13,
    .mrcIdMmfr0, .mrcIdMmfr1, .mrcIdMmfr2, .mrcIdMmfr3, .mrcIdIsar0, .mrcIdIsar1, .mrcIdIsar2, .mrcIdIsar3,
    .mrcIdIsar4, .mrcIdReserved25, .mrcIdReserved26, .mrcIdReserved27, .mrcC0Unlisted2, .mrcC0Unlisted4,
    .mrcC0Unlisted6, .mrcC0Unlisted7, .mrcControl, .mcrControl, .mrcAuxControl, .mcrAuxControl, .mrcCpacr, .mcrCpacr,
    .mrcTtbr0, .mcrTtbr0, .mrcTtbr1, .mcrTtbr1, .mrcTtbcr, .mcrTtbcr, .mrcDacr, .mcrDacr, .mrcDfsr, .mcrDfsr, .mrcIfsr,
    .mcrIfsr, .mrcFar, .mcrFar, .mrcWfar, .mcrWfar, .mcrWaitForInterrupt, .mrcPa, .mcrInvalidateICache,
    .mcrInvalidateICacheMva, .mcrInvalidateICacheIndex, .mcrFlushBtac, .mcrFlushBtacEntry, .mcrInvalidateDCache,
    .mcrInvalidateDCacheMva, .mcrInvalidateDCacheIndex, .mcrInvalidateBothCaches, .mcrVaToPaPrivRead,
    .mcrVaToPaPrivWrite, .mcrVaToPaUserRead, .mcrVaToPaUserWrite, .mcrCleanDCache, .mcrCleanDCacheMva,
    .mcrCleanDCacheIndex, .mcrCleanInvDCache, .mcrCleanInvDCacheMva, .mcrCleanInvDCacheIndex, .mcrInvalidateITlb,
    .mcrInvalidateITlbEntry, .mcrInvalidateITlbAsid, .mcrInvalidateITlbMva, .mcrInvalidateDTlb,
    .mcrInvalidateDTlbEntry, .mcrInvalidateDTlbAsid, .mcrInvalidateDTlbMva, .mcrInvalidateUTlb,
    .mcrInvalidateUTlbEntry, .mcrInvalidateUTlbAsid, .mcrInvalidateUTlbMva, .mrcDCacheLockdown, .mcrDCacheLockdown,
    .mrcTlbLockdown, .mcrTlbLockdown, .mrcPrrr, .mcrPrrr, .mrcNmrr, .mcrNmrr, .mrcFcsePid, .mcrFcsePid, .mrcContextId,
    .mcrContextId, .mcrThreadIdUro, .mrcThreadIdPrw, .mcrThreadIdPrw, .mrcPmnc, .mcrPmnc, .mrcCcnt, .mcrCcnt, .mrcPmn0,
    .mcrPmn0, .mrcPmn1, .mcrPmn1, .mcrTlbLockIndexRead, .mcrTlbLockIndexWrite, .mrcTlbLockVa, .mcrTlbLockVa,
    .mrcTlbLockPa, .mcrTlbLockPa, .mrcTlbLockAttr, .mcrTlbLockAttr, .mrcTlbDebugControl, .mcrTlbDebugControl ]

/-- A CP14 instruction may use the debug communications channel, and the other debug registers (46_cp14_debug.md R317). -/
def State.mayUseComms (s : State) : Prop := s.halted = true ∨ s.mode ≠ modeUser ∨ bitAt s.dbg.dscr 12 = false
def State.mayUseDebug (s : State) : Prop := s.halted = true ∨ (s.mode ≠ modeUser ∧ s.debugMode = .monitor)

/-- The CP14 registers beyond the debug communications channel (46_cp14_debug.md R317). -/
def cp14DebugRows : List (Cond → RegNum → Instr) :=
  [ .mrcVcr, .mcrVcr, .mrcBvr0, .mcrBvr0, .mrcBvr1, .mcrBvr1, .mrcBvr2, .mcrBvr2, .mrcBvr3, .mcrBvr3, .mrcBvr4,
    .mcrBvr4, .mrcBvr5, .mcrBvr5, .mrcBcr0, .mcrBcr0, .mrcBcr1, .mcrBcr1, .mrcBcr2, .mcrBcr2, .mrcBcr3, .mcrBcr3,
    .mrcBcr4, .mcrBcr4, .mrcBcr5, .mcrBcr5, .mrcWvr0, .mcrWvr0, .mrcWvr1, .mcrWvr1, .mrcWcr0, .mcrWcr0, .mrcWcr1,
    .mcrWcr1 ]

/-- The VFP instructions that are no system register transfers (48_vfp.md R786 to R788). -/
def plainVfp : Instr → Bool
  | .fmsr .. | .fmrs .. | .fmdlr .. | .fmdhr .. | .fmrdl .. | .fmrdh .. | .fmdrr .. | .fmrrd .. | .fmsrr .. | .fmrrs .. => true
  | .flds .. | .fsts .. | .fldd .. | .fstd .. | .fldm .. | .fstm .. | .vfpData .. => true
  | _ => false

/-- The VFP system register transfers (48_vfp.md R786, R789). -/
def systemVfp : Instr → Bool
  | .fmxr .. | .fmrx .. | .fmstat .. => true
  | _ => false

/-- The VFP may be used: present, both CPACR fields full access with no change pending, enabled, and no support-code trap
pending (48_vfp.md R781, R790). -/
def State.vfpReady (s : State) : Prop :=
  s.cfg.hasVfp = true ∧ s.cpacrOld = none ∧ fld s.cp15.cpacr 20 4 = 0xF#4 ∧ bitAt s.vfp.fpexc 30 = true ∧
    s.vfp.bounce = false

end

end Sys2Proof.Machine
end

