-- ==== Sys2Proof/Certificates/Slice0/Obligations.lean ====
section
/-!
DEFINITION. What is claimed of the machine: statements for the provers. Each docstring names the rules of the specification that
it formalises; a statement about a free value holds for every value of it.
-/

open Sys2Proof Sys2Proof.Machine

/-! ## Encoding -/

/-- Every well-formed instruction, with every operand at every value its encoding admits, decodes to itself from its own
encoding (30_encoding.md R111 to R118, 47_core_instructions.md R703 to R774, 46_cp14_debug.md R301, R336, 48_vfp.md R784 to
R788). -/
def Obligations.DecodeOfEncode : Prop := ∀ i : Instr, i.wellFormed = true → decode (encode i) = .ok i

/-- What the decoder reads from any bits is a well-formed instruction that keeps every bit of them: encoding it gives the word
back, so no reserved encoding falls through to a neighbour and no two words stand for one instruction. Of the DBGTAP codes,
which have unused values that act as Bypass, only the first half is claimed (30_encoding.md R110, R116,
47_core_instructions.md R700, R704, 46_cp14_debug.md R336). -/
def Obligations.EncodeOfDecode : Prop :=
  ∀ (c : Code) (i : Instr), decode c = .ok i → i.wellFormed = true ∧ ((∀ x, c ≠ .dbgtap x) → encode i = c)

/-- The example words of the specification decode to the instructions it names for them: MRC of the Main ID Register
(40_cp15_c0_id.md R120), the Flush Prefetch Buffer operation (43_cp15_c7_cache_ops.md R205), AND r0,r1,#0xFF, SUBS r0,r0,#1,
MOVS pc,lr, B to itself, LDR r0,[r1,#4] post-indexed, STMDB sp! with r0 to r3 and lr, MUL r0,r1,r2, CLZ r0,r1
(47_core_instructions.md R751, R753, R764, R767, R770, R772 to R774). -/
def Obligations.ExampleWordsDecode : Prop :=
  decode (.arm 0xEE100F10) = .ok (.mrcMainId 14 0) ∧
  decode (.arm 0xEE070F95) = .ok (.mcrFlushPrefetchBuffer 14 0) ∧
  decode (.arm 0xE20100FF) = .ok (.andImm 14 false 1 0 0 0xFF) ∧
  decode (.arm 0xE2500001) = .ok (.subImm 14 true 0 0 0 1) ∧
  decode (.arm 0xE1B0F00E) = .ok (.movShiftImm 14 true 0 15 0 0 14) ∧
  decode (.arm 0xEAFFFFFE) = .ok (.b 14 0xFFFFFE) ∧
  decode (.arm 0xE4910004) = .ok (.ldrImm 14 false true false 1 0 4) ∧
  decode (.arm 0xE92D400F) = .ok (.stm 14 true false false true 13 0x400F) ∧
  decode (.arm 0xE0000291) = .ok (.mul 14 false 0 2 1) ∧
  decode (.arm 0xE16F0F11) = .ok (.clz 14 0 1)

/-! ## The step -/

/-- With nothing else due at the instruction boundary, the step executes what the fetch brought and the decoder reads from it; a
watchpoint that the instruction has hit is taken after it (the model's choice, notes/assumptions/44.md), and the debugger's PC
sample is the instruction's (20_memory.md R50, 60_exceptions.md R540, 46_cp14_debug.md R318, R342). -/
def Obligations.StepRunsDecoded : Prop :=
  ∀ (s t : State) (w : Word) (h : DebugHits) (i : Instr),
    s.undisturbed → s.jBit = false → fetchNext s.clearWatch = (.ok (.bits w, h), t) → commitEvent h t = none →
      decode (codeOf t w) = .ok i → step s = onNext (watchEvent t.readPc) (exec i t.committed)

/-- With the MMU and the instruction cache off, no instruction fetched ahead, no debug event enabled and no change of how memory is
accessed since the last pipeline flush, the step runs the ARM word or Thumb halfword that stands in memory at the PC, its lowest
byte at the lowest address whatever the E bit says (20_memory.md R43, R49, R50, R52). -/
def Obligations.StepRunsMemory : Prop :=
  ∀ (s : State) (i : Instr), s.undisturbed → s.jBit = false → s.prefetched = [] → s.fetchOld = [] → s.ctlM = false →
    s.ctlI = false → s.ctlTexRemap = false → s.remapOld = [] → fld s.cp15.fcsePid 25 7 = 0#7 → s.ordinary s.pc 4 →
    (∀ k (_ : k < 6), bitAt s.dbg.bcr[k] 0 = false) → s.debugMode = .disabled →
    decode (if s.tBit then .thumb (s.byteAt (s.pc + 1) ++ s.byteAt s.pc)
      else .arm (s.byteAt (s.pc + 3) ++ s.byteAt (s.pc + 2) ++ s.byteAt (s.pc + 1) ++ s.byteAt s.pc)) = .ok i →
    step s = onNext (watchEvent s.readPc) (exec i s.clearWatch.committed)

/-- A conditional instruction whose condition fails has no effect but to advance the PC. In debug state the PC stands still, and
of a branch whose condition fails an open value is written to it, which counts as a write of the PC. A word that is no instruction
of the table has no other effect either if its condition fails, and so has a PLD, whose encoding is the model's presumption,
notes/assumptions/86.md (30_encoding.md R111, 46_cp14_debug.md R333, 47_core_instructions.md R702, R730). -/
def Obligations.FailedConditionAdvances : Prop :=
  (∀ (i : Instr) (cc : Cond) (s : State), i.condition = some cc → s.passes cc = false →
    let branches : Prop := (∃ imm, i = .b cc imm ∨ i = .bl cc imm) ∨ ∃ rm, i = .bx cc rm ∨ i = .blxReg cc rm ∨ i = .bxj cc rm
    (s.halted = false ∨ ¬ branches → exec i s = .next { s with pc := s.past }) ∧
    (s.halted = true → branches → Gives i s fun t =>
      t = { s with pc := t.pc, freeCtr := t.freeCtr, dbg := { s.dbg with pcWritten := true, touched := true } })) ∧
  (∀ (c : Code) (cc : Cond) (s : State), s.passes cc = false →
    (∀ r ∈ [Reject.absentCoprocessor cc, Reject.vfpUnlisted cc, Reject.outsideSubset cc], decode c = .error r →
      runCode c s = .next { s with pc := s.past })) ∧
  (∀ (w : Word) (s : State), fld w 26 6 = 0x3D#6 → bitAt w 24 = true → fld w 20 3 = 5#3 → fld w 12 4 = 0xF#4 →
    (bitAt w 25 = false ∨ bitAt w 4 = false) → runCode (.arm w) s = .next { s with pc := s.past })

/-! ## Invariants -/

/-- Memory keeps its canonical form through every step, whatever the instruction, the exception and the environment do
(20_memory.md R42, model choice notes/assumptions/3.md). -/
def Obligations.MemoryStaysCanonical : Prop :=
  ∀ s t : State, s.memCanonical → step s = .next t → t.memCanonical

/-- The mode bits hold one of the seven modes after every step, unless an illegal value has been written and the machine is
unrecoverable (10_state.md R21, R33). -/
def Obligations.ModeStaysLegal : Prop := ∀ s t : State, s.modeLegal → step s = .next t → t.modeLegal

/-- The reserved bits of the CPSR and of every SPSR stay zero through every step, and the fixed bits of the Control Register read
as the specification says; the build options and pins do not change (10_state.md R27, 41_cp15_c1_control.md R150, 00_scope.md
R12, R13, 92_eei_decisions.md D7). -/
def Obligations.ReservedBitsStayFixed : Prop :=
  ∀ s t : State, step s = .next t →
    ((s.cpsr &&& ~~~ psrMask = 0 ∧ ∀ b w, s.psrs.spsr b = some w → w &&& ~~~ psrMask = 0) →
      t.cpsr &&& ~~~ psrMask = 0 ∧ ∀ b w, t.psrs.spsr b = some w → w &&& ~~~ psrMask = 0) ∧
    (s.controlFixed → t.controlFixed) ∧ t.cfg = s.cfg

/-- The invariants hold of the machine after reset. -/
def Obligations.ResetMeetsInvariants : Prop :=
  State.reset.memCanonical ∧ State.reset.modeLegal ∧ State.reset.controlFixed ∧
    State.reset.cpsr &&& ~~~ psrMask = 0 ∧ ∀ b w, State.reset.psrs.spsr b = some w → w &&& ~~~ psrMask = 0

/-- The values that the specification gives for reset of the default chip: Supervisor mode, A, I and F set, ARM state,
little-endian data; the reset vector; the CP15 registers that have a reset value; the debug and vector catch registers, the SCU
and the CPU interrupt interface (10_state.md R35, R37, 46_cp14_debug.md R313, 70_reset_and_hazards.md R604). -/
def Obligations.ResetValues : Prop :=
  let s := State.reset
  s.mode = modeSvc ∧ s.aBit = true ∧ s.iBit = true ∧ s.fBit = true ∧ s.tBit = false ∧ s.jBit = false ∧ s.eBit = false ∧
    s.pc = 0 ∧ s.cp15.control = 0x00054078 ∧ s.cp15.auxControl = 0x0000000F ∧ s.cp15.cpacr = 0 ∧ s.cp15.ttbr0 = 0 ∧
    s.cp15.ttbr1 = 0 ∧ s.cp15.ttbcr = 0 ∧ s.cp15.dacr = 0 ∧ s.cp15.pa = 0 ∧ s.cp15.dcacheLockdown = 0xFFFFFFF0 ∧
    s.cp15.tlbLockdown = 0 ∧ s.cp15.prrr = 0x00098AA4 ∧ s.cp15.nmrr = 0x44E048E0 ∧ s.cp15.fcsePid = 0 ∧
    s.cp15.contextId = 0 ∧ s.cp15.threadUrw = 0 ∧ s.cp15.threadUro = 0 ∧ s.cp15.threadPrw = 0 ∧ s.cp15.pmnc = 0 ∧
    s.cp15.tlbLockVa = 0 ∧ s.cp15.tlbLockPa = 0 ∧ s.cp15.tlbLockAttr = 0 ∧ s.cp15.tlbDebugControl = 0 ∧
    s.dbg.dscr = 0x00000002 ∧ s.dbg.vcr = 0 ∧ s.dev.scu.control = 0x00001FFE ∧ s.dev.dist.enable = false ∧
    (s.dev.cpus.get .cpu0).mask = 0xF ∧ (s.dev.cpus.get .cpu0).binaryPoint = 3 ∧ (s.dev.cpus.get .cpu0).enable = false

/-- A reset of this CPU at any moment, whatever the machine holds: the CPSR fields, the PC and every CP15 register that has a
reset value, the whole Control Register among them, take the values the specification gives for every chip. Debug state, the
unrecoverable state of an illegal mode and the wait for an interrupt end, the store buffer has been emptied, and nothing fetched
ahead and no older setting is used by a fetch after it; that this is so of a reset that leaves debug state too is the model's
choice, notes/assumptions/81.md (10_state.md R33, R35, R37, 60_exceptions.md R514, 41_cp15_c1_control.md R150 to R152, R155, R156,
46_cp14_debug.md R332, 70_reset_and_hazards.md R601, R603, 92_eei_decisions.md D16, D38, D41). -/
def Obligations.CpuResetFromAnyState : Prop :=
  ∀ s : State,
    let t := resetCpu s
    t.mode = modeSvc ∧ t.aBit = true ∧ t.iBit = true ∧ t.fBit = true ∧ t.tBit = false ∧ t.jBit = false ∧
      t.eBit = (s.cfg.cfgEnd == .b11) ∧ t.pc = (if s.cfg.vinithi then 0xFFFF0000 else 0) ∧
      t.cp15.control = (0x00054078 ||| flag s.cfg.vinithi 13 ||| flag (s.cfg.cfgEnd != .b00) 22 |||
        flag (s.cfg.cfgEnd == .b11) 25 ||| flag s.cfg.fiqIsNmi 27) ∧
      t.ctlV = s.cfg.vinithi ∧ t.ctlU = (s.cfg.cfgEnd != .b00) ∧ t.ctlEe = (s.cfg.cfgEnd == .b11) ∧
      t.ctlNmfi = s.cfg.fiqIsNmi ∧ t.ctlM = false ∧ t.ctlA = false ∧ t.ctlC = false ∧ t.ctlI = false ∧
      t.cp15.auxControl = 0x0000000F ∧ t.cp15.cpacr = 0 ∧ t.cp15.ttbr0 = 0 ∧ t.cp15.ttbr1 = 0 ∧ t.cp15.ttbcr = 0 ∧
      t.cp15.dacr = 0 ∧ t.cp15.pa = 0 ∧ t.cp15.dcacheLockdown = 0xFFFFFFF0 ∧ t.cp15.tlbLockdown = 0 ∧
      t.cp15.prrr = 0x00098AA4 ∧ t.cp15.nmrr = 0x44E048E0 ∧ t.cp15.fcsePid = 0 ∧ t.cp15.contextId = 0 ∧
      t.cp15.threadUrw = 0 ∧ t.cp15.threadUro = 0 ∧ t.cp15.threadPrw = 0 ∧ t.cp15.pmnc = 0 ∧ t.cp15.tlbLockVa = 0 ∧
      t.cp15.tlbLockPa = 0 ∧ t.cp15.tlbLockAttr = 0 ∧ t.cp15.tlbDebugControl = 0 ∧
      t.halted = false ∧ t.stuck = false ∧ t.standby = false ∧ t.prefetched = [] ∧ t.fetchOld = [] ∧ t.storeBuffer = []

/-! ## User mode -/

/-- In User mode no instruction changes the A, I and F masks or the mode, but by entering a processor exception: then the SPSR of
the mode entered holds the old CPSR and the PC is at a vector (10_state.md R34, 60_exceptions.md R510, R550). -/
def Obligations.UserModeConfined : Prop :=
  ∀ (i : Instr) (s t : State), s.halted = false → s.mode = modeUser → exec i s = .next t →
    (t.mode = modeUser ∧ (fld t.cpsr 6 3 : BitVec 3) = fld s.cpsr 6 3) ∨
      ((t.mode = modeUnd ∨ t.mode = modeSvc ∨ t.mode = modeAbt) ∧ t.psrs.spsr t.bank = some s.cpsr ∧
        ∃ off ∈ ([0x04, 0x08, 0x0C, 0x10] : List Word), t.pc = s.vectorBase + off)

/-- In User mode no instruction changes a CP15 register but the user read/write Thread ID Register, and, where it ends in Abort
mode, the fault status and address registers; nor the VFP enable, nor a register of another bank than the one in use but the r14
of the exception mode entered. That the VFP enable, FPEXC[30], stays set also where an operation of the VFP bounces to support code
is the model's choice, notes/assumptions/34.md (30_encoding.md R114, 45_cp15_c13_c15.md R252, 60_exceptions.md R550). -/
def Obligations.UserModeKeepsSystemRegisters : Prop :=
  ∀ (i : Instr) (s t : State), s.halted = false → s.mode = modeUser → exec i s = .next t →
    t.cp15 = { s.cp15 with
      threadUrw := t.cp15.threadUrw, dfsr := t.cp15.dfsr, ifsr := t.cp15.ifsr, far := t.cp15.far, wfar := t.cp15.wfar } ∧
    (t.mode ≠ modeAbt → t.cp15.dfsr = s.cp15.dfsr ∧ t.cp15.ifsr = s.cp15.ifsr ∧ t.cp15.far = s.cp15.far ∧
      t.cp15.wfar = s.cp15.wfar) ∧
    bitAt t.vfp.fpexc 30 = bitAt s.vfp.fpexc 30 ∧
    ∀ k (_ : k < 30), 13 ≤ k → k ≠ 18 → k ≠ 19 → (∀ b : Bank, b = t.bank → k ≠ physIndex b 14) → t.regs[k] = s.regs[k]

/-! ## Exceptions -/

/-- SWI, in its ARM and its Thumb form, enters Supervisor mode at offset 0x08 with the address of the next instruction in
r14_svc and the CPSR in SPSR_svc, IRQs disabled, A and F as they were; `MOVS pc, r14` in the handler restores the PC and the
CPSR. A failed condition leaves everything but the PC (the specification's own inference in R516, from 47_core_instructions.md
R702); in debug state SWI is outside the specification (60_exceptions.md R510, R512, R516). -/
def Obligations.SoftwareInterrupt : Prop :=
  ∀ (s : State) (cc : Cond) (imm : BitVec 24) (imm8 : BitVec 8),
    (s.halted = false → s.passes cc = true → Gives (.swi cc imm) s fun t =>
      Entered s t modeSvc 0x08 s.past false false ∧ EntryOnly s t ∧
        (s.jBit = false → s.pc &&& (if s.tBit then 1 else 3) = 0 → s.cpsr &&& ~~~ psrMask = 0 →
          Gives (.movShiftImm 14 true 0 15 0 0 14) t fun u => u.pc = s.past ∧ u.cpsr = s.cpsr ∧ u.regs = t.regs)) ∧
    (s.halted = false → Gives (.swiThumb imm8) s fun t => Entered s t modeSvc 0x08 s.past false false ∧ EntryOnly s t) ∧
    (s.halted = false → s.passes cc = false → exec (.swi cc imm) s = .next { s with pc := s.past }) ∧
    (s.halted = true → s.passes cc = true → exec (.swi cc imm) s = .refused .debugStateUnpredictable)

/-- CDP, LDC, STC, MCRR and MRRC of CP15, and the CP14 instructions that no table lists, are Undefined in every mode. In User mode
every transfer of a privileged CP15 register or operation is Undefined, and so are the writes of c0 and the CP15 encodings no
table lists; in a privileged mode these two have no meaning, and neither has r15 as the register of a transfer
(30_encoding.md R113 to R116, 40_cp15_c0_id.md R141, 47_core_instructions.md R704, 60_exceptions.md R515). -/
def Obligations.UndefinedInstructions : Prop :=
  ∀ (s : State) (cc : Cond) (crn crm opc : BitVec 4) (rn rd : RegNum) (opc1 opc2 : BitVec 3) (p u n w l : Bool)
    (off lo : BitVec 8) (hi : BitVec 14), s.passes cc = true →
    (s.halted = false → s.jBit = false →
      Gives (.cdpP15 cc opc crn rd opc2 crm) s (EnteredUndefined s) ∧
      Gives (.ldcStcP15 cc p u n w l rn rd off) s (EnteredUndefined s) ∧
      Gives (.cp14Other cc hi lo) s (EnteredUndefined s)) ∧
    (s.halted = false → s.jBit = false → s.mode = modeUser →
      (∀ f ∈ cp15PrivilegedRows, Gives (f cc rd) s (EnteredUndefined s)) ∧
      Gives (.mcrC0 cc rd opc2 crm) s (EnteredUndefined s) ∧
      Gives (.cp15Unlisted cc opc1 l crn rd opc2 crm) s (EnteredUndefined s)) ∧
    (s.mode ≠ modeUser →
      exec (.mcrC0 cc rd opc2 crm) s = .refused .cp15ReadOnly ∧
      exec (.cp15Unlisted cc opc1 l crn rd opc2 crm) s = .refused .cp15Unlisted ∧
      ∀ f ∈ cp15PrivilegedRows, exec (f cc 15) s = .refused .cp15R15)

/-- From the state an exception has entered, the data-processing returns restore the PC of the link register, less the offset
that belongs to the exception, and the whole CPSR (60_exceptions.md R512, 47_core_instructions.md R706, R723). -/
def Obligations.ReturnFromException : Prop :=
  ∀ (s t : State) (m : BitVec 5) (offset link : Word) (a f : Bool) (k : BitVec 8),
    m ∈ [modeFiq, modeIrq, modeSvc, modeAbt, modeUnd] → Entered s t m offset link a f → t.halted = false →
      s.jBit = false → (link - k.setWidth 32) &&& (if s.tBit then 1 else 3) = 0 → s.cpsr &&& ~~~ psrMask = 0 →
      (Gives (.subImm 14 true 14 15 0 k) t fun u =>
        u.pc = link - k.setWidth 32 ∧ u.cpsr = s.cpsr ∧ u.regs = t.regs ∧ u.mem = t.mem) ∧
      (k = 0 → Gives (.movShiftImm 14 true 0 15 0 0 14) t fun u =>
        u.pc = link ∧ u.cpsr = s.cpsr ∧ u.regs = t.regs ∧ u.mem = t.mem)

/-- At an instruction boundary a registered FIQ that is not masked is taken before an IRQ, and an IRQ that is not masked before
the instruction, with the address of that instruction plus 4 as the link (60_exceptions.md R520, R521, R540). -/
def Obligations.InterruptEntry : Prop :=
  ∀ s : State, s.env = [] → s.dbg.tap.queue = [] → s.power = .run → s.stuck = false → s.halted = false →
    s.standby = false → haltRequest s = false →
    (s.fiqSeen = true → s.fBit = false → bitAt s.dbg.dscr 11 = false → ∃ t, step s = .next t ∧
      Entered s t modeFiq 0x1C (s.pc + 4) true true ∧ EntryOnly s t) ∧
    (s.irqSeen = true → s.iBit = false → bitAt s.dbg.dscr 11 = false → (s.fiqSeen = false ∨ s.fBit = true) →
      ∃ t, step s = .next t ∧ Entered s t modeIrq 0x18 (s.pc + 4) true false ∧ EntryOnly s t)

/-- The aborts. An instruction whose fetch faulted takes a Prefetch Abort when it is executed; a pending imprecise abort is taken
as a Data Abort while the A bit is clear, and recorded in DSCR[7]. A load or store whose address is not aligned takes a Data Abort
with the alignment status, the direction and the address in the fault registers, and nothing else changes but registers that a
load multiple lists or a VFP load of several words names. So do, with the A or the U bit of the Control Register set, LDRD, STRD,
LDM, STM, SRS, RFE, SWP, the exclusive loads and stores, LDC and STC of the debug data transfer register and the VFP loads and
stores, and a load of the PC; and LDR, STR, LDRH, LDRSH and STRH with the A bit set, or with U set and the MMU off. The model's
choices and presumptions among these: that an exclusive store that aborts leaves the exclusive monitor as it was,
notes/assumptions/58.md; that a store or swap of r15 and a multiple with W and the base in its list go as far as the abort,
notes/assumptions/12.md; the register pairs of LDREXD and STREXD, notes/assumptions/13.md; the P, U and W addressing of LDC, STC,
FLDM and FSTM, notes/assumptions/15.md; which registers an aborted VFP load may have written, notes/assumptions/35.md; FLDM and
FSTM of no word, notes/assumptions/71.md; that DSCR[7] is set when the abort is taken, notes/assumptions/18.md (60_exceptions.md
R522, R523, R527, 20_memory.md R44, R45, R47, R52, R82 to R84, 42_cp15_c2_c6_mmu.md R175 to R177, 46_cp14_debug.md R304). -/
def Obligations.Aborts : Prop :=
  (∀ (s t : State) (f : FetchFault) (h : DebugHits), s.undisturbed → s.jBit = false → t.halted = false →
    fetchNext s.clearWatch = (.ok (.faulted f, h), t) → ∃ u, step s = .next u ∧ PrefetchAborted t u f.status ∧ AbortOnly t u) ∧
  (∀ (s : State) (a : ImpreciseAbort), s.env = [] → s.dbg.tap.queue = [] → s.power = .run → s.stuck = false →
    s.halted = false → s.standby = false → haltRequest s = false → fiqTaken s = false → irqTaken s = false →
    s.imprecise = some a → s.aBit = false → ∃ t, step s = .next t ∧
      Entered s t modeAbt 0x10 (s.pc + 8) true false ∧
        AbortOnly { s with imprecise := none, dbg := { s.dbg with dscr := s.dbg.dscr ||| 0x00000080 } } t ∧
        t.cp15.dfsr &&& 0x00001C0F = faultBits 0b10110 ||| flag a.sd 12 ||| flag a.write 11) ∧
  (∀ (s : State) (cc : Cond) (p u w : Bool) (rn rd rm : RegNum) (n : BitVec 5) (ty : BitVec 2) (off : BitVec 12) (h l : BitVec 4),
      s.halted = false → s.passes cc = true → (s.ctlA = true ∨ s.ctlU = true) → addressingOk p w rn rd →
      let strict : Prop := s.ctlA = true ∨ (s.ctlM = false ∧ s.ctlTexRemap = false ∧ s.remapOld = [])
      let split : Word := (h ++ l).setWidth 32
      let at' (o : Word) : Word := transferAddress p u (s.reg rn) o
      (∀ x ∈ [((off.setWidth 32 : Word), Instr.ldrImm cc p u w rn rd off, Instr.strImm cc p u w rn rd off, (0 : RegNum)),
          (((DpOperand.shiftImm n ty rm).eval s).value, .ldrReg cc p u w rn rd n ty rm, .strReg cc p u w rn rd n ty rm, rm)],
        x.2.2.2 ≠ 15 → fld (at' x.1) 0 2 ≠ 0#2 →
          (strict → rd ≠ 15 → AlignmentAborts s x.2.1 false (at' x.1)) ∧
          (rd = 15 → ¬ (p = false ∧ w = true) → AlignmentAborts s x.2.1 false (at' x.1)) ∧
          (strict → AlignmentAborts s x.2.2.1 true (at' x.1))) ∧
      (¬ (p = false ∧ w = true) →
        (∀ x ∈ [(split, Instr.ldrhImm cc p u w rn rd h l, Instr.ldrshImm cc p u w rn rd h l, Instr.strhImm cc p u w rn rd h l,
              (0 : RegNum)),
            (s.reg rm, .ldrhReg cc p u w rn rd rm, .ldrshReg cc p u w rn rd rm, .strhReg cc p u w rn rd rm, rm)],
          x.2.2.2.2 ≠ 15 → bitAt (at' x.1) 0 = true → strict →
            (rd ≠ 15 → AlignmentAborts s x.2.1 false (at' x.1) ∧ AlignmentAborts s x.2.2.1 false (at' x.1)) ∧
            AlignmentAborts s x.2.2.2.1 true (at' x.1)) ∧
        (bitAt rd 0 = false → rd ≠ 14 →
          ∀ x ∈ [(split, Instr.ldrdImm cc p u w rn rd h l, Instr.strdImm cc p u w rn rd h l, (0 : RegNum)),
              (s.reg rm, .ldrdReg cc p u w rn rd rm, .strdReg cc p u w rn rd rm, rm)],
            x.2.2.2 ≠ 15 → (fld (at' x.1) 0 2 ≠ 0#2 ∨ (s.ctlU = false ∧ fld (at' x.1) 0 3 ≠ 0#3)) →
              AlignmentAborts s x.2.1 false (at' x.1) ∧ AlignmentAborts s x.2.2.1 true (at' x.1)))) ∧
  (∀ (s : State) (cc : Cond) (rn rd rm : RegNum), s.halted = false → s.passes cc = true → (s.ctlA = true ∨ s.ctlU = true) →
      rd ≠ 15 →
      let b := s.reg rn
      (fld b 0 2 ≠ 0#2 → AlignmentAborts s (.ldrex cc rn rd) false b ∧ AlignmentAborts s (.strex cc rn rd rm) true b ∧
        AlignmentAborts s (.swp cc rn rd rm) false b) ∧
      (bitAt b 0 = true → AlignmentAborts s (.ldrexh cc rn rd) false b ∧ AlignmentAborts s (.strexh cc rn rd rm) true b) ∧
      (fld b 0 3 ≠ 0#3 →
        (bitAt rd 0 = false → rd ≠ 14 → AlignmentAborts s (.ldrexd cc rn rd) false b) ∧
        (bitAt rm 0 = false → rm ≠ 14 → AlignmentAborts s (.strexd cc rn rd rm) true b))) ∧
  (∀ (s : State) (cc : Cond) (p u sb w : Bool) (rn : RegNum) (list : BitVec 16) (mode : BitVec 5), s.halted = false →
      s.passes cc = true → (s.ctlA = true ∨ s.ctlU = true) →
      (let a := multipleStart p u (s.reg rn) (listCount list)
        let usr := sb && !bitAt list 15
        fld a 0 2 ≠ 0#2 → list ≠ 0 → rn ≠ 15 →
          (¬ (sb = true ∧ w = true) → AlignmentAborts s (.stm cc p u sb w rn list) true a) ∧
          (¬ (usr = true ∧ w = true) → (sb = true → bitAt list 15 = true → s.spsr ≠ none) →
            Gives (.ldm cc p u sb w rn list) s fun t =>
              ∃ s1 : State, s1 = { s with regs := s1.regs, freeCtr := s1.freeCtr } ∧
                (∀ k (_ : k < 30), (k = physIndex s.bank rn ∨ ∀ n : RegNum, n ≠ 15 → bitAt list n.toNat = true →
                    k ≠ physIndex (if usr then .usr else s.bank) n) → s1.regs[k] = s.regs[k]) ∧
                DataAborted s1 t 0b00001 false (fcse s a))) ∧
      (let a := multipleStart p u (s.bankReg (bankOf mode) 13) 2;
        fld a 0 2 ≠ 0#2 → legalMode mode = true → s.spsr ≠ none → AlignmentAborts s (.srs p u w mode) true a) ∧
      (let a := multipleStart p u (s.reg rn) 2;
        fld a 0 2 ≠ 0#2 → s.mode ≠ modeUser → AlignmentAborts s (.rfe p u w rn) false a)) ∧
  (∀ (s : State) (cc : Cond) (p u d w double : Bool) (rn : RegNum) (f : BitVec 4) (off : BitVec 8), s.halted = false →
      s.passes cc = true → (s.ctlA = true ∨ s.ctlU = true) →
      let o : Word := off.setWidth 32 <<< 2
      let a := transferAddress p u (s.reg rn) o
      let b := upDown u (s.reg rn) o
      let vload (i : Instr) (first : BitVec 5) (n : Nat) (a : Word) : Prop := Gives i s fun t =>
        ∃ s1 : State, s1 = { s with vfp := { s.vfp with regs := s1.vfp.regs }, freeCtr := s1.freeCtr } ∧
          (∀ j, (n ≤ 1 ∨ ∀ k < n, j ≠ first + BitVec.ofNat 5 k) → s1.sreg j = s.sreg j) ∧
          DataAborted s1 t 0b00001 false (fcse s a)
      (fld a 0 2 ≠ 0#2 → s.mayUseComms → (w = true → rn ≠ 15) →
        AlignmentAborts s (.ldcDtr cc p u w rn off) false a ∧ AlignmentAborts s (.stcDtr cc p u w rn off) true a) ∧
      (fld b 0 2 ≠ 0#2 → s.vfpReady →
        vload (.flds cc u d rn f off) (sNumber f d) 1 b ∧ AlignmentAborts s (.fsts cc u d rn f off) true b ∧
        vload (.fldd cc u rn f off) (sNumber f false) 2 b ∧ AlignmentAborts s (.fstd cc u rn f off) true b) ∧
      (let n := if double then off.toNat / 2 * 2 else off.toNat;
        fld a 0 2 ≠ 0#2 → s.vfpReady → ¬ (p = false ∧ u = false ∧ w = false) → (w = true → rn ≠ 15) →
        ¬ (double = true ∧ d = true) → (sNumber f d).toNat + n ≤ 32 →
          vload (.fldm cc p u d w rn f double off) (sNumber f d) n a ∧
          AlignmentAborts s (.fstm cc p u d w rn f double off) true a))

/-- The debug events. BKPT enters debug state in Halting debug-mode, with nothing else changed, and is a Prefetch Abort with the
debug event status otherwise. A breakpoint or a vector catch found when an instruction was fetched is taken when the instruction
is to be executed, and instead of it: in Halting debug-mode debug state is entered, in Monitor debug-mode the Prefetch Abort is
taken, but not for a Context ID breakpoint in a privileged mode or a catch of an abort vector. A watchpoint that an instruction
has hit enters debug state or takes a Data Abort, with its address in the WFAR, at the end of that instruction, which is the
model's choice, notes/assumptions/44.md. With no interrupt and no imprecise abort due, against which the order is a draw (of the
abort the model's choice, notes/assumptions/70.md), a debugger's Halt and the EDBGRQ pin enter debug state; Restart leaves it at
the PC that was written, and DBGACK is HIGH meanwhile. That a Restart keeps DSCR[13] where it is still set is the model's choice,
notes/assumptions/69.md, and so are the PC where CPSR.T or CPSR.J changed after it was written, notes/assumptions/79.md, and that
no fetch after it sees an older setting, notes/assumptions/81.md. What matches: an address breakpoint and a watchpoint of all four
bytes in every mode, a Context ID breakpoint, the vectors named in the VCR (46_cp14_debug.md R304, R307 to R312, R318, R320 to
R324, R326 to R329, R334, 60_exceptions.md R524). -/
def Obligations.DebugEvents : Prop :=
  (∀ (s : State) (imm : BitVec 12) (immL : BitVec 4) (imm8 : BitVec 8), s.halted = false →
    ∀ i ∈ [Instr.bkpt imm immL, Instr.bkptThumb imm8],
      (s.debugMode ≠ .halting → Gives i s fun t =>
        DebugAborted s t 0b0011 ∧ (s.debugMode = .monitor → t.cp15.wfar = s.cp15.wfar)) ∧
      (s.debugMode = .halting → Gives i s fun t => EnteredDebug s t 0b0011)) ∧
  (∀ (s t : State) (w : Word) (h : DebugHits), s.undisturbed → s.jBit = false → t.halted = false →
    fetchNext s.clearWatch = (.ok (.bits w, h), t) →
      (t.debugMode = .halting → (h.bkpt = true ∨ h.context = true) → h.vcatch = false →
        ∃ u, step s = .next u ∧ EnteredDebug t u 0b0001) ∧
      (t.debugMode = .halting → h.bkpt = false → h.context = false → h.vcatch = true →
        ∃ u, step s = .next u ∧ EnteredDebug t u 0b0101) ∧
      (t.debugMode = .monitor → (h.bkpt = true ∨ (h.context = true ∧ t.mode = modeUser)) →
        (h.vcatch = false ∨ h.abortCatch = true) → ∃ u, step s = .next u ∧ DebugAborted t u 0b0001) ∧
      (t.debugMode = .monitor → h.bkpt = false → (h.context = false ∨ t.mode ≠ modeUser) → h.vcatch = true →
        h.abortCatch = false → ∃ u, step s = .next u ∧ DebugAborted t u 0b0101) ∧
      (t.debugMode = .monitor → h.bkpt = false → (h.context = false ∨ t.mode ≠ modeUser) →
        (h.vcatch = false ∨ h.abortCatch = true) → commitEvent h t = none) ∧
      (t.debugMode = .disabled → commitEvent h t = none)) ∧
  (∀ (s : State) (a : Word) (size : Nat) (priv : Bool),
    let hits := (fetchHits a size priv s).1
    ((∀ k (_ : k < 6), bitAt s.dbg.bcr[k] 0 = false) → s.dbg.vcr &&& 0xDF = 0 →
      fetchHits a size priv s = (⟨false, false, false, false⟩, s)) ∧
    (∀ k (_ : k < 6), s.dbg.bcr[k] = 0x000001E7 → 0 < size → fld a 2 30 = fld s.dbg.bvr[k] 2 30 → hits.bkpt = true) ∧
    (∀ k (_ : k < 6), s.dbg.bcr[k] = 0x002001E7 → s.dbg.bvr[k] = s.cp15.contextId → hits.context = true) ∧
    (∀ k ∈ [0, 1, 2, 3, 4, 6, 7], bitAt s.dbg.vcr k = true → a = s.vectorBase + BitVec.ofNat 32 (4 * k) →
      hits.vcatch = true ∧ hits.abortCatch = (k == 3 || k == 4))) ∧
  (∀ (s : State) (a : Word) (size : Nat) (load store priv : Bool), s.halted = false → s.dbg.watchHit = false →
    ((∀ k (_ : k < 2), bitAt s.dbg.wcr[k] 0 = false) → watchAccess a size load store priv s = s) ∧
    (∀ k (_ : k < 2), s.dbg.wcr[k] = 0x000001FF → 0 < size → fld a 2 30 = fld s.dbg.wvr[k] 2 30 →
      (watchAccess a size load store priv s).dbg.watchHit = true)) ∧
  (∀ (s : State) (wfar : Word), s.halted = false →
    let u := { s.clearWatch with cp15 := { s.cp15 with wfar := wfar } }
    (s.dbg.watchHit = false → watchEvent wfar s = s) ∧
    (s.dbg.watchHit = true → s.debugMode = .disabled → watchEvent wfar s = s.clearWatch) ∧
    (s.dbg.watchHit = true → s.debugMode = .halting → EnteredDebug u (watchEvent wfar s) 0b0010) ∧
    (s.dbg.watchHit = true → s.debugMode = .monitor → let t := watchEvent wfar s
      Entered s t modeAbt 0x10 (s.pc + 8) true false ∧ t.cp15.dfsr &&& 0x0000040F = 0b00010 ∧ t.cp15.wfar = wfar ∧
        t.cp15.ifsr = s.cp15.ifsr ∧
        AbortOnly { u with dbg := { u.dbg with dscr := (u.dbg.dscr &&& 0xFFFFFFC3) ||| 0x00000008 } } t)) ∧
  (∀ s : State, s.env = [] → s.dbg.tap.queue = [] → s.power = .run → s.stuck = false → s.halted = false → s.standby = false →
    s.cfg.dbgen = true → fiqTaken s = false → irqTaken s = false → (s.imprecise = none ∨ s.aBit = true) →
    (s.dbg.tap.haltRequested = true → ∃ t, step s = .next t ∧ t.dbgack = true ∧
      EnteredDebug { s with dbg := { s.dbg with tap := { s.dbg.tap with haltRequested := false } } } t 0b0000) ∧
    (s.dbg.tap.haltRequested = false → s.dbg.edbgrq = true → ∃ t, step s = .next t ∧ t.dbgack = true ∧
      EnteredDebug s t 0b0100)) ∧
  (∀ s : State, s.halted = true → s.dbg.tap.ir = 0b00100 → let t := enterIdle s
    t.halted = false ∧ t.dbgack = bitAt s.dbg.dscr 10 ∧ (s.dbg.pcWritten = true → t.pc = s.pc) ∧
      t = { s with
        pc := t.pc
        prefetched := []
        fetchOld := []
        freeCtr := t.freeCtr
        dbg := { s.dbg with dscr := (s.dbg.dscr &&& 0xFFFFFFFE) ||| 2, pcWritten := false, touched := false } })

/-! ## Data processing -/

/-- The shifter operand, bit by bit, and its carry: an immediate rotated right by twice the rotate field; a register shifted by
an immediate, where the amount 0 means 32 for LSR and ASR and the rotate with extend for ROR; a register shifted by the low
byte of another, of every amount from 0 to 255 (47_core_instructions.md R750). -/
def Obligations.ShifterOperand : Prop :=
  ∀ (s : State) (rm rs : RegNum) (n : BitVec 5) (rot : BitVec 4) (imm : BitVec 8),
    let w := s.reg rm
    let c := s.flagC
    let m := if n = 0 then 32 else n.toNat
    let k := (fld (s.reg rs) 0 8).toNat
    (∀ i < 32, ((DpOperand.imm rot imm).eval s).value.getLsbD i = imm.getLsbD ((i + 2 * rot.toNat) % 32)) ∧
    ((DpOperand.imm rot imm).eval s).carry =
      (if rot = 0 then c else ((DpOperand.imm rot imm).eval s).value.getLsbD 31) ∧
    (∀ i < 32,
      ((DpOperand.shiftImm n 0 rm).eval s).value.getLsbD i = (decide (n.toNat ≤ i) && w.getLsbD (i - n.toNat)) ∧
      ((DpOperand.shiftImm n 1 rm).eval s).value.getLsbD i = w.getLsbD (i + m) ∧
      ((DpOperand.shiftImm n 2 rm).eval s).value.getLsbD i = w.getLsbD (min (i + m) 31) ∧
      ((DpOperand.shiftImm n 3 rm).eval s).value.getLsbD i =
        (if n = 0 then (if i = 31 then c else w.getLsbD (i + 1)) else w.getLsbD ((i + n.toNat) % 32))) ∧
    ((DpOperand.shiftImm n 0 rm).eval s).carry = (if n = 0 then c else w.getLsbD (32 - n.toNat)) ∧
    ((DpOperand.shiftImm n 1 rm).eval s).carry = w.getLsbD (m - 1) ∧
    ((DpOperand.shiftImm n 2 rm).eval s).carry = w.getLsbD (m - 1) ∧
    ((DpOperand.shiftImm n 3 rm).eval s).carry = (if n = 0 then w.getLsbD 0 else w.getLsbD (n.toNat - 1)) ∧
    (∀ i < 32,
      ((DpOperand.shiftReg rs 0 rm).eval s).value.getLsbD i = (decide (k ≤ i) && w.getLsbD (i - k)) ∧
      ((DpOperand.shiftReg rs 1 rm).eval s).value.getLsbD i = w.getLsbD (i + k) ∧
      ((DpOperand.shiftReg rs 2 rm).eval s).value.getLsbD i = w.getLsbD (min (i + k) 31) ∧
      ((DpOperand.shiftReg rs 3 rm).eval s).value.getLsbD i = w.getLsbD ((i + k) % 32)) ∧
    ((DpOperand.shiftReg rs 0 rm).eval s).carry = (if k = 0 then c else decide (k ≤ 32) && w.getLsbD (32 - k)) ∧
    ((DpOperand.shiftReg rs 1 rm).eval s).carry = (if k = 0 then c else w.getLsbD (k - 1)) ∧
    ((DpOperand.shiftReg rs 2 rm).eval s).carry = (if k = 0 then c else w.getLsbD (min (k - 1) 31)) ∧
    ((DpOperand.shiftReg rs 3 rm).eval s).carry = (if k = 0 then c else w.getLsbD ((k + 31) % 32))

/-- AND, EOR, SUB, RSB, ADD, ADC, SBC, RSC, ORR, MOV, BIC and MVN with every shifter operand write Rd and, with S, the flags,
and change nothing else; r15 in a register-shifted form is outside the specification (47_core_instructions.md R750 to R758,
R763 to R766). -/
def Obligations.DataProcessing : Prop :=
  ∀ (op : DpOp) (cc : Cond) (sb : Bool) (rn rd : RegNum) (o : DpOperand) (s : State), s.passes cc = true →
    let a := s.reg rn
    let x := o.eval s
    (rd ≠ 15 → o.usable [rn, rd] → Gives (dpInstr op cc sb rn rd o) s fun t =>
      ResultWritten s t sb rd (op.result a x.value s.flagC) (op.carry a x.value s.flagC x.carry)
        (op.overflow a x.value s.flagC s.flagV)) ∧
    (¬ o.usable [rn, rd] → exec (dpInstr op cc sb rn rd o) s = .refused .unpredictableForm)

/-- TST, TEQ, CMP and CMN write the flags and nothing else (47_core_instructions.md R750, R759 to R762). -/
def Obligations.Comparisons : Prop :=
  ∀ (cc : Cond) (rn rd : RegNum) (o : DpOperand) (s : State), s.passes cc = true → o.usable [rn, rd] →
    let a := s.reg rn
    let x := o.eval s
    Gives (testInstr .tst cc rn rd o) s (fun t => Compared s t (a &&& x.value) x.carry s.flagV) ∧
    Gives (testInstr .teq cc rn rd o) s (fun t => Compared s t (a ^^^ x.value) x.carry s.flagV) ∧
    Gives (testInstr .cmp cc rn rd o) s
      (fun t => Compared s t (a - x.value) (diffCarry a x.value false) (diffOverflow a x.value false)) ∧
    Gives (testInstr .cmn cc rn rd o) s
      (fun t => Compared s t (a + x.value) (sumCarry a x.value false) (sumOverflow a x.value false))

/-- A data-processing instruction with the PC as its destination: in ARM state it branches to its result, whose bits [1:0] must
be 0; with S it returns through the SPSR, which User and System mode do not have (47_core_instructions.md R706, R750,
60_exceptions.md R512). -/
def Obligations.ProgramCounterDestination : Prop :=
  ∀ (op : DpOp) (cc : Cond) (rn : RegNum) (o : DpOperand) (s : State), s.passes cc = true → s.halted = false →
    s.tBit = false → o.usable [15] →
    let v := op.result (s.reg rn) (o.eval s).value s.flagC
    (fld v 0 2 = 0#2 → exec (dpInstr op cc false rn 15 o) s = .next { s with pc := v }) ∧
    (fld v 0 2 ≠ 0#2 → exec (dpInstr op cc false rn 15 o) s = .refused .misalignedPc) ∧
    (∀ psr, s.spsr = some psr → Gives (dpInstr op cc true rn 15 o) s fun t => Returned s t psr v ∧ t.regs = s.regs) ∧
    (s.spsr = none → exec (dpInstr op cc true rn 15 o) s = .refused .noSpsr)

/-- MUL and MLA: the encodings, the low 32 bits of the product and of the sum, with S the flags N and Z from the result, C and V
unchanged; r15 as any operand is outside the specification. CLZ: the encoding, the number of leading zero bits (32 of a zero, 15
of 0x00010000), no flags; to the PC it is outside the specification (47_core_instructions.md R773, R774). -/
def Obligations.MultiplyAndCount : Prop :=
  ∀ (s : State) (cc : Cond) (sb : Bool) (rd rn rs rm : RegNum),
    encode (.mul cc sb rd rs rm) =
      .arm (put cc 28 ||| flag sb 20 ||| put rd 16 ||| put rs 8 ||| put 0b1001#4 4 ||| put rm 0) ∧
    encode (.mla cc sb rd rn rs rm) =
      .arm (put cc 28 ||| flag true 21 ||| flag sb 20 ||| put rd 16 ||| put rn 12 ||| put rs 8 ||| put 0b1001#4 4 ||| put rm 0) ∧
    decode (.arm 0xE0000291) = .ok (.mul 14 false 0 2 1) ∧ decode (.arm 0xE0203291) = .ok (.mla 14 false 0 3 2 1) ∧
    (s.passes cc = true → rd ≠ 15 → rs ≠ 15 → rm ≠ 15 →
      Gives (.mul cc sb rd rs rm) s (fun t => ResultWritten s t sb rd
        (BitVec.ofNat 32 ((s.reg rm).toNat * (s.reg rs).toNat)) s.flagC s.flagV) ∧
      (rn ≠ 15 → Gives (.mla cc sb rd rn rs rm) s fun t => ResultWritten s t sb rd
        (BitVec.ofNat 32 ((s.reg rm).toNat * (s.reg rs).toNat + (s.reg rn).toNat)) s.flagC s.flagV)) ∧
    (s.passes cc = true → rd = 15 ∨ rs = 15 ∨ rm = 15 → exec (.mul cc sb rd rs rm) s = .refused .unpredictableForm) ∧
    (s.passes cc = true → rd = 15 ∨ rn = 15 ∨ rs = 15 ∨ rm = 15 →
      exec (.mla cc sb rd rn rs rm) s = .refused .unpredictableForm) ∧
    encode (.clz cc rd rm) = .arm (put cc 28 ||| 0x016F0F10 ||| put rd 12 ||| put rm 0) ∧
    decode (.arm 0xE16F0F11) = .ok (.clz 14 0 1) ∧
    (s.passes cc = true → rd ≠ 15 → ∃ n : Nat, n ≤ 32 ∧
      (∀ i < 32, 32 - n ≤ i → (s.reg rm).getLsbD i = false) ∧ (n < 32 → (s.reg rm).getLsbD (31 - n) = true) ∧
      (s.reg rm = 0x00010000 → n = 15) ∧
      Gives (.clz cc rd rm) s fun t => ResultWritten s t false rd (BitVec.ofNat 32 n) false false) ∧
    (s.passes cc = true → exec (.clz cc 15 rm) s = .refused .clzPc)

/-! ## Branches -/

/-- B and BL: the encodings, the target `pc + 8 + (sext(imm24) << 2)`, with L the address of the next instruction in r14, no
change of state and no flags (47_core_instructions.md R767). -/
def Obligations.BranchAndLink : Prop :=
  ∀ (s : State) (cc : Cond) (imm : BitVec 24),
    encode (.b cc imm) = .arm (put cc 28 ||| put 0b101#3 25 ||| put imm 0) ∧
    encode (.bl cc imm) = .arm (put cc 28 ||| put 0b101#3 25 ||| flag true 24 ||| put imm 0) ∧
    decode (.arm 0xEAFFFFFE) = .ok (.b 14 0xFFFFFE) ∧ decode (.arm 0xEB000002) = .ok (.bl 14 2) ∧
    (s.halted = false → s.tBit = false → s.passes cc = true →
      let target := s.pc + 8 + BitVec.ofInt 32 (imm.toInt * 4)
      exec (.b cc imm) s = .next { s with pc := target } ∧
      Gives (.bl cc imm) s fun t => t = { s with regs := t.regs, pc := target } ∧ RegsBut s t [14] ∧
        t.bankReg s.bank 14 = s.pc + 4)

/-- BX, BXJ and the two forms of BLX: bit [0] of the register selects the instruction set state, BXJ behaves as BX, the
immediate form enters Thumb state with H as bit [1] of the target; the links hold the address of the next instruction
(47_core_instructions.md R705, R708, R768, R769). -/
def Obligations.BranchExchange : Prop :=
  ∀ (s : State) (cc : Cond) (rm : RegNum) (h : Bool) (imm : BitVec 24), s.halted = false → s.tBit = false →
    let v := s.reg rm
    let link (t : State) : Prop := RegsBut s t [14] ∧ t.bankReg s.bank 14 = s.pc + 4
    (s.passes cc = true → rm ≠ 15 → fld v 0 2 ≠ 2#2 →
      Gives (.bx cc rm) s (fun t => Interworked s t v ∧ t.regs = s.regs ∧ CoreOnly s t) ∧
      Gives (.bxj cc rm) s (fun t => Interworked s t v ∧ t.regs = s.regs ∧ CoreOnly s t) ∧
      Gives (.blxReg cc rm) s (fun t => Interworked s t v ∧ link t ∧ CoreOnly s t)) ∧
    (s.passes cc = true → rm ≠ 15 → fld v 0 2 = 2#2 →
      exec (.bx cc rm) s = .refused .misalignedPc ∧ exec (.bxj cc rm) s = .refused .misalignedPc ∧
      exec (.blxReg cc rm) s = .refused .misalignedPc) ∧
    Gives (.blxImm h imm) s fun t =>
      t.psrs = { s.psrs with cpsr := s.cpsr ||| 0x20 } ∧ link t ∧ CoreOnly s t ∧
        t.pc = s.pc + 8 + BitVec.ofInt 32 (imm.toInt * 4 + if h then 2 else 0)

/-! ## Loads and stores -/

/-- With the MMU off and ordinary memory, LDR, LDRB, LDRH, LDRSB and LDRSH in every addressing form load the value at the
address their operands give, extended as they say, in the endianness of the E bit; an unaligned LDR with U = 0 rotates the
aligned word; the base is written back where the form says so. With U = 1 and A = 0 an unaligned LDR, LDRH or LDRSH of Normal
memory loads its bytes one by one, each where the MMU maps it (47_core_instructions.md R770, R771, 20_memory.md R43, R45, R46,
R48). -/
def Obligations.SingleLoads : Prop :=
  (∀ (s : State) (cc : Cond) (p u w : Bool) (rn rd : RegNum), s.passes cc = true → s.flat → rd ≠ 15 → addressingOk p w rn rd →
    let even (a : Word) : Prop := bitAt a 0 = false
    let byte (a : Word) : Word := (s.byteAt a).setWidth 32
    let sbyte (a : Word) : Word := (s.byteAt a).signExtend 32
    let half (a : Word) : Word := (s.halfAt a).setWidth 32
    let shalf (a : Word) : Word := (s.halfAt a).signExtend 32
    (∀ off : BitVec 12, let o : Word := off.setWidth 32
      LoadsFrom s (.ldrImm cc p u w rn rd off) p u w rn rd o 4 s.wordFits s.rotatedWord ∧
      LoadsFrom s (.ldrbImm cc p u w rn rd off) p u w rn rd o 1 (fun _ => True) byte) ∧
    (∀ (n : BitVec 5) (ty : BitVec 2) (rm : RegNum), rm ≠ 15 → let o := ((DpOperand.shiftImm n ty rm).eval s).value
      LoadsFrom s (.ldrReg cc p u w rn rd n ty rm) p u w rn rd o 4 s.wordFits s.rotatedWord ∧
      LoadsFrom s (.ldrbReg cc p u w rn rd n ty rm) p u w rn rd o 1 (fun _ => True) byte) ∧
    (¬ (p = false ∧ w = true) →
      (∀ h l : BitVec 4, let o : Word := (h ++ l).setWidth 32
        LoadsFrom s (.ldrhImm cc p u w rn rd h l) p u w rn rd o 2 even half ∧
        LoadsFrom s (.ldrsbImm cc p u w rn rd h l) p u w rn rd o 1 (fun _ => True) sbyte ∧
        LoadsFrom s (.ldrshImm cc p u w rn rd h l) p u w rn rd o 2 even shalf) ∧
      (∀ rm : RegNum, rm ≠ 15 → let o := s.reg rm
        LoadsFrom s (.ldrhReg cc p u w rn rd rm) p u w rn rd o 2 even half ∧
        LoadsFrom s (.ldrsbReg cc p u w rn rd rm) p u w rn rd o 1 (fun _ => True) sbyte ∧
        LoadsFrom s (.ldrshReg cc p u w rn rd rm) p u w rn rd o 2 even shalf))) ∧
  (∀ (s : State) (cc : Cond) (p u w : Bool) (rn rd : RegNum), s.passes cc = true → s.splits → rd ≠ 15 → addressingOk p w rn rd →
    let word (b : Nat → Byte) : Word := if s.eBit then b 0 ++ b 1 ++ b 2 ++ b 3 else b 3 ++ b 2 ++ b 1 ++ b 0
    let half (b : Nat → Byte) : Half := if s.eBit then b 0 ++ b 1 else b 1 ++ b 0
    let zeros (b : Nat → Byte) : Word := (half b).setWidth 32
    let signs (b : Nat → Byte) : Word := (half b).signExtend 32
    (∀ off : BitVec 12, LoadsSplit s (.ldrImm cc p u w rn rd off) p u w rn rd (off.setWidth 32) 4 word) ∧
    (∀ (n : BitVec 5) (ty : BitVec 2) (rm : RegNum), rm ≠ 15 →
      LoadsSplit s (.ldrReg cc p u w rn rd n ty rm) p u w rn rd ((DpOperand.shiftImm n ty rm).eval s).value 4 word) ∧
    (¬ (p = false ∧ w = true) →
      (∀ h l : BitVec 4,
        LoadsSplit s (.ldrhImm cc p u w rn rd h l) p u w rn rd ((h ++ l).setWidth 32) 2 zeros ∧
        LoadsSplit s (.ldrshImm cc p u w rn rd h l) p u w rn rd ((h ++ l).setWidth 32) 2 signs) ∧
      (∀ rm : RegNum, rm ≠ 15 →
        LoadsSplit s (.ldrhReg cc p u w rn rd rm) p u w rn rd (s.reg rm) 2 zeros ∧
        LoadsSplit s (.ldrshReg cc p u w rn rd rm) p u w rn rd (s.reg rm) 2 signs)))

/-- With the MMU off and ordinary memory, STR, STRB and STRH in every addressing form store the low bytes of Rd at the address
their operands give, change no other byte and no register but a written back base. With U = 1 and A = 0 an unaligned STR or STRH to
Normal memory stores its bytes one by one, each where the MMU maps it, through the store buffer. That a store of r15 completes,
with an open value, is the model's choice, notes/assumptions/12.md (47_core_instructions.md R770, R771, 20_memory.md R43, R45, R48,
R90). -/
def Obligations.SingleStores : Prop :=
  (∀ (s : State) (cc : Cond) (p u w : Bool) (rn rd : RegNum), s.passes cc = true → s.flat → addressingOk p w rn rd →
    let even (a : Word) : Prop := bitAt a 0 = false
    let word (t : State) (a : Word) : Prop := t.wordAt a = s.reg rd
    let half (t : State) (a : Word) : Prop := t.halfAt a = (s.reg rd).setWidth 16
    let byte (t : State) (a : Word) : Prop := t.byteAt a = (s.reg rd).setWidth 8
    (∀ off : BitVec 12, let o : Word := off.setWidth 32
      StoresTo s (.strImm cc p u w rn rd off) p u w rn rd o 4 s.wordFits word ∧
      (rd ≠ 15 → StoresTo s (.strbImm cc p u w rn rd off) p u w rn rd o 1 (fun _ => True) byte)) ∧
    (∀ (n : BitVec 5) (ty : BitVec 2) (rm : RegNum), rm ≠ 15 → let o := ((DpOperand.shiftImm n ty rm).eval s).value
      StoresTo s (.strReg cc p u w rn rd n ty rm) p u w rn rd o 4 s.wordFits word ∧
      (rd ≠ 15 → StoresTo s (.strbReg cc p u w rn rd n ty rm) p u w rn rd o 1 (fun _ => True) byte)) ∧
    (¬ (p = false ∧ w = true) →
      (∀ h l : BitVec 4, StoresTo s (.strhImm cc p u w rn rd h l) p u w rn rd ((h ++ l).setWidth 32) 2 even half) ∧
      (∀ rm : RegNum, rm ≠ 15 → StoresTo s (.strhReg cc p u w rn rd rm) p u w rn rd (s.reg rm) 2 even half))) ∧
  (∀ (s : State) (cc : Cond) (p u w : Bool) (rn rd : RegNum), s.passes cc = true → s.splits → addressingOk p w rn rd →
    (∀ off : BitVec 12, StoresSplit s (.strImm cc p u w rn rd off) p u w rn rd (off.setWidth 32) 4) ∧
    (∀ (n : BitVec 5) (ty : BitVec 2) (rm : RegNum), rm ≠ 15 →
      StoresSplit s (.strReg cc p u w rn rd n ty rm) p u w rn rd ((DpOperand.shiftImm n ty rm).eval s).value 4) ∧
    (¬ (p = false ∧ w = true) →
      (∀ h l : BitVec 4, StoresSplit s (.strhImm cc p u w rn rd h l) p u w rn rd ((h ++ l).setWidth 32) 2) ∧
      (∀ rm : RegNum, rm ≠ 15 → StoresSplit s (.strhReg cc p u w rn rd rm) p u w rn rd (s.reg rm) 2)))

/-- With the MMU off and ordinary memory, LDRD and STRD transfer two words from an even register up, at a doubleword-aligned
address or, with U = 1, a word-aligned one; a base that LDRD also loads holds the loaded word (47_core_instructions.md R771,
20_memory.md R45). -/
def Obligations.DoublewordTransfers : Prop :=
  ∀ (s : State) (cc : Cond) (p u w : Bool) (rn rd rm : RegNum) (h l : BitVec 4), s.passes cc = true → s.flat →
    ¬ (p = false ∧ w = true) → bitAt rd 0 = false → rd ≠ 14 → addressingOk p w rn rd →
    ∀ x ∈ [(((h ++ l).setWidth 32 : Word), Instr.ldrdImm cc p u w rn rd h l, Instr.strdImm cc p u w rn rd h l, (0 : RegNum)),
        (s.reg rm, Instr.ldrdReg cc p u w rn rd rm, Instr.strdReg cc p u w rn rd rm, rm)], x.2.2.2 ≠ 15 →
      let a := transferAddress p u (s.reg rn) x.1
      fld a 0 3 = 0#3 ∨ (s.ctlU = true ∧ fld a 0 2 = 0#2) → s.ordinary a 8 →
        (Gives x.2.1 s fun t =>
          t.bankReg s.bank rd = s.wordAt a ∧ t.bankReg s.bank (rd + 1) = s.wordAt (a + 4) ∧
            (transferWrites p w → rn ≠ rd + 1 → t.bankReg s.bank rn = upDown u (s.reg rn) x.1) ∧
            RegsBut s t (if p && !w then [rd, rd + 1] else [rd, rd + 1, rn]) ∧ t.psrs = s.psrs ∧ t.pc = s.past ∧ CoreOnly s t) ∧
        (Gives x.2.2.1 s fun t =>
          Stored s t p u w rn x.1 a 8 ∧ t.wordAt a = s.reg rd ∧ t.wordAt (a + 4) = s.reg (rd + 1) ∧ t.freeCtr = s.freeCtr)

/-- With the MMU off and ordinary memory, LDM without the PC loads each listed register, the lowest from the lowest address, in
the current bank or, with S, in the User bank, and writes the base back with W. That it completes with W and the base in the list,
the base then open, is the model's choice, notes/assumptions/12.md (47_core_instructions.md R772). -/
def Obligations.LoadMultiple : Prop :=
  ∀ (s : State) (cc : Cond) (p u sb w : Bool) (rn : RegNum) (list : BitVec 16), s.passes cc = true → s.flat → list ≠ 0 →
    bitAt list 15 = false → rn ≠ 15 → ¬ (sb = true ∧ w = true) →
    let start := multipleStart p u (s.reg rn) (listCount list)
    s.wordFits start → s.ordinary (lowest 4 start) (4 * listCount list) →
      Gives (.ldm cc p u sb w rn list) s fun t =>
        Reloaded s t (if sb then .usr else s.bank) u w rn list (lowest 4 start) ∧ t.psrs = s.psrs ∧ t.pc = s.past ∧
          t = { s with regs := t.regs, pc := t.pc, freeCtr := t.freeCtr }

/-- With the MMU off and ordinary memory, STM stores each listed register, the lowest at the lowest address, of the current bank
or, with S, of the User bank, and writes the base back with W; no other byte changes. That it completes with r15 in the list, or
with a base that is written back and is not the lowest of it, the value stored then open, is the model's choice,
notes/assumptions/12.md (47_core_instructions.md R772). -/
def Obligations.StoreMultiple : Prop :=
  ∀ (s : State) (cc : Cond) (p u sb w : Bool) (rn : RegNum) (list : BitVec 16), s.passes cc = true → s.flat → list ≠ 0 →
    rn ≠ 15 → ¬ (sb = true ∧ w = true) →
    let start := multipleStart p u (s.reg rn) (listCount list)
    s.wordFits start → s.ordinary (lowest 4 start) (4 * listCount list) →
      Gives (.stm cc p u sb w rn list) s fun t =>
        (∀ i : RegNum, i ≠ 15 → bitAt list i.toNat = true → ¬ (w = true ∧ i = rn ∧ rankIn list rn ≠ 0) →
          t.wordAt (wordOf (lowest 4 start) list i) = s.bankReg (if sb then .usr else s.bank) i) ∧
        (w = true → t.bankReg s.bank rn = multipleBase u (s.reg rn) (listCount list)) ∧
        RegsBut s t (if w then [rn] else []) ∧ t.psrs = s.psrs ∧ t.pc = s.past ∧ CoreMemOnly s t ∧
        MemBut s t (lowest 4 start) (4 * listCount list)

/-- Loads of the PC, with the MMU off and ordinary memory: LDR, in every addressing form, that with the PC as its base included, and
LDM interwork on bit [0] of the loaded word while L4 is 0 and leave the T bit alone while it is 1; LDM with S and the PC returns
through the SPSR. That LDM completes with W and the base in the list is the model's choice, notes/assumptions/12.md, and so is that
with S and the PC it writes the base of the mode before the return, notes/assumptions/82.md (47_core_instructions.md R705, R715, R770,
R772, 60_exceptions.md R512). -/
def Obligations.LoadsOfThePc : Prop :=
  ∀ (s : State) (cc : Cond) (p u w : Bool) (rn : RegNum), s.passes cc = true → s.flat → s.halted = false → s.tBit = false →
    (∀ (off : BitVec 12) (n : BitVec 5) (ty : BitVec 2) (rm : RegNum), (transferWrites p w → rn ≠ 15) → ¬ (p = false ∧ w = true) →
      ∀ x ∈ [((off.setWidth 32 : Word), Instr.ldrImm cc p u w rn 15 off, (0 : RegNum)),
          (((DpOperand.shiftImm n ty rm).eval s).value, .ldrReg cc p u w rn 15 n ty rm, rm)], x.2.2 ≠ 15 →
      let a := transferAddress p u (s.reg rn) x.1
      let v := s.wordAt a
      fld a 0 2 = 0#2 → s.ordinary a 4 →
        let base (t : State) : Prop := (transferWrites p w → t.bankReg s.bank rn = upDown u (s.reg rn) x.1) ∧
          RegsBut s t (if p && !w then [] else [rn]) ∧ CoreOnly s t
        (s.ctlL4 = false → fld v 0 2 ≠ 2#2 → Gives x.2.1 s fun t => base t ∧ Interworked s t v) ∧
        (s.ctlL4 = false → fld v 0 2 = 2#2 → exec x.2.1 s = .refused .misalignedPc) ∧
        (s.ctlL4 = true → Gives x.2.1 s fun t => base t ∧ t.psrs = s.psrs ∧ t.pc = v &&& 0xFFFFFFFC)) ∧
    (∀ list : BitVec 16, rn ≠ 15 → bitAt list 15 = true →
      let start := multipleStart p u (s.reg rn) (listCount list)
      let v := s.wordAt (wordOf (lowest 4 start) list 15)
      s.wordFits start → s.ordinary (lowest 4 start) (4 * listCount list) →
        (s.ctlL4 = false → fld v 0 2 ≠ 2#2 → Gives (.ldm cc p u false w rn list) s fun t =>
          Reloaded s t s.bank u w rn list (lowest 4 start) ∧ Interworked s t v ∧ CoreOnly { s with freeCtr := t.freeCtr } t) ∧
        (s.ctlL4 = false → fld v 0 2 = 2#2 → exec (.ldm cc p u false w rn list) s = .refused .misalignedPc) ∧
        (s.ctlL4 = true → Gives (.ldm cc p u false w rn list) s fun t =>
          Reloaded s t s.bank u w rn list (lowest 4 start) ∧ t.psrs = s.psrs ∧ t.pc = v &&& 0xFFFFFFFC ∧
            CoreOnly { s with freeCtr := t.freeCtr } t) ∧
        (∀ psr, s.spsr = some psr → Gives (.ldm cc p u true w rn list) s fun t =>
          Reloaded s t s.bank u w rn list (lowest 4 start) ∧
            Returned { s with freeCtr := t.freeCtr } t psr v) ∧
        (s.spsr = none → exec (.ldm cc p u true w rn list) s = .refused .noSpsr))

/-- With the MMU off and ordinary memory: SWP and SWPB give Rd the old value and memory the value Rm had, and change no other
byte; the exclusive loads give Rd (for a doubleword also Rd + 1) the value, and the monitor then holds the address and the size.
That a swap of r15 completes, with an open value, is the model's choice, notes/assumptions/12.md, and the pair of registers of a
doubleword its presumption, notes/assumptions/13.md (20_memory.md R43 to R45, R97, R98). -/
def Obligations.SwapsAndExclusiveLoads : Prop :=
  ∀ (s : State) (cc : Cond) (rn rd rm : RegNum), s.passes cc = true → s.flat → rd ≠ 15 →
    let a := s.reg rn
    let frame (t : State) (b : Word) (n : Nat) : Prop := RegsBut s t [rd] ∧ t.psrs = s.psrs ∧ t.pc = s.past ∧
      CoreMemOnly s t ∧ MemBut s t b n
    let tagged (t : State) (l : List RegNum) (n : Nat) : Prop := RegsBut s t l ∧
      t = { s with regs := t.regs, pc := s.past, monitor := .exclusive a n }
    (s.wordFits a → s.ordinary (lowest 4 a) 4 → Gives (.swp cc rn rd rm) s fun t =>
      t.bankReg s.bank rd = s.rotatedWord a ∧ (rm ≠ 15 → t.wordAt (lowest 4 a) = s.reg rm) ∧ frame t (lowest 4 a) 4) ∧
    (s.ordinary a 1 → Gives (.swpb cc rn rd rm) s fun t =>
      t.bankReg s.bank rd = (s.byteAt a).setWidth 32 ∧ (rm ≠ 15 → t.byteAt a = (s.reg rm).setWidth 8) ∧ frame t a 1) ∧
    (fld a 0 2 = 0#2 → s.ordinary a 4 → Gives (.ldrex cc rn rd) s fun t =>
      t.bankReg s.bank rd = s.wordAt a ∧ tagged t [rd] 4) ∧
    (s.ordinary a 1 → Gives (.ldrexb cc rn rd) s fun t =>
      t.bankReg s.bank rd = (s.byteAt a).setWidth 32 ∧ tagged t [rd] 1) ∧
    (bitAt a 0 = false → s.ordinary a 2 → Gives (.ldrexh cc rn rd) s fun t =>
      t.bankReg s.bank rd = (s.halfAt a).setWidth 32 ∧ tagged t [rd] 2) ∧
    (fld a 0 3 = 0#3 → s.ordinary a 8 → bitAt rd 0 = false → rd ≠ 14 → Gives (.ldrexd cc rn rd) s fun t =>
      t.bankReg s.bank rd = s.wordAt a ∧ t.bankReg s.bank (rd + 1) = s.wordAt (a + 4) ∧ tagged t [rd, rd + 1] 8)

/-- The exclusive stores, with the MMU off and ordinary memory: only while the monitor holds the address and the size do they
store, with Rd then 0, else Rd is 1 and memory as before; the monitor is open afterwards, and after CLREX. That a store of r15
completes, with an open value, is the model's choice, notes/assumptions/12.md, and the pair of registers of a doubleword its
presumption, notes/assumptions/13.md (20_memory.md R45, R97). -/
def Obligations.ExclusiveStores : Prop :=
  ∀ (s : State) (cc : Cond) (rn rd rm : RegNum), s.passes cc = true → s.flat → rd ≠ 15 →
    let a := s.reg rn
    let after (i : Instr) (n : Nat) (held : State → Prop) : Prop := s.ordinary a n → Gives i s fun t =>
      RegsBut s t [rd] ∧
      t = { s with regs := t.regs, pc := s.past, mem := t.mem, freeCtr := t.freeCtr, monitor := .openAccess } ∧
      if s.monitor = .exclusive a n then t.bankReg s.bank rd = 0 ∧ MemBut s t a n ∧ (rm ≠ 15 → held t)
      else t.bankReg s.bank rd = 1 ∧ t.mem = s.mem
    (fld a 0 2 = 0#2 → after (.strex cc rn rd rm) 4 fun t => t.wordAt a = s.reg rm) ∧
    after (.strexb cc rn rd rm) 1 (fun t => t.byteAt a = (s.reg rm).setWidth 8) ∧
    (bitAt a 0 = false → after (.strexh cc rn rd rm) 2 fun t => t.halfAt a = (s.reg rm).setWidth 16) ∧
    (fld a 0 3 = 0#3 → bitAt rm 0 = false → rm ≠ 14 → after (.strexd cc rn rd rm) 8 fun t =>
      t.wordAt a = s.reg rm ∧ t.wordAt (a + 4) = s.reg (rm + 1)) ∧
    exec .clrex s = .next { s with monitor := .openAccess, pc := s.past }

/-! ## Status registers, hints, exception handling -/

/-- NOP, YIELD, SEV and WFE have no effect but on the PC; WFI too in User mode, and in a privileged mode it drains the store
buffer and waits; SETEND writes the E bit in every mode. That WFE completes at once, where it may at any step, is the model's
choice, notes/assumptions/45.md (47_core_instructions.md R703, R715, 43_cp15_c7_cache_ops.md R201, 92_eei_decisions.md D42). -/
def Obligations.HintsAndSetend : Prop :=
  ∀ (s : State) (cc : Cond) (e : Bool),
    (s.passes cc = true →
      (∀ i ∈ [Instr.nop cc, Instr.yield cc, Instr.sev cc, Instr.wfe cc], exec i s = .next { s with pc := s.past }) ∧
      (s.halted = false → s.mode = modeUser → exec (.wfi cc) s = .next { s with pc := s.past }) ∧
      (s.halted = false → s.mode ≠ modeUser → Gives (.wfi cc) s fun t =>
        t.standby = true ∧ t.storeBuffer = [] ∧ t.inFlight = none ∧
          SameOutsideMemory { s with pc := s.past, standby := true } t)) ∧
    ∀ i ∈ [Instr.setend e, Instr.setendThumb e],
      exec i s = .next { s with
        pc := s.past
        psrs := { s.psrs with cpsr := if e then s.cpsr ||| 0x00000200 else s.cpsr &&& 0xFFFFFDFF } }

/-- MRS reads the CPSR, in which the reserved bits read as zero, or the SPSR; MSR writes, of the byte lanes its mask selects, the
CPSR bits the mode may write, but never J, T or a reserved bit, and F under NMFI only to 0; or the SPSR
(47_core_instructions.md R716, 10_state.md R27, R34, 60_exceptions.md R531). -/
def Obligations.StatusRegisterMoves : Prop :=
  ∀ (s : State) (cc : Cond) (rd rm : RegNum) (mask rot : BitVec 4) (imm : BitVec 8), s.passes cc = true → s.halted = false →
    (rd ≠ 15 →
      Gives (.mrs cc false rd) s (fun t => WroteReg s t rd (s.cpsr &&& psrMask)) ∧
      ∀ v, s.spsr = some v → Gives (.mrs cc true rd) s fun t => WroteReg s t rd v) ∧
    (s.spsr = none → exec (.mrs cc true rd) s = .refused .noSpsr ∧ exec (.msrReg cc true mask rm) s = .refused .noSpsr) ∧
    ∀ x ∈ [(s.reg rm, fun r => Instr.msrReg cc r mask rm),
        (((DpOperand.imm rot imm).eval s).value, fun r => Instr.msrImm cc r mask rot imm)],
      let v : Word := x.1
      let writable : Word := if s.mode = modeUser then 0xF80F0200 else 0xF80F03DF
      (Gives (x.2 false) s fun t =>
        (∀ k < 32, t.cpsr.getLsbD k =
          if mask.getLsbD (k / 8) && writable.getLsbD k then v.getLsbD k && !(k == 6 && s.ctlNmfi && !s.fBit)
          else s.cpsr.getLsbD k) ∧
        t.stuck = (s.stuck || !legalMode t.mode) ∧
        t = { s with psrs := { s.psrs with cpsr := t.cpsr }, stuck := t.stuck, pc := s.past }) ∧
      ∀ old, s.spsr = some old → Gives (x.2 true) s fun t =>
        (∃ new : Word, t.spsr = some new ∧ ∀ k < 32, new.getLsbD k =
          (psrMask.getLsbD k && if mask.getLsbD (k / 8) then v.getLsbD k else old.getLsbD k)) ∧
        t.cpsr = s.cpsr ∧ (∀ b, b ≠ s.bank → t.psrs.spsr b = s.psrs.spsr b) ∧ t = { s with psrs := t.psrs, pc := s.past }

/-- SRS, with the MMU off and ordinary memory, stores r14 and the SPSR of the current mode in the block that the r13 of the mode
named gives; RFE loads the PC and the CPSR from such a block, at any base register (47_core_instructions.md R720, R721, R723). -/
def Obligations.ReturnState : Prop :=
  ∀ (s : State) (p u w : Bool) (mode : BitVec 5) (rn : RegNum), s.flat →
    (∀ psr, s.spsr = some psr → legalMode mode = true →
      let base := s.bankReg (bankOf mode) 13
      let start := if u then (if p then base + 4 else base) else (if p then base - 8 else base - 4)
      s.wordFits start → s.ordinary (lowest 4 start) 8 → Gives (.srs p u w mode) s fun t =>
        t.wordAt (lowest 4 start) = s.reg 14 ∧ t.wordAt (lowest 4 start + 4) = psr ∧
          t.bankReg (bankOf mode) 13 = (if w then (if u then base + 8 else base - 8) else base) ∧
          (∀ k (_ : k < 30), k ≠ physIndex (bankOf mode) 13 → t.regs[k] = s.regs[k]) ∧ t.psrs = s.psrs ∧ t.pc = s.past ∧
          CoreMemOnly s t ∧ MemBut s t (lowest 4 start) 8) ∧
    (s.spsr = none → legalMode mode = true → exec (.srs p u w mode) s = .refused .noSpsr) ∧
    (s.halted = false → s.mode ≠ modeUser →
      let base := s.reg rn
      let start := if u then (if p then base + 4 else base) else (if p then base - 8 else base - 4)
      s.wordFits start → s.ordinary (lowest 4 start) 8 → Gives (.rfe p u w rn) s fun t =>
        Returned s t (s.wordAt (lowest 4 start + 4)) (s.wordAt (lowest 4 start)) ∧
          (w = true → rn ≠ 15 → t.bankReg s.bank rn = if u then base + 8 else base - 8) ∧
          RegsBut s t (if w then [rn] else [])) ∧
    (s.halted = false → s.mode = modeUser → exec (.rfe p u w rn) s = .refused .unpredictableForm)

/-- CPS in a privileged mode clears or sets the named masks, F under NMFI only to 0, and with M writes the mode; the Thumb form
writes masks only; in User mode both do nothing but advance the PC (47_core_instructions.md R722, 60_exceptions.md R531). -/
def Obligations.ChangeProcessorState : Prop :=
  ∀ (s : State) (imod : BitVec 2) (disable m a i f : Bool) (mode : BitVec 5), s.halted = false →
    let bit (imod : BitVec 2) (named old : Bool) : Bool :=
      if named && imod == 2#2 then false else if named && imod == 3#2 then true else old
    let changed (t : State) (imod : BitVec 2) (m : Bool) : Prop :=
      t.aBit = bit imod a s.aBit ∧ t.iBit = bit imod i s.iBit ∧
        t.fBit = (if s.ctlNmfi then s.fBit && bit imod f s.fBit else bit imod f s.fBit) ∧
        t.mode = (if m then mode else s.mode) ∧ t.cpsr &&& 0xFFFFFE20 = s.cpsr &&& 0xFFFFFE20 ∧
        t.stuck = (s.stuck || !legalMode t.mode) ∧
        t = { s with psrs := { s.psrs with cpsr := t.cpsr }, stuck := t.stuck, pc := s.past }
    (s.mode ≠ modeUser →
      Gives (.cps imod m a i f mode) s (fun t => changed t imod m) ∧
      Gives (.cpsThumb disable a i f) s fun t => changed t (if disable then 3 else 2) false) ∧
    (s.mode = modeUser → exec (.cps imod m a i f mode) s = .next { s with pc := s.past } ∧
      exec (.cpsThumb disable a i f) s = .next { s with pc := s.past })

/-! ## CP15 -/

/-- A privileged read of a CP15 register moves its value to Rd and changes nothing else: the identification registers, the
reserved and the unlisted slots of c0 as the specification gives them, the Cache Type Register by the cache sizes, the CPU ID
Register by the cluster and CPU numbers; and the registers of c1 to c10, c13 and c15, where the implementation defined bits of
the NMRR are open once a value other than 0 has been written to them (40_cp15_c0_id.md R120 to R140, 41_cp15_c1_control.md R150,
R157, R160, 42_cp15_c2_c6_mmu.md R170 to R178, 43_cp15_c7_cache_ops.md R224, 44_cp15_c8_c10_tlb.md R235 to R238,
45_cp15_c13_c15.md R250, R251, R261). -/
def Obligations.RegisterReads : Prop :=
  ∀ (s : State) (cc : Cond) (rd : RegNum), s.passes cc = true → s.privileged = true → rd ≠ 15 →
    (∀ x ∈ ([
      (.mrcMainId, 0x410FB024), (.mrcTlbType, 0x00000800), (.mrcIdPfr0, 0x00000111), (.mrcIdPfr1, 0x00000001),
      (.mrcIdDfr0, 0x00000002), (.mrcIdReserved13, 0), (.mrcIdMmfr0, 0x01100103), (.mrcIdMmfr1, 0x10020302),
      (.mrcIdMmfr2, 0x01222000), (.mrcIdMmfr3, 0), (.mrcIdIsar0, 0x00100011), (.mrcIdIsar1, 0x12002111),
      (.mrcIdIsar2, 0x11221011), (.mrcIdIsar3, 0x01102131), (.mrcIdIsar4, 0x00000141), (.mrcIdReserved25, 0),
      (.mrcIdReserved26, 0), (.mrcIdReserved27, 0), (.mrcC0Unlisted2, 0x410FB024), (.mrcC0Unlisted4, 0x410FB024),
      (.mrcC0Unlisted6, 0x410FB024), (.mrcC0Unlisted7, 0x410FB024)] :
        List ((Cond → RegNum → Instr) × Word)), Gives (x.1 cc rd) s fun t => WroteReg s t rd x.2) ∧
    (let code (z : CacheSize) : Word := match z with
        | .kb16 => 0b101
        | .kb32 => 0b110
        | .kb64 => 0b111
      let d := code (s.cfg.dcache.get s.cfg.cpu) <<< 6 ||| 0b010010
      let i := (if s.cfg.icache = .kb16 then 0 else 0x800) ||| code s.cfg.icache <<< 6 ||| 0b010010
      Gives (.mrcCacheType cc rd) s fun t => WroteReg s t rd (0x1D000000 ||| d <<< 12 ||| i)) ∧
    (let n : Word := match s.cfg.cpu with
        | .cpu0 => 0
        | .cpu1 => 1
        | .cpu2 => 2
        | .cpu3 => 3
      Gives (.mrcCpuId cc rd) s fun t => WroteReg s t rd (put s.cfg.clusterId 8 ||| n)) ∧
    (∀ x ∈ ([
      (.mrcControl, s.cp15.control), (.mrcAuxControl, s.cp15.auxControl), (.mrcCpacr, s.cp15.cpacr),
      (.mrcTtbr0, s.cp15.ttbr0), (.mrcTtbr1, s.cp15.ttbr1), (.mrcTtbcr, s.cp15.ttbcr), (.mrcDacr, s.cp15.dacr),
      (.mrcDfsr, s.cp15.dfsr), (.mrcIfsr, s.cp15.ifsr), (.mrcFar, s.cp15.far), (.mrcWfar, s.cp15.wfar),
      (.mrcPa, s.cp15.pa), (.mrcDCacheLockdown, s.cp15.dcacheLockdown), (.mrcTlbLockdown, s.cp15.tlbLockdown),
      (.mrcPrrr, s.cp15.prrr), (.mrcFcsePid, s.cp15.fcsePid), (.mrcContextId, s.cp15.contextId),
      (.mrcTlbDebugControl, s.cp15.tlbDebugControl)] :
        List ((Cond → RegNum → Instr) × Word)), Gives (x.1 cc rd) s fun t => WroteReg s t rd x.2) ∧
    Gives (.mrcNmrr cc rd) s fun t => ∃ v, v &&& 0xCFFFFFFF = s.cp15.nmrr &&& 0xCFFFFFFF ∧
      (s.nmrrImplDefined = false → v = s.cp15.nmrr) ∧ WroteReg { s with freeCtr := t.freeCtr } t rd v

/-- A privileged write of a CP15 register stores the bits the register has and changes nothing else. The Control Register keeps
its fixed bits; it, the PRRR and the NMRR leave the older remap controls open where they change them; the CPACR has the fields of
a VFP that exists, and the older rights stay open until a flush; fetches may see what the Control Register, the translation table
registers, the DACR, the TLB Lockdown, FCSE PID and Context ID registers held before, until a flush; the Context ID with stores
outstanding and a TLB Debug Control that sets IML and DML apart are outside the specification (41_cp15_c1_control.md R150, R156,
R157, R161, R162, 42_cp15_c2_c6_mmu.md R170 to R178, 44_cp15_c8_c10_tlb.md R235 to R239, 45_cp15_c13_c15.md R250, R251, R261). -/
def Obligations.RegisterWrites : Prop :=
  ∀ (s : State) (cc : Cond) (rd : RegNum), s.passes cc = true → s.privileged = true → rd ≠ 15 →
    let v := s.reg rd
    let noted : List FetchView := ⟨s.cp15, s.tlb, s.lockSlots, s.dbg.vcr, s.dbg.bvr, s.dbg.bcr⟩ :: s.fetchOld
    (∀ x ∈ ([
      (.mcrAuxControl, { s.cp15 with auxControl := v &&& (if s.cfg.hasParity then 0x7F else 0x3F) }),
      (.mcrDfsr, { s.cp15 with dfsr := v &&& 0x00001CFF }),
      (.mcrIfsr, { s.cp15 with ifsr := v &&& 0x000014FF }),
      (.mcrFar, { s.cp15 with far := v }),
      (.mcrWfar, { s.cp15 with wfar := v }),
      (.mcrDCacheLockdown, { s.cp15 with dcacheLockdown := v ||| 0xFFFFFFF0 })] :
        List ((Cond → RegNum → Instr) × Cp15)), exec (x.1 cc rd) s = .next { s with cp15 := x.2, pc := s.past }) ∧
    (∀ x ∈ ([
      (.mcrTtbr0, { s.cp15 with ttbr0 := v &&& 0xFFFFFF9A }),
      (.mcrTtbr1, { s.cp15 with ttbr1 := v &&& 0xFFFFC01A }),
      (.mcrTtbcr, { s.cp15 with ttbcr := v &&& 0x00000007 }),
      (.mcrDacr, { s.cp15 with dacr := v }),
      (.mcrTlbLockdown, { s.cp15 with tlbLockdown := v &&& 0x1C000001 }),
      (.mcrFcsePid, { s.cp15 with fcsePid := v &&& 0xFE000000 })] :
        List ((Cond → RegNum → Instr) × Cp15)),
      exec (x.1 cc rd) s = .next { s with cp15 := x.2, pc := s.past, fetchOld := noted }) ∧
    let remapped (t : State) (c : Cp15) : Prop :=
      (t.tlbControls = s.tlbControls → t.remapOld = s.remapOld) ∧
      (t.tlbControls ≠ s.tlbControls → t.remapOld = ⟨s.tlbControls, false, false⟩ :: s.remapOld) ∧
      t = { s with cp15 := c, pc := s.past, remapOld := t.remapOld, nmrrImplDefined := t.nmrrImplDefined,
                   fetchOld := t.fetchOld }
    (Gives (.mcrControl cc rd) s fun t =>
      t.cp15.control = (v &&& 0x32C0BB07) ||| 0x00054078 ||| flag s.cfg.fiqIsNmi 27 ∧
        t.nmrrImplDefined = s.nmrrImplDefined ∧ t.fetchOld = noted ∧ remapped t { s.cp15 with control := t.cp15.control }) ∧
    (Gives (.mcrPrrr cc rd) s fun t => t.nmrrImplDefined = s.nmrrImplDefined ∧ t.fetchOld = s.fetchOld ∧
      remapped t { s.cp15 with prrr := v &&& 0x000FCFFF }) ∧
    (Gives (.mcrNmrr cc rd) s fun t => t.nmrrImplDefined = (s.nmrrImplDefined || fld v 28 2 != 0#2) ∧ t.fetchOld = s.fetchOld ∧
      remapped t { s.cp15 with nmrr := v &&& 0xCFFFCFFF }) ∧
    (Gives (.mcrCpacr cc rd) s fun t =>
      t = { s with
        cp15 := { s.cp15 with cpacr := if s.cfg.hasVfp then v &&& 0x00F00000 else 0 }
        pc := s.past
        cpacrOld := t.cpacrOld
        freeCtr := t.freeCtr } ∧
      (s.cpacrOld = none → t.cpacrOld = some s.cp15.cpacr ∧ t.freeCtr = s.freeCtr)) ∧
    (s.storeBuffer = [] → exec (.mcrContextId cc rd) s =
      .next { s with cp15 := { s.cp15 with contextId := v }, pc := s.past, fetchOld := noted }) ∧
    (s.storeBuffer ≠ [] → exec (.mcrContextId cc rd) s = .refused .contextIdWithoutDsb) ∧
    (bitAt v 5 = bitAt v 4 → exec (.mcrTlbDebugControl cc rd) s =
      .next { s with cp15 := { s.cp15 with tlbDebugControl := v &&& 0x00000030 }, pc := s.past }) ∧
    (bitAt v 5 ≠ bitAt v 4 → exec (.mcrTlbDebugControl cc rd) s = .refused .tlbDebugMismatch)

/-- The Thread ID registers: their encodings, their reset value, and who may use them. The first is read and written in every
mode, the second read in every mode and written in privileged ones, the third used in privileged ones only; all 32 bits are
kept (45_cp15_c13_c15.md R252, R253, R254). -/
def Obligations.ThreadIdRegisters : Prop :=
  decode (.arm 0xEE1D0F50) = .ok (.mrcThreadIdUrw 14 0) ∧ decode (.arm 0xEE0D0F50) = .ok (.mcrThreadIdUrw 14 0) ∧
  decode (.arm 0xEE1D0F70) = .ok (.mrcThreadIdUro 14 0) ∧ decode (.arm 0xEE0D0F70) = .ok (.mcrThreadIdUro 14 0) ∧
  decode (.arm 0xEE1D0F90) = .ok (.mrcThreadIdPrw 14 0) ∧ decode (.arm 0xEE0D0F90) = .ok (.mcrThreadIdPrw 14 0) ∧
  State.reset.cp15.threadUrw = 0 ∧ State.reset.cp15.threadUro = 0 ∧ State.reset.cp15.threadPrw = 0 ∧
  ∀ (s : State) (cc : Cond) (rd : RegNum), s.passes cc = true → rd ≠ 15 →
    let v := s.reg rd
    Gives (.mrcThreadIdUrw cc rd) s (fun t => WroteReg s t rd s.cp15.threadUrw) ∧
    exec (.mcrThreadIdUrw cc rd) s = .next { s with cp15 := { s.cp15 with threadUrw := v }, pc := s.past } ∧
    Gives (.mrcThreadIdUro cc rd) s (fun t => WroteReg s t rd s.cp15.threadUro) ∧
    (s.privileged = true →
      exec (.mcrThreadIdUro cc rd) s = .next { s with cp15 := { s.cp15 with threadUro := v }, pc := s.past } ∧
      Gives (.mrcThreadIdPrw cc rd) s (fun t => WroteReg s t rd s.cp15.threadPrw) ∧
      exec (.mcrThreadIdPrw cc rd) s = .next { s with cp15 := { s.cp15 with threadPrw := v }, pc := s.past }) ∧
    (s.halted = false → s.jBit = false → s.mode = modeUser →
      Gives (.mcrThreadIdUro cc rd) s (EnteredUndefined s) ∧ Gives (.mrcThreadIdPrw cc rd) s (EnteredUndefined s) ∧
      Gives (.mcrThreadIdPrw cc rd) s (EnteredUndefined s))

/-- The barriers, in every mode: DSB and DMB empty the store buffer, and after DSB no bus response is outstanding; every byte of
memory then holds what the newest buffered store of it stored, where the stores are noncachable. Flush Prefetch Buffer discards
what was fetched ahead, the older access rights and the older TLB controls that the TLB has been invalidated for. The Wait For
Interrupt operation drains and waits. Outside the memory system nothing changes. Until it is drained a buffered store is what
later loads of its bytes see, whatever was buffered before it, and a load that it holds all bytes of is answered by it alone
(43_cp15_c7_cache_ops.md R201, R205, R214, R215, 20_memory.md R90, R93, 44_cp15_c8_c10_tlb.md R239). -/
def Obligations.BarriersAndStoreBuffer : Prop :=
  (∀ (s : State) (cc : Cond) (rd : RegNum), s.passes cc = true → rd ≠ 15 →
      Gives (.mcrDsb cc rd) s (fun t =>
        t.storeBuffer = [] ∧ t.inFlight = none ∧ SameOutsideMemory { s with pc := s.past } t) ∧
      Gives (.mcrDmb cc rd) s (fun t => t.storeBuffer = [] ∧ SameOutsideMemory { s with pc := s.past } t) ∧
      exec (.mcrFlushPrefetchBuffer cc rd) s = .next { s with
        prefetched := [], fetchOld := [], cpacrOld := none, pc := s.past
        remapOld := (s.remapOld.filter fun o => !o.invalidated).map fun o => { o with flushed := true } } ∧
      (s.halted = false → s.privileged = true → Gives (.mcrWaitForInterrupt cc rd) s fun t =>
        t.standby = true ∧ t.storeBuffer = [] ∧ t.inFlight = none ∧ SameOutsideMemory { s with pc := s.past, standby := true } t)) ∧
  (∀ (s : State) (cc : Cond) (rd : RegNum), s.passes cc = true → rd ≠ 15 → s.memCanonical → s.cfg.errorRegions = [] →
      (∀ e ∈ s.storeBuffer, e.cachable = false ∧ inRegion s.cfg e.pa = false ∧ e.pa.toNat + e.bytes.length ≤ 2 ^ 32) →
      ∀ i ∈ [Instr.mcrDsb cc rd, Instr.mcrDmb cc rd], Gives i s fun t => ∀ a : Word,
        t.mem.read a.toNat = (bufferedByte s.storeBuffer a).getD (s.mem.read a.toNat)) ∧
  (∀ (s : State) (e : PendingStore) (k : Nat) (_ : k < e.bytes.length) (l : List Byte), e.pa.toNat + e.bytes.length ≤ 2 ^ 32 →
      forward (bufferStore e s).storeBuffer (e.pa + BitVec.ofNat 32 k) (0 :: l) =
        e.bytes[k] :: forward (bufferStore e s).storeBuffer (e.pa + BitVec.ofNat 32 k + 1) l) ∧
  (∀ (s : State) (e : PendingStore) (k n : Nat), k + n ≤ e.bytes.length → e.pa.toNat + e.bytes.length ≤ 2 ^ 32 →
      bufferHit (bufferStore e s).storeBuffer (e.pa + BitVec.ofNat 32 k) n = some ((e.bytes.drop k).take n))

/-- The instruction cache and branch target cache operations invalidate what they name, whole, by set and way or by address
(with the MMU off), and change nothing else (43_cp15_c7_cache_ops.md R202 to R204, R206, R207, R220, R221). -/
def Obligations.InstructionCacheOperations : Prop :=
  ∀ (s : State) (cc : Cond) (rd : RegNum), s.passes cc = true → s.privileged = true → rd ≠ 15 →
    let v := s.reg rd
    let sets : Nat := match s.cfg.icache with
      | .kb16 => 128
      | .kb32 => 256
      | .kb64 => 512
    exec (.mcrInvalidateICache cc rd) s = .next { s with icache := [], btac := [], pc := s.past } ∧
    exec (.mcrFlushBtac cc rd) s = .next { s with btac := [], pc := s.past } ∧
    exec (.mcrFlushBtacEntry cc rd) s =
      .next { s with btac := s.btac.filter fun e => fld e.branch 3 29 != fld v 3 29, pc := s.past } ∧
    exec (.mcrInvalidateICacheIndex cc rd) s = .next { s with
      icache := s.icache.filter fun l => !(l.way == fld v 30 2 && l.set == v.toNat / 32 % sets)
      pc := s.past } ∧
    (s.ctlM = false → exec (.mcrInvalidateICacheMva cc rd) s = .next { s with
      icache := s.icache.filter fun l => !(l.set == v.toNat / 32 % sets && l.tag == fld v 5 27)
      pc := s.past })

/-- The operations on the whole data cache: the invalidating ones leave it empty and memory as it was, the cleaning ones write
every dirty line to memory and leave it clean, the third kind does both. The store buffer, taken as empty here, drains first
(43_cp15_c7_cache_ops.md R208, R211, R212, R217; notes/assumptions/16.md). -/
def Obligations.DataCacheOperations : Prop :=
  ∀ (s : State) (cc : Cond) (rd : RegNum), s.passes cc = true → s.privileged = true → rd ≠ 15 → s.storeBuffer = [] →
    s.cfg.errorRegions = [] → (s.dcache.map (·.tag)).Nodup → s.memCanonical →
    let written (t : State) : Prop :=
      (∀ l ∈ s.dcache, l.dirty = true → ∀ k (_ : k < 32), t.mem.read ((tagAddr l.tag).toNat + k) = l.bytes[k]) ∧
      ∀ a, (∀ l ∈ s.dcache, l.dirty = true → ∀ k < 32, a ≠ (tagAddr l.tag).toNat + k) → t.mem.read a = s.mem.read a
    (Gives (.mcrInvalidateDCache cc rd) s fun t =>
      t = { s with dcache := [], monitor := t.monitor, pc := s.past }) ∧
    (Gives (.mcrInvalidateBothCaches cc rd) s fun t =>
      t = { s with dcache := [], icache := [], btac := [], monitor := t.monitor, pc := s.past }) ∧
    (Gives (.mcrCleanDCache cc rd) s fun t =>
      written t ∧
        t = { s with dcache := s.dcache.map fun l => { l with dirty := false }, mem := t.mem, pc := s.past }) ∧
    (Gives (.mcrCleanInvDCache cc rd) s fun t =>
      written t ∧ t = { s with dcache := [], monitor := t.monitor, mem := t.mem, pc := s.past })

/-- The operations on one data cache line, named by set and way or, with the MMU off, by address: the line
leaves the cache, or is clean in it, or both; a clean of a dirty line writes it to memory; no other line changes. The store
buffer is taken as empty (43_cp15_c7_cache_ops.md R209, R210, R213, R216, R218 to R221). -/
def Obligations.DataCacheLineOperations : Prop :=
  ∀ (s : State) (cc : Cond) (rd : RegNum) (l : Line), s.passes cc = true → s.privileged = true → rd ≠ 15 →
    s.storeBuffer = [] → s.cfg.errorRegions = [] → (s.dcache.map (·.tag)).Nodup →
    (s.dcache.map fun k => (k.way, k.set)).Nodup → s.memCanonical → l ∈ s.dcache →
    let v := s.reg rd
    let sets : Nat := match s.cfg.dcache.get s.cfg.cpu with
      | .kb16 => 128
      | .kb32 => 256
      | .kb64 => 512
    let named (byMva : Bool) : Prop :=
      if byMva then s.ctlM = false ∧ l.tag = fld v 5 27 else l.way = fld v 30 2 ∧ l.set = v.toNat / 32 % sets
    let mem (t : State) : Prop :=
      (l.dirty = false → t.mem = s.mem) ∧
      (l.dirty = true → (∀ k (_ : k < 32), t.mem.read ((tagAddr l.tag).toNat + k) = l.bytes[k]) ∧
        ∀ a, (∀ k < 32, a ≠ (tagAddr l.tag).toNat + k) → t.mem.read a = s.mem.read a)
    let gone := s.dcache.filter fun k => k.tag != l.tag
    (∀ x ∈ [(false, Instr.mcrInvalidateDCacheIndex cc rd), (true, Instr.mcrInvalidateDCacheMva cc rd)], named x.1 →
      Gives x.2 s fun t => t = { s with dcache := gone, monitor := t.monitor, pc := s.past }) ∧
    (∀ x ∈ [(false, Instr.mcrCleanDCacheIndex cc rd), (true, Instr.mcrCleanDCacheMva cc rd)], named x.1 →
      Gives x.2 s fun t => mem t ∧ t = { s with
        dcache := s.dcache.map fun k => if k.tag = l.tag then { l with dirty := false } else k
        mem := t.mem
        pc := s.past }) ∧
    (∀ x ∈ [(false, Instr.mcrCleanInvDCacheIndex cc rd), (true, Instr.mcrCleanInvDCacheMva cc rd)], named x.1 →
      Gives x.2 s fun t => mem t ∧ t = { s with dcache := gone, monitor := t.monitor, mem := t.mem, pc := s.past })

/-- The VA to PA translation operations answer in the PA Register and take no abort: with the MMU off the address itself,
Strongly Ordered; with the MMU on and no section there the translation fault; and of a section that its domain or its permission
bits open to every access the physical page with the memory type, the sharedness and the cache attributes of TEX = 0
(43_cp15_c7_cache_ops.md R223, R224, 20_memory.md R52, R55, R61, R71, R72, R75). -/
def Obligations.VaToPaTranslation : Prop :=
  ∀ (s : State) (cc : Cond) (rd : RegNum), s.passes cc = true → s.privileged = true → rd ≠ 15 →
    fld s.cp15.fcsePid 25 7 = 0#7 → s.remapOld = [] →
    let v := s.reg rd
    ∀ i ∈ [Instr.mcrVaToPaPrivRead cc rd, Instr.mcrVaToPaPrivWrite cc rd, Instr.mcrVaToPaUserRead cc rd,
        Instr.mcrVaToPaUserWrite cc rd],
      (s.ctlM = false → s.ctlTexRemap = false → exec i s = .next { s with
        cp15 := { s.cp15 with pa := (v &&& 0xFFFFF000) ||| 0x100 }
        pc := s.past }) ∧
      (s.ctlM = true → tlbLookup s.ctlXp s (v &&& 0xFFFFFC00) = [] → fld s.cp15.ttbcr 0 3 = 0#3 →
        let d := (s.cp15.ttbr0 &&& 0xFFFFC000) ||| (v >>> 20) <<< 2
        s.ordinary d 4 → (fld (s.walkWord d) 0 2 = 0#2 ∨ fld (s.walkWord d) 0 2 = 3#2) → Gives i s fun t =>
          t.cp15.pa &&& 0xFFFFFFBF = 0b001011 ∧
            t = { s with cp15 := { s.cp15 with pa := t.cp15.pa }, pc := s.past, freeCtr := t.freeCtr }) ∧
      (s.ctlM = true → tlbLookup s.ctlXp s (v &&& 0xFFFFFC00) = [] → fld s.cp15.ttbcr 0 3 = 0#3 → s.ctlTexRemap = false →
        (s.ctlXp = false ∨ s.ctlForceAp = false) →
        let d := (s.cp15.ttbr0 &&& 0xFFFFC000) ||| (v >>> 20) <<< 2
        s.ordinary d 4 →
        let l1 := s.walkWord d
        let access : BitVec 2 := fld s.cp15.dacr (2 * (fld l1 5 4 : BitVec 4).toNat) 2
        fld l1 0 2 = 2#2 → bitAt l1 18 = false → fld l1 12 3 = 0#3 →
        (access = 3 ∨ (access = 1 ∧ fld l1 10 2 = 3#2 ∧ bitAt l1 15 = false)) →
        let shared := s.ctlXp && bitAt l1 16
        let kind : Word := match bitAt l1 3, bitAt l1 2 with
          | false, false => 0x100
          | false, true => 0x140
          | true, false => 0x0A8 ||| flag shared 8
          | true, true => 0x0BC ||| flag shared 8
        Gives i s fun t => t = { s with
          cp15 := { s.cp15 with pa := (l1 &&& 0xFFF00000) ||| (v &&& 0x000FF000) ||| kind }
          pc := s.past
          tlb := t.tlb
          lockSlots := t.lockSlots })

/-- The TLB operations, the same in their Instruction, Data and Unified forms: Invalidate TLB removes every entry but the locked
ones, and ends of the older TLB controls XP and Force AP, and what the prefetch buffer has been flushed for; the others remove the
entries that the address, the ASID or both name, locked ones too; nothing else changes, but that until a flush fetches may still
use what was removed. That a page whose subpages differ is one entry, which an operation by address removes whole, is the model's
choice, notes/assumptions/77.md (44_cp15_c8_c10_tlb.md R230 to R234, R239, 20_memory.md R56, R57, R59). -/
def Obligations.TlbOperations : Prop :=
  ∀ (s : State) (cc : Cond) (rd : RegNum), s.passes cc = true → s.privileged = true → rd ≠ 15 →
    let v := s.reg rd
    let covers (e : TlbEntry) : Prop := (v &&& 0xFFFFFC00) >>> e.log2Size = e.mvaBase >>> e.log2Size
    let asid (e : TlbEntry) : Prop := e.asid = fld v 0 8
    let noted : List FetchView := ⟨s.cp15, s.tlb, s.lockSlots, s.dbg.vcr, s.dbg.bvr, s.dbg.bcr⟩ :: s.fetchOld
    let removes (t : State) (p : TlbEntry → Prop) : Prop :=
      (∀ e, e ∈ t.tlb ↔ e ∈ s.tlb ∧ ¬ p e) ∧
      (∀ k (_ : k < 8), (∀ e, s.lockSlots[k].translation = some e → p e → t.lockSlots[k].translation = none) ∧
        ((∀ e, s.lockSlots[k].translation = some e → ¬ p e) → t.lockSlots[k] = s.lockSlots[k])) ∧
      t = { s with tlb := t.tlb, lockSlots := t.lockSlots, fetchOld := noted, pc := s.past }
    (∀ i ∈ [Instr.mcrInvalidateITlb cc rd, Instr.mcrInvalidateDTlb cc rd, Instr.mcrInvalidateUTlb cc rd], Gives i s fun t =>
      t.tlb = [] ∧
      (∀ k (_ : k < 8), (s.lockSlots[k].locked = true → t.lockSlots[k] = s.lockSlots[k]) ∧
        (s.lockSlots[k].locked = false → t.lockSlots[k].translation = none)) ∧
      t.remapOld = (s.remapOld.filter fun o => !o.flushed).map (fun o => { o with invalidated := true }) ∧
      t = { s with tlb := [], lockSlots := t.lockSlots, fetchOld := noted, remapOld := t.remapOld, pc := s.past }) ∧
    (∀ i ∈ [Instr.mcrInvalidateITlbEntry cc rd, Instr.mcrInvalidateDTlbEntry cc rd, Instr.mcrInvalidateUTlbEntry cc rd],
      Gives i s fun t => removes t fun e => covers e ∧ (e.globalMap = true ∨ asid e)) ∧
    (∀ i ∈ [Instr.mcrInvalidateITlbAsid cc rd, Instr.mcrInvalidateDTlbAsid cc rd, Instr.mcrInvalidateUTlbAsid cc rd],
      Gives i s fun t => removes t fun e => e.globalMap = false ∧ asid e) ∧
    (∀ i ∈ [Instr.mcrInvalidateITlbMva cc rd, Instr.mcrInvalidateDTlbMva cc rd, Instr.mcrInvalidateUTlbMva cc rd],
      Gives i s fun t => removes t fun e => covers e)

/-- The TLB lockdown entries: a select for write, then the VA, the attributes and last the PA write one entry with the fields of
the three registers, locked and valid, or with the V bit clear neither; a select for read, then the VA, the attributes and last
the PA read an entry back; out of order they are outside the specification. That a select ends a sequence begun before it, and
that the VA bits below an entry's size are those of its base, is the model's choice, notes/assumptions/39.md; so is that an entry
with subpages need not be Global and that AP1 to AP3 of one without read as it holds them, notes/assumptions/55.md
(45_cp15_c13_c15.md R262 to R268). -/
def Obligations.LockdownEntries : Prop :=
  ∀ (s : State) (ri rv ra rp : RegNum), s.privileged = true → 15 ∉ [ri, rv, ra, rp] →
    let i : BitVec 3 := fld (s.reg ri) 0 3
    let va := s.reg rv
    let at' := s.reg ra
    let pa := s.reg rp
    let n : Nat := match (fld pa 6 2 : BitVec 2) with
      | 1#2 => 12
      | 2#2 => 16
      | 3#2 => 20
      | _ => 24
    (∃ s1 s2 s3 t, exec (.mcrTlbLockIndexWrite 14 ri) s = .next s1 ∧ exec (.mcrTlbLockVa 14 rv) s1 = .next s2 ∧
      exec (.mcrTlbLockAttr 14 ra) s2 = .next s3 ∧ exec (.mcrTlbLockPa 14 rp) s3 = .next t ∧
      (t.lockSlots[i.toNat]'i.isLt).locked = bitAt pa 0 ∧ (t.lockSlots[i.toNat]'i.isLt).valid = bitAt pa 0 ∧
      (∃ e, (t.lockSlots[i.toNat]'i.isLt).entry = some e ∧ e.log2Size = n ∧ e.mvaBase = (va >>> n) <<< n ∧
          e.paBase = (pa >>> n) <<< n ∧ e.globalMap = bitAt va 9 ∧ e.asid = fld va 0 8 ∧ e.apx = bitAt pa 3 ∧
          e.ap0 = fld pa 1 2 ∧ e.spv = bitAt at' 25 ∧ e.ap1 = fld at' 26 2 ∧ e.ap2 = fld at' 28 2 ∧ e.ap3 = fld at' 30 2 ∧
          e.domain = fld at' 7 4 ∧ e.xn = bitAt at' 6 ∧ e.tex = fld at' 3 3 ∧ e.c = bitAt at' 2 ∧ e.b = bitAt at' 1 ∧
          e.s = bitAt at' 0) ∧
      (∀ k (_ : k < 8), k ≠ i.toNat → t.lockSlots[k] = s.lockSlots[k]) ∧ t.lockAccess = .none ∧
      t.regs = s.regs ∧ t.psrs = s.psrs ∧ t.mem = s.mem ∧ t.tlb = s.tlb) ∧
    (∃ s1 s2 s3 t, exec (.mcrTlbLockIndexRead 14 ri) s = .next s1 ∧ exec (.mrcTlbLockVa 14 rv) s1 = .next s2 ∧
      exec (.mrcTlbLockAttr 14 ra) s2 = .next s3 ∧ exec (.mrcTlbLockPa 14 rp) s3 = .next t ∧ t.lockAccess = .none ∧
      t.lockSlots = s.lockSlots ∧ RegsBut s t [rv, ra, rp] ∧ t.psrs = s.psrs ∧ t.mem = s.mem ∧
      ∀ e, (s.lockSlots[i.toNat]'i.isLt).entry = some e → e.paBase &&& 0xFFF = 0 →
        (s2.bankReg s.bank rv = (e.mvaBase &&& 0xFFFFF000) ||| (if e.globalMap then 0x200 else put e.asid 0)) ∧
        (s3.bankReg s.bank ra = put e.ap3 30 ||| put e.ap2 28 ||| put e.ap1 26 ||| flag e.spv 25 ||| put e.domain 7 |||
          flag e.xn 6 ||| put e.tex 3 ||| flag e.c 2 ||| flag e.b 1 ||| flag e.s 0) ∧
        bitAt (t.bankReg s.bank rp) 0 = (s.lockSlots[i.toNat]'i.isLt).locked ∧ bitAt (t.bankReg s.bank rp) 3 = e.apx ∧
        fld (t.bankReg s.bank rp) 1 2 = e.ap0) ∧
    (s.lockAccess = .none → ∀ x ∈ [Instr.mrcTlbLockVa 14 rv, Instr.mrcTlbLockAttr 14 rv, Instr.mrcTlbLockPa 14 rv,
      Instr.mcrTlbLockVa 14 rv, Instr.mcrTlbLockAttr 14 rv, Instr.mcrTlbLockPa 14 rv], exec x s = .refused .lockdownOrder)

/-- The performance monitor: with the counters disabled reads answer what was last written, the PMNC but for its two open bits,
and writes keep what the register has, clear the flags written as 1 and reset the counters asked for; enabled counters move by
amounts the specification leaves open, and every transfer still completes and touches nothing else (45_cp15_c13_c15.md R255,
R257 to R260). -/
def Obligations.PerformanceMonitor : Prop :=
  ∀ (s : State) (cc : Cond) (rd : RegNum), s.passes cc = true → s.privileged = true → rd ≠ 15 →
    let v := s.reg rd
    let c := s.cp15
    let off : Prop := bitAt c.pmnc 0 = false
    let only (t : State) : Prop :=
      t = { s with
        regs := t.regs
        pc := s.past
        freeCtr := t.freeCtr
        cp15 := { c with ccnt := t.cp15.ccnt, pmn0 := t.cp15.pmn0, pmn1 := t.cp15.pmn1, pmnc := t.cp15.pmnc } }
    let reads (i : Instr) (x : Word → Prop) : Prop := Gives i s fun t =>
      only t ∧ RegsBut s t [rd] ∧ (off → x (t.bankReg s.bank rd) ∧ t.cp15 = c)
    let writes (i : Instr) (x : Cp15) : Prop := Gives i s fun t => only t ∧ t.regs = s.regs ∧ (off → t.cp15 = x)
    reads (.mrcPmnc cc rd) (fun x => x &&& 0xFFFFFFF9 = c.pmnc &&& 0xFFFFFFF9) ∧
    reads (.mrcCcnt cc rd) (fun x => x = c.ccnt) ∧ reads (.mrcPmn0 cc rd) (fun x => x = c.pmn0) ∧
    reads (.mrcPmn1 cc rd) (fun x => x = c.pmn1) ∧
    writes (.mcrCcnt cc rd) { c with ccnt := v } ∧ writes (.mcrPmn0 cc rd) { c with pmn0 := v } ∧
    writes (.mcrPmn1 cc rd) { c with pmn1 := v } ∧
    writes (.mcrPmnc cc rd) { c with
      pmnc := (v &&& 0x0FFFF079) ||| (c.pmnc &&& 0x00000700 &&& ~~~ v)
      ccnt := if bitAt v 2 then 0 else c.ccnt
      pmn0 := if bitAt v 1 then 0 else c.pmn0
      pmn1 := if bitAt v 1 then 0 else c.pmn1 }

/-! ## Translation -/

/-- A section, a supersection, and a large or small page of a coarse table translate, on a TLB miss, to their base and the offset
in them, subject to the domain: no access and the reserved value fault, a manager's access is granted; a descriptor of neither
level that is none of these faults. Of a client the permission bits decide, of a page with XP = 0 those of the subpage. A load and
a store go to the physical address of the entry that matches: in Strongly Ordered memory at once, in cached memory to the line in
the data cache, a store through the store buffer (20_memory.md R50, R54, R55, R64, R71 to R78, R82, R83, R90, R95;
42_cp15_c2_c6_mmu.md R174). -/
def Obligations.SectionTranslation : Prop :=
  (∀ (s : State) (p : Purpose) (user : Bool) (mva : Word), s.ctlM = true → tlbLookup s.ctlXp s mva = [] →
    fld s.cp15.ttbcr 0 3 = 0#3 → s.remapOld = [] → s.ctlTexRemap = false → (s.ctlXp = false ∨ s.ctlForceAp = false) →
    let d := (s.cp15.ttbr0 &&& 0xFFFFC000) ||| (mva >>> 20) <<< 2
    s.ordinary d 4 →
    let l1 := s.walkWord d
    let domain : BitVec 4 := fld l1 5 4
    let access : BitVec 2 := fld s.cp15.dacr (2 * domain.toNat) 2
    let r := (translate p user true mva s).1
    ((fld l1 0 2 = 0#2 ∨ fld l1 0 2 = 3#2) → r = .error (.fault ⟨0b00101, none, none⟩)) ∧
    (fld l1 0 2 = 2#2 → bitAt l1 18 = false → (access = 0 ∨ access = 2) →
      r = .error (.fault ⟨0b01001, some domain, none⟩)) ∧
    (fld l1 0 2 = 2#2 → bitAt l1 18 = false → access = 3 → fld l1 12 3 = 0#3 →
      ∃ a, r = .ok ⟨(l1 &&& 0xFFF00000) ||| (mva &&& 0x000FFFFF), a, some domain⟩) ∧
    (fld l1 0 2 = 2#2 → bitAt l1 18 = true → fld s.cp15.dacr 0 2 = 3#2 → fld l1 12 3 = 0#3 →
      ∃ a, r = .ok ⟨(l1 &&& 0xFF000000) ||| (mva &&& 0x00FFFFFF), a, some 0⟩) ∧
    (fld l1 0 2 = 1#2 →
      let d2 := (l1 &&& 0xFFFFFC00) ||| (put (fld mva 12 8 : BitVec 8) 2)
      s.ordinary d2 4 →
      let l2 := s.walkWord d2
      let large := fld l2 0 2 == 1#2
      let tex : BitVec 3 := if large then fld l2 12 3 else if s.ctlXp || fld l2 0 2 == 3#2 then fld l2 6 3 else 0
      let pa := if large then (l2 &&& 0xFFFF0000) ||| (mva &&& 0x0000FFFF) else (l2 &&& 0xFFFFF000) ||| (mva &&& 0x00000FFF)
      let subpage : Nat := if large then (fld mva 14 2 : BitVec 2).toNat else (fld mva 10 2 : BitVec 2).toNat
      let ap : BitVec 2 := if s.ctlXp || fld l2 0 2 == 3#2 then fld l2 4 2 else fld l2 (4 + 2 * subpage) 2
      let apx := s.ctlXp && bitAt l2 9
      let mayRead : Bool := (!user && ap != 0) || (user && (ap == 2 || ap == 3))
      let mayWrite : Bool := !apx && ((!user && ap != 0) || (user && ap == 3))
      let granted : Bool := match p with
        | .read => mayRead
        | .write => mayWrite
        | .fetch => mayRead && !(s.ctlXp && bitAt l2 (if large then 15 else 0))
      (fld l2 0 2 = 0#2 → r = .error (.fault ⟨0b00111, some domain, none⟩)) ∧
      (fld l2 0 2 ≠ 0#2 → (access = 0 ∨ access = 2) → r = .error (.fault ⟨0b01011, some domain, none⟩)) ∧
      (fld l2 0 2 ≠ 0#2 → access = 3 → tex = 0 → ∃ a, r = .ok ⟨pa, a, some domain⟩) ∧
      (fld l2 0 2 ≠ 0#2 → access = 1 → tex = 0 → s.ctlS = false → s.ctlR = false → ¬ (apx = true ∧ ap = 0) →
        (granted = false → r = .error (.fault ⟨0b01111, some domain, none⟩)) ∧
        (granted = true → ∃ a, r = .ok ⟨pa, a, some domain⟩))) ∧
    (fld l1 0 2 = 2#2 → bitAt l1 18 = false → access = 1 → fld l1 12 3 = 0#3 → s.ctlXp = true →
      s.ctlS = false → s.ctlR = false →
      let ap : BitVec 2 := fld l1 10 2
      let mayRead : Bool := (!user && ap != 0) || (user && (ap == 2 || ap == 3))
      let mayWrite : Bool := !bitAt l1 15 && ((!user && ap != 0) || (user && ap == 3))
      ¬ (bitAt l1 15 = true ∧ ap = 0) →
      let granted : Bool := match p with
        | .read => mayRead
        | .write => mayWrite
        | .fetch => mayRead && !bitAt l1 4
      (granted = false → r = .error (.fault ⟨0b01101, some domain, none⟩)) ∧
      (granted = true → ∃ a, r = .ok ⟨(l1 &&& 0xFFF00000) ||| (mva &&& 0x000FFFFF), a, some domain⟩))) ∧
  (∀ (s : State) (cc : Cond) (u : Bool) (rn rd : RegNum) (off : BitVec 12) (e : TlbEntry), s.passes cc = true → rd ≠ 15 →
    s.ctlM = true → s.ctlTexRemap = false → s.remapOld = [] → fld s.cp15.fcsePid 25 7 = 0#7 → s.storeBuffer = [] →
    (∀ k (_ : k < 2), bitAt s.dbg.wcr[k] 0 = false) → (s.ctlU = true ∨ s.ctlA = true ∨ s.eBit = false) → s.memCanonical →
    (s.ctlXp = false ∨ s.ctlForceAp = false) →
    let va := upDown u (s.reg rn) (off.setWidth 32)
    fld va 0 2 = 0#2 → tlbLookup s.ctlXp s va = [e] → 12 ≤ e.log2Size → e.log2Size ≤ 24 →
    fld s.cp15.dacr (2 * e.domain.toNat) 2 = 3#2 → e.tex = 0 →
    let pa := e.paBase ||| (va &&& (BitVec.allOnes 32 >>> (32 - e.log2Size)))
    inRegion s.cfg pa = false → fld pa 0 2 = 0#2 →
    (e.c = false → e.b = false → s.ordinary pa 4 →
      Gives (.ldrImm cc true u false rn rd off) s (fun t => WroteReg s t rd (s.wordAt pa)) ∧
      Gives (.strImm cc true u false rn rd off) s fun t =>
        t.wordAt pa = s.reg rd ∧ MemBut s t pa 4 ∧ t = { s with pc := s.past, mem := t.mem }) ∧
    (∀ l, s.ctlC = true → e.c = true → e.b = true → (s.ctlXp = false ∨ e.s = false) → s.dline (fld pa 5 27) = some l →
      let k := (fld pa 0 5 : BitVec 5).toNat
      let byte (l : Line) (j : Nat) : Byte := l.bytes.getD (k + j) 0
      let word (l : Line) : Word :=
        if s.eBit then byte l 0 ++ byte l 1 ++ byte l 2 ++ byte l 3 else byte l 3 ++ byte l 2 ++ byte l 1 ++ byte l 0
      Gives (.ldrImm cc true u false rn rd off) s (fun t => WroteReg s t rd (word l)) ∧
      Gives (.strImm cc true u false rn rd off) s fun t =>
        t = { s with pc := s.past, storeBuffer := t.storeBuffer } ∧
          ∃ l', (drainAll t).dline (fld pa 5 27) = some l' ∧ l'.dirty = true ∧ word l' = s.reg rd ∧
            (∀ j < 32, ¬ (k ≤ j ∧ j < k + 4) → l'.bytes.getD j 0 = l.bytes.getD j 0) ∧
            drainAll t = { s with pc := s.past, dcache := (drainAll t).dcache }))

/-! ## Debug -/

/-- Reads and writes of the CP14 debug registers by those who may make them: a read moves the value to Rd, a write stores the bits
the register has; fetches may be compared with what the VCR, a BVR or a BCR held before, until a flush. DSCR[6] reads as an open
value while DSCR[13] is 0. The read of the DSCR with r15 moves two of its bits to the
flags; every other transfer with r15 enters the Undefined Instruction exception (46_cp14_debug.md R301 to R312, R314, R317). -/
def Obligations.DebugRegisters : Prop :=
  ∀ (s : State) (cc : Cond) (rd : RegNum), s.passes cc = true →
    let v := s.reg rd
    let noted : List FetchView := ⟨s.cp15, s.tlb, s.lockSlots, s.dbg.vcr, s.dbg.bvr, s.dbg.bcr⟩ :: s.fetchOld;
    (s.halted = false → s.jBit = false →
      (∀ f ∈ cp14DebugRows, Gives (f cc 15) s (EnteredUndefined s)) ∧
      ∀ i ∈ [Instr.mrcDidr cc 15, .mcrDscr cc 15, .mrcDtr cc 15, .mcrDtr cc 15], Gives i s (EnteredUndefined s)) ∧
    (s.mayUseComms → rd ≠ 15 →
      Gives (.mrcDidr cc rd) s (fun t => WroteReg s t rd 0x15110004) ∧
      Gives (.mrcDscr cc rd) s (fun t => ∃ x : Word,
        let shown := s.dbg.dscr &&& (if s.cfg.dbgen then 0x6000FEFF else 0x60003EFF)
        x &&& 0xFFFFFFBF = shown &&& 0xFFFFFFBF ∧ (bitAt s.dbg.dscr 13 = true → x = shown) ∧ WroteReg s t rd x) ∧
      Gives (.mrcDscrFlags cc) s (fun t => t.flagZ = bitAt s.dbg.dscr 30 ∧ t.flagC = bitAt s.dbg.dscr 29 ∧
        OnlyFlags s t ∧ t = { s with psrs := t.psrs, pc := s.past, freeCtr := t.freeCtr }) ∧
      Gives (.mrcDtr cc rd) s (fun t =>
        WroteReg { s with dbg := { s.dbg with dscr := s.dbg.dscr &&& 0xBFFFFFFF } } t rd s.dbg.rdtr) ∧
      exec (.mcrDtr cc rd) s = .next { s with
        pc := s.past
        dbg := { s.dbg with wdtr := v, dscr := s.dbg.dscr ||| 0x20000000 } }) ∧
    ((s.halted = true ∨ s.mode ≠ modeUser) → rd ≠ 15 → exec (.mcrDscr cc rd) s = .next { s with
      pc := s.past
      dbg := { s.dbg with dscr := (s.dbg.dscr &&& 0xFFFF6FC3) ||| (v &&& 0x0000903C) } }) ∧
    (s.mayUseDebug → rd ≠ 15 →
      (∀ x ∈ ([
        (.mrcVcr, s.dbg.vcr), (.mrcBvr0, s.dbg.bvr[0]), (.mrcBvr1, s.dbg.bvr[1]), (.mrcBvr2, s.dbg.bvr[2]),
        (.mrcBvr3, s.dbg.bvr[3]), (.mrcBvr4, s.dbg.bvr[4]), (.mrcBvr5, s.dbg.bvr[5]), (.mrcBcr0, s.dbg.bcr[0]),
        (.mrcBcr1, s.dbg.bcr[1]), (.mrcBcr2, s.dbg.bcr[2]), (.mrcBcr3, s.dbg.bcr[3]), (.mrcBcr4, s.dbg.bcr[4]),
        (.mrcBcr5, s.dbg.bcr[5]), (.mrcWvr0, s.dbg.wvr[0]), (.mrcWvr1, s.dbg.wvr[1]), (.mrcWcr0, s.dbg.wcr[0]),
        (.mrcWcr1, s.dbg.wcr[1])] :
          List ((Cond → RegNum → Instr) × Word)), Gives (x.1 cc rd) s fun t => WroteReg s t rd x.2) ∧
      (∀ x ∈ ([
        (.mcrVcr, { s.dbg with vcr := v &&& 0x000000DF }),
        (.mcrBvr0, { s.dbg with bvr := s.dbg.bvr.set 0 (v &&& 0xFFFFFFFC) }),
        (.mcrBvr1, { s.dbg with bvr := s.dbg.bvr.set 1 (v &&& 0xFFFFFFFC) }),
        (.mcrBvr2, { s.dbg with bvr := s.dbg.bvr.set 2 (v &&& 0xFFFFFFFC) }),
        (.mcrBvr3, { s.dbg with bvr := s.dbg.bvr.set 3 (v &&& 0xFFFFFFFC) }),
        (.mcrBvr4, { s.dbg with bvr := s.dbg.bvr.set 4 (v &&& 0xFFFFFFFF) }),
        (.mcrBvr5, { s.dbg with bvr := s.dbg.bvr.set 5 (v &&& 0xFFFFFFFF) }),
        (.mcrBcr0, { s.dbg with bcr := s.dbg.bcr.set 0 (v &&& 0x001F01E7) }),
        (.mcrBcr1, { s.dbg with bcr := s.dbg.bcr.set 1 (v &&& 0x001F01E7) }),
        (.mcrBcr2, { s.dbg with bcr := s.dbg.bcr.set 2 (v &&& 0x001F01E7) }),
        (.mcrBcr3, { s.dbg with bcr := s.dbg.bcr.set 3 (v &&& 0x001F01E7) }),
        (.mcrBcr4, { s.dbg with bcr := s.dbg.bcr.set 4 (v &&& 0x003F01E7) }),
        (.mcrBcr5, { s.dbg with bcr := s.dbg.bcr.set 5 (v &&& 0x003F01E7) })] :
          List ((Cond → RegNum → Instr) × Debug)),
        exec (x.1 cc rd) s = .next { s with dbg := x.2, pc := s.past, fetchOld := noted }) ∧
      ∀ x ∈ ([
        (.mcrWvr0, { s.dbg with wvr := s.dbg.wvr.set 0 (v &&& 0xFFFFFFFC) }),
        (.mcrWvr1, { s.dbg with wvr := s.dbg.wvr.set 1 (v &&& 0xFFFFFFFC) }),
        (.mcrWcr0, { s.dbg with wcr := s.dbg.wcr.set 0 (v &&& 0x001F01FF) }),
        (.mcrWcr1, { s.dbg with wcr := s.dbg.wcr.set 1 (v &&& 0x001F01FF) })] :
          List ((Cond → RegNum → Instr) × Debug)), exec (x.1 cc rd) s = .next { s with dbg := x.2, pc := s.past })

/-- The transfers between memory and the data transfer registers, with the MMU off and ordinary memory; and who may use no CP14
register: a User mode program while the channel is closed to it, and any program whose debug mode is not Monitor, beyond the
channel and the DSCR. The P, U and W addressing is the model's presumption, notes/assumptions/15.md (46_cp14_debug.md R306, R315,
R316, R317). -/
def Obligations.DebugTransfers : Prop :=
  ∀ (s : State) (cc : Cond) (p u w : Bool) (rn rd : RegNum) (off : BitVec 8), s.passes cc = true →
    (s.mayUseComms → s.flat → (w = true → rn ≠ 15) →
      let o : Word := off.setWidth 32 <<< 2
      let a := transferAddress p u (s.reg rn) o
      let base (t : State) : Prop := (w = true → t.bankReg s.bank rn = upDown u (s.reg rn) o) ∧
        RegsBut s t (if w then [rn] else []) ∧ t.psrs = s.psrs ∧ t.pc = s.past
      s.wordFits a → s.ordinary (lowest 4 a) 4 →
        (Gives (.ldcDtr cc p u w rn off) s fun t => base t ∧
          t = { s with
            regs := t.regs
            pc := t.pc
            dbg := { s.dbg with wdtr := s.wordAt (lowest 4 a), dscr := s.dbg.dscr ||| 0x20000000 } }) ∧
        (Gives (.stcDtr cc p u w rn off) s fun t => base t ∧ t.wordAt (lowest 4 a) = s.dbg.rdtr ∧
          MemBut s t (lowest 4 a) 4 ∧
          t = { s with
            regs := t.regs
            pc := t.pc
            mem := t.mem
            dbg := { s.dbg with dscr := s.dbg.dscr &&& 0xBFFFFFFF } })) ∧
    (s.halted = false → s.jBit = false → s.mode = modeUser → bitAt s.dbg.dscr 12 = true →
      ∀ i ∈ [Instr.mrcDidr cc rd, .mrcDscr cc rd, .mrcDscrFlags cc, .mrcDtr cc rd, .mcrDtr cc rd, .ldcDtr cc p u w rn off,
        .stcDtr cc p u w rn off], Gives i s (EnteredUndefined s)) ∧
    (s.halted = false → s.jBit = false → s.mode = modeUser → Gives (.mcrDscr cc rd) s (EnteredUndefined s)) ∧
    (s.halted = false → s.jBit = false → s.mode = modeUser ∨ s.debugMode ≠ .monitor →
      ∀ f ∈ cp14DebugRows, Gives (f cc rd) s (EnteredUndefined s))

/-- The DBGTAP instructions load the Instruction Register with their code; Restart also clears the Core restarted bit; nothing else
changes before the controller moves on (46_cp14_debug.md R334, R336). -/
def Obligations.DbgtapInstructions : Prop :=
  ∀ s : State,
    let loaded (code : BitVec 5) (dscr : Word) : State :=
      { s with dbg := { s.dbg with dscr := dscr, tap := { s.dbg.tap with ir := code } } }
    (∀ x ∈ [(Instr.dbgtapExtest, 0b00000#5), (.dbgtapScanN, 0b00010#5), (.dbgtapHalt, 0b01000#5), (.dbgtapIntest, 0b01100#5),
        (.dbgtapItrsel, 0b11101#5), (.dbgtapIdcode, 0b11110#5), (.dbgtapBypass, 0b11111#5)],
      exec x.1 s = .next (loaded x.2 s.dbg.dscr)) ∧
    exec .dbgtapRestart s = .next (loaded 0b00100 (s.dbg.dscr &&& 0xFFFFFFFD))

/-! ## VFP -/

/-- The transfers between ARM and VFP registers, of a VFP that may be used: single registers, halves of doubles, pairs and the
system registers. Which FPSCR bits exist is the model's presumption, notes/assumptions/32.md; that FMRS, FMRDL and FMRDH with r15
write the flags or nothing, what a pair with r15 does, and a pair of one register, are the model's choice,
notes/assumptions/59.md and notes/assumptions/15.md (48_vfp.md R781, R784 to R786, R789). -/
def Obligations.VfpTransfers : Prop :=
  ∀ (s : State) (cc : Cond) (f : BitVec 4) (x : Bool) (rd rn : RegNum), s.passes cc = true → s.vfpReady →
    let n := sNumber f x
    let set (t : State) (l : List (BitVec 5 × Word)) : Prop :=
      (∀ y ∈ l, t.sreg y.1 = y.2) ∧ (∀ k, (∀ y ∈ l, y.1 ≠ k) → t.sreg k = s.sreg k) ∧
        t = { s with pc := s.past, vfp := { s.vfp with regs := t.vfp.regs } }
    let two (t : State) (low high : Word) : Prop :=
      t.bankReg s.bank rd = low ∧ t.bankReg s.bank rn = high ∧ RegsBut s t [rd, rn] ∧ t.psrs = s.psrs ∧ t.pc = s.past ∧
        CoreOnly s t
    Gives (.fmsr cc f rd x) s (fun t => set t [(n, s.reg rd)]) ∧
    Gives (.fmrs cc f rd x) s (fun t => MovedFromVfp s t rd (s.sreg n)) ∧
    Gives (.fmdlr cc f rd) s (fun t => set t [(sNumber f false, s.reg rd)]) ∧
    Gives (.fmdhr cc f rd) s (fun t => set t [(sNumber f true, s.reg rd)]) ∧
    Gives (.fmrdl cc f rd) s (fun t => MovedFromVfp s t rd (s.sreg (sNumber f false))) ∧
    Gives (.fmrdh cc f rd) s (fun t => MovedFromVfp s t rd (s.sreg (sNumber f true))) ∧
    Gives (.fmdrr cc rn rd f) s (fun t => set t [(sNumber f false, s.reg rd), (sNumber f true, s.reg rn)]) ∧
    (n ≠ 31 → Gives (.fmsrr cc rn rd x f) s fun t => set t [(n, s.reg rd), (n + 1, s.reg rn)]) ∧
    (rd ≠ 15 → rn ≠ 15 → rd ≠ rn →
      Gives (.fmrrd cc rn rd f) s (fun t => two t (s.sreg (sNumber f false)) (s.sreg (sNumber f true))) ∧
      (n ≠ 31 → Gives (.fmrrs cc rn rd x f) s fun t => two t (s.sreg n) (s.sreg (n + 1)))) ∧
    (rd ≠ 15 → rd = rn →
      let open' (t : State) : Prop := RegsBut s t [rd] ∧ t = { s with regs := t.regs, pc := s.past, freeCtr := t.freeCtr }
      Gives (.fmrrd cc rn rd f) s open' ∧ (n ≠ 31 → Gives (.fmrrs cc rn rd x f) s open')) ∧
    (rd ≠ 15 → rn = 15 → s.halted = false → s.tBit = false →
      let jumps (t : State) (low high : Word) : Prop :=
        t.bankReg s.bank rd = low ∧ RegsBut s t [rd] ∧ t = { s with regs := t.regs, pc := high }
      (fld (s.sreg (sNumber f true)) 0 2 = 0#2 →
        Gives (.fmrrd cc rn rd f) s fun t => jumps t (s.sreg (sNumber f false)) (s.sreg (sNumber f true))) ∧
      (n ≠ 31 → fld (s.sreg (n + 1)) 0 2 = 0#2 →
        Gives (.fmrrs cc rn rd x f) s fun t => jumps t (s.sreg n) (s.sreg (n + 1)))) ∧
    (n = 31 → exec (.fmsrr cc rn rd x f) s = .refused .vfpRegister ∧ exec (.fmrrs cc rn rd x f) s = .refused .vfpRegister) ∧
    (∀ y ∈ [(0#4, s.cfg.fpsid), (1#4, s.vfp.fpscr), (6#4, s.cfg.mvfr1), (7#4, s.cfg.mvfr0)],
      Gives (.fmrx cc y.1 rd) s fun t => MovedToCore s t rd y.2) ∧
    Gives (.fmstat cc) s (fun t => MovedToCore s t 15 s.vfp.fpscr) ∧
    (∀ r ∈ [0#4, 6#4, 7#4], exec (.fmxr cc r rd) s = .next { s with pc := s.past }) ∧
    exec (.fmxr cc 1 rd) s = .next { s with pc := s.past, vfp := { s.vfp with fpscr := s.reg rd &&& 0xF3F79F9F } } ∧
    (s.privileged = true →
      (∀ y ∈ [(8#4, s.vfp.fpexc), (9#4, s.vfp.fpinst), (10#4, s.vfp.fpinst2)],
        Gives (.fmrx cc y.1 rd) s fun t => MovedToCore s t rd y.2) ∧
      exec (.fmxr cc 8 rd) s = .next { s with pc := s.past, vfp := { s.vfp with fpexc := s.reg rd } } ∧
      exec (.fmxr cc 9 rd) s = .next { s with pc := s.past, vfp := { s.vfp with fpinst := s.reg rd } } ∧
      exec (.fmxr cc 10 rd) s = .next { s with pc := s.past, vfp := { s.vfp with fpinst2 := s.reg rd } })

/-- The VFP loads and stores, of a VFP that may be used, with the MMU off and ordinary memory: consecutive words to and from
consecutive single registers, of a double the lower half at the lower address unless E is set. The base and writeback addressing
of FLDM and FSTM, and the forms left out of it, are the model's presumption, notes/assumptions/15.md and notes/assumptions/30.md;
that FLDM and FSTM of no word complete and write the base back is its choice, notes/assumptions/71.md
(48_vfp.md R784, R787, 20_memory.md R43). -/
def Obligations.VfpLoadsAndStores : Prop :=
  ∀ (s : State) (cc : Cond) (p u w d : Bool) (rn : RegNum) (f : BitVec 4) (double : Bool) (off : BitVec 8),
    s.passes cc = true → s.vfpReady → s.flat →
    let o : Word := off.setWidth 32 <<< 2
    let place (double : Bool) (first : BitVec 5) (k : Nat) : BitVec 5 :=
      if double && s.eBit then (first + BitVec.ofNat 5 k) ^^^ 1 else first + BitVec.ofNat 5 k
    let load (i : Instr) (double : Bool) (first : BitVec 5) (n : Nat) (a : Word) (wb : Bool) : Prop :=
      s.wordFits a → s.ordinary (lowest 4 a) (4 * n) → Gives i s fun t =>
        (∀ k < n, t.sreg (place double first k) = s.wordAt (lowest 4 a + BitVec.ofNat 32 (4 * k))) ∧
        (∀ j, (∀ k < n, j ≠ place double first k) → t.sreg j = s.sreg j) ∧
        (wb = true → t.bankReg s.bank rn = upDown u (s.reg rn) o) ∧ RegsBut s t (if wb then [rn] else []) ∧ t.psrs = s.psrs ∧
        t = { s with regs := t.regs, pc := s.past, vfp := { s.vfp with regs := t.vfp.regs } }
    let store (i : Instr) (double : Bool) (first : BitVec 5) (n : Nat) (a : Word) (wb : Bool) : Prop :=
      s.wordFits a → s.ordinary (lowest 4 a) (4 * n) → Gives i s fun t =>
        (∀ k < n, t.wordAt (lowest 4 a + BitVec.ofNat 32 (4 * k)) = s.sreg (place double first k)) ∧
        MemBut s t (lowest 4 a) (4 * n) ∧
        (wb = true → t.bankReg s.bank rn = upDown u (s.reg rn) o) ∧ RegsBut s t (if wb then [rn] else []) ∧ t.psrs = s.psrs ∧
        t = { s with regs := t.regs, pc := s.past, mem := t.mem }
    let a := upDown u (s.reg rn) o
    load (.flds cc u d rn f off) false (sNumber f d) 1 a false ∧
    store (.fsts cc u d rn f off) false (sNumber f d) 1 a false ∧
    load (.fldd cc u rn f off) true (sNumber f false) 2 a false ∧
    store (.fstd cc u rn f off) true (sNumber f false) 2 a false ∧
    (let n := if double then off.toNat / 2 * 2 else off.toNat
      let b := transferAddress p u (s.reg rn) o
      ¬ (p = false ∧ u = false ∧ w = false) → (w = true → rn ≠ 15) → ¬ (double = true ∧ d = true) →
      (sNumber f d).toNat + n ≤ 32 →
        load (.fldm cc p u d w rn f double off) double (sNumber f d) n b w ∧
        store (.fstm cc p u d w rn f double off) double (sNumber f d) n b w)

/-- The Undefined Instruction exceptions of the VFP: every VFP instruction where there is no VFP or the CPACR denies it to the
mode; while FPEXC.EN is 0 all but the system register transfers, and in User mode those too but the transfers of the FPSID; in
User mode the transfers of FPEXC, FPINST and FPINST2; and with the Inexact exception enabled every data-processing instruction,
at once or, pending, at a later VFP instruction, with no VFP register written. That either may be, and that FPEXC.EN stays set,
is the model's choice, notes/assumptions/33.md and notes/assumptions/34.md, and so is that every word of the data-processing form is
an operation, notes/assumptions/90.md; that the FPEXC holds every bit written is its
presumption, notes/assumptions/32.md. The FPSID, and the FPEXC in a privileged mode, are
read and written whatever FPEXC.EN is (48_vfp.md R780, R781, R786, R788, R790, 41_cp15_c1_control.md R160). -/
def Obligations.VfpTraps : Prop :=
  (∀ (i : Instr) (cc : Cond) (s : State), i.condition = some cc → s.passes cc = true → s.halted = false → s.jBit = false →
      (plainVfp i = true ∨ systemVfp i = true) →
      (s.cfg.hasVfp = false ∨
        (s.cpacrOld = none ∧ (fld s.cp15.cpacr 20 4 = 0#4 ∨ (fld s.cp15.cpacr 20 4 = 5#4 ∧ s.mode = modeUser) ∨
          (fld s.cp15.cpacr 20 4 = 0xF#4 ∧ bitAt s.vfp.fpexc 30 = false ∧ plainVfp i = true)))) →
        Gives i s (EnteredUndefined s)) ∧
  (∀ (s : State) (cc : Cond) (rd : RegNum), s.passes cc = true → s.cfg.hasVfp = true → s.cpacrOld = none →
      fld s.cp15.cpacr 20 4 = 0xF#4 →
      (s.halted = false → s.jBit = false → s.mode = modeUser →
        (∀ r ∈ [8#4, 9#4, 10#4], Gives (.fmrx cc r rd) s (EnteredUndefined s) ∧ Gives (.fmxr cc r rd) s (EnteredUndefined s)) ∧
        (bitAt s.vfp.fpexc 30 = false → Gives (.fmstat cc) s (EnteredUndefined s) ∧
          ∀ r, r ≠ 0 → Gives (.fmrx cc r rd) s (EnteredUndefined s) ∧ Gives (.fmxr cc r rd) s (EnteredUndefined s))) ∧
      (s.vfp.bounce = false →
        Gives (.fmrx cc 0 rd) s (fun t => MovedToCore s t rd s.cfg.fpsid) ∧
        exec (.fmxr cc 0 rd) s = .next { s with pc := s.past } ∧
        (s.privileged = true → Gives (.fmrx cc 8 rd) s (fun t => MovedToCore s t rd s.vfp.fpexc) ∧
          exec (.fmxr cc 8 rd) s = .next { s with pc := s.past, vfp := { s.vfp with fpexc := s.reg rd } }))) ∧
  (∀ (s : State) (cc : Cond) (opc1 fn fd : BitVec 4) (double : Bool) (opc2 : BitVec 3) (fm : BitVec 4), s.passes cc = true →
      s.vfpReady → vfpBadDouble opc1 fn double opc2 = false →
      s.halted = false → s.jBit = false → bitAt s.vfp.fpscr 12 = true → Gives (.vfpData cc opc1 fn fd double opc2 fm) s fun t =>
        t.vfp.regs = s.vfp.regs ∧ t.vfp.fpscr = s.vfp.fpscr ∧
          (t = { s with pc := s.past, freeCtr := t.freeCtr, vfp := { s.vfp with bounce := true } } ∨
            (Entered s t modeUnd 0x04 s.past false false ∧ t.vfp.bounce = false ∧ bitAt t.vfp.fpexc 30 = true)))

/-- A data-processing instruction in RunFast mode needs no support code: whatever arithmetic the VFP has (the specification does
not give it: notes/assumptions/33.md; that every word is an operation: notes/assumptions/90.md; the patterns of NaNs:
notes/assumptions/63.md), a scalar one, single or double, completes,
writes no VFP register outside the pair that Fd names or names a half of, of the FPSCR only the condition and cumulative flags,
and nothing of the ARM state. A double names no odd half: with the D, N or M bit of a double-precision operand set, an
instruction is outside the specification. A compare then gives the flags less, equal, greater or unordered, and of FCPY, FABS
and FNEG the value differs at most in the sign bit (48_vfp.md R784, R788 to R790, R792, R793). -/
def Obligations.RunFastDataProcessing : Prop :=
  ∀ (s : State) (cc : Cond) (opc1 fn fd : BitVec 4) (double : Bool) (opc2 : BitVec 3) (fm : BitVec 4), s.passes cc = true →
    s.vfpReady → s.vfp.fpscr &&& 0x03079F00 = 0x03000000 →
    (vfpBadDouble opc1 fn double opc2 = true → exec (.vfpData cc opc1 fn fd double opc2 fm) s = .refused .vfpRegister) ∧
    (bitAt opc1 2 = false → bitAt opc2 2 = false → bitAt opc2 0 = false → vfpBadDouble opc1 fn double opc2 = false) ∧
    (vfpBadDouble opc1 fn double opc2 = false → Gives (.vfpData cc opc1 fn fd double opc2 fm) s fun t =>
      (∀ k : BitVec 5, fld k 1 4 ≠ fd → t.sreg k = s.sreg k) ∧
        t.vfp.fpscr &&& 0x0FFFFF60 = s.vfp.fpscr &&& 0x0FFFFF60 ∧ s.vfp.fpscr &&& 0x0000009F &&& ~~~ t.vfp.fpscr = 0 ∧
        t = { s with pc := s.past, vfp := { s.vfp with regs := t.vfp.regs, fpscr := t.vfp.fpscr } }) ∧
    (∀ (quiet : Bool) (x y : BitVec 32), let a : BitVec 64 := x.setWidth 64
      let b : BitVec 64 := y.setWidth 64
      let nan (x : BitVec 32) : Prop := fld x 23 8 = 0xFF#8 ∧ fld x 0 23 ≠ 0#23
      let tiny (x : BitVec 32) : Prop := fld x 23 8 = 0#8
      let less (x y : BitVec 32) : Prop := (x.msb = true ∧ y.msb = false) ∨
        (x.msb = y.msb ∧ if x.msb then y.toNat < x.toNat else x.toNat < y.toNat)
      ∃ r, vfpCompareResult quiet false s.vfp.fpscr a b = some r ∧
        (nan x ∨ nan y → r.nzcv = 0b0011) ∧
        (¬ nan x → ¬ nan y →
          (tiny x → tiny y → r.nzcv = 0b0110) ∧
          (¬ tiny x → ¬ tiny y →
            (less x y → r.nzcv = 0b1000) ∧ (x = y → r.nzcv = 0b0110) ∧ (less y x → r.nzcv = 0b0010)) ∧
          (tiny x → ¬ tiny y → r.nzcv = if y.msb then 0b0010 else 0b1000) ∧
          (¬ tiny x → tiny y → r.nzcv = if x.msb then 0b1000 else 0b0010))) ∧
    ∀ m : BitVec 64,
      let w : Nat := if double then 63 else 31
      let bits (r : Option VfpResult) (sign : Bool) : Prop := ∃ x, r = some ⟨x, 0⟩ ∧ x.getLsbD w = sign ∧
        ∀ k < 64, k ≠ w → x.getLsbD k = m.getLsbD k
      bits (vfpCopyResult id double s.vfp.fpscr m) (m.getLsbD w) ∧
        bits (vfpCopyResult (fpAbs double) double s.vfp.fpscr m) false ∧
        bits (vfpCopyResult (fpNeg double) double s.vfp.fpscr m) (!m.getLsbD w)

/-! ## The GE flags, memory, the private memory region -/

/-- The GE flags of the parallel additions and subtractions: each is set where the exact lane result is not negative, or, of an
unsigned sum, carries out of the lane (the table of 47_core_instructions.md R740; the specification gives these instructions no
encoding, notes/assumptions/41.md). -/
def Obligations.GreaterOrEqualFlags : Prop :=
  ∀ rn rm : Word,
    let u (w : Word) (k n : Nat) : Int := (fld w k n).toNat
    let i (w : Word) (k n : Nat) : Int := (fld w k n).toInt
    let bits (h l : Prop) (g : BitVec 4) : Prop :=
      (g.getLsbD 3 = true ↔ h) ∧ (g.getLsbD 2 = true ↔ h) ∧ (g.getLsbD 1 = true ↔ l) ∧ (g.getLsbD 0 = true ↔ l)
    bits (0 ≤ i rn 16 16 + i rm 16 16) (0 ≤ i rn 0 16 + i rm 0 16) (parallel .sadd16 rn rm).2 ∧
    bits (0 ≤ i rn 16 16 - i rm 16 16) (0 ≤ i rn 0 16 - i rm 0 16) (parallel .ssub16 rn rm).2 ∧
    bits (0 ≤ i rn 16 16 + i rm 0 16) (0 ≤ i rn 0 16 - i rm 16 16) (parallel .saddsubx rn rm).2 ∧
    bits (0 ≤ i rn 16 16 - i rm 0 16) (0 ≤ i rn 0 16 + i rm 16 16) (parallel .ssubaddx rn rm).2 ∧
    bits (2 ^ 16 ≤ u rn 16 16 + u rm 16 16) (2 ^ 16 ≤ u rn 0 16 + u rm 0 16) (parallel .uadd16 rn rm).2 ∧
    bits (0 ≤ u rn 16 16 - u rm 16 16) (0 ≤ u rn 0 16 - u rm 0 16) (parallel .usub16 rn rm).2 ∧
    bits (2 ^ 16 ≤ u rn 16 16 + u rm 0 16) (0 ≤ u rn 0 16 - u rm 16 16) (parallel .uaddsubx rn rm).2 ∧
    bits (0 ≤ u rn 16 16 - u rm 0 16) (2 ^ 16 ≤ u rn 0 16 + u rm 16 16) (parallel .usubaddx rn rm).2 ∧
    ∀ k < 4,
      ((parallel .sadd8 rn rm).2.getLsbD k = true ↔ 0 ≤ i rn (8 * k) 8 + i rm (8 * k) 8) ∧
      ((parallel .ssub8 rn rm).2.getLsbD k = true ↔ 0 ≤ i rn (8 * k) 8 - i rm (8 * k) 8) ∧
      ((parallel .uadd8 rn rm).2.getLsbD k = true ↔ 2 ^ 8 ≤ u rn (8 * k) 8 + u rm (8 * k) 8) ∧
      ((parallel .usub8 rn rm).2.getLsbD k = true ↔ 0 ≤ u rn (8 * k) 8 - u rm (8 * k) 8)

/-- The private timer counts down while it is enabled; at zero it sets its event flag and, with interrupts enabled, makes ID 29
pending, and reloads with auto reload or stops. The watchdog leaves watchdog mode only by the two magic words in succession. A
read of the Interrupt Acknowledge Register answers the spurious ID 1023 where no interrupt is selected and accepted, else the ID
and the requesting CPU of the selected one, which becomes Active with its priority the running one
(49_private_memory_region.md R412, R420, R453, R458). What is written to a register of the SCU or of the Interrupt Distributor is,
of the bits that exist, what it then holds: the SCU control (which no write may leave without a CPU that may write it), the CPU
status, the way tags of the CPUs present, the monitor control; the enable, set-enable and clear-enable, set-pending and
clear-pending, priority, target and configuration registers. Nothing outside the region changes (R401, R403 to R405, R432 to R434,
R436 to R438). -/
def Obligations.PrivateMemoryRegion : Prop :=
  (∀ (s : State) (v : Word),
    let c := s.cfg
    let u := s.dev.scu
    let write (off : Nat) : State := scuWrite off v 0xFFFFFFFF s
    let became (t : State) (x : Scu) : Prop := t = { s with dev := { s.dev with scu := x } }
    (fld v 1 4 = 0#4 → write 0x00 = s) ∧
    (fld v 1 4 ≠ 0#4 →
      became (write 0x00) { u with control := v &&& (if c.ncpuMinusOne = 0 then 0x00003FFE else 0x00003FFF) }) ∧
    (∃ x : BitVec 8, became (write 0x08) { u with cpuStatus := x } ∧ ∀ n : CpuId,
      (fld x (2 * cpuNat n) 2 : BitVec 2) = if present c n then fld v (2 * cpuNat n) 2 else fld u.cpuStatus (2 * cpuNat n) 2) ∧
    (∃ x : BitVec 16, became (write 0x0C) { u with staleTags := x } ∧ ∀ n : CpuId,
      (fld x (4 * cpuNat n) 4 : BitVec 4) = if present c n then fld u.staleTags (4 * cpuNat n) 4 &&& ~~~ fld v (4 * cpuNat n) 4
        else fld u.staleTags (4 * cpuNat n) 4) ∧
    (bitAt u.pmControl 0 = false → became (write 0x10) { u with
      pmControl := (u.pmControl &&& 0x00FF0000 &&& ~~~ v) ||| (v &&& (put (presentMask2 c) 8 ||| 1))
      mn := if bitAt v 1 then Vector.replicate 8 0 else u.mn }) ∧
    (scuRead 0x00 s = (u.control, s)) ∧ (scuRead 0x08 s = (put u.cpuStatus 0, s)) ∧ (scuRead 0x0C s = (0, s))) ∧
  (∀ (s : State) (n : CpuId) (v : Word),
    let c := s.cfg
    let ids := 32 + 32 * c.irqGroups.toNat
    let write (off : Nat) : State := distWrite n off v 0xFFFFFFFF s
    let read (off : Nat) (t : State) : Word := (distRead n off t).1
    (∀ off, off ≠ 0xF00 → write off = { s with dev := (write off).dev } ∧ distRead n off s = (read off s, s)) ∧
    read 0x000 (write 0x000) = v &&& 1 ∧
    read 0x100 (write 0x100) = read 0x100 s ||| (v &&& 0xE0000000) ∧
    read 0x100 (write 0x180) = read 0x100 s &&& ~~~ (v &&& 0xE0000000) ∧
    (∀ r, 1 ≤ r → r ≤ c.irqGroups.toNat →
      read (0x100 + 4 * r) (write (0x100 + 4 * r)) = read (0x100 + 4 * r) s ||| v ∧
      read (0x100 + 4 * r) (write (0x180 + 4 * r)) = read (0x100 + 4 * r) s &&& ~~~ v ∧
      (∀ b < 32, (read (0x200 + 4 * r) (write (0x200 + 4 * r))).getLsbD b =
        ((read (0x200 + 4 * r) s).getLsbD b || (v.getLsbD b && irqTargets s.dev (32 * r + b) != 0))) ∧
      (s.dev.dist.lines = 0 → read (0x200 + 4 * r) (write (0x280 + 4 * r)) = read (0x200 + 4 * r) s &&& ~~~ v)) ∧
    (∀ k, k < 4 ∨ 8 ≤ k → 4 * k < ids → read (0x400 + 4 * k) (write (0x400 + 4 * k)) = v &&& 0xF0F0F0F0) ∧
    (∀ k, 8 ≤ k → 4 * k < ids → ∀ b < 4, (fld (read (0x800 + 4 * k) (write (0x800 + 4 * k))) (8 * b) 8 : BitVec 8) =
      (fld v (8 * b) 4 &&& presentMask c : BitVec 4).setWidth 8) ∧
    ∀ r, 2 ≤ r → 16 * r < ids → read (0xC00 + 4 * r) (write (0xC00 + 4 * r)) = v) ∧
  (∀ (d : Devices) (n : CpuId),
    let t := d.timers.get n
    let t' := (timerTick n d).timers.get n
    let pending (d : Devices) : Bool := bitAt (d.cpus.get n).pending 29
    (bitAt t.control 0 = false → timerTick n d = d) ∧
    (bitAt t.control 0 = true → t.count ≠ 0 → t'.count = t.count - 1) ∧
    (bitAt t.control 0 = true → t.count = 0 → bitAt t.control 1 = true → t'.count = t.load) ∧
    (bitAt t.control 0 = true → t.count = 0 → bitAt t.control 1 = false → timerTick n d = d) ∧
    (bitAt t.control 0 = true → t.count = 1 → t'.event = true ∧ pending (timerTick n d) = (bitAt t.control 2 || pending d)) ∧
    (t.count ≠ 1 → t.count ≠ 0 → t'.event = t.event ∧ pending (timerTick n d) = pending d)) ∧
  (∀ (t : Timer) (v : Word) (off : Nat),
    bitAt (timerWritten (timerWritten t 0x34 0x12345678) 0x34 0x87654321).wdControl 3 = false ∧
    (v ≠ 0x87654321 ∨ t.armed = false → (timerWritten t 0x34 v).wdControl = t.wdControl) ∧
    (off ≠ 0x34 → wdMode (timerWritten t off v) = (wdMode t || (off == 0x28 && bitAt v 3)) ∧
      (timerWritten t off v).armed = false)) ∧
  (∀ (s : State) (n : CpuId), (s.dev.cpus.get n).shadow = none →
      (irqSelect s.cfg s.dev n = none → irqAck n s = (0x3FF, s)) ∧
      (∀ x, irqSelect s.cfg s.dev n = some x → irqAccept (s.dev.cpus.get n) x.prio = false → irqAck n s = (0x3FF, s)) ∧
      (∀ x, irqSelect s.cfg s.dev n = some x → irqAccept (s.dev.cpus.get n) x.prio = true → x.id < 256 →
        (irqAck n s).1 = put x.src 10 ||| BitVec.ofNat 32 x.id ∧
          bitAt ((irqAck n s).2.dev.cpus.get n).active x.id = true ∧
          ((irqAck n s).2.dev.cpus.get n).stack = x :: (s.dev.cpus.get n).stack ∧
          SameOutsideMemory s (irqAck n s).2))
end

