-- ==== Sys2Proof/Laws/Memory.lean ====
section
/-!
SUPPORT. Memory: every write keeps the canonical form, and a read gives the newest byte written (20_memory.md R42).
-/

namespace Sys2Proof.Machine

/-- A memory whose addresses begin above `lo` lists nothing below. -/
theorem Mem.wfFrom_mono {lo lo' : Nat} (h : lo ≤ lo') : ∀ {m : Mem}, Mem.wfFrom lo' m = true → Mem.wfFrom lo m = true
  | [], _ => rfl
  | c :: t, hm => by
    simp only [Mem.wfFrom, Bool.and_eq_true, decide_eq_true_eq] at hm ⊢
    exact ⟨⟨⟨le_trans h hm.1.1.1, hm.1.1.2⟩, hm.1.2⟩, hm.2⟩

/-- An address below the first listed one reads as an unlisted byte. -/
theorem Mem.read_below {lo a : Nat} (h : a < lo) : ∀ {m : Mem}, Mem.wfFrom lo m = true → m.read a = unlistedByte
  | [], _ => rfl
  | c :: t, hm => by
    simp only [Mem.wfFrom, Bool.and_eq_true, decide_eq_true_eq] at hm
    have hne : c.1 ≠ a := by omega
    simp only [Mem.read, hne, if_false]
    exact Mem.read_below (lo := c.1 + 1) (by omega) hm.2

/-- A write above `lo` keeps the form above `lo`. -/
theorem Mem.wfFrom_write {lo a : Nat} {v : Byte} (ha : lo ≤ a) (hb : a < 2 ^ 32) :
    ∀ {m : Mem}, Mem.wfFrom lo m = true → Mem.wfFrom lo (m.write a v) = true
  | [], _ => by
    by_cases hv : v = unlistedByte <;> simp [Mem.write, Mem.wfFrom, hv, ha]
    omega
  | c :: t, hm => by
    simp only [Mem.wfFrom, Bool.and_eq_true, decide_eq_true_eq] at hm
    obtain ⟨⟨⟨h1, h2⟩, h3⟩, h4⟩ := hm
    unfold Mem.write
    split
    · split
      · simp [Mem.wfFrom, h1, h3, h4]; omega
      · rename_i hlt hv
        simp only [Mem.wfFrom, Bool.and_eq_true, decide_eq_true_eq]
        exact ⟨⟨⟨ha, hb⟩, hv⟩, ⟨⟨hlt, h2⟩, h3⟩, h4⟩
    · split
      · rename_i hge heq
        split
        · exact Mem.wfFrom_mono (by omega) h4
        · rename_i hv
          simp only [Mem.wfFrom, Bool.and_eq_true, decide_eq_true_eq]
          exact ⟨⟨⟨ha, hb⟩, hv⟩, heq ▸ h4⟩
      · rename_i hge hne
        simp only [Mem.wfFrom, Bool.and_eq_true, decide_eq_true_eq]
        exact ⟨⟨⟨h1, h2⟩, h3⟩, Mem.wfFrom_write (by omega) hb h4⟩

/-- A write of one byte keeps the canonical form. -/
theorem Mem.wf_write {m : Mem} {a : Nat} {v : Byte} (hb : a < 2 ^ 32) (h : m.wf = true) : (m.write a v).wf = true :=
  Mem.wfFrom_write (Nat.zero_le a) hb h

/-- A write of bytes keeps the canonical form. -/
theorem Mem.wf_writeBytes : ∀ (l : List Byte) {m : Mem} (pa : Word), m.wf = true → (m.writeBytes pa l).wf = true
  | [], _, _, h => h
  | _ :: t, _, pa, h => Mem.wf_writeBytes t (pa + 1) (Mem.wf_write pa.isLt h)

/-- What a write does to a read, above `lo`. -/
theorem Mem.read_write_from {lo a b : Nat} {v : Byte} (ha : lo ≤ a) :
    ∀ {m : Mem}, Mem.wfFrom lo m = true → (m.write a v).read b = if b = a then v else m.read b
  | [], _ => by
    have e : (a = b) = (b = a) := propext eq_comm
    by_cases hv : v = unlistedByte <;> by_cases hba : b = a <;> simp [Mem.write, Mem.read, hv, hba, e]
  | c :: t, hm => by
    simp only [Mem.wfFrom, Bool.and_eq_true, decide_eq_true_eq] at hm
    obtain ⟨⟨⟨h1, h2⟩, h3⟩, h4⟩ := hm
    unfold Mem.write
    by_cases hba : b = a
    · subst hba
      simp only [if_true]
      split
      · split
        · rename_i hlt hv
          have hne : c.1 ≠ b := by omega
          simp only [Mem.read, hne, if_false, hv]
          exact Mem.read_below (lo := c.1 + 1) (by omega) h4
        · simp [Mem.read]
      · split
        · rename_i hge heq
          split
          · rename_i hv
            rw [hv]
            exact Mem.read_below (lo := c.1 + 1) (by omega) h4
          · simp [Mem.read]
        · rename_i hge hne
          have hne' : c.1 ≠ b := fun h => hne h.symm
          simp only [Mem.read, hne', if_false]
          rw [Mem.read_write_from (by omega) h4]
          simp
    · simp only [hba, if_false]
      have hab : a ≠ b := fun h => hba h.symm
      split
      · split
        · rfl
        · simp [Mem.read, hab]
      · split
        · rename_i hge heq
          have hcb : c.1 ≠ b := by omega
          split <;> simp [Mem.read, hab, hcb]
        · rename_i hge hne
          by_cases hcb : c.1 = b
          · simp [Mem.read, hcb]
          · simp only [Mem.read, hcb, if_false]
            rw [Mem.read_write_from (by omega) h4]
            simp [hba]

/-- A read after a write of one byte. -/
theorem Mem.read_write {m : Mem} {a b : Nat} {v : Byte} (h : m.wf = true) :
    (m.write a v).read b = if b = a then v else m.read b :=
  Mem.read_write_from (Nat.zero_le a) h

/-- The memory after reset is canonical. -/
theorem Mem.wf_reset : State.reset.mem.wf = true := rfl

/-- A read outside the bytes of a write gives what it gave before. -/
theorem Mem.read_writeBytes_other {b : Nat} : ∀ (l : List Byte) {m : Mem} (pa : Word), m.wf = true →
    (∀ k, k < l.length → b ≠ (pa + BitVec.ofNat 32 k).toNat) → (m.writeBytes pa l).read b = m.read b
  | [], _, _, _, _ => rfl
  | v :: t, m, pa, h, hk => by
    have h0 : b ≠ pa.toNat := by simpa using hk 0 (by simp)
    have ht : ∀ k, k < t.length → b ≠ (pa + 1 + BitVec.ofNat 32 k).toNat := by
      intro k hlt
      have := hk (k + 1) (by simpa using hlt)
      have e : pa + BitVec.ofNat 32 (k + 1) = pa + 1 + BitVec.ofNat 32 k := by
        apply BitVec.eq_of_toNat_eq
        simp [BitVec.toNat_add]
        omega
      rwa [e] at this
    show (Mem.writeBytes (m.write pa.toNat v) (pa + 1) t).read b = m.read b
    rw [Mem.read_writeBytes_other t (pa + 1) (Mem.wf_write pa.isLt h) ht, Mem.read_write h, if_neg h0]

end Sys2Proof.Machine
end

