-- ==== Sys2Proof/Laws/State.lean ====
section
/-!
SUPPORT. What each update of the state does to each field: one lemma per field per update, so that no later proof unfolds an
update.
-/

namespace Sys2Proof.Machine

/-! ## `State.setCpsr` -/

@[simp] theorem State.setCpsr_cfg (s : State) (v : Word) : (s.setCpsr v).cfg = s.cfg := rfl
@[simp] theorem State.setCpsr_regs (s : State) (v : Word) : (s.setCpsr v).regs = s.regs := rfl
@[simp] theorem State.setCpsr_pc (s : State) (v : Word) : (s.setCpsr v).pc = s.pc := rfl
@[simp] theorem State.setCpsr_psrs (s : State) (v : Word) : (s.setCpsr v).psrs = { s.psrs with cpsr := v } := rfl
@[simp] theorem State.setCpsr_cp15 (s : State) (v : Word) : (s.setCpsr v).cp15 = s.cp15 := rfl
@[simp] theorem State.setCpsr_lockAccess (s : State) (v : Word) : (s.setCpsr v).lockAccess = s.lockAccess := rfl
@[simp] theorem State.setCpsr_nmrrImplDefined (s : State) (v : Word) : (s.setCpsr v).nmrrImplDefined = s.nmrrImplDefined := rfl
@[simp] theorem State.setCpsr_remapOld (s : State) (v : Word) : (s.setCpsr v).remapOld = s.remapOld := rfl
@[simp] theorem State.setCpsr_cpacrOld (s : State) (v : Word) : (s.setCpsr v).cpacrOld = s.cpacrOld := rfl
@[simp] theorem State.setCpsr_fetchOld (s : State) (v : Word) : (s.setCpsr v).fetchOld = s.fetchOld := rfl
@[simp] theorem State.setCpsr_tlb (s : State) (v : Word) : (s.setCpsr v).tlb = s.tlb := rfl
@[simp] theorem State.setCpsr_lockSlots (s : State) (v : Word) : (s.setCpsr v).lockSlots = s.lockSlots := rfl
@[simp] theorem State.setCpsr_prefetched (s : State) (v : Word) : (s.setCpsr v).prefetched = s.prefetched := rfl
@[simp] theorem State.setCpsr_icache (s : State) (v : Word) : (s.setCpsr v).icache = s.icache := rfl
@[simp] theorem State.setCpsr_icVictim (s : State) (v : Word) : (s.setCpsr v).icVictim = s.icVictim := rfl
@[simp] theorem State.setCpsr_dcache (s : State) (v : Word) : (s.setCpsr v).dcache = s.dcache := rfl
@[simp] theorem State.setCpsr_dcVictim (s : State) (v : Word) : (s.setCpsr v).dcVictim = s.dcVictim := rfl
@[simp] theorem State.setCpsr_storeBuffer (s : State) (v : Word) : (s.setCpsr v).storeBuffer = s.storeBuffer := rfl
@[simp] theorem State.setCpsr_monitor (s : State) (v : Word) : (s.setCpsr v).monitor = s.monitor := rfl
@[simp] theorem State.setCpsr_btac (s : State) (v : Word) : (s.setCpsr v).btac = s.btac := rfl
@[simp] theorem State.setCpsr_imprecise (s : State) (v : Word) : (s.setCpsr v).imprecise = s.imprecise := rfl
@[simp] theorem State.setCpsr_inFlight (s : State) (v : Word) : (s.setCpsr v).inFlight = s.inFlight := rfl
@[simp] theorem State.setCpsr_fiqPin (s : State) (v : Word) : (s.setCpsr v).fiqPin = s.fiqPin := rfl
@[simp] theorem State.setCpsr_irqSeen (s : State) (v : Word) : (s.setCpsr v).irqSeen = s.irqSeen := rfl
@[simp] theorem State.setCpsr_fiqSeen (s : State) (v : Word) : (s.setCpsr v).fiqSeen = s.fiqSeen := rfl
@[simp] theorem State.setCpsr_power (s : State) (v : Word) : (s.setCpsr v).power = s.power := rfl
@[simp] theorem State.setCpsr_standby (s : State) (v : Word) : (s.setCpsr v).standby = s.standby := rfl
@[simp] theorem State.setCpsr_stuck (s : State) (v : Word) : (s.setCpsr v).stuck = s.stuck := rfl
@[simp] theorem State.setCpsr_vfp (s : State) (v : Word) : (s.setCpsr v).vfp = s.vfp := rfl
@[simp] theorem State.setCpsr_debug (s : State) (v : Word) : (s.setCpsr v).dbg = s.dbg := rfl
@[simp] theorem State.setCpsr_dev (s : State) (v : Word) : (s.setCpsr v).dev = s.dev := rfl
@[simp] theorem State.setCpsr_mem (s : State) (v : Word) : (s.setCpsr v).mem = s.mem := rfl
@[simp] theorem State.setCpsr_freeCtr (s : State) (v : Word) : (s.setCpsr v).freeCtr = s.freeCtr := rfl
@[simp] theorem State.setCpsr_env (s : State) (v : Word) : (s.setCpsr v).env = s.env := rfl

/-! ## `State.setSpsr` -/

@[simp] theorem State.setSpsr_cfg (s : State) (b : Bank) (v : Word) : (s.setSpsr b v).cfg = s.cfg := rfl
@[simp] theorem State.setSpsr_regs (s : State) (b : Bank) (v : Word) : (s.setSpsr b v).regs = s.regs := rfl
@[simp] theorem State.setSpsr_pc (s : State) (b : Bank) (v : Word) : (s.setSpsr b v).pc = s.pc := rfl
@[simp] theorem State.setSpsr_psrs (s : State) (b : Bank) (v : Word) : (s.setSpsr b v).psrs = s.psrs.setSpsr b v := rfl
@[simp] theorem State.setSpsr_cp15 (s : State) (b : Bank) (v : Word) : (s.setSpsr b v).cp15 = s.cp15 := rfl
@[simp] theorem State.setSpsr_lockAccess (s : State) (b : Bank) (v : Word) : (s.setSpsr b v).lockAccess = s.lockAccess := rfl
@[simp] theorem State.setSpsr_nmrrImplDefined (s : State) (b : Bank) (v : Word) : (s.setSpsr b v).nmrrImplDefined = s.nmrrImplDefined := rfl
@[simp] theorem State.setSpsr_remapOld (s : State) (b : Bank) (v : Word) : (s.setSpsr b v).remapOld = s.remapOld := rfl
@[simp] theorem State.setSpsr_cpacrOld (s : State) (b : Bank) (v : Word) : (s.setSpsr b v).cpacrOld = s.cpacrOld := rfl
@[simp] theorem State.setSpsr_fetchOld (s : State) (b : Bank) (v : Word) : (s.setSpsr b v).fetchOld = s.fetchOld := rfl
@[simp] theorem State.setSpsr_tlb (s : State) (b : Bank) (v : Word) : (s.setSpsr b v).tlb = s.tlb := rfl
@[simp] theorem State.setSpsr_lockSlots (s : State) (b : Bank) (v : Word) : (s.setSpsr b v).lockSlots = s.lockSlots := rfl
@[simp] theorem State.setSpsr_prefetched (s : State) (b : Bank) (v : Word) : (s.setSpsr b v).prefetched = s.prefetched := rfl
@[simp] theorem State.setSpsr_icache (s : State) (b : Bank) (v : Word) : (s.setSpsr b v).icache = s.icache := rfl
@[simp] theorem State.setSpsr_icVictim (s : State) (b : Bank) (v : Word) : (s.setSpsr b v).icVictim = s.icVictim := rfl
@[simp] theorem State.setSpsr_dcache (s : State) (b : Bank) (v : Word) : (s.setSpsr b v).dcache = s.dcache := rfl
@[simp] theorem State.setSpsr_dcVictim (s : State) (b : Bank) (v : Word) : (s.setSpsr b v).dcVictim = s.dcVictim := rfl
@[simp] theorem State.setSpsr_storeBuffer (s : State) (b : Bank) (v : Word) : (s.setSpsr b v).storeBuffer = s.storeBuffer := rfl
@[simp] theorem State.setSpsr_monitor (s : State) (b : Bank) (v : Word) : (s.setSpsr b v).monitor = s.monitor := rfl
@[simp] theorem State.setSpsr_btac (s : State) (b : Bank) (v : Word) : (s.setSpsr b v).btac = s.btac := rfl
@[simp] theorem State.setSpsr_imprecise (s : State) (b : Bank) (v : Word) : (s.setSpsr b v).imprecise = s.imprecise := rfl
@[simp] theorem State.setSpsr_inFlight (s : State) (b : Bank) (v : Word) : (s.setSpsr b v).inFlight = s.inFlight := rfl
@[simp] theorem State.setSpsr_fiqPin (s : State) (b : Bank) (v : Word) : (s.setSpsr b v).fiqPin = s.fiqPin := rfl
@[simp] theorem State.setSpsr_irqSeen (s : State) (b : Bank) (v : Word) : (s.setSpsr b v).irqSeen = s.irqSeen := rfl
@[simp] theorem State.setSpsr_fiqSeen (s : State) (b : Bank) (v : Word) : (s.setSpsr b v).fiqSeen = s.fiqSeen := rfl
@[simp] theorem State.setSpsr_power (s : State) (b : Bank) (v : Word) : (s.setSpsr b v).power = s.power := rfl
@[simp] theorem State.setSpsr_standby (s : State) (b : Bank) (v : Word) : (s.setSpsr b v).standby = s.standby := rfl
@[simp] theorem State.setSpsr_stuck (s : State) (b : Bank) (v : Word) : (s.setSpsr b v).stuck = s.stuck := rfl
@[simp] theorem State.setSpsr_vfp (s : State) (b : Bank) (v : Word) : (s.setSpsr b v).vfp = s.vfp := rfl
@[simp] theorem State.setSpsr_debug (s : State) (b : Bank) (v : Word) : (s.setSpsr b v).dbg = s.dbg := rfl
@[simp] theorem State.setSpsr_dev (s : State) (b : Bank) (v : Word) : (s.setSpsr b v).dev = s.dev := rfl
@[simp] theorem State.setSpsr_mem (s : State) (b : Bank) (v : Word) : (s.setSpsr b v).mem = s.mem := rfl
@[simp] theorem State.setSpsr_freeCtr (s : State) (b : Bank) (v : Word) : (s.setSpsr b v).freeCtr = s.freeCtr := rfl
@[simp] theorem State.setSpsr_env (s : State) (b : Bank) (v : Word) : (s.setSpsr b v).env = s.env := rfl

/-! ## `State.setNzcv` -/

@[simp] theorem State.setNzcv_cfg (s : State) (n z c v : Bool) : (s.setNzcv n z c v).cfg = s.cfg := rfl
@[simp] theorem State.setNzcv_regs (s : State) (n z c v : Bool) : (s.setNzcv n z c v).regs = s.regs := rfl
@[simp] theorem State.setNzcv_pc (s : State) (n z c v : Bool) : (s.setNzcv n z c v).pc = s.pc := rfl
@[simp] theorem State.setNzcv_cp15 (s : State) (n z c v : Bool) : (s.setNzcv n z c v).cp15 = s.cp15 := rfl
@[simp] theorem State.setNzcv_lockAccess (s : State) (n z c v : Bool) : (s.setNzcv n z c v).lockAccess = s.lockAccess := rfl
@[simp] theorem State.setNzcv_nmrrImplDefined (s : State) (n z c v : Bool) : (s.setNzcv n z c v).nmrrImplDefined = s.nmrrImplDefined := rfl
@[simp] theorem State.setNzcv_remapOld (s : State) (n z c v : Bool) : (s.setNzcv n z c v).remapOld = s.remapOld := rfl
@[simp] theorem State.setNzcv_cpacrOld (s : State) (n z c v : Bool) : (s.setNzcv n z c v).cpacrOld = s.cpacrOld := rfl
@[simp] theorem State.setNzcv_fetchOld (s : State) (n z c v : Bool) : (s.setNzcv n z c v).fetchOld = s.fetchOld := rfl
@[simp] theorem State.setNzcv_tlb (s : State) (n z c v : Bool) : (s.setNzcv n z c v).tlb = s.tlb := rfl
@[simp] theorem State.setNzcv_lockSlots (s : State) (n z c v : Bool) : (s.setNzcv n z c v).lockSlots = s.lockSlots := rfl
@[simp] theorem State.setNzcv_prefetched (s : State) (n z c v : Bool) : (s.setNzcv n z c v).prefetched = s.prefetched := rfl
@[simp] theorem State.setNzcv_icache (s : State) (n z c v : Bool) : (s.setNzcv n z c v).icache = s.icache := rfl
@[simp] theorem State.setNzcv_icVictim (s : State) (n z c v : Bool) : (s.setNzcv n z c v).icVictim = s.icVictim := rfl
@[simp] theorem State.setNzcv_dcache (s : State) (n z c v : Bool) : (s.setNzcv n z c v).dcache = s.dcache := rfl
@[simp] theorem State.setNzcv_dcVictim (s : State) (n z c v : Bool) : (s.setNzcv n z c v).dcVictim = s.dcVictim := rfl
@[simp] theorem State.setNzcv_storeBuffer (s : State) (n z c v : Bool) : (s.setNzcv n z c v).storeBuffer = s.storeBuffer := rfl
@[simp] theorem State.setNzcv_monitor (s : State) (n z c v : Bool) : (s.setNzcv n z c v).monitor = s.monitor := rfl
@[simp] theorem State.setNzcv_btac (s : State) (n z c v : Bool) : (s.setNzcv n z c v).btac = s.btac := rfl
@[simp] theorem State.setNzcv_imprecise (s : State) (n z c v : Bool) : (s.setNzcv n z c v).imprecise = s.imprecise := rfl
@[simp] theorem State.setNzcv_inFlight (s : State) (n z c v : Bool) : (s.setNzcv n z c v).inFlight = s.inFlight := rfl
@[simp] theorem State.setNzcv_fiqPin (s : State) (n z c v : Bool) : (s.setNzcv n z c v).fiqPin = s.fiqPin := rfl
@[simp] theorem State.setNzcv_irqSeen (s : State) (n z c v : Bool) : (s.setNzcv n z c v).irqSeen = s.irqSeen := rfl
@[simp] theorem State.setNzcv_fiqSeen (s : State) (n z c v : Bool) : (s.setNzcv n z c v).fiqSeen = s.fiqSeen := rfl
@[simp] theorem State.setNzcv_power (s : State) (n z c v : Bool) : (s.setNzcv n z c v).power = s.power := rfl
@[simp] theorem State.setNzcv_standby (s : State) (n z c v : Bool) : (s.setNzcv n z c v).standby = s.standby := rfl
@[simp] theorem State.setNzcv_stuck (s : State) (n z c v : Bool) : (s.setNzcv n z c v).stuck = s.stuck := rfl
@[simp] theorem State.setNzcv_vfp (s : State) (n z c v : Bool) : (s.setNzcv n z c v).vfp = s.vfp := rfl
@[simp] theorem State.setNzcv_debug (s : State) (n z c v : Bool) : (s.setNzcv n z c v).dbg = s.dbg := rfl
@[simp] theorem State.setNzcv_dev (s : State) (n z c v : Bool) : (s.setNzcv n z c v).dev = s.dev := rfl
@[simp] theorem State.setNzcv_mem (s : State) (n z c v : Bool) : (s.setNzcv n z c v).mem = s.mem := rfl
@[simp] theorem State.setNzcv_freeCtr (s : State) (n z c v : Bool) : (s.setNzcv n z c v).freeCtr = s.freeCtr := rfl
@[simp] theorem State.setNzcv_env (s : State) (n z c v : Bool) : (s.setNzcv n z c v).env = s.env := rfl

/-! ## `State.setArithFlags` -/

@[simp] theorem State.setArithFlags_cfg (s : State) (x : Sum) : (s.setArithFlags x).cfg = s.cfg := rfl
@[simp] theorem State.setArithFlags_regs (s : State) (x : Sum) : (s.setArithFlags x).regs = s.regs := rfl
@[simp] theorem State.setArithFlags_pc (s : State) (x : Sum) : (s.setArithFlags x).pc = s.pc := rfl
@[simp] theorem State.setArithFlags_cp15 (s : State) (x : Sum) : (s.setArithFlags x).cp15 = s.cp15 := rfl
@[simp] theorem State.setArithFlags_lockAccess (s : State) (x : Sum) : (s.setArithFlags x).lockAccess = s.lockAccess := rfl
@[simp] theorem State.setArithFlags_nmrrImplDefined (s : State) (x : Sum) : (s.setArithFlags x).nmrrImplDefined = s.nmrrImplDefined := rfl
@[simp] theorem State.setArithFlags_remapOld (s : State) (x : Sum) : (s.setArithFlags x).remapOld = s.remapOld := rfl
@[simp] theorem State.setArithFlags_cpacrOld (s : State) (x : Sum) : (s.setArithFlags x).cpacrOld = s.cpacrOld := rfl
@[simp] theorem State.setArithFlags_fetchOld (s : State) (x : Sum) : (s.setArithFlags x).fetchOld = s.fetchOld := rfl
@[simp] theorem State.setArithFlags_tlb (s : State) (x : Sum) : (s.setArithFlags x).tlb = s.tlb := rfl
@[simp] theorem State.setArithFlags_lockSlots (s : State) (x : Sum) : (s.setArithFlags x).lockSlots = s.lockSlots := rfl
@[simp] theorem State.setArithFlags_prefetched (s : State) (x : Sum) : (s.setArithFlags x).prefetched = s.prefetched := rfl
@[simp] theorem State.setArithFlags_icache (s : State) (x : Sum) : (s.setArithFlags x).icache = s.icache := rfl
@[simp] theorem State.setArithFlags_icVictim (s : State) (x : Sum) : (s.setArithFlags x).icVictim = s.icVictim := rfl
@[simp] theorem State.setArithFlags_dcache (s : State) (x : Sum) : (s.setArithFlags x).dcache = s.dcache := rfl
@[simp] theorem State.setArithFlags_dcVictim (s : State) (x : Sum) : (s.setArithFlags x).dcVictim = s.dcVictim := rfl
@[simp] theorem State.setArithFlags_storeBuffer (s : State) (x : Sum) : (s.setArithFlags x).storeBuffer = s.storeBuffer := rfl
@[simp] theorem State.setArithFlags_monitor (s : State) (x : Sum) : (s.setArithFlags x).monitor = s.monitor := rfl
@[simp] theorem State.setArithFlags_btac (s : State) (x : Sum) : (s.setArithFlags x).btac = s.btac := rfl
@[simp] theorem State.setArithFlags_imprecise (s : State) (x : Sum) : (s.setArithFlags x).imprecise = s.imprecise := rfl
@[simp] theorem State.setArithFlags_inFlight (s : State) (x : Sum) : (s.setArithFlags x).inFlight = s.inFlight := rfl
@[simp] theorem State.setArithFlags_fiqPin (s : State) (x : Sum) : (s.setArithFlags x).fiqPin = s.fiqPin := rfl
@[simp] theorem State.setArithFlags_irqSeen (s : State) (x : Sum) : (s.setArithFlags x).irqSeen = s.irqSeen := rfl
@[simp] theorem State.setArithFlags_fiqSeen (s : State) (x : Sum) : (s.setArithFlags x).fiqSeen = s.fiqSeen := rfl
@[simp] theorem State.setArithFlags_power (s : State) (x : Sum) : (s.setArithFlags x).power = s.power := rfl
@[simp] theorem State.setArithFlags_standby (s : State) (x : Sum) : (s.setArithFlags x).standby = s.standby := rfl
@[simp] theorem State.setArithFlags_stuck (s : State) (x : Sum) : (s.setArithFlags x).stuck = s.stuck := rfl
@[simp] theorem State.setArithFlags_vfp (s : State) (x : Sum) : (s.setArithFlags x).vfp = s.vfp := rfl
@[simp] theorem State.setArithFlags_debug (s : State) (x : Sum) : (s.setArithFlags x).dbg = s.dbg := rfl
@[simp] theorem State.setArithFlags_dev (s : State) (x : Sum) : (s.setArithFlags x).dev = s.dev := rfl
@[simp] theorem State.setArithFlags_mem (s : State) (x : Sum) : (s.setArithFlags x).mem = s.mem := rfl
@[simp] theorem State.setArithFlags_freeCtr (s : State) (x : Sum) : (s.setArithFlags x).freeCtr = s.freeCtr := rfl
@[simp] theorem State.setArithFlags_env (s : State) (x : Sum) : (s.setArithFlags x).env = s.env := rfl

/-! ## `State.setLogicFlags` -/

@[simp] theorem State.setLogicFlags_cfg (s : State) (r : Word) (c : Bool) : (s.setLogicFlags r c).cfg = s.cfg := rfl
@[simp] theorem State.setLogicFlags_regs (s : State) (r : Word) (c : Bool) : (s.setLogicFlags r c).regs = s.regs := rfl
@[simp] theorem State.setLogicFlags_pc (s : State) (r : Word) (c : Bool) : (s.setLogicFlags r c).pc = s.pc := rfl
@[simp] theorem State.setLogicFlags_cp15 (s : State) (r : Word) (c : Bool) : (s.setLogicFlags r c).cp15 = s.cp15 := rfl
@[simp] theorem State.setLogicFlags_lockAccess (s : State) (r : Word) (c : Bool) : (s.setLogicFlags r c).lockAccess = s.lockAccess := rfl
@[simp] theorem State.setLogicFlags_nmrrImplDefined (s : State) (r : Word) (c : Bool) : (s.setLogicFlags r c).nmrrImplDefined = s.nmrrImplDefined := rfl
@[simp] theorem State.setLogicFlags_remapOld (s : State) (r : Word) (c : Bool) : (s.setLogicFlags r c).remapOld = s.remapOld := rfl
@[simp] theorem State.setLogicFlags_cpacrOld (s : State) (r : Word) (c : Bool) : (s.setLogicFlags r c).cpacrOld = s.cpacrOld := rfl
@[simp] theorem State.setLogicFlags_fetchOld (s : State) (r : Word) (c : Bool) : (s.setLogicFlags r c).fetchOld = s.fetchOld := rfl
@[simp] theorem State.setLogicFlags_tlb (s : State) (r : Word) (c : Bool) : (s.setLogicFlags r c).tlb = s.tlb := rfl
@[simp] theorem State.setLogicFlags_lockSlots (s : State) (r : Word) (c : Bool) : (s.setLogicFlags r c).lockSlots = s.lockSlots := rfl
@[simp] theorem State.setLogicFlags_prefetched (s : State) (r : Word) (c : Bool) : (s.setLogicFlags r c).prefetched = s.prefetched := rfl
@[simp] theorem State.setLogicFlags_icache (s : State) (r : Word) (c : Bool) : (s.setLogicFlags r c).icache = s.icache := rfl
@[simp] theorem State.setLogicFlags_icVictim (s : State) (r : Word) (c : Bool) : (s.setLogicFlags r c).icVictim = s.icVictim := rfl
@[simp] theorem State.setLogicFlags_dcache (s : State) (r : Word) (c : Bool) : (s.setLogicFlags r c).dcache = s.dcache := rfl
@[simp] theorem State.setLogicFlags_dcVictim (s : State) (r : Word) (c : Bool) : (s.setLogicFlags r c).dcVictim = s.dcVictim := rfl
@[simp] theorem State.setLogicFlags_storeBuffer (s : State) (r : Word) (c : Bool) : (s.setLogicFlags r c).storeBuffer = s.storeBuffer := rfl
@[simp] theorem State.setLogicFlags_monitor (s : State) (r : Word) (c : Bool) : (s.setLogicFlags r c).monitor = s.monitor := rfl
@[simp] theorem State.setLogicFlags_btac (s : State) (r : Word) (c : Bool) : (s.setLogicFlags r c).btac = s.btac := rfl
@[simp] theorem State.setLogicFlags_imprecise (s : State) (r : Word) (c : Bool) : (s.setLogicFlags r c).imprecise = s.imprecise := rfl
@[simp] theorem State.setLogicFlags_inFlight (s : State) (r : Word) (c : Bool) : (s.setLogicFlags r c).inFlight = s.inFlight := rfl
@[simp] theorem State.setLogicFlags_fiqPin (s : State) (r : Word) (c : Bool) : (s.setLogicFlags r c).fiqPin = s.fiqPin := rfl
@[simp] theorem State.setLogicFlags_irqSeen (s : State) (r : Word) (c : Bool) : (s.setLogicFlags r c).irqSeen = s.irqSeen := rfl
@[simp] theorem State.setLogicFlags_fiqSeen (s : State) (r : Word) (c : Bool) : (s.setLogicFlags r c).fiqSeen = s.fiqSeen := rfl
@[simp] theorem State.setLogicFlags_power (s : State) (r : Word) (c : Bool) : (s.setLogicFlags r c).power = s.power := rfl
@[simp] theorem State.setLogicFlags_standby (s : State) (r : Word) (c : Bool) : (s.setLogicFlags r c).standby = s.standby := rfl
@[simp] theorem State.setLogicFlags_stuck (s : State) (r : Word) (c : Bool) : (s.setLogicFlags r c).stuck = s.stuck := rfl
@[simp] theorem State.setLogicFlags_vfp (s : State) (r : Word) (c : Bool) : (s.setLogicFlags r c).vfp = s.vfp := rfl
@[simp] theorem State.setLogicFlags_debug (s : State) (r : Word) (c : Bool) : (s.setLogicFlags r c).dbg = s.dbg := rfl
@[simp] theorem State.setLogicFlags_dev (s : State) (r : Word) (c : Bool) : (s.setLogicFlags r c).dev = s.dev := rfl
@[simp] theorem State.setLogicFlags_mem (s : State) (r : Word) (c : Bool) : (s.setLogicFlags r c).mem = s.mem := rfl
@[simp] theorem State.setLogicFlags_freeCtr (s : State) (r : Word) (c : Bool) : (s.setLogicFlags r c).freeCtr = s.freeCtr := rfl
@[simp] theorem State.setLogicFlags_env (s : State) (r : Word) (c : Bool) : (s.setLogicFlags r c).env = s.env := rfl

/-! ## `State.setNz` -/

@[simp] theorem State.setNz_cfg (s : State) (r : Word) : (s.setNz r).cfg = s.cfg := rfl
@[simp] theorem State.setNz_regs (s : State) (r : Word) : (s.setNz r).regs = s.regs := rfl
@[simp] theorem State.setNz_pc (s : State) (r : Word) : (s.setNz r).pc = s.pc := rfl
@[simp] theorem State.setNz_cp15 (s : State) (r : Word) : (s.setNz r).cp15 = s.cp15 := rfl
@[simp] theorem State.setNz_lockAccess (s : State) (r : Word) : (s.setNz r).lockAccess = s.lockAccess := rfl
@[simp] theorem State.setNz_nmrrImplDefined (s : State) (r : Word) : (s.setNz r).nmrrImplDefined = s.nmrrImplDefined := rfl
@[simp] theorem State.setNz_remapOld (s : State) (r : Word) : (s.setNz r).remapOld = s.remapOld := rfl
@[simp] theorem State.setNz_cpacrOld (s : State) (r : Word) : (s.setNz r).cpacrOld = s.cpacrOld := rfl
@[simp] theorem State.setNz_fetchOld (s : State) (r : Word) : (s.setNz r).fetchOld = s.fetchOld := rfl
@[simp] theorem State.setNz_tlb (s : State) (r : Word) : (s.setNz r).tlb = s.tlb := rfl
@[simp] theorem State.setNz_lockSlots (s : State) (r : Word) : (s.setNz r).lockSlots = s.lockSlots := rfl
@[simp] theorem State.setNz_prefetched (s : State) (r : Word) : (s.setNz r).prefetched = s.prefetched := rfl
@[simp] theorem State.setNz_icache (s : State) (r : Word) : (s.setNz r).icache = s.icache := rfl
@[simp] theorem State.setNz_icVictim (s : State) (r : Word) : (s.setNz r).icVictim = s.icVictim := rfl
@[simp] theorem State.setNz_dcache (s : State) (r : Word) : (s.setNz r).dcache = s.dcache := rfl
@[simp] theorem State.setNz_dcVictim (s : State) (r : Word) : (s.setNz r).dcVictim = s.dcVictim := rfl
@[simp] theorem State.setNz_storeBuffer (s : State) (r : Word) : (s.setNz r).storeBuffer = s.storeBuffer := rfl
@[simp] theorem State.setNz_monitor (s : State) (r : Word) : (s.setNz r).monitor = s.monitor := rfl
@[simp] theorem State.setNz_btac (s : State) (r : Word) : (s.setNz r).btac = s.btac := rfl
@[simp] theorem State.setNz_imprecise (s : State) (r : Word) : (s.setNz r).imprecise = s.imprecise := rfl
@[simp] theorem State.setNz_inFlight (s : State) (r : Word) : (s.setNz r).inFlight = s.inFlight := rfl
@[simp] theorem State.setNz_fiqPin (s : State) (r : Word) : (s.setNz r).fiqPin = s.fiqPin := rfl
@[simp] theorem State.setNz_irqSeen (s : State) (r : Word) : (s.setNz r).irqSeen = s.irqSeen := rfl
@[simp] theorem State.setNz_fiqSeen (s : State) (r : Word) : (s.setNz r).fiqSeen = s.fiqSeen := rfl
@[simp] theorem State.setNz_power (s : State) (r : Word) : (s.setNz r).power = s.power := rfl
@[simp] theorem State.setNz_standby (s : State) (r : Word) : (s.setNz r).standby = s.standby := rfl
@[simp] theorem State.setNz_stuck (s : State) (r : Word) : (s.setNz r).stuck = s.stuck := rfl
@[simp] theorem State.setNz_vfp (s : State) (r : Word) : (s.setNz r).vfp = s.vfp := rfl
@[simp] theorem State.setNz_debug (s : State) (r : Word) : (s.setNz r).dbg = s.dbg := rfl
@[simp] theorem State.setNz_dev (s : State) (r : Word) : (s.setNz r).dev = s.dev := rfl
@[simp] theorem State.setNz_mem (s : State) (r : Word) : (s.setNz r).mem = s.mem := rfl
@[simp] theorem State.setNz_freeCtr (s : State) (r : Word) : (s.setNz r).freeCtr = s.freeCtr := rfl
@[simp] theorem State.setNz_env (s : State) (r : Word) : (s.setNz r).env = s.env := rfl

/-! ## `State.setBankReg` -/

@[simp] theorem State.setBankReg_cfg (s : State) (b : Bank) (n : RegNum) (v : Word) : (s.setBankReg b n v).cfg = s.cfg := by unfold State.setBankReg; split <;> rfl
@[simp] theorem State.setBankReg_pc (s : State) (b : Bank) (n : RegNum) (v : Word) : (s.setBankReg b n v).pc = s.pc := by unfold State.setBankReg; split <;> rfl
@[simp] theorem State.setBankReg_psrs (s : State) (b : Bank) (n : RegNum) (v : Word) : (s.setBankReg b n v).psrs = s.psrs := by unfold State.setBankReg; split <;> rfl
@[simp] theorem State.setBankReg_cp15 (s : State) (b : Bank) (n : RegNum) (v : Word) : (s.setBankReg b n v).cp15 = s.cp15 := by unfold State.setBankReg; split <;> rfl
@[simp] theorem State.setBankReg_lockAccess (s : State) (b : Bank) (n : RegNum) (v : Word) : (s.setBankReg b n v).lockAccess = s.lockAccess := by unfold State.setBankReg; split <;> rfl
@[simp] theorem State.setBankReg_nmrrImplDefined (s : State) (b : Bank) (n : RegNum) (v : Word) : (s.setBankReg b n v).nmrrImplDefined = s.nmrrImplDefined := by unfold State.setBankReg; split <;> rfl
@[simp] theorem State.setBankReg_remapOld (s : State) (b : Bank) (n : RegNum) (v : Word) : (s.setBankReg b n v).remapOld = s.remapOld := by unfold State.setBankReg; split <;> rfl
@[simp] theorem State.setBankReg_cpacrOld (s : State) (b : Bank) (n : RegNum) (v : Word) : (s.setBankReg b n v).cpacrOld = s.cpacrOld := by unfold State.setBankReg; split <;> rfl
@[simp] theorem State.setBankReg_fetchOld (s : State) (b : Bank) (n : RegNum) (v : Word) : (s.setBankReg b n v).fetchOld = s.fetchOld := by unfold State.setBankReg; split <;> rfl
@[simp] theorem State.setBankReg_tlb (s : State) (b : Bank) (n : RegNum) (v : Word) : (s.setBankReg b n v).tlb = s.tlb := by unfold State.setBankReg; split <;> rfl
@[simp] theorem State.setBankReg_lockSlots (s : State) (b : Bank) (n : RegNum) (v : Word) : (s.setBankReg b n v).lockSlots = s.lockSlots := by unfold State.setBankReg; split <;> rfl
@[simp] theorem State.setBankReg_prefetched (s : State) (b : Bank) (n : RegNum) (v : Word) : (s.setBankReg b n v).prefetched = s.prefetched := by unfold State.setBankReg; split <;> rfl
@[simp] theorem State.setBankReg_icache (s : State) (b : Bank) (n : RegNum) (v : Word) : (s.setBankReg b n v).icache = s.icache := by unfold State.setBankReg; split <;> rfl
@[simp] theorem State.setBankReg_icVictim (s : State) (b : Bank) (n : RegNum) (v : Word) : (s.setBankReg b n v).icVictim = s.icVictim := by unfold State.setBankReg; split <;> rfl
@[simp] theorem State.setBankReg_dcache (s : State) (b : Bank) (n : RegNum) (v : Word) : (s.setBankReg b n v).dcache = s.dcache := by unfold State.setBankReg; split <;> rfl
@[simp] theorem State.setBankReg_dcVictim (s : State) (b : Bank) (n : RegNum) (v : Word) : (s.setBankReg b n v).dcVictim = s.dcVictim := by unfold State.setBankReg; split <;> rfl
@[simp] theorem State.setBankReg_storeBuffer (s : State) (b : Bank) (n : RegNum) (v : Word) : (s.setBankReg b n v).storeBuffer = s.storeBuffer := by unfold State.setBankReg; split <;> rfl
@[simp] theorem State.setBankReg_monitor (s : State) (b : Bank) (n : RegNum) (v : Word) : (s.setBankReg b n v).monitor = s.monitor := by unfold State.setBankReg; split <;> rfl
@[simp] theorem State.setBankReg_btac (s : State) (b : Bank) (n : RegNum) (v : Word) : (s.setBankReg b n v).btac = s.btac := by unfold State.setBankReg; split <;> rfl
@[simp] theorem State.setBankReg_imprecise (s : State) (b : Bank) (n : RegNum) (v : Word) : (s.setBankReg b n v).imprecise = s.imprecise := by unfold State.setBankReg; split <;> rfl
@[simp] theorem State.setBankReg_inFlight (s : State) (b : Bank) (n : RegNum) (v : Word) : (s.setBankReg b n v).inFlight = s.inFlight := by unfold State.setBankReg; split <;> rfl
@[simp] theorem State.setBankReg_fiqPin (s : State) (b : Bank) (n : RegNum) (v : Word) : (s.setBankReg b n v).fiqPin = s.fiqPin := by unfold State.setBankReg; split <;> rfl
@[simp] theorem State.setBankReg_irqSeen (s : State) (b : Bank) (n : RegNum) (v : Word) : (s.setBankReg b n v).irqSeen = s.irqSeen := by unfold State.setBankReg; split <;> rfl
@[simp] theorem State.setBankReg_fiqSeen (s : State) (b : Bank) (n : RegNum) (v : Word) : (s.setBankReg b n v).fiqSeen = s.fiqSeen := by unfold State.setBankReg; split <;> rfl
@[simp] theorem State.setBankReg_power (s : State) (b : Bank) (n : RegNum) (v : Word) : (s.setBankReg b n v).power = s.power := by unfold State.setBankReg; split <;> rfl
@[simp] theorem State.setBankReg_standby (s : State) (b : Bank) (n : RegNum) (v : Word) : (s.setBankReg b n v).standby = s.standby := by unfold State.setBankReg; split <;> rfl
@[simp] theorem State.setBankReg_stuck (s : State) (b : Bank) (n : RegNum) (v : Word) : (s.setBankReg b n v).stuck = s.stuck := by unfold State.setBankReg; split <;> rfl
@[simp] theorem State.setBankReg_vfp (s : State) (b : Bank) (n : RegNum) (v : Word) : (s.setBankReg b n v).vfp = s.vfp := by unfold State.setBankReg; split <;> rfl
@[simp] theorem State.setBankReg_debug (s : State) (b : Bank) (n : RegNum) (v : Word) : (s.setBankReg b n v).dbg = s.dbg := by unfold State.setBankReg; split <;> rfl
@[simp] theorem State.setBankReg_dev (s : State) (b : Bank) (n : RegNum) (v : Word) : (s.setBankReg b n v).dev = s.dev := by unfold State.setBankReg; split <;> rfl
@[simp] theorem State.setBankReg_mem (s : State) (b : Bank) (n : RegNum) (v : Word) : (s.setBankReg b n v).mem = s.mem := by unfold State.setBankReg; split <;> rfl
@[simp] theorem State.setBankReg_freeCtr (s : State) (b : Bank) (n : RegNum) (v : Word) : (s.setBankReg b n v).freeCtr = s.freeCtr := by unfold State.setBankReg; split <;> rfl
@[simp] theorem State.setBankReg_env (s : State) (b : Bank) (n : RegNum) (v : Word) : (s.setBankReg b n v).env = s.env := by unfold State.setBankReg; split <;> rfl

/-! ## `State.setReg` -/

@[simp] theorem State.setReg_cfg (s : State) (n : RegNum) (v : Word) : (s.setReg n v).cfg = s.cfg := State.setBankReg_cfg s s.bank n v
@[simp] theorem State.setReg_pc (s : State) (n : RegNum) (v : Word) : (s.setReg n v).pc = s.pc := State.setBankReg_pc s s.bank n v
@[simp] theorem State.setReg_psrs (s : State) (n : RegNum) (v : Word) : (s.setReg n v).psrs = s.psrs := State.setBankReg_psrs s s.bank n v
@[simp] theorem State.setReg_cp15 (s : State) (n : RegNum) (v : Word) : (s.setReg n v).cp15 = s.cp15 := State.setBankReg_cp15 s s.bank n v
@[simp] theorem State.setReg_lockAccess (s : State) (n : RegNum) (v : Word) : (s.setReg n v).lockAccess = s.lockAccess := State.setBankReg_lockAccess s s.bank n v
@[simp] theorem State.setReg_nmrrImplDefined (s : State) (n : RegNum) (v : Word) : (s.setReg n v).nmrrImplDefined = s.nmrrImplDefined := State.setBankReg_nmrrImplDefined s s.bank n v
@[simp] theorem State.setReg_remapOld (s : State) (n : RegNum) (v : Word) : (s.setReg n v).remapOld = s.remapOld := State.setBankReg_remapOld s s.bank n v
@[simp] theorem State.setReg_cpacrOld (s : State) (n : RegNum) (v : Word) : (s.setReg n v).cpacrOld = s.cpacrOld := State.setBankReg_cpacrOld s s.bank n v
@[simp] theorem State.setReg_fetchOld (s : State) (n : RegNum) (v : Word) : (s.setReg n v).fetchOld = s.fetchOld := State.setBankReg_fetchOld s s.bank n v
@[simp] theorem State.setReg_tlb (s : State) (n : RegNum) (v : Word) : (s.setReg n v).tlb = s.tlb := State.setBankReg_tlb s s.bank n v
@[simp] theorem State.setReg_lockSlots (s : State) (n : RegNum) (v : Word) : (s.setReg n v).lockSlots = s.lockSlots := State.setBankReg_lockSlots s s.bank n v
@[simp] theorem State.setReg_prefetched (s : State) (n : RegNum) (v : Word) : (s.setReg n v).prefetched = s.prefetched := State.setBankReg_prefetched s s.bank n v
@[simp] theorem State.setReg_icache (s : State) (n : RegNum) (v : Word) : (s.setReg n v).icache = s.icache := State.setBankReg_icache s s.bank n v
@[simp] theorem State.setReg_icVictim (s : State) (n : RegNum) (v : Word) : (s.setReg n v).icVictim = s.icVictim := State.setBankReg_icVictim s s.bank n v
@[simp] theorem State.setReg_dcache (s : State) (n : RegNum) (v : Word) : (s.setReg n v).dcache = s.dcache := State.setBankReg_dcache s s.bank n v
@[simp] theorem State.setReg_dcVictim (s : State) (n : RegNum) (v : Word) : (s.setReg n v).dcVictim = s.dcVictim := State.setBankReg_dcVictim s s.bank n v
@[simp] theorem State.setReg_storeBuffer (s : State) (n : RegNum) (v : Word) : (s.setReg n v).storeBuffer = s.storeBuffer := State.setBankReg_storeBuffer s s.bank n v
@[simp] theorem State.setReg_monitor (s : State) (n : RegNum) (v : Word) : (s.setReg n v).monitor = s.monitor := State.setBankReg_monitor s s.bank n v
@[simp] theorem State.setReg_btac (s : State) (n : RegNum) (v : Word) : (s.setReg n v).btac = s.btac := State.setBankReg_btac s s.bank n v
@[simp] theorem State.setReg_imprecise (s : State) (n : RegNum) (v : Word) : (s.setReg n v).imprecise = s.imprecise := State.setBankReg_imprecise s s.bank n v
@[simp] theorem State.setReg_inFlight (s : State) (n : RegNum) (v : Word) : (s.setReg n v).inFlight = s.inFlight := State.setBankReg_inFlight s s.bank n v
@[simp] theorem State.setReg_fiqPin (s : State) (n : RegNum) (v : Word) : (s.setReg n v).fiqPin = s.fiqPin := State.setBankReg_fiqPin s s.bank n v
@[simp] theorem State.setReg_irqSeen (s : State) (n : RegNum) (v : Word) : (s.setReg n v).irqSeen = s.irqSeen := State.setBankReg_irqSeen s s.bank n v
@[simp] theorem State.setReg_fiqSeen (s : State) (n : RegNum) (v : Word) : (s.setReg n v).fiqSeen = s.fiqSeen := State.setBankReg_fiqSeen s s.bank n v
@[simp] theorem State.setReg_power (s : State) (n : RegNum) (v : Word) : (s.setReg n v).power = s.power := State.setBankReg_power s s.bank n v
@[simp] theorem State.setReg_standby (s : State) (n : RegNum) (v : Word) : (s.setReg n v).standby = s.standby := State.setBankReg_standby s s.bank n v
@[simp] theorem State.setReg_stuck (s : State) (n : RegNum) (v : Word) : (s.setReg n v).stuck = s.stuck := State.setBankReg_stuck s s.bank n v
@[simp] theorem State.setReg_vfp (s : State) (n : RegNum) (v : Word) : (s.setReg n v).vfp = s.vfp := State.setBankReg_vfp s s.bank n v
@[simp] theorem State.setReg_debug (s : State) (n : RegNum) (v : Word) : (s.setReg n v).dbg = s.dbg := State.setBankReg_debug s s.bank n v
@[simp] theorem State.setReg_dev (s : State) (n : RegNum) (v : Word) : (s.setReg n v).dev = s.dev := State.setBankReg_dev s s.bank n v
@[simp] theorem State.setReg_mem (s : State) (n : RegNum) (v : Word) : (s.setReg n v).mem = s.mem := State.setBankReg_mem s s.bank n v
@[simp] theorem State.setReg_freeCtr (s : State) (n : RegNum) (v : Word) : (s.setReg n v).freeCtr = s.freeCtr := State.setBankReg_freeCtr s s.bank n v
@[simp] theorem State.setReg_env (s : State) (n : RegNum) (v : Word) : (s.setReg n v).env = s.env := State.setBankReg_env s s.bank n v

/-! ## `State.setPc` -/

@[simp] theorem State.setPc_cfg (s : State) (v : Word) : (s.setPc v).cfg = s.cfg := rfl
@[simp] theorem State.setPc_regs (s : State) (v : Word) : (s.setPc v).regs = s.regs := rfl
@[simp] theorem State.setPc_pc (s : State) (v : Word) : (s.setPc v).pc = v := rfl
@[simp] theorem State.setPc_psrs (s : State) (v : Word) : (s.setPc v).psrs = s.psrs := rfl
@[simp] theorem State.setPc_cp15 (s : State) (v : Word) : (s.setPc v).cp15 = s.cp15 := rfl
@[simp] theorem State.setPc_lockAccess (s : State) (v : Word) : (s.setPc v).lockAccess = s.lockAccess := rfl
@[simp] theorem State.setPc_nmrrImplDefined (s : State) (v : Word) : (s.setPc v).nmrrImplDefined = s.nmrrImplDefined := rfl
@[simp] theorem State.setPc_remapOld (s : State) (v : Word) : (s.setPc v).remapOld = s.remapOld := rfl
@[simp] theorem State.setPc_cpacrOld (s : State) (v : Word) : (s.setPc v).cpacrOld = s.cpacrOld := rfl
@[simp] theorem State.setPc_fetchOld (s : State) (v : Word) : (s.setPc v).fetchOld = s.fetchOld := rfl
@[simp] theorem State.setPc_tlb (s : State) (v : Word) : (s.setPc v).tlb = s.tlb := rfl
@[simp] theorem State.setPc_lockSlots (s : State) (v : Word) : (s.setPc v).lockSlots = s.lockSlots := rfl
@[simp] theorem State.setPc_prefetched (s : State) (v : Word) : (s.setPc v).prefetched = s.prefetched := rfl
@[simp] theorem State.setPc_icache (s : State) (v : Word) : (s.setPc v).icache = s.icache := rfl
@[simp] theorem State.setPc_icVictim (s : State) (v : Word) : (s.setPc v).icVictim = s.icVictim := rfl
@[simp] theorem State.setPc_dcache (s : State) (v : Word) : (s.setPc v).dcache = s.dcache := rfl
@[simp] theorem State.setPc_dcVictim (s : State) (v : Word) : (s.setPc v).dcVictim = s.dcVictim := rfl
@[simp] theorem State.setPc_storeBuffer (s : State) (v : Word) : (s.setPc v).storeBuffer = s.storeBuffer := rfl
@[simp] theorem State.setPc_monitor (s : State) (v : Word) : (s.setPc v).monitor = s.monitor := rfl
@[simp] theorem State.setPc_btac (s : State) (v : Word) : (s.setPc v).btac = s.btac := rfl
@[simp] theorem State.setPc_imprecise (s : State) (v : Word) : (s.setPc v).imprecise = s.imprecise := rfl
@[simp] theorem State.setPc_inFlight (s : State) (v : Word) : (s.setPc v).inFlight = s.inFlight := rfl
@[simp] theorem State.setPc_fiqPin (s : State) (v : Word) : (s.setPc v).fiqPin = s.fiqPin := rfl
@[simp] theorem State.setPc_irqSeen (s : State) (v : Word) : (s.setPc v).irqSeen = s.irqSeen := rfl
@[simp] theorem State.setPc_fiqSeen (s : State) (v : Word) : (s.setPc v).fiqSeen = s.fiqSeen := rfl
@[simp] theorem State.setPc_power (s : State) (v : Word) : (s.setPc v).power = s.power := rfl
@[simp] theorem State.setPc_standby (s : State) (v : Word) : (s.setPc v).standby = s.standby := rfl
@[simp] theorem State.setPc_stuck (s : State) (v : Word) : (s.setPc v).stuck = s.stuck := rfl
@[simp] theorem State.setPc_vfp (s : State) (v : Word) : (s.setPc v).vfp = s.vfp := rfl
@[simp] theorem State.setPc_debug (s : State) (v : Word) : (s.setPc v).dbg = s.dbg := rfl
@[simp] theorem State.setPc_dev (s : State) (v : Word) : (s.setPc v).dev = s.dev := rfl
@[simp] theorem State.setPc_mem (s : State) (v : Word) : (s.setPc v).mem = s.mem := rfl
@[simp] theorem State.setPc_freeCtr (s : State) (v : Word) : (s.setPc v).freeCtr = s.freeCtr := rfl
@[simp] theorem State.setPc_env (s : State) (v : Word) : (s.setPc v).env = s.env := rfl

/-! ## `State.advance` -/

@[simp] theorem State.advance_cfg (s : State) : s.advance.cfg = s.cfg := by unfold State.advance; split <;> rfl
@[simp] theorem State.advance_regs (s : State) : s.advance.regs = s.regs := by unfold State.advance; split <;> rfl
@[simp] theorem State.advance_pc (s : State) : s.advance.pc = if s.halted then s.pc else s.pc + s.instrLength := by unfold State.advance; split <;> rfl
@[simp] theorem State.advance_psrs (s : State) : s.advance.psrs = s.psrs := by unfold State.advance; split <;> rfl
@[simp] theorem State.advance_cp15 (s : State) : s.advance.cp15 = s.cp15 := by unfold State.advance; split <;> rfl
@[simp] theorem State.advance_lockAccess (s : State) : s.advance.lockAccess = s.lockAccess := by unfold State.advance; split <;> rfl
@[simp] theorem State.advance_nmrrImplDefined (s : State) : s.advance.nmrrImplDefined = s.nmrrImplDefined := by unfold State.advance; split <;> rfl
@[simp] theorem State.advance_remapOld (s : State) : s.advance.remapOld = s.remapOld := by unfold State.advance; split <;> rfl
@[simp] theorem State.advance_cpacrOld (s : State) : s.advance.cpacrOld = s.cpacrOld := by unfold State.advance; split <;> rfl
@[simp] theorem State.advance_fetchOld (s : State) : s.advance.fetchOld = s.fetchOld := by unfold State.advance; split <;> rfl
@[simp] theorem State.advance_tlb (s : State) : s.advance.tlb = s.tlb := by unfold State.advance; split <;> rfl
@[simp] theorem State.advance_lockSlots (s : State) : s.advance.lockSlots = s.lockSlots := by unfold State.advance; split <;> rfl
@[simp] theorem State.advance_prefetched (s : State) : s.advance.prefetched = s.prefetched := by unfold State.advance; split <;> rfl
@[simp] theorem State.advance_icache (s : State) : s.advance.icache = s.icache := by unfold State.advance; split <;> rfl
@[simp] theorem State.advance_icVictim (s : State) : s.advance.icVictim = s.icVictim := by unfold State.advance; split <;> rfl
@[simp] theorem State.advance_dcache (s : State) : s.advance.dcache = s.dcache := by unfold State.advance; split <;> rfl
@[simp] theorem State.advance_dcVictim (s : State) : s.advance.dcVictim = s.dcVictim := by unfold State.advance; split <;> rfl
@[simp] theorem State.advance_storeBuffer (s : State) : s.advance.storeBuffer = s.storeBuffer := by unfold State.advance; split <;> rfl
@[simp] theorem State.advance_monitor (s : State) : s.advance.monitor = s.monitor := by unfold State.advance; split <;> rfl
@[simp] theorem State.advance_btac (s : State) : s.advance.btac = s.btac := by unfold State.advance; split <;> rfl
@[simp] theorem State.advance_imprecise (s : State) : s.advance.imprecise = s.imprecise := by unfold State.advance; split <;> rfl
@[simp] theorem State.advance_inFlight (s : State) : s.advance.inFlight = s.inFlight := by unfold State.advance; split <;> rfl
@[simp] theorem State.advance_fiqPin (s : State) : s.advance.fiqPin = s.fiqPin := by unfold State.advance; split <;> rfl
@[simp] theorem State.advance_irqSeen (s : State) : s.advance.irqSeen = s.irqSeen := by unfold State.advance; split <;> rfl
@[simp] theorem State.advance_fiqSeen (s : State) : s.advance.fiqSeen = s.fiqSeen := by unfold State.advance; split <;> rfl
@[simp] theorem State.advance_power (s : State) : s.advance.power = s.power := by unfold State.advance; split <;> rfl
@[simp] theorem State.advance_standby (s : State) : s.advance.standby = s.standby := by unfold State.advance; split <;> rfl
@[simp] theorem State.advance_stuck (s : State) : s.advance.stuck = s.stuck := by unfold State.advance; split <;> rfl
@[simp] theorem State.advance_vfp (s : State) : s.advance.vfp = s.vfp := by unfold State.advance; split <;> rfl
@[simp] theorem State.advance_debug (s : State) : s.advance.dbg = s.dbg := by unfold State.advance; split <;> rfl
@[simp] theorem State.advance_dev (s : State) : s.advance.dev = s.dev := by unfold State.advance; split <;> rfl
@[simp] theorem State.advance_mem (s : State) : s.advance.mem = s.mem := by unfold State.advance; split <;> rfl
@[simp] theorem State.advance_freeCtr (s : State) : s.advance.freeCtr = s.freeCtr := by unfold State.advance; split <;> rfl
@[simp] theorem State.advance_env (s : State) : s.advance.env = s.env := by unfold State.advance; split <;> rfl

/-! ## `State.setMem` -/

@[simp] theorem State.setMem_cfg (s : State) (m : Mem) : (s.setMem m).cfg = s.cfg := rfl
@[simp] theorem State.setMem_regs (s : State) (m : Mem) : (s.setMem m).regs = s.regs := rfl
@[simp] theorem State.setMem_pc (s : State) (m : Mem) : (s.setMem m).pc = s.pc := rfl
@[simp] theorem State.setMem_psrs (s : State) (m : Mem) : (s.setMem m).psrs = s.psrs := rfl
@[simp] theorem State.setMem_cp15 (s : State) (m : Mem) : (s.setMem m).cp15 = s.cp15 := rfl
@[simp] theorem State.setMem_lockAccess (s : State) (m : Mem) : (s.setMem m).lockAccess = s.lockAccess := rfl
@[simp] theorem State.setMem_nmrrImplDefined (s : State) (m : Mem) : (s.setMem m).nmrrImplDefined = s.nmrrImplDefined := rfl
@[simp] theorem State.setMem_remapOld (s : State) (m : Mem) : (s.setMem m).remapOld = s.remapOld := rfl
@[simp] theorem State.setMem_cpacrOld (s : State) (m : Mem) : (s.setMem m).cpacrOld = s.cpacrOld := rfl
@[simp] theorem State.setMem_fetchOld (s : State) (m : Mem) : (s.setMem m).fetchOld = s.fetchOld := rfl
@[simp] theorem State.setMem_tlb (s : State) (m : Mem) : (s.setMem m).tlb = s.tlb := rfl
@[simp] theorem State.setMem_lockSlots (s : State) (m : Mem) : (s.setMem m).lockSlots = s.lockSlots := rfl
@[simp] theorem State.setMem_prefetched (s : State) (m : Mem) : (s.setMem m).prefetched = s.prefetched := rfl
@[simp] theorem State.setMem_icache (s : State) (m : Mem) : (s.setMem m).icache = s.icache := rfl
@[simp] theorem State.setMem_icVictim (s : State) (m : Mem) : (s.setMem m).icVictim = s.icVictim := rfl
@[simp] theorem State.setMem_dcache (s : State) (m : Mem) : (s.setMem m).dcache = s.dcache := rfl
@[simp] theorem State.setMem_dcVictim (s : State) (m : Mem) : (s.setMem m).dcVictim = s.dcVictim := rfl
@[simp] theorem State.setMem_storeBuffer (s : State) (m : Mem) : (s.setMem m).storeBuffer = s.storeBuffer := rfl
@[simp] theorem State.setMem_monitor (s : State) (m : Mem) : (s.setMem m).monitor = s.monitor := rfl
@[simp] theorem State.setMem_btac (s : State) (m : Mem) : (s.setMem m).btac = s.btac := rfl
@[simp] theorem State.setMem_imprecise (s : State) (m : Mem) : (s.setMem m).imprecise = s.imprecise := rfl
@[simp] theorem State.setMem_inFlight (s : State) (m : Mem) : (s.setMem m).inFlight = s.inFlight := rfl
@[simp] theorem State.setMem_fiqPin (s : State) (m : Mem) : (s.setMem m).fiqPin = s.fiqPin := rfl
@[simp] theorem State.setMem_irqSeen (s : State) (m : Mem) : (s.setMem m).irqSeen = s.irqSeen := rfl
@[simp] theorem State.setMem_fiqSeen (s : State) (m : Mem) : (s.setMem m).fiqSeen = s.fiqSeen := rfl
@[simp] theorem State.setMem_power (s : State) (m : Mem) : (s.setMem m).power = s.power := rfl
@[simp] theorem State.setMem_standby (s : State) (m : Mem) : (s.setMem m).standby = s.standby := rfl
@[simp] theorem State.setMem_stuck (s : State) (m : Mem) : (s.setMem m).stuck = s.stuck := rfl
@[simp] theorem State.setMem_vfp (s : State) (m : Mem) : (s.setMem m).vfp = s.vfp := rfl
@[simp] theorem State.setMem_debug (s : State) (m : Mem) : (s.setMem m).dbg = s.dbg := rfl
@[simp] theorem State.setMem_dev (s : State) (m : Mem) : (s.setMem m).dev = s.dev := rfl
@[simp] theorem State.setMem_mem (s : State) (m : Mem) : (s.setMem m).mem = m := rfl
@[simp] theorem State.setMem_freeCtr (s : State) (m : Mem) : (s.setMem m).freeCtr = s.freeCtr := rfl
@[simp] theorem State.setMem_env (s : State) (m : Mem) : (s.setMem m).env = s.env := rfl

/-! ## `State.setCp15` -/

@[simp] theorem State.setCp15_cfg (s : State) (c : Cp15) : (s.setCp15 c).cfg = s.cfg := rfl
@[simp] theorem State.setCp15_regs (s : State) (c : Cp15) : (s.setCp15 c).regs = s.regs := rfl
@[simp] theorem State.setCp15_pc (s : State) (c : Cp15) : (s.setCp15 c).pc = s.pc := rfl
@[simp] theorem State.setCp15_psrs (s : State) (c : Cp15) : (s.setCp15 c).psrs = s.psrs := rfl
@[simp] theorem State.setCp15_cp15 (s : State) (c : Cp15) : (s.setCp15 c).cp15 = c := rfl
@[simp] theorem State.setCp15_lockAccess (s : State) (c : Cp15) : (s.setCp15 c).lockAccess = s.lockAccess := rfl
@[simp] theorem State.setCp15_nmrrImplDefined (s : State) (c : Cp15) : (s.setCp15 c).nmrrImplDefined = s.nmrrImplDefined := rfl
@[simp] theorem State.setCp15_remapOld (s : State) (c : Cp15) : (s.setCp15 c).remapOld = s.remapOld := rfl
@[simp] theorem State.setCp15_cpacrOld (s : State) (c : Cp15) : (s.setCp15 c).cpacrOld = s.cpacrOld := rfl
@[simp] theorem State.setCp15_fetchOld (s : State) (c : Cp15) : (s.setCp15 c).fetchOld = s.fetchOld := rfl
@[simp] theorem State.setCp15_tlb (s : State) (c : Cp15) : (s.setCp15 c).tlb = s.tlb := rfl
@[simp] theorem State.setCp15_lockSlots (s : State) (c : Cp15) : (s.setCp15 c).lockSlots = s.lockSlots := rfl
@[simp] theorem State.setCp15_prefetched (s : State) (c : Cp15) : (s.setCp15 c).prefetched = s.prefetched := rfl
@[simp] theorem State.setCp15_icache (s : State) (c : Cp15) : (s.setCp15 c).icache = s.icache := rfl
@[simp] theorem State.setCp15_icVictim (s : State) (c : Cp15) : (s.setCp15 c).icVictim = s.icVictim := rfl
@[simp] theorem State.setCp15_dcache (s : State) (c : Cp15) : (s.setCp15 c).dcache = s.dcache := rfl
@[simp] theorem State.setCp15_dcVictim (s : State) (c : Cp15) : (s.setCp15 c).dcVictim = s.dcVictim := rfl
@[simp] theorem State.setCp15_storeBuffer (s : State) (c : Cp15) : (s.setCp15 c).storeBuffer = s.storeBuffer := rfl
@[simp] theorem State.setCp15_monitor (s : State) (c : Cp15) : (s.setCp15 c).monitor = s.monitor := rfl
@[simp] theorem State.setCp15_btac (s : State) (c : Cp15) : (s.setCp15 c).btac = s.btac := rfl
@[simp] theorem State.setCp15_imprecise (s : State) (c : Cp15) : (s.setCp15 c).imprecise = s.imprecise := rfl
@[simp] theorem State.setCp15_inFlight (s : State) (c : Cp15) : (s.setCp15 c).inFlight = s.inFlight := rfl
@[simp] theorem State.setCp15_fiqPin (s : State) (c : Cp15) : (s.setCp15 c).fiqPin = s.fiqPin := rfl
@[simp] theorem State.setCp15_irqSeen (s : State) (c : Cp15) : (s.setCp15 c).irqSeen = s.irqSeen := rfl
@[simp] theorem State.setCp15_fiqSeen (s : State) (c : Cp15) : (s.setCp15 c).fiqSeen = s.fiqSeen := rfl
@[simp] theorem State.setCp15_power (s : State) (c : Cp15) : (s.setCp15 c).power = s.power := rfl
@[simp] theorem State.setCp15_standby (s : State) (c : Cp15) : (s.setCp15 c).standby = s.standby := rfl
@[simp] theorem State.setCp15_stuck (s : State) (c : Cp15) : (s.setCp15 c).stuck = s.stuck := rfl
@[simp] theorem State.setCp15_vfp (s : State) (c : Cp15) : (s.setCp15 c).vfp = s.vfp := rfl
@[simp] theorem State.setCp15_debug (s : State) (c : Cp15) : (s.setCp15 c).dbg = s.dbg := rfl
@[simp] theorem State.setCp15_dev (s : State) (c : Cp15) : (s.setCp15 c).dev = s.dev := rfl
@[simp] theorem State.setCp15_mem (s : State) (c : Cp15) : (s.setCp15 c).mem = s.mem := rfl
@[simp] theorem State.setCp15_freeCtr (s : State) (c : Cp15) : (s.setCp15 c).freeCtr = s.freeCtr := rfl
@[simp] theorem State.setCp15_env (s : State) (c : Cp15) : (s.setCp15 c).env = s.env := rfl

/-! ## `State.noteFetch` -/

@[simp] theorem State.noteFetch_cfg (s t : State) : (s.noteFetch t).cfg = t.cfg := rfl
@[simp] theorem State.noteFetch_regs (s t : State) : (s.noteFetch t).regs = t.regs := rfl
@[simp] theorem State.noteFetch_pc (s t : State) : (s.noteFetch t).pc = t.pc := rfl
@[simp] theorem State.noteFetch_psrs (s t : State) : (s.noteFetch t).psrs = t.psrs := rfl
@[simp] theorem State.noteFetch_cp15 (s t : State) : (s.noteFetch t).cp15 = t.cp15 := rfl
@[simp] theorem State.noteFetch_lockAccess (s t : State) : (s.noteFetch t).lockAccess = t.lockAccess := rfl
@[simp] theorem State.noteFetch_nmrrImplDefined (s t : State) : (s.noteFetch t).nmrrImplDefined = t.nmrrImplDefined := rfl
@[simp] theorem State.noteFetch_remapOld (s t : State) : (s.noteFetch t).remapOld = t.remapOld := rfl
@[simp] theorem State.noteFetch_cpacrOld (s t : State) : (s.noteFetch t).cpacrOld = t.cpacrOld := rfl
@[simp] theorem State.noteFetch_fetchOld (s t : State) : (s.noteFetch t).fetchOld = s.fetchView :: s.fetchOld := rfl
@[simp] theorem State.noteFetch_tlb (s t : State) : (s.noteFetch t).tlb = t.tlb := rfl
@[simp] theorem State.noteFetch_lockSlots (s t : State) : (s.noteFetch t).lockSlots = t.lockSlots := rfl
@[simp] theorem State.noteFetch_prefetched (s t : State) : (s.noteFetch t).prefetched = t.prefetched := rfl
@[simp] theorem State.noteFetch_icache (s t : State) : (s.noteFetch t).icache = t.icache := rfl
@[simp] theorem State.noteFetch_icVictim (s t : State) : (s.noteFetch t).icVictim = t.icVictim := rfl
@[simp] theorem State.noteFetch_dcache (s t : State) : (s.noteFetch t).dcache = t.dcache := rfl
@[simp] theorem State.noteFetch_dcVictim (s t : State) : (s.noteFetch t).dcVictim = t.dcVictim := rfl
@[simp] theorem State.noteFetch_storeBuffer (s t : State) : (s.noteFetch t).storeBuffer = t.storeBuffer := rfl
@[simp] theorem State.noteFetch_monitor (s t : State) : (s.noteFetch t).monitor = t.monitor := rfl
@[simp] theorem State.noteFetch_btac (s t : State) : (s.noteFetch t).btac = t.btac := rfl
@[simp] theorem State.noteFetch_imprecise (s t : State) : (s.noteFetch t).imprecise = t.imprecise := rfl
@[simp] theorem State.noteFetch_inFlight (s t : State) : (s.noteFetch t).inFlight = t.inFlight := rfl
@[simp] theorem State.noteFetch_fiqPin (s t : State) : (s.noteFetch t).fiqPin = t.fiqPin := rfl
@[simp] theorem State.noteFetch_irqSeen (s t : State) : (s.noteFetch t).irqSeen = t.irqSeen := rfl
@[simp] theorem State.noteFetch_fiqSeen (s t : State) : (s.noteFetch t).fiqSeen = t.fiqSeen := rfl
@[simp] theorem State.noteFetch_power (s t : State) : (s.noteFetch t).power = t.power := rfl
@[simp] theorem State.noteFetch_standby (s t : State) : (s.noteFetch t).standby = t.standby := rfl
@[simp] theorem State.noteFetch_stuck (s t : State) : (s.noteFetch t).stuck = t.stuck := rfl
@[simp] theorem State.noteFetch_vfp (s t : State) : (s.noteFetch t).vfp = t.vfp := rfl
@[simp] theorem State.noteFetch_debug (s t : State) : (s.noteFetch t).dbg = t.dbg := rfl
@[simp] theorem State.noteFetch_dev (s t : State) : (s.noteFetch t).dev = t.dev := rfl
@[simp] theorem State.noteFetch_mem (s t : State) : (s.noteFetch t).mem = t.mem := rfl
@[simp] theorem State.noteFetch_freeCtr (s t : State) : (s.noteFetch t).freeCtr = t.freeCtr := rfl
@[simp] theorem State.noteFetch_env (s t : State) : (s.noteFetch t).env = t.env := rfl

/-! ## `State.setFetchCp15` -/

@[simp] theorem State.setFetchCp15_cfg (s : State) (c : Cp15) : (s.setFetchCp15 c).cfg = s.cfg := rfl
@[simp] theorem State.setFetchCp15_regs (s : State) (c : Cp15) : (s.setFetchCp15 c).regs = s.regs := rfl
@[simp] theorem State.setFetchCp15_pc (s : State) (c : Cp15) : (s.setFetchCp15 c).pc = s.pc := rfl
@[simp] theorem State.setFetchCp15_psrs (s : State) (c : Cp15) : (s.setFetchCp15 c).psrs = s.psrs := rfl
@[simp] theorem State.setFetchCp15_cp15 (s : State) (c : Cp15) : (s.setFetchCp15 c).cp15 = c := rfl
@[simp] theorem State.setFetchCp15_lockAccess (s : State) (c : Cp15) : (s.setFetchCp15 c).lockAccess = s.lockAccess := rfl
@[simp] theorem State.setFetchCp15_nmrrImplDefined (s : State) (c : Cp15) : (s.setFetchCp15 c).nmrrImplDefined = s.nmrrImplDefined := rfl
@[simp] theorem State.setFetchCp15_remapOld (s : State) (c : Cp15) : (s.setFetchCp15 c).remapOld = s.remapOld := rfl
@[simp] theorem State.setFetchCp15_cpacrOld (s : State) (c : Cp15) : (s.setFetchCp15 c).cpacrOld = s.cpacrOld := rfl
@[simp] theorem State.setFetchCp15_fetchOld (s : State) (c : Cp15) : (s.setFetchCp15 c).fetchOld = s.fetchView :: s.fetchOld := rfl
@[simp] theorem State.setFetchCp15_tlb (s : State) (c : Cp15) : (s.setFetchCp15 c).tlb = s.tlb := rfl
@[simp] theorem State.setFetchCp15_lockSlots (s : State) (c : Cp15) : (s.setFetchCp15 c).lockSlots = s.lockSlots := rfl
@[simp] theorem State.setFetchCp15_prefetched (s : State) (c : Cp15) : (s.setFetchCp15 c).prefetched = s.prefetched := rfl
@[simp] theorem State.setFetchCp15_icache (s : State) (c : Cp15) : (s.setFetchCp15 c).icache = s.icache := rfl
@[simp] theorem State.setFetchCp15_icVictim (s : State) (c : Cp15) : (s.setFetchCp15 c).icVictim = s.icVictim := rfl
@[simp] theorem State.setFetchCp15_dcache (s : State) (c : Cp15) : (s.setFetchCp15 c).dcache = s.dcache := rfl
@[simp] theorem State.setFetchCp15_dcVictim (s : State) (c : Cp15) : (s.setFetchCp15 c).dcVictim = s.dcVictim := rfl
@[simp] theorem State.setFetchCp15_storeBuffer (s : State) (c : Cp15) : (s.setFetchCp15 c).storeBuffer = s.storeBuffer := rfl
@[simp] theorem State.setFetchCp15_monitor (s : State) (c : Cp15) : (s.setFetchCp15 c).monitor = s.monitor := rfl
@[simp] theorem State.setFetchCp15_btac (s : State) (c : Cp15) : (s.setFetchCp15 c).btac = s.btac := rfl
@[simp] theorem State.setFetchCp15_imprecise (s : State) (c : Cp15) : (s.setFetchCp15 c).imprecise = s.imprecise := rfl
@[simp] theorem State.setFetchCp15_inFlight (s : State) (c : Cp15) : (s.setFetchCp15 c).inFlight = s.inFlight := rfl
@[simp] theorem State.setFetchCp15_fiqPin (s : State) (c : Cp15) : (s.setFetchCp15 c).fiqPin = s.fiqPin := rfl
@[simp] theorem State.setFetchCp15_irqSeen (s : State) (c : Cp15) : (s.setFetchCp15 c).irqSeen = s.irqSeen := rfl
@[simp] theorem State.setFetchCp15_fiqSeen (s : State) (c : Cp15) : (s.setFetchCp15 c).fiqSeen = s.fiqSeen := rfl
@[simp] theorem State.setFetchCp15_power (s : State) (c : Cp15) : (s.setFetchCp15 c).power = s.power := rfl
@[simp] theorem State.setFetchCp15_standby (s : State) (c : Cp15) : (s.setFetchCp15 c).standby = s.standby := rfl
@[simp] theorem State.setFetchCp15_stuck (s : State) (c : Cp15) : (s.setFetchCp15 c).stuck = s.stuck := rfl
@[simp] theorem State.setFetchCp15_vfp (s : State) (c : Cp15) : (s.setFetchCp15 c).vfp = s.vfp := rfl
@[simp] theorem State.setFetchCp15_debug (s : State) (c : Cp15) : (s.setFetchCp15 c).dbg = s.dbg := rfl
@[simp] theorem State.setFetchCp15_dev (s : State) (c : Cp15) : (s.setFetchCp15 c).dev = s.dev := rfl
@[simp] theorem State.setFetchCp15_mem (s : State) (c : Cp15) : (s.setFetchCp15 c).mem = s.mem := rfl
@[simp] theorem State.setFetchCp15_freeCtr (s : State) (c : Cp15) : (s.setFetchCp15 c).freeCtr = s.freeCtr := rfl
@[simp] theorem State.setFetchCp15_env (s : State) (c : Cp15) : (s.setFetchCp15 c).env = s.env := rfl

/-! ## `State.setIfsr` -/

@[simp] theorem State.setIfsr_cfg (s : State) (v : Word) : (s.setIfsr v).cfg = s.cfg := rfl
@[simp] theorem State.setIfsr_regs (s : State) (v : Word) : (s.setIfsr v).regs = s.regs := rfl
@[simp] theorem State.setIfsr_pc (s : State) (v : Word) : (s.setIfsr v).pc = s.pc := rfl
@[simp] theorem State.setIfsr_psrs (s : State) (v : Word) : (s.setIfsr v).psrs = s.psrs := rfl
@[simp] theorem State.setIfsr_cp15 (s : State) (v : Word) : (s.setIfsr v).cp15 = { s.cp15 with ifsr := v } := rfl
@[simp] theorem State.setIfsr_lockAccess (s : State) (v : Word) : (s.setIfsr v).lockAccess = s.lockAccess := rfl
@[simp] theorem State.setIfsr_nmrrImplDefined (s : State) (v : Word) : (s.setIfsr v).nmrrImplDefined = s.nmrrImplDefined := rfl
@[simp] theorem State.setIfsr_remapOld (s : State) (v : Word) : (s.setIfsr v).remapOld = s.remapOld := rfl
@[simp] theorem State.setIfsr_cpacrOld (s : State) (v : Word) : (s.setIfsr v).cpacrOld = s.cpacrOld := rfl
@[simp] theorem State.setIfsr_fetchOld (s : State) (v : Word) : (s.setIfsr v).fetchOld = s.fetchOld := rfl
@[simp] theorem State.setIfsr_tlb (s : State) (v : Word) : (s.setIfsr v).tlb = s.tlb := rfl
@[simp] theorem State.setIfsr_lockSlots (s : State) (v : Word) : (s.setIfsr v).lockSlots = s.lockSlots := rfl
@[simp] theorem State.setIfsr_prefetched (s : State) (v : Word) : (s.setIfsr v).prefetched = s.prefetched := rfl
@[simp] theorem State.setIfsr_icache (s : State) (v : Word) : (s.setIfsr v).icache = s.icache := rfl
@[simp] theorem State.setIfsr_icVictim (s : State) (v : Word) : (s.setIfsr v).icVictim = s.icVictim := rfl
@[simp] theorem State.setIfsr_dcache (s : State) (v : Word) : (s.setIfsr v).dcache = s.dcache := rfl
@[simp] theorem State.setIfsr_dcVictim (s : State) (v : Word) : (s.setIfsr v).dcVictim = s.dcVictim := rfl
@[simp] theorem State.setIfsr_storeBuffer (s : State) (v : Word) : (s.setIfsr v).storeBuffer = s.storeBuffer := rfl
@[simp] theorem State.setIfsr_monitor (s : State) (v : Word) : (s.setIfsr v).monitor = s.monitor := rfl
@[simp] theorem State.setIfsr_btac (s : State) (v : Word) : (s.setIfsr v).btac = s.btac := rfl
@[simp] theorem State.setIfsr_imprecise (s : State) (v : Word) : (s.setIfsr v).imprecise = s.imprecise := rfl
@[simp] theorem State.setIfsr_inFlight (s : State) (v : Word) : (s.setIfsr v).inFlight = s.inFlight := rfl
@[simp] theorem State.setIfsr_fiqPin (s : State) (v : Word) : (s.setIfsr v).fiqPin = s.fiqPin := rfl
@[simp] theorem State.setIfsr_irqSeen (s : State) (v : Word) : (s.setIfsr v).irqSeen = s.irqSeen := rfl
@[simp] theorem State.setIfsr_fiqSeen (s : State) (v : Word) : (s.setIfsr v).fiqSeen = s.fiqSeen := rfl
@[simp] theorem State.setIfsr_power (s : State) (v : Word) : (s.setIfsr v).power = s.power := rfl
@[simp] theorem State.setIfsr_standby (s : State) (v : Word) : (s.setIfsr v).standby = s.standby := rfl
@[simp] theorem State.setIfsr_stuck (s : State) (v : Word) : (s.setIfsr v).stuck = s.stuck := rfl
@[simp] theorem State.setIfsr_vfp (s : State) (v : Word) : (s.setIfsr v).vfp = s.vfp := rfl
@[simp] theorem State.setIfsr_debug (s : State) (v : Word) : (s.setIfsr v).dbg = s.dbg := rfl
@[simp] theorem State.setIfsr_dev (s : State) (v : Word) : (s.setIfsr v).dev = s.dev := rfl
@[simp] theorem State.setIfsr_mem (s : State) (v : Word) : (s.setIfsr v).mem = s.mem := rfl
@[simp] theorem State.setIfsr_freeCtr (s : State) (v : Word) : (s.setIfsr v).freeCtr = s.freeCtr := rfl
@[simp] theorem State.setIfsr_env (s : State) (v : Word) : (s.setIfsr v).env = s.env := rfl

/-! ## `State.setDfsr` -/

@[simp] theorem State.setDfsr_cfg (s : State) (v : Word) : (s.setDfsr v).cfg = s.cfg := rfl
@[simp] theorem State.setDfsr_regs (s : State) (v : Word) : (s.setDfsr v).regs = s.regs := rfl
@[simp] theorem State.setDfsr_pc (s : State) (v : Word) : (s.setDfsr v).pc = s.pc := rfl
@[simp] theorem State.setDfsr_psrs (s : State) (v : Word) : (s.setDfsr v).psrs = s.psrs := rfl
@[simp] theorem State.setDfsr_cp15 (s : State) (v : Word) : (s.setDfsr v).cp15 = { s.cp15 with dfsr := v } := rfl
@[simp] theorem State.setDfsr_lockAccess (s : State) (v : Word) : (s.setDfsr v).lockAccess = s.lockAccess := rfl
@[simp] theorem State.setDfsr_nmrrImplDefined (s : State) (v : Word) : (s.setDfsr v).nmrrImplDefined = s.nmrrImplDefined := rfl
@[simp] theorem State.setDfsr_remapOld (s : State) (v : Word) : (s.setDfsr v).remapOld = s.remapOld := rfl
@[simp] theorem State.setDfsr_cpacrOld (s : State) (v : Word) : (s.setDfsr v).cpacrOld = s.cpacrOld := rfl
@[simp] theorem State.setDfsr_fetchOld (s : State) (v : Word) : (s.setDfsr v).fetchOld = s.fetchOld := rfl
@[simp] theorem State.setDfsr_tlb (s : State) (v : Word) : (s.setDfsr v).tlb = s.tlb := rfl
@[simp] theorem State.setDfsr_lockSlots (s : State) (v : Word) : (s.setDfsr v).lockSlots = s.lockSlots := rfl
@[simp] theorem State.setDfsr_prefetched (s : State) (v : Word) : (s.setDfsr v).prefetched = s.prefetched := rfl
@[simp] theorem State.setDfsr_icache (s : State) (v : Word) : (s.setDfsr v).icache = s.icache := rfl
@[simp] theorem State.setDfsr_icVictim (s : State) (v : Word) : (s.setDfsr v).icVictim = s.icVictim := rfl
@[simp] theorem State.setDfsr_dcache (s : State) (v : Word) : (s.setDfsr v).dcache = s.dcache := rfl
@[simp] theorem State.setDfsr_dcVictim (s : State) (v : Word) : (s.setDfsr v).dcVictim = s.dcVictim := rfl
@[simp] theorem State.setDfsr_storeBuffer (s : State) (v : Word) : (s.setDfsr v).storeBuffer = s.storeBuffer := rfl
@[simp] theorem State.setDfsr_monitor (s : State) (v : Word) : (s.setDfsr v).monitor = s.monitor := rfl
@[simp] theorem State.setDfsr_btac (s : State) (v : Word) : (s.setDfsr v).btac = s.btac := rfl
@[simp] theorem State.setDfsr_imprecise (s : State) (v : Word) : (s.setDfsr v).imprecise = s.imprecise := rfl
@[simp] theorem State.setDfsr_inFlight (s : State) (v : Word) : (s.setDfsr v).inFlight = s.inFlight := rfl
@[simp] theorem State.setDfsr_fiqPin (s : State) (v : Word) : (s.setDfsr v).fiqPin = s.fiqPin := rfl
@[simp] theorem State.setDfsr_irqSeen (s : State) (v : Word) : (s.setDfsr v).irqSeen = s.irqSeen := rfl
@[simp] theorem State.setDfsr_fiqSeen (s : State) (v : Word) : (s.setDfsr v).fiqSeen = s.fiqSeen := rfl
@[simp] theorem State.setDfsr_power (s : State) (v : Word) : (s.setDfsr v).power = s.power := rfl
@[simp] theorem State.setDfsr_standby (s : State) (v : Word) : (s.setDfsr v).standby = s.standby := rfl
@[simp] theorem State.setDfsr_stuck (s : State) (v : Word) : (s.setDfsr v).stuck = s.stuck := rfl
@[simp] theorem State.setDfsr_vfp (s : State) (v : Word) : (s.setDfsr v).vfp = s.vfp := rfl
@[simp] theorem State.setDfsr_debug (s : State) (v : Word) : (s.setDfsr v).dbg = s.dbg := rfl
@[simp] theorem State.setDfsr_dev (s : State) (v : Word) : (s.setDfsr v).dev = s.dev := rfl
@[simp] theorem State.setDfsr_mem (s : State) (v : Word) : (s.setDfsr v).mem = s.mem := rfl
@[simp] theorem State.setDfsr_freeCtr (s : State) (v : Word) : (s.setDfsr v).freeCtr = s.freeCtr := rfl
@[simp] theorem State.setDfsr_env (s : State) (v : Word) : (s.setDfsr v).env = s.env := rfl

/-! ## `State.setFar` -/

@[simp] theorem State.setFar_cfg (s : State) (v : Word) : (s.setFar v).cfg = s.cfg := rfl
@[simp] theorem State.setFar_regs (s : State) (v : Word) : (s.setFar v).regs = s.regs := rfl
@[simp] theorem State.setFar_pc (s : State) (v : Word) : (s.setFar v).pc = s.pc := rfl
@[simp] theorem State.setFar_psrs (s : State) (v : Word) : (s.setFar v).psrs = s.psrs := rfl
@[simp] theorem State.setFar_cp15 (s : State) (v : Word) : (s.setFar v).cp15 = { s.cp15 with far := v } := rfl
@[simp] theorem State.setFar_lockAccess (s : State) (v : Word) : (s.setFar v).lockAccess = s.lockAccess := rfl
@[simp] theorem State.setFar_nmrrImplDefined (s : State) (v : Word) : (s.setFar v).nmrrImplDefined = s.nmrrImplDefined := rfl
@[simp] theorem State.setFar_remapOld (s : State) (v : Word) : (s.setFar v).remapOld = s.remapOld := rfl
@[simp] theorem State.setFar_cpacrOld (s : State) (v : Word) : (s.setFar v).cpacrOld = s.cpacrOld := rfl
@[simp] theorem State.setFar_fetchOld (s : State) (v : Word) : (s.setFar v).fetchOld = s.fetchOld := rfl
@[simp] theorem State.setFar_tlb (s : State) (v : Word) : (s.setFar v).tlb = s.tlb := rfl
@[simp] theorem State.setFar_lockSlots (s : State) (v : Word) : (s.setFar v).lockSlots = s.lockSlots := rfl
@[simp] theorem State.setFar_prefetched (s : State) (v : Word) : (s.setFar v).prefetched = s.prefetched := rfl
@[simp] theorem State.setFar_icache (s : State) (v : Word) : (s.setFar v).icache = s.icache := rfl
@[simp] theorem State.setFar_icVictim (s : State) (v : Word) : (s.setFar v).icVictim = s.icVictim := rfl
@[simp] theorem State.setFar_dcache (s : State) (v : Word) : (s.setFar v).dcache = s.dcache := rfl
@[simp] theorem State.setFar_dcVictim (s : State) (v : Word) : (s.setFar v).dcVictim = s.dcVictim := rfl
@[simp] theorem State.setFar_storeBuffer (s : State) (v : Word) : (s.setFar v).storeBuffer = s.storeBuffer := rfl
@[simp] theorem State.setFar_monitor (s : State) (v : Word) : (s.setFar v).monitor = s.monitor := rfl
@[simp] theorem State.setFar_btac (s : State) (v : Word) : (s.setFar v).btac = s.btac := rfl
@[simp] theorem State.setFar_imprecise (s : State) (v : Word) : (s.setFar v).imprecise = s.imprecise := rfl
@[simp] theorem State.setFar_inFlight (s : State) (v : Word) : (s.setFar v).inFlight = s.inFlight := rfl
@[simp] theorem State.setFar_fiqPin (s : State) (v : Word) : (s.setFar v).fiqPin = s.fiqPin := rfl
@[simp] theorem State.setFar_irqSeen (s : State) (v : Word) : (s.setFar v).irqSeen = s.irqSeen := rfl
@[simp] theorem State.setFar_fiqSeen (s : State) (v : Word) : (s.setFar v).fiqSeen = s.fiqSeen := rfl
@[simp] theorem State.setFar_power (s : State) (v : Word) : (s.setFar v).power = s.power := rfl
@[simp] theorem State.setFar_standby (s : State) (v : Word) : (s.setFar v).standby = s.standby := rfl
@[simp] theorem State.setFar_stuck (s : State) (v : Word) : (s.setFar v).stuck = s.stuck := rfl
@[simp] theorem State.setFar_vfp (s : State) (v : Word) : (s.setFar v).vfp = s.vfp := rfl
@[simp] theorem State.setFar_debug (s : State) (v : Word) : (s.setFar v).dbg = s.dbg := rfl
@[simp] theorem State.setFar_dev (s : State) (v : Word) : (s.setFar v).dev = s.dev := rfl
@[simp] theorem State.setFar_mem (s : State) (v : Word) : (s.setFar v).mem = s.mem := rfl
@[simp] theorem State.setFar_freeCtr (s : State) (v : Word) : (s.setFar v).freeCtr = s.freeCtr := rfl
@[simp] theorem State.setFar_env (s : State) (v : Word) : (s.setFar v).env = s.env := rfl

/-! ## `State.setWfar` -/

@[simp] theorem State.setWfar_cfg (s : State) (v : Word) : (s.setWfar v).cfg = s.cfg := rfl
@[simp] theorem State.setWfar_regs (s : State) (v : Word) : (s.setWfar v).regs = s.regs := rfl
@[simp] theorem State.setWfar_pc (s : State) (v : Word) : (s.setWfar v).pc = s.pc := rfl
@[simp] theorem State.setWfar_psrs (s : State) (v : Word) : (s.setWfar v).psrs = s.psrs := rfl
@[simp] theorem State.setWfar_cp15 (s : State) (v : Word) : (s.setWfar v).cp15 = { s.cp15 with wfar := v } := rfl
@[simp] theorem State.setWfar_lockAccess (s : State) (v : Word) : (s.setWfar v).lockAccess = s.lockAccess := rfl
@[simp] theorem State.setWfar_nmrrImplDefined (s : State) (v : Word) : (s.setWfar v).nmrrImplDefined = s.nmrrImplDefined := rfl
@[simp] theorem State.setWfar_remapOld (s : State) (v : Word) : (s.setWfar v).remapOld = s.remapOld := rfl
@[simp] theorem State.setWfar_cpacrOld (s : State) (v : Word) : (s.setWfar v).cpacrOld = s.cpacrOld := rfl
@[simp] theorem State.setWfar_fetchOld (s : State) (v : Word) : (s.setWfar v).fetchOld = s.fetchOld := rfl
@[simp] theorem State.setWfar_tlb (s : State) (v : Word) : (s.setWfar v).tlb = s.tlb := rfl
@[simp] theorem State.setWfar_lockSlots (s : State) (v : Word) : (s.setWfar v).lockSlots = s.lockSlots := rfl
@[simp] theorem State.setWfar_prefetched (s : State) (v : Word) : (s.setWfar v).prefetched = s.prefetched := rfl
@[simp] theorem State.setWfar_icache (s : State) (v : Word) : (s.setWfar v).icache = s.icache := rfl
@[simp] theorem State.setWfar_icVictim (s : State) (v : Word) : (s.setWfar v).icVictim = s.icVictim := rfl
@[simp] theorem State.setWfar_dcache (s : State) (v : Word) : (s.setWfar v).dcache = s.dcache := rfl
@[simp] theorem State.setWfar_dcVictim (s : State) (v : Word) : (s.setWfar v).dcVictim = s.dcVictim := rfl
@[simp] theorem State.setWfar_storeBuffer (s : State) (v : Word) : (s.setWfar v).storeBuffer = s.storeBuffer := rfl
@[simp] theorem State.setWfar_monitor (s : State) (v : Word) : (s.setWfar v).monitor = s.monitor := rfl
@[simp] theorem State.setWfar_btac (s : State) (v : Word) : (s.setWfar v).btac = s.btac := rfl
@[simp] theorem State.setWfar_imprecise (s : State) (v : Word) : (s.setWfar v).imprecise = s.imprecise := rfl
@[simp] theorem State.setWfar_inFlight (s : State) (v : Word) : (s.setWfar v).inFlight = s.inFlight := rfl
@[simp] theorem State.setWfar_fiqPin (s : State) (v : Word) : (s.setWfar v).fiqPin = s.fiqPin := rfl
@[simp] theorem State.setWfar_irqSeen (s : State) (v : Word) : (s.setWfar v).irqSeen = s.irqSeen := rfl
@[simp] theorem State.setWfar_fiqSeen (s : State) (v : Word) : (s.setWfar v).fiqSeen = s.fiqSeen := rfl
@[simp] theorem State.setWfar_power (s : State) (v : Word) : (s.setWfar v).power = s.power := rfl
@[simp] theorem State.setWfar_standby (s : State) (v : Word) : (s.setWfar v).standby = s.standby := rfl
@[simp] theorem State.setWfar_stuck (s : State) (v : Word) : (s.setWfar v).stuck = s.stuck := rfl
@[simp] theorem State.setWfar_vfp (s : State) (v : Word) : (s.setWfar v).vfp = s.vfp := rfl
@[simp] theorem State.setWfar_debug (s : State) (v : Word) : (s.setWfar v).dbg = s.dbg := rfl
@[simp] theorem State.setWfar_dev (s : State) (v : Word) : (s.setWfar v).dev = s.dev := rfl
@[simp] theorem State.setWfar_mem (s : State) (v : Word) : (s.setWfar v).mem = s.mem := rfl
@[simp] theorem State.setWfar_freeCtr (s : State) (v : Word) : (s.setWfar v).freeCtr = s.freeCtr := rfl
@[simp] theorem State.setWfar_env (s : State) (v : Word) : (s.setWfar v).env = s.env := rfl

/-! ## `State.setPa` -/

@[simp] theorem State.setPa_cfg (s : State) (v : Word) : (s.setPa v).cfg = s.cfg := rfl
@[simp] theorem State.setPa_regs (s : State) (v : Word) : (s.setPa v).regs = s.regs := rfl
@[simp] theorem State.setPa_pc (s : State) (v : Word) : (s.setPa v).pc = s.pc := rfl
@[simp] theorem State.setPa_psrs (s : State) (v : Word) : (s.setPa v).psrs = s.psrs := rfl
@[simp] theorem State.setPa_cp15 (s : State) (v : Word) : (s.setPa v).cp15 = { s.cp15 with pa := v } := rfl
@[simp] theorem State.setPa_lockAccess (s : State) (v : Word) : (s.setPa v).lockAccess = s.lockAccess := rfl
@[simp] theorem State.setPa_nmrrImplDefined (s : State) (v : Word) : (s.setPa v).nmrrImplDefined = s.nmrrImplDefined := rfl
@[simp] theorem State.setPa_remapOld (s : State) (v : Word) : (s.setPa v).remapOld = s.remapOld := rfl
@[simp] theorem State.setPa_cpacrOld (s : State) (v : Word) : (s.setPa v).cpacrOld = s.cpacrOld := rfl
@[simp] theorem State.setPa_fetchOld (s : State) (v : Word) : (s.setPa v).fetchOld = s.fetchOld := rfl
@[simp] theorem State.setPa_tlb (s : State) (v : Word) : (s.setPa v).tlb = s.tlb := rfl
@[simp] theorem State.setPa_lockSlots (s : State) (v : Word) : (s.setPa v).lockSlots = s.lockSlots := rfl
@[simp] theorem State.setPa_prefetched (s : State) (v : Word) : (s.setPa v).prefetched = s.prefetched := rfl
@[simp] theorem State.setPa_icache (s : State) (v : Word) : (s.setPa v).icache = s.icache := rfl
@[simp] theorem State.setPa_icVictim (s : State) (v : Word) : (s.setPa v).icVictim = s.icVictim := rfl
@[simp] theorem State.setPa_dcache (s : State) (v : Word) : (s.setPa v).dcache = s.dcache := rfl
@[simp] theorem State.setPa_dcVictim (s : State) (v : Word) : (s.setPa v).dcVictim = s.dcVictim := rfl
@[simp] theorem State.setPa_storeBuffer (s : State) (v : Word) : (s.setPa v).storeBuffer = s.storeBuffer := rfl
@[simp] theorem State.setPa_monitor (s : State) (v : Word) : (s.setPa v).monitor = s.monitor := rfl
@[simp] theorem State.setPa_btac (s : State) (v : Word) : (s.setPa v).btac = s.btac := rfl
@[simp] theorem State.setPa_imprecise (s : State) (v : Word) : (s.setPa v).imprecise = s.imprecise := rfl
@[simp] theorem State.setPa_inFlight (s : State) (v : Word) : (s.setPa v).inFlight = s.inFlight := rfl
@[simp] theorem State.setPa_fiqPin (s : State) (v : Word) : (s.setPa v).fiqPin = s.fiqPin := rfl
@[simp] theorem State.setPa_irqSeen (s : State) (v : Word) : (s.setPa v).irqSeen = s.irqSeen := rfl
@[simp] theorem State.setPa_fiqSeen (s : State) (v : Word) : (s.setPa v).fiqSeen = s.fiqSeen := rfl
@[simp] theorem State.setPa_power (s : State) (v : Word) : (s.setPa v).power = s.power := rfl
@[simp] theorem State.setPa_standby (s : State) (v : Word) : (s.setPa v).standby = s.standby := rfl
@[simp] theorem State.setPa_stuck (s : State) (v : Word) : (s.setPa v).stuck = s.stuck := rfl
@[simp] theorem State.setPa_vfp (s : State) (v : Word) : (s.setPa v).vfp = s.vfp := rfl
@[simp] theorem State.setPa_debug (s : State) (v : Word) : (s.setPa v).dbg = s.dbg := rfl
@[simp] theorem State.setPa_dev (s : State) (v : Word) : (s.setPa v).dev = s.dev := rfl
@[simp] theorem State.setPa_mem (s : State) (v : Word) : (s.setPa v).mem = s.mem := rfl
@[simp] theorem State.setPa_freeCtr (s : State) (v : Word) : (s.setPa v).freeCtr = s.freeCtr := rfl
@[simp] theorem State.setPa_env (s : State) (v : Word) : (s.setPa v).env = s.env := rfl

/-! ## `State.setDscr` -/

@[simp] theorem State.setDscr_cfg (s : State) (v : Word) : (s.setDscr v).cfg = s.cfg := rfl
@[simp] theorem State.setDscr_regs (s : State) (v : Word) : (s.setDscr v).regs = s.regs := rfl
@[simp] theorem State.setDscr_pc (s : State) (v : Word) : (s.setDscr v).pc = s.pc := rfl
@[simp] theorem State.setDscr_psrs (s : State) (v : Word) : (s.setDscr v).psrs = s.psrs := rfl
@[simp] theorem State.setDscr_cp15 (s : State) (v : Word) : (s.setDscr v).cp15 = s.cp15 := rfl
@[simp] theorem State.setDscr_lockAccess (s : State) (v : Word) : (s.setDscr v).lockAccess = s.lockAccess := rfl
@[simp] theorem State.setDscr_nmrrImplDefined (s : State) (v : Word) : (s.setDscr v).nmrrImplDefined = s.nmrrImplDefined := rfl
@[simp] theorem State.setDscr_remapOld (s : State) (v : Word) : (s.setDscr v).remapOld = s.remapOld := rfl
@[simp] theorem State.setDscr_cpacrOld (s : State) (v : Word) : (s.setDscr v).cpacrOld = s.cpacrOld := rfl
@[simp] theorem State.setDscr_fetchOld (s : State) (v : Word) : (s.setDscr v).fetchOld = s.fetchOld := rfl
@[simp] theorem State.setDscr_tlb (s : State) (v : Word) : (s.setDscr v).tlb = s.tlb := rfl
@[simp] theorem State.setDscr_lockSlots (s : State) (v : Word) : (s.setDscr v).lockSlots = s.lockSlots := rfl
@[simp] theorem State.setDscr_prefetched (s : State) (v : Word) : (s.setDscr v).prefetched = s.prefetched := rfl
@[simp] theorem State.setDscr_icache (s : State) (v : Word) : (s.setDscr v).icache = s.icache := rfl
@[simp] theorem State.setDscr_icVictim (s : State) (v : Word) : (s.setDscr v).icVictim = s.icVictim := rfl
@[simp] theorem State.setDscr_dcache (s : State) (v : Word) : (s.setDscr v).dcache = s.dcache := rfl
@[simp] theorem State.setDscr_dcVictim (s : State) (v : Word) : (s.setDscr v).dcVictim = s.dcVictim := rfl
@[simp] theorem State.setDscr_storeBuffer (s : State) (v : Word) : (s.setDscr v).storeBuffer = s.storeBuffer := rfl
@[simp] theorem State.setDscr_monitor (s : State) (v : Word) : (s.setDscr v).monitor = s.monitor := rfl
@[simp] theorem State.setDscr_btac (s : State) (v : Word) : (s.setDscr v).btac = s.btac := rfl
@[simp] theorem State.setDscr_imprecise (s : State) (v : Word) : (s.setDscr v).imprecise = s.imprecise := rfl
@[simp] theorem State.setDscr_inFlight (s : State) (v : Word) : (s.setDscr v).inFlight = s.inFlight := rfl
@[simp] theorem State.setDscr_fiqPin (s : State) (v : Word) : (s.setDscr v).fiqPin = s.fiqPin := rfl
@[simp] theorem State.setDscr_irqSeen (s : State) (v : Word) : (s.setDscr v).irqSeen = s.irqSeen := rfl
@[simp] theorem State.setDscr_fiqSeen (s : State) (v : Word) : (s.setDscr v).fiqSeen = s.fiqSeen := rfl
@[simp] theorem State.setDscr_power (s : State) (v : Word) : (s.setDscr v).power = s.power := rfl
@[simp] theorem State.setDscr_standby (s : State) (v : Word) : (s.setDscr v).standby = s.standby := rfl
@[simp] theorem State.setDscr_stuck (s : State) (v : Word) : (s.setDscr v).stuck = s.stuck := rfl
@[simp] theorem State.setDscr_vfp (s : State) (v : Word) : (s.setDscr v).vfp = s.vfp := rfl
@[simp] theorem State.setDscr_debug (s : State) (v : Word) : (s.setDscr v).dbg = { s.dbg with dscr := v } := rfl
@[simp] theorem State.setDscr_dev (s : State) (v : Word) : (s.setDscr v).dev = s.dev := rfl
@[simp] theorem State.setDscr_mem (s : State) (v : Word) : (s.setDscr v).mem = s.mem := rfl
@[simp] theorem State.setDscr_freeCtr (s : State) (v : Word) : (s.setDscr v).freeCtr = s.freeCtr := rfl
@[simp] theorem State.setDscr_env (s : State) (v : Word) : (s.setDscr v).env = s.env := rfl

/-! ## `State.setTap` -/

@[simp] theorem State.setTap_cfg (s : State) (t : Tap) : (s.setTap t).cfg = s.cfg := rfl
@[simp] theorem State.setTap_regs (s : State) (t : Tap) : (s.setTap t).regs = s.regs := rfl
@[simp] theorem State.setTap_pc (s : State) (t : Tap) : (s.setTap t).pc = s.pc := rfl
@[simp] theorem State.setTap_psrs (s : State) (t : Tap) : (s.setTap t).psrs = s.psrs := rfl
@[simp] theorem State.setTap_cp15 (s : State) (t : Tap) : (s.setTap t).cp15 = s.cp15 := rfl
@[simp] theorem State.setTap_lockAccess (s : State) (t : Tap) : (s.setTap t).lockAccess = s.lockAccess := rfl
@[simp] theorem State.setTap_nmrrImplDefined (s : State) (t : Tap) : (s.setTap t).nmrrImplDefined = s.nmrrImplDefined := rfl
@[simp] theorem State.setTap_remapOld (s : State) (t : Tap) : (s.setTap t).remapOld = s.remapOld := rfl
@[simp] theorem State.setTap_cpacrOld (s : State) (t : Tap) : (s.setTap t).cpacrOld = s.cpacrOld := rfl
@[simp] theorem State.setTap_fetchOld (s : State) (t : Tap) : (s.setTap t).fetchOld = s.fetchOld := rfl
@[simp] theorem State.setTap_tlb (s : State) (t : Tap) : (s.setTap t).tlb = s.tlb := rfl
@[simp] theorem State.setTap_lockSlots (s : State) (t : Tap) : (s.setTap t).lockSlots = s.lockSlots := rfl
@[simp] theorem State.setTap_prefetched (s : State) (t : Tap) : (s.setTap t).prefetched = s.prefetched := rfl
@[simp] theorem State.setTap_icache (s : State) (t : Tap) : (s.setTap t).icache = s.icache := rfl
@[simp] theorem State.setTap_icVictim (s : State) (t : Tap) : (s.setTap t).icVictim = s.icVictim := rfl
@[simp] theorem State.setTap_dcache (s : State) (t : Tap) : (s.setTap t).dcache = s.dcache := rfl
@[simp] theorem State.setTap_dcVictim (s : State) (t : Tap) : (s.setTap t).dcVictim = s.dcVictim := rfl
@[simp] theorem State.setTap_storeBuffer (s : State) (t : Tap) : (s.setTap t).storeBuffer = s.storeBuffer := rfl
@[simp] theorem State.setTap_monitor (s : State) (t : Tap) : (s.setTap t).monitor = s.monitor := rfl
@[simp] theorem State.setTap_btac (s : State) (t : Tap) : (s.setTap t).btac = s.btac := rfl
@[simp] theorem State.setTap_imprecise (s : State) (t : Tap) : (s.setTap t).imprecise = s.imprecise := rfl
@[simp] theorem State.setTap_inFlight (s : State) (t : Tap) : (s.setTap t).inFlight = s.inFlight := rfl
@[simp] theorem State.setTap_fiqPin (s : State) (t : Tap) : (s.setTap t).fiqPin = s.fiqPin := rfl
@[simp] theorem State.setTap_irqSeen (s : State) (t : Tap) : (s.setTap t).irqSeen = s.irqSeen := rfl
@[simp] theorem State.setTap_fiqSeen (s : State) (t : Tap) : (s.setTap t).fiqSeen = s.fiqSeen := rfl
@[simp] theorem State.setTap_power (s : State) (t : Tap) : (s.setTap t).power = s.power := rfl
@[simp] theorem State.setTap_standby (s : State) (t : Tap) : (s.setTap t).standby = s.standby := rfl
@[simp] theorem State.setTap_stuck (s : State) (t : Tap) : (s.setTap t).stuck = s.stuck := rfl
@[simp] theorem State.setTap_vfp (s : State) (t : Tap) : (s.setTap t).vfp = s.vfp := rfl
@[simp] theorem State.setTap_debug (s : State) (t : Tap) : (s.setTap t).dbg = { s.dbg with tap := t } := rfl
@[simp] theorem State.setTap_dev (s : State) (t : Tap) : (s.setTap t).dev = s.dev := rfl
@[simp] theorem State.setTap_mem (s : State) (t : Tap) : (s.setTap t).mem = s.mem := rfl
@[simp] theorem State.setTap_freeCtr (s : State) (t : Tap) : (s.setTap t).freeCtr = s.freeCtr := rfl
@[simp] theorem State.setTap_env (s : State) (t : Tap) : (s.setTap t).env = s.env := rfl

/-! ## `State.clearWatch` -/

@[simp] theorem State.clearWatch_cfg (s : State) : s.clearWatch.cfg = s.cfg := rfl
@[simp] theorem State.clearWatch_regs (s : State) : s.clearWatch.regs = s.regs := rfl
@[simp] theorem State.clearWatch_pc (s : State) : s.clearWatch.pc = s.pc := rfl
@[simp] theorem State.clearWatch_psrs (s : State) : s.clearWatch.psrs = s.psrs := rfl
@[simp] theorem State.clearWatch_cp15 (s : State) : s.clearWatch.cp15 = s.cp15 := rfl
@[simp] theorem State.clearWatch_lockAccess (s : State) : s.clearWatch.lockAccess = s.lockAccess := rfl
@[simp] theorem State.clearWatch_nmrrImplDefined (s : State) : s.clearWatch.nmrrImplDefined = s.nmrrImplDefined := rfl
@[simp] theorem State.clearWatch_remapOld (s : State) : s.clearWatch.remapOld = s.remapOld := rfl
@[simp] theorem State.clearWatch_cpacrOld (s : State) : s.clearWatch.cpacrOld = s.cpacrOld := rfl
@[simp] theorem State.clearWatch_fetchOld (s : State) : s.clearWatch.fetchOld = s.fetchOld := rfl
@[simp] theorem State.clearWatch_tlb (s : State) : s.clearWatch.tlb = s.tlb := rfl
@[simp] theorem State.clearWatch_lockSlots (s : State) : s.clearWatch.lockSlots = s.lockSlots := rfl
@[simp] theorem State.clearWatch_prefetched (s : State) : s.clearWatch.prefetched = s.prefetched := rfl
@[simp] theorem State.clearWatch_icache (s : State) : s.clearWatch.icache = s.icache := rfl
@[simp] theorem State.clearWatch_icVictim (s : State) : s.clearWatch.icVictim = s.icVictim := rfl
@[simp] theorem State.clearWatch_dcache (s : State) : s.clearWatch.dcache = s.dcache := rfl
@[simp] theorem State.clearWatch_dcVictim (s : State) : s.clearWatch.dcVictim = s.dcVictim := rfl
@[simp] theorem State.clearWatch_storeBuffer (s : State) : s.clearWatch.storeBuffer = s.storeBuffer := rfl
@[simp] theorem State.clearWatch_monitor (s : State) : s.clearWatch.monitor = s.monitor := rfl
@[simp] theorem State.clearWatch_btac (s : State) : s.clearWatch.btac = s.btac := rfl
@[simp] theorem State.clearWatch_imprecise (s : State) : s.clearWatch.imprecise = s.imprecise := rfl
@[simp] theorem State.clearWatch_inFlight (s : State) : s.clearWatch.inFlight = s.inFlight := rfl
@[simp] theorem State.clearWatch_fiqPin (s : State) : s.clearWatch.fiqPin = s.fiqPin := rfl
@[simp] theorem State.clearWatch_irqSeen (s : State) : s.clearWatch.irqSeen = s.irqSeen := rfl
@[simp] theorem State.clearWatch_fiqSeen (s : State) : s.clearWatch.fiqSeen = s.fiqSeen := rfl
@[simp] theorem State.clearWatch_power (s : State) : s.clearWatch.power = s.power := rfl
@[simp] theorem State.clearWatch_standby (s : State) : s.clearWatch.standby = s.standby := rfl
@[simp] theorem State.clearWatch_stuck (s : State) : s.clearWatch.stuck = s.stuck := rfl
@[simp] theorem State.clearWatch_vfp (s : State) : s.clearWatch.vfp = s.vfp := rfl
@[simp] theorem State.clearWatch_debug (s : State) : s.clearWatch.dbg = { s.dbg with watchHit := false } := rfl
@[simp] theorem State.clearWatch_dev (s : State) : s.clearWatch.dev = s.dev := rfl
@[simp] theorem State.clearWatch_mem (s : State) : s.clearWatch.mem = s.mem := rfl
@[simp] theorem State.clearWatch_freeCtr (s : State) : s.clearWatch.freeCtr = s.freeCtr := rfl
@[simp] theorem State.clearWatch_env (s : State) : s.clearWatch.env = s.env := rfl

/-! ## `State.noteStatus` -/

@[simp] theorem State.noteStatus_cfg (b : Bool) (s : State) : (s.noteStatus b).cfg = s.cfg := rfl
@[simp] theorem State.noteStatus_regs (b : Bool) (s : State) : (s.noteStatus b).regs = s.regs := rfl
@[simp] theorem State.noteStatus_pc (b : Bool) (s : State) : (s.noteStatus b).pc = s.pc := rfl
@[simp] theorem State.noteStatus_psrs (b : Bool) (s : State) : (s.noteStatus b).psrs = s.psrs := rfl
@[simp] theorem State.noteStatus_cp15 (b : Bool) (s : State) : (s.noteStatus b).cp15 = s.cp15 := rfl
@[simp] theorem State.noteStatus_lockAccess (b : Bool) (s : State) : (s.noteStatus b).lockAccess = s.lockAccess := rfl
@[simp] theorem State.noteStatus_nmrrImplDefined (b : Bool) (s : State) : (s.noteStatus b).nmrrImplDefined = s.nmrrImplDefined := rfl
@[simp] theorem State.noteStatus_remapOld (b : Bool) (s : State) : (s.noteStatus b).remapOld = s.remapOld := rfl
@[simp] theorem State.noteStatus_cpacrOld (b : Bool) (s : State) : (s.noteStatus b).cpacrOld = s.cpacrOld := rfl
@[simp] theorem State.noteStatus_fetchOld (b : Bool) (s : State) : (s.noteStatus b).fetchOld = s.fetchOld := rfl
@[simp] theorem State.noteStatus_tlb (b : Bool) (s : State) : (s.noteStatus b).tlb = s.tlb := rfl
@[simp] theorem State.noteStatus_lockSlots (b : Bool) (s : State) : (s.noteStatus b).lockSlots = s.lockSlots := rfl
@[simp] theorem State.noteStatus_prefetched (b : Bool) (s : State) : (s.noteStatus b).prefetched = s.prefetched := rfl
@[simp] theorem State.noteStatus_icache (b : Bool) (s : State) : (s.noteStatus b).icache = s.icache := rfl
@[simp] theorem State.noteStatus_icVictim (b : Bool) (s : State) : (s.noteStatus b).icVictim = s.icVictim := rfl
@[simp] theorem State.noteStatus_dcache (b : Bool) (s : State) : (s.noteStatus b).dcache = s.dcache := rfl
@[simp] theorem State.noteStatus_dcVictim (b : Bool) (s : State) : (s.noteStatus b).dcVictim = s.dcVictim := rfl
@[simp] theorem State.noteStatus_storeBuffer (b : Bool) (s : State) : (s.noteStatus b).storeBuffer = s.storeBuffer := rfl
@[simp] theorem State.noteStatus_monitor (b : Bool) (s : State) : (s.noteStatus b).monitor = s.monitor := rfl
@[simp] theorem State.noteStatus_btac (b : Bool) (s : State) : (s.noteStatus b).btac = s.btac := rfl
@[simp] theorem State.noteStatus_imprecise (b : Bool) (s : State) : (s.noteStatus b).imprecise = s.imprecise := rfl
@[simp] theorem State.noteStatus_inFlight (b : Bool) (s : State) : (s.noteStatus b).inFlight = s.inFlight := rfl
@[simp] theorem State.noteStatus_fiqPin (b : Bool) (s : State) : (s.noteStatus b).fiqPin = s.fiqPin := rfl
@[simp] theorem State.noteStatus_irqSeen (b : Bool) (s : State) : (s.noteStatus b).irqSeen = s.irqSeen := rfl
@[simp] theorem State.noteStatus_fiqSeen (b : Bool) (s : State) : (s.noteStatus b).fiqSeen = s.fiqSeen := rfl
@[simp] theorem State.noteStatus_power (b : Bool) (s : State) : (s.noteStatus b).power = s.power := rfl
@[simp] theorem State.noteStatus_standby (b : Bool) (s : State) : (s.noteStatus b).standby = s.standby := rfl
@[simp] theorem State.noteStatus_stuck (b : Bool) (s : State) : (s.noteStatus b).stuck = s.stuck := rfl
@[simp] theorem State.noteStatus_vfp (b : Bool) (s : State) : (s.noteStatus b).vfp = s.vfp := rfl
@[simp] theorem State.noteStatus_debug (b : Bool) (s : State) : (s.noteStatus b).dbg = { s.dbg with touched := s.dbg.touched || (b && s.halted) } := rfl
@[simp] theorem State.noteStatus_dev (b : Bool) (s : State) : (s.noteStatus b).dev = s.dev := rfl
@[simp] theorem State.noteStatus_mem (b : Bool) (s : State) : (s.noteStatus b).mem = s.mem := rfl
@[simp] theorem State.noteStatus_freeCtr (b : Bool) (s : State) : (s.noteStatus b).freeCtr = s.freeCtr := rfl
@[simp] theorem State.noteStatus_env (b : Bool) (s : State) : (s.noteStatus b).env = s.env := rfl

/-! ## `State.markWritten` -/

@[simp] theorem State.markWritten_cfg (s : State) : s.markWritten.cfg = s.cfg := by unfold State.markWritten; split <;> rfl
@[simp] theorem State.markWritten_regs (s : State) : s.markWritten.regs = s.regs := by unfold State.markWritten; split <;> rfl
@[simp] theorem State.markWritten_pc (s : State) : s.markWritten.pc = s.pc := by unfold State.markWritten; split <;> rfl
@[simp] theorem State.markWritten_psrs (s : State) : s.markWritten.psrs = s.psrs := by unfold State.markWritten; split <;> rfl
@[simp] theorem State.markWritten_cp15 (s : State) : s.markWritten.cp15 = s.cp15 := by unfold State.markWritten; split <;> rfl
@[simp] theorem State.markWritten_lockAccess (s : State) : s.markWritten.lockAccess = s.lockAccess := by unfold State.markWritten; split <;> rfl
@[simp] theorem State.markWritten_nmrrImplDefined (s : State) : s.markWritten.nmrrImplDefined = s.nmrrImplDefined := by unfold State.markWritten; split <;> rfl
@[simp] theorem State.markWritten_remapOld (s : State) : s.markWritten.remapOld = s.remapOld := by unfold State.markWritten; split <;> rfl
@[simp] theorem State.markWritten_cpacrOld (s : State) : s.markWritten.cpacrOld = s.cpacrOld := by unfold State.markWritten; split <;> rfl
@[simp] theorem State.markWritten_fetchOld (s : State) : s.markWritten.fetchOld = s.fetchOld := by unfold State.markWritten; split <;> rfl
@[simp] theorem State.markWritten_tlb (s : State) : s.markWritten.tlb = s.tlb := by unfold State.markWritten; split <;> rfl
@[simp] theorem State.markWritten_lockSlots (s : State) : s.markWritten.lockSlots = s.lockSlots := by unfold State.markWritten; split <;> rfl
@[simp] theorem State.markWritten_prefetched (s : State) : s.markWritten.prefetched = s.prefetched := by unfold State.markWritten; split <;> rfl
@[simp] theorem State.markWritten_icache (s : State) : s.markWritten.icache = s.icache := by unfold State.markWritten; split <;> rfl
@[simp] theorem State.markWritten_icVictim (s : State) : s.markWritten.icVictim = s.icVictim := by unfold State.markWritten; split <;> rfl
@[simp] theorem State.markWritten_dcache (s : State) : s.markWritten.dcache = s.dcache := by unfold State.markWritten; split <;> rfl
@[simp] theorem State.markWritten_dcVictim (s : State) : s.markWritten.dcVictim = s.dcVictim := by unfold State.markWritten; split <;> rfl
@[simp] theorem State.markWritten_storeBuffer (s : State) : s.markWritten.storeBuffer = s.storeBuffer := by unfold State.markWritten; split <;> rfl
@[simp] theorem State.markWritten_monitor (s : State) : s.markWritten.monitor = s.monitor := by unfold State.markWritten; split <;> rfl
@[simp] theorem State.markWritten_btac (s : State) : s.markWritten.btac = s.btac := by unfold State.markWritten; split <;> rfl
@[simp] theorem State.markWritten_imprecise (s : State) : s.markWritten.imprecise = s.imprecise := by unfold State.markWritten; split <;> rfl
@[simp] theorem State.markWritten_inFlight (s : State) : s.markWritten.inFlight = s.inFlight := by unfold State.markWritten; split <;> rfl
@[simp] theorem State.markWritten_fiqPin (s : State) : s.markWritten.fiqPin = s.fiqPin := by unfold State.markWritten; split <;> rfl
@[simp] theorem State.markWritten_irqSeen (s : State) : s.markWritten.irqSeen = s.irqSeen := by unfold State.markWritten; split <;> rfl
@[simp] theorem State.markWritten_fiqSeen (s : State) : s.markWritten.fiqSeen = s.fiqSeen := by unfold State.markWritten; split <;> rfl
@[simp] theorem State.markWritten_power (s : State) : s.markWritten.power = s.power := by unfold State.markWritten; split <;> rfl
@[simp] theorem State.markWritten_standby (s : State) : s.markWritten.standby = s.standby := by unfold State.markWritten; split <;> rfl
@[simp] theorem State.markWritten_stuck (s : State) : s.markWritten.stuck = s.stuck := by unfold State.markWritten; split <;> rfl
@[simp] theorem State.markWritten_vfp (s : State) : s.markWritten.vfp = s.vfp := by unfold State.markWritten; split <;> rfl
@[simp] theorem State.markWritten_dev (s : State) : s.markWritten.dev = s.dev := by unfold State.markWritten; split <;> rfl
@[simp] theorem State.markWritten_mem (s : State) : s.markWritten.mem = s.mem := by unfold State.markWritten; split <;> rfl
@[simp] theorem State.markWritten_freeCtr (s : State) : s.markWritten.freeCtr = s.freeCtr := by unfold State.markWritten; split <;> rfl
@[simp] theorem State.markWritten_env (s : State) : s.markWritten.env = s.env := by unfold State.markWritten; split <;> rfl

/-! ## `State.setDev` -/

@[simp] theorem State.setDev_cfg (s : State) (d : Devices) : (s.setDev d).cfg = s.cfg := rfl
@[simp] theorem State.setDev_regs (s : State) (d : Devices) : (s.setDev d).regs = s.regs := rfl
@[simp] theorem State.setDev_pc (s : State) (d : Devices) : (s.setDev d).pc = s.pc := rfl
@[simp] theorem State.setDev_psrs (s : State) (d : Devices) : (s.setDev d).psrs = s.psrs := rfl
@[simp] theorem State.setDev_cp15 (s : State) (d : Devices) : (s.setDev d).cp15 = s.cp15 := rfl
@[simp] theorem State.setDev_lockAccess (s : State) (d : Devices) : (s.setDev d).lockAccess = s.lockAccess := rfl
@[simp] theorem State.setDev_nmrrImplDefined (s : State) (d : Devices) : (s.setDev d).nmrrImplDefined = s.nmrrImplDefined := rfl
@[simp] theorem State.setDev_remapOld (s : State) (d : Devices) : (s.setDev d).remapOld = s.remapOld := rfl
@[simp] theorem State.setDev_cpacrOld (s : State) (d : Devices) : (s.setDev d).cpacrOld = s.cpacrOld := rfl
@[simp] theorem State.setDev_fetchOld (s : State) (d : Devices) : (s.setDev d).fetchOld = s.fetchOld := rfl
@[simp] theorem State.setDev_tlb (s : State) (d : Devices) : (s.setDev d).tlb = s.tlb := rfl
@[simp] theorem State.setDev_lockSlots (s : State) (d : Devices) : (s.setDev d).lockSlots = s.lockSlots := rfl
@[simp] theorem State.setDev_prefetched (s : State) (d : Devices) : (s.setDev d).prefetched = s.prefetched := rfl
@[simp] theorem State.setDev_icache (s : State) (d : Devices) : (s.setDev d).icache = s.icache := rfl
@[simp] theorem State.setDev_icVictim (s : State) (d : Devices) : (s.setDev d).icVictim = s.icVictim := rfl
@[simp] theorem State.setDev_dcache (s : State) (d : Devices) : (s.setDev d).dcache = s.dcache := rfl
@[simp] theorem State.setDev_dcVictim (s : State) (d : Devices) : (s.setDev d).dcVictim = s.dcVictim := rfl
@[simp] theorem State.setDev_storeBuffer (s : State) (d : Devices) : (s.setDev d).storeBuffer = s.storeBuffer := rfl
@[simp] theorem State.setDev_monitor (s : State) (d : Devices) : (s.setDev d).monitor = s.monitor := rfl
@[simp] theorem State.setDev_btac (s : State) (d : Devices) : (s.setDev d).btac = s.btac := rfl
@[simp] theorem State.setDev_imprecise (s : State) (d : Devices) : (s.setDev d).imprecise = s.imprecise := rfl
@[simp] theorem State.setDev_inFlight (s : State) (d : Devices) : (s.setDev d).inFlight = s.inFlight := rfl
@[simp] theorem State.setDev_fiqPin (s : State) (d : Devices) : (s.setDev d).fiqPin = s.fiqPin := rfl
@[simp] theorem State.setDev_irqSeen (s : State) (d : Devices) : (s.setDev d).irqSeen = s.irqSeen := rfl
@[simp] theorem State.setDev_fiqSeen (s : State) (d : Devices) : (s.setDev d).fiqSeen = s.fiqSeen := rfl
@[simp] theorem State.setDev_power (s : State) (d : Devices) : (s.setDev d).power = s.power := rfl
@[simp] theorem State.setDev_standby (s : State) (d : Devices) : (s.setDev d).standby = s.standby := rfl
@[simp] theorem State.setDev_stuck (s : State) (d : Devices) : (s.setDev d).stuck = s.stuck := rfl
@[simp] theorem State.setDev_vfp (s : State) (d : Devices) : (s.setDev d).vfp = s.vfp := rfl
@[simp] theorem State.setDev_debug (s : State) (d : Devices) : (s.setDev d).dbg = s.dbg := rfl
@[simp] theorem State.setDev_dev (s : State) (d : Devices) : (s.setDev d).dev = d := rfl
@[simp] theorem State.setDev_mem (s : State) (d : Devices) : (s.setDev d).mem = s.mem := rfl
@[simp] theorem State.setDev_freeCtr (s : State) (d : Devices) : (s.setDev d).freeCtr = s.freeCtr := rfl
@[simp] theorem State.setDev_env (s : State) (d : Devices) : (s.setDev d).env = s.env := rfl

/-! ## `State.setLockSlot` -/

@[simp] theorem State.setLockSlot_cfg (s : State) (k : BitVec 3) (x : LockSlot) : (s.setLockSlot k x).cfg = s.cfg := rfl
@[simp] theorem State.setLockSlot_regs (s : State) (k : BitVec 3) (x : LockSlot) : (s.setLockSlot k x).regs = s.regs := rfl
@[simp] theorem State.setLockSlot_pc (s : State) (k : BitVec 3) (x : LockSlot) : (s.setLockSlot k x).pc = s.pc := rfl
@[simp] theorem State.setLockSlot_psrs (s : State) (k : BitVec 3) (x : LockSlot) : (s.setLockSlot k x).psrs = s.psrs := rfl
@[simp] theorem State.setLockSlot_cp15 (s : State) (k : BitVec 3) (x : LockSlot) : (s.setLockSlot k x).cp15 = s.cp15 := rfl
@[simp] theorem State.setLockSlot_lockAccess (s : State) (k : BitVec 3) (x : LockSlot) : (s.setLockSlot k x).lockAccess = s.lockAccess := rfl
@[simp] theorem State.setLockSlot_nmrrImplDefined (s : State) (k : BitVec 3) (x : LockSlot) : (s.setLockSlot k x).nmrrImplDefined = s.nmrrImplDefined := rfl
@[simp] theorem State.setLockSlot_remapOld (s : State) (k : BitVec 3) (x : LockSlot) : (s.setLockSlot k x).remapOld = s.remapOld := rfl
@[simp] theorem State.setLockSlot_cpacrOld (s : State) (k : BitVec 3) (x : LockSlot) : (s.setLockSlot k x).cpacrOld = s.cpacrOld := rfl
@[simp] theorem State.setLockSlot_fetchOld (s : State) (k : BitVec 3) (x : LockSlot) : (s.setLockSlot k x).fetchOld = s.fetchOld := rfl
@[simp] theorem State.setLockSlot_tlb (s : State) (k : BitVec 3) (x : LockSlot) : (s.setLockSlot k x).tlb = s.tlb := rfl
@[simp] theorem State.setLockSlot_lockSlots (s : State) (k : BitVec 3) (x : LockSlot) : (s.setLockSlot k x).lockSlots = s.lockSlots.set k.toNat x k.isLt := rfl
@[simp] theorem State.setLockSlot_prefetched (s : State) (k : BitVec 3) (x : LockSlot) : (s.setLockSlot k x).prefetched = s.prefetched := rfl
@[simp] theorem State.setLockSlot_icache (s : State) (k : BitVec 3) (x : LockSlot) : (s.setLockSlot k x).icache = s.icache := rfl
@[simp] theorem State.setLockSlot_icVictim (s : State) (k : BitVec 3) (x : LockSlot) : (s.setLockSlot k x).icVictim = s.icVictim := rfl
@[simp] theorem State.setLockSlot_dcache (s : State) (k : BitVec 3) (x : LockSlot) : (s.setLockSlot k x).dcache = s.dcache := rfl
@[simp] theorem State.setLockSlot_dcVictim (s : State) (k : BitVec 3) (x : LockSlot) : (s.setLockSlot k x).dcVictim = s.dcVictim := rfl
@[simp] theorem State.setLockSlot_storeBuffer (s : State) (k : BitVec 3) (x : LockSlot) : (s.setLockSlot k x).storeBuffer = s.storeBuffer := rfl
@[simp] theorem State.setLockSlot_monitor (s : State) (k : BitVec 3) (x : LockSlot) : (s.setLockSlot k x).monitor = s.monitor := rfl
@[simp] theorem State.setLockSlot_btac (s : State) (k : BitVec 3) (x : LockSlot) : (s.setLockSlot k x).btac = s.btac := rfl
@[simp] theorem State.setLockSlot_imprecise (s : State) (k : BitVec 3) (x : LockSlot) : (s.setLockSlot k x).imprecise = s.imprecise := rfl
@[simp] theorem State.setLockSlot_inFlight (s : State) (k : BitVec 3) (x : LockSlot) : (s.setLockSlot k x).inFlight = s.inFlight := rfl
@[simp] theorem State.setLockSlot_fiqPin (s : State) (k : BitVec 3) (x : LockSlot) : (s.setLockSlot k x).fiqPin = s.fiqPin := rfl
@[simp] theorem State.setLockSlot_irqSeen (s : State) (k : BitVec 3) (x : LockSlot) : (s.setLockSlot k x).irqSeen = s.irqSeen := rfl
@[simp] theorem State.setLockSlot_fiqSeen (s : State) (k : BitVec 3) (x : LockSlot) : (s.setLockSlot k x).fiqSeen = s.fiqSeen := rfl
@[simp] theorem State.setLockSlot_power (s : State) (k : BitVec 3) (x : LockSlot) : (s.setLockSlot k x).power = s.power := rfl
@[simp] theorem State.setLockSlot_standby (s : State) (k : BitVec 3) (x : LockSlot) : (s.setLockSlot k x).standby = s.standby := rfl
@[simp] theorem State.setLockSlot_stuck (s : State) (k : BitVec 3) (x : LockSlot) : (s.setLockSlot k x).stuck = s.stuck := rfl
@[simp] theorem State.setLockSlot_vfp (s : State) (k : BitVec 3) (x : LockSlot) : (s.setLockSlot k x).vfp = s.vfp := rfl
@[simp] theorem State.setLockSlot_debug (s : State) (k : BitVec 3) (x : LockSlot) : (s.setLockSlot k x).dbg = s.dbg := rfl
@[simp] theorem State.setLockSlot_dev (s : State) (k : BitVec 3) (x : LockSlot) : (s.setLockSlot k x).dev = s.dev := rfl
@[simp] theorem State.setLockSlot_mem (s : State) (k : BitVec 3) (x : LockSlot) : (s.setLockSlot k x).mem = s.mem := rfl
@[simp] theorem State.setLockSlot_freeCtr (s : State) (k : BitVec 3) (x : LockSlot) : (s.setLockSlot k x).freeCtr = s.freeCtr := rfl
@[simp] theorem State.setLockSlot_env (s : State) (k : BitVec 3) (x : LockSlot) : (s.setLockSlot k x).env = s.env := rfl

/-! ## `State.setSreg` -/

@[simp] theorem State.setSreg_cfg (s : State) (n : BitVec 5) (v : Word) : (s.setSreg n v).cfg = s.cfg := rfl
@[simp] theorem State.setSreg_regs (s : State) (n : BitVec 5) (v : Word) : (s.setSreg n v).regs = s.regs := rfl
@[simp] theorem State.setSreg_pc (s : State) (n : BitVec 5) (v : Word) : (s.setSreg n v).pc = s.pc := rfl
@[simp] theorem State.setSreg_psrs (s : State) (n : BitVec 5) (v : Word) : (s.setSreg n v).psrs = s.psrs := rfl
@[simp] theorem State.setSreg_cp15 (s : State) (n : BitVec 5) (v : Word) : (s.setSreg n v).cp15 = s.cp15 := rfl
@[simp] theorem State.setSreg_lockAccess (s : State) (n : BitVec 5) (v : Word) : (s.setSreg n v).lockAccess = s.lockAccess := rfl
@[simp] theorem State.setSreg_nmrrImplDefined (s : State) (n : BitVec 5) (v : Word) : (s.setSreg n v).nmrrImplDefined = s.nmrrImplDefined := rfl
@[simp] theorem State.setSreg_remapOld (s : State) (n : BitVec 5) (v : Word) : (s.setSreg n v).remapOld = s.remapOld := rfl
@[simp] theorem State.setSreg_cpacrOld (s : State) (n : BitVec 5) (v : Word) : (s.setSreg n v).cpacrOld = s.cpacrOld := rfl
@[simp] theorem State.setSreg_fetchOld (s : State) (n : BitVec 5) (v : Word) : (s.setSreg n v).fetchOld = s.fetchOld := rfl
@[simp] theorem State.setSreg_tlb (s : State) (n : BitVec 5) (v : Word) : (s.setSreg n v).tlb = s.tlb := rfl
@[simp] theorem State.setSreg_lockSlots (s : State) (n : BitVec 5) (v : Word) : (s.setSreg n v).lockSlots = s.lockSlots := rfl
@[simp] theorem State.setSreg_prefetched (s : State) (n : BitVec 5) (v : Word) : (s.setSreg n v).prefetched = s.prefetched := rfl
@[simp] theorem State.setSreg_icache (s : State) (n : BitVec 5) (v : Word) : (s.setSreg n v).icache = s.icache := rfl
@[simp] theorem State.setSreg_icVictim (s : State) (n : BitVec 5) (v : Word) : (s.setSreg n v).icVictim = s.icVictim := rfl
@[simp] theorem State.setSreg_dcache (s : State) (n : BitVec 5) (v : Word) : (s.setSreg n v).dcache = s.dcache := rfl
@[simp] theorem State.setSreg_dcVictim (s : State) (n : BitVec 5) (v : Word) : (s.setSreg n v).dcVictim = s.dcVictim := rfl
@[simp] theorem State.setSreg_storeBuffer (s : State) (n : BitVec 5) (v : Word) : (s.setSreg n v).storeBuffer = s.storeBuffer := rfl
@[simp] theorem State.setSreg_monitor (s : State) (n : BitVec 5) (v : Word) : (s.setSreg n v).monitor = s.monitor := rfl
@[simp] theorem State.setSreg_btac (s : State) (n : BitVec 5) (v : Word) : (s.setSreg n v).btac = s.btac := rfl
@[simp] theorem State.setSreg_imprecise (s : State) (n : BitVec 5) (v : Word) : (s.setSreg n v).imprecise = s.imprecise := rfl
@[simp] theorem State.setSreg_inFlight (s : State) (n : BitVec 5) (v : Word) : (s.setSreg n v).inFlight = s.inFlight := rfl
@[simp] theorem State.setSreg_fiqPin (s : State) (n : BitVec 5) (v : Word) : (s.setSreg n v).fiqPin = s.fiqPin := rfl
@[simp] theorem State.setSreg_irqSeen (s : State) (n : BitVec 5) (v : Word) : (s.setSreg n v).irqSeen = s.irqSeen := rfl
@[simp] theorem State.setSreg_fiqSeen (s : State) (n : BitVec 5) (v : Word) : (s.setSreg n v).fiqSeen = s.fiqSeen := rfl
@[simp] theorem State.setSreg_power (s : State) (n : BitVec 5) (v : Word) : (s.setSreg n v).power = s.power := rfl
@[simp] theorem State.setSreg_standby (s : State) (n : BitVec 5) (v : Word) : (s.setSreg n v).standby = s.standby := rfl
@[simp] theorem State.setSreg_stuck (s : State) (n : BitVec 5) (v : Word) : (s.setSreg n v).stuck = s.stuck := rfl
@[simp] theorem State.setSreg_vfp (s : State) (n : BitVec 5) (v : Word) : (s.setSreg n v).vfp = { s.vfp with regs := s.vfp.regs.set n.toNat v n.isLt } := rfl
@[simp] theorem State.setSreg_debug (s : State) (n : BitVec 5) (v : Word) : (s.setSreg n v).dbg = s.dbg := rfl
@[simp] theorem State.setSreg_dev (s : State) (n : BitVec 5) (v : Word) : (s.setSreg n v).dev = s.dev := rfl
@[simp] theorem State.setSreg_mem (s : State) (n : BitVec 5) (v : Word) : (s.setSreg n v).mem = s.mem := rfl
@[simp] theorem State.setSreg_freeCtr (s : State) (n : BitVec 5) (v : Word) : (s.setSreg n v).freeCtr = s.freeCtr := rfl
@[simp] theorem State.setSreg_env (s : State) (n : BitVec 5) (v : Word) : (s.setSreg n v).env = s.env := rfl

/-! ## `State.skipDraws` -/

@[simp] theorem State.skipDraws_cfg (s : State) (n : Nat) : (s.skipDraws n).cfg = s.cfg := rfl
@[simp] theorem State.skipDraws_regs (s : State) (n : Nat) : (s.skipDraws n).regs = s.regs := rfl
@[simp] theorem State.skipDraws_pc (s : State) (n : Nat) : (s.skipDraws n).pc = s.pc := rfl
@[simp] theorem State.skipDraws_psrs (s : State) (n : Nat) : (s.skipDraws n).psrs = s.psrs := rfl
@[simp] theorem State.skipDraws_cp15 (s : State) (n : Nat) : (s.skipDraws n).cp15 = s.cp15 := rfl
@[simp] theorem State.skipDraws_lockAccess (s : State) (n : Nat) : (s.skipDraws n).lockAccess = s.lockAccess := rfl
@[simp] theorem State.skipDraws_nmrrImplDefined (s : State) (n : Nat) : (s.skipDraws n).nmrrImplDefined = s.nmrrImplDefined := rfl
@[simp] theorem State.skipDraws_remapOld (s : State) (n : Nat) : (s.skipDraws n).remapOld = s.remapOld := rfl
@[simp] theorem State.skipDraws_cpacrOld (s : State) (n : Nat) : (s.skipDraws n).cpacrOld = s.cpacrOld := rfl
@[simp] theorem State.skipDraws_fetchOld (s : State) (n : Nat) : (s.skipDraws n).fetchOld = s.fetchOld := rfl
@[simp] theorem State.skipDraws_tlb (s : State) (n : Nat) : (s.skipDraws n).tlb = s.tlb := rfl
@[simp] theorem State.skipDraws_lockSlots (s : State) (n : Nat) : (s.skipDraws n).lockSlots = s.lockSlots := rfl
@[simp] theorem State.skipDraws_prefetched (s : State) (n : Nat) : (s.skipDraws n).prefetched = s.prefetched := rfl
@[simp] theorem State.skipDraws_icache (s : State) (n : Nat) : (s.skipDraws n).icache = s.icache := rfl
@[simp] theorem State.skipDraws_icVictim (s : State) (n : Nat) : (s.skipDraws n).icVictim = s.icVictim := rfl
@[simp] theorem State.skipDraws_dcache (s : State) (n : Nat) : (s.skipDraws n).dcache = s.dcache := rfl
@[simp] theorem State.skipDraws_dcVictim (s : State) (n : Nat) : (s.skipDraws n).dcVictim = s.dcVictim := rfl
@[simp] theorem State.skipDraws_storeBuffer (s : State) (n : Nat) : (s.skipDraws n).storeBuffer = s.storeBuffer := rfl
@[simp] theorem State.skipDraws_monitor (s : State) (n : Nat) : (s.skipDraws n).monitor = s.monitor := rfl
@[simp] theorem State.skipDraws_btac (s : State) (n : Nat) : (s.skipDraws n).btac = s.btac := rfl
@[simp] theorem State.skipDraws_imprecise (s : State) (n : Nat) : (s.skipDraws n).imprecise = s.imprecise := rfl
@[simp] theorem State.skipDraws_inFlight (s : State) (n : Nat) : (s.skipDraws n).inFlight = s.inFlight := rfl
@[simp] theorem State.skipDraws_fiqPin (s : State) (n : Nat) : (s.skipDraws n).fiqPin = s.fiqPin := rfl
@[simp] theorem State.skipDraws_irqSeen (s : State) (n : Nat) : (s.skipDraws n).irqSeen = s.irqSeen := rfl
@[simp] theorem State.skipDraws_fiqSeen (s : State) (n : Nat) : (s.skipDraws n).fiqSeen = s.fiqSeen := rfl
@[simp] theorem State.skipDraws_power (s : State) (n : Nat) : (s.skipDraws n).power = s.power := rfl
@[simp] theorem State.skipDraws_standby (s : State) (n : Nat) : (s.skipDraws n).standby = s.standby := rfl
@[simp] theorem State.skipDraws_stuck (s : State) (n : Nat) : (s.skipDraws n).stuck = s.stuck := rfl
@[simp] theorem State.skipDraws_vfp (s : State) (n : Nat) : (s.skipDraws n).vfp = s.vfp := rfl
@[simp] theorem State.skipDraws_debug (s : State) (n : Nat) : (s.skipDraws n).dbg = s.dbg := rfl
@[simp] theorem State.skipDraws_dev (s : State) (n : Nat) : (s.skipDraws n).dev = s.dev := rfl
@[simp] theorem State.skipDraws_mem (s : State) (n : Nat) : (s.skipDraws n).mem = s.mem := rfl
@[simp] theorem State.skipDraws_freeCtr (s : State) (n : Nat) : (s.skipDraws n).freeCtr = s.freeCtr + n := rfl
@[simp] theorem State.skipDraws_env (s : State) (n : Nat) : (s.skipDraws n).env = s.env := rfl

/-! ## `State.flushPipeline` -/

@[simp] theorem State.flushPipeline_cfg (s : State) : s.flushPipeline.cfg = s.cfg := rfl
@[simp] theorem State.flushPipeline_regs (s : State) : s.flushPipeline.regs = s.regs := rfl
@[simp] theorem State.flushPipeline_pc (s : State) : s.flushPipeline.pc = s.pc := rfl
@[simp] theorem State.flushPipeline_psrs (s : State) : s.flushPipeline.psrs = s.psrs := rfl
@[simp] theorem State.flushPipeline_cp15 (s : State) : s.flushPipeline.cp15 = s.cp15 := rfl
@[simp] theorem State.flushPipeline_lockAccess (s : State) : s.flushPipeline.lockAccess = s.lockAccess := rfl
@[simp] theorem State.flushPipeline_nmrrImplDefined (s : State) : s.flushPipeline.nmrrImplDefined = s.nmrrImplDefined := rfl
@[simp] theorem State.flushPipeline_remapOld (s : State) : s.flushPipeline.remapOld = s.remapOld := rfl
@[simp] theorem State.flushPipeline_cpacrOld (s : State) : s.flushPipeline.cpacrOld = s.cpacrOld := rfl
@[simp] theorem State.flushPipeline_fetchOld (s : State) : s.flushPipeline.fetchOld = [] := rfl
@[simp] theorem State.flushPipeline_tlb (s : State) : s.flushPipeline.tlb = s.tlb := rfl
@[simp] theorem State.flushPipeline_lockSlots (s : State) : s.flushPipeline.lockSlots = s.lockSlots := rfl
@[simp] theorem State.flushPipeline_prefetched (s : State) : s.flushPipeline.prefetched = [] := rfl
@[simp] theorem State.flushPipeline_icache (s : State) : s.flushPipeline.icache = s.icache := rfl
@[simp] theorem State.flushPipeline_icVictim (s : State) : s.flushPipeline.icVictim = s.icVictim := rfl
@[simp] theorem State.flushPipeline_dcache (s : State) : s.flushPipeline.dcache = s.dcache := rfl
@[simp] theorem State.flushPipeline_dcVictim (s : State) : s.flushPipeline.dcVictim = s.dcVictim := rfl
@[simp] theorem State.flushPipeline_storeBuffer (s : State) : s.flushPipeline.storeBuffer = s.storeBuffer := rfl
@[simp] theorem State.flushPipeline_monitor (s : State) : s.flushPipeline.monitor = s.monitor := rfl
@[simp] theorem State.flushPipeline_btac (s : State) : s.flushPipeline.btac = s.btac := rfl
@[simp] theorem State.flushPipeline_imprecise (s : State) : s.flushPipeline.imprecise = s.imprecise := rfl
@[simp] theorem State.flushPipeline_inFlight (s : State) : s.flushPipeline.inFlight = s.inFlight := rfl
@[simp] theorem State.flushPipeline_fiqPin (s : State) : s.flushPipeline.fiqPin = s.fiqPin := rfl
@[simp] theorem State.flushPipeline_irqSeen (s : State) : s.flushPipeline.irqSeen = s.irqSeen := rfl
@[simp] theorem State.flushPipeline_fiqSeen (s : State) : s.flushPipeline.fiqSeen = s.fiqSeen := rfl
@[simp] theorem State.flushPipeline_power (s : State) : s.flushPipeline.power = s.power := rfl
@[simp] theorem State.flushPipeline_standby (s : State) : s.flushPipeline.standby = s.standby := rfl
@[simp] theorem State.flushPipeline_stuck (s : State) : s.flushPipeline.stuck = s.stuck := rfl
@[simp] theorem State.flushPipeline_vfp (s : State) : s.flushPipeline.vfp = s.vfp := rfl
@[simp] theorem State.flushPipeline_debug (s : State) : s.flushPipeline.dbg = s.dbg := rfl
@[simp] theorem State.flushPipeline_dev (s : State) : s.flushPipeline.dev = s.dev := rfl
@[simp] theorem State.flushPipeline_mem (s : State) : s.flushPipeline.mem = s.mem := rfl
@[simp] theorem State.flushPipeline_freeCtr (s : State) : s.flushPipeline.freeCtr = s.freeCtr := rfl
@[simp] theorem State.flushPipeline_env (s : State) : s.flushPipeline.env = s.env := rfl

/-! ## `State.noteOlder` -/

@[simp] theorem State.noteOlder_cfg (f : OlderControls → OlderControls) (s : State) : (s.noteOlder f).cfg = s.cfg := rfl
@[simp] theorem State.noteOlder_regs (f : OlderControls → OlderControls) (s : State) : (s.noteOlder f).regs = s.regs := rfl
@[simp] theorem State.noteOlder_pc (f : OlderControls → OlderControls) (s : State) : (s.noteOlder f).pc = s.pc := rfl
@[simp] theorem State.noteOlder_psrs (f : OlderControls → OlderControls) (s : State) : (s.noteOlder f).psrs = s.psrs := rfl
@[simp] theorem State.noteOlder_cp15 (f : OlderControls → OlderControls) (s : State) : (s.noteOlder f).cp15 = s.cp15 := rfl
@[simp] theorem State.noteOlder_lockAccess (f : OlderControls → OlderControls) (s : State) : (s.noteOlder f).lockAccess = s.lockAccess := rfl
@[simp] theorem State.noteOlder_nmrrImplDefined (f : OlderControls → OlderControls) (s : State) : (s.noteOlder f).nmrrImplDefined = s.nmrrImplDefined := rfl
@[simp] theorem State.noteOlder_remapOld (f : OlderControls → OlderControls) (s : State) : 
    (s.noteOlder f).remapOld = (s.remapOld.map f).filter fun o => !(o.invalidated && o.flushed) := rfl
@[simp] theorem State.noteOlder_cpacrOld (f : OlderControls → OlderControls) (s : State) : (s.noteOlder f).cpacrOld = s.cpacrOld := rfl
@[simp] theorem State.noteOlder_fetchOld (f : OlderControls → OlderControls) (s : State) : (s.noteOlder f).fetchOld = s.fetchOld := rfl
@[simp] theorem State.noteOlder_tlb (f : OlderControls → OlderControls) (s : State) : (s.noteOlder f).tlb = s.tlb := rfl
@[simp] theorem State.noteOlder_lockSlots (f : OlderControls → OlderControls) (s : State) : (s.noteOlder f).lockSlots = s.lockSlots := rfl
@[simp] theorem State.noteOlder_prefetched (f : OlderControls → OlderControls) (s : State) : (s.noteOlder f).prefetched = s.prefetched := rfl
@[simp] theorem State.noteOlder_icache (f : OlderControls → OlderControls) (s : State) : (s.noteOlder f).icache = s.icache := rfl
@[simp] theorem State.noteOlder_icVictim (f : OlderControls → OlderControls) (s : State) : (s.noteOlder f).icVictim = s.icVictim := rfl
@[simp] theorem State.noteOlder_dcache (f : OlderControls → OlderControls) (s : State) : (s.noteOlder f).dcache = s.dcache := rfl
@[simp] theorem State.noteOlder_dcVictim (f : OlderControls → OlderControls) (s : State) : (s.noteOlder f).dcVictim = s.dcVictim := rfl
@[simp] theorem State.noteOlder_storeBuffer (f : OlderControls → OlderControls) (s : State) : (s.noteOlder f).storeBuffer = s.storeBuffer := rfl
@[simp] theorem State.noteOlder_monitor (f : OlderControls → OlderControls) (s : State) : (s.noteOlder f).monitor = s.monitor := rfl
@[simp] theorem State.noteOlder_btac (f : OlderControls → OlderControls) (s : State) : (s.noteOlder f).btac = s.btac := rfl
@[simp] theorem State.noteOlder_imprecise (f : OlderControls → OlderControls) (s : State) : (s.noteOlder f).imprecise = s.imprecise := rfl
@[simp] theorem State.noteOlder_inFlight (f : OlderControls → OlderControls) (s : State) : (s.noteOlder f).inFlight = s.inFlight := rfl
@[simp] theorem State.noteOlder_fiqPin (f : OlderControls → OlderControls) (s : State) : (s.noteOlder f).fiqPin = s.fiqPin := rfl
@[simp] theorem State.noteOlder_irqSeen (f : OlderControls → OlderControls) (s : State) : (s.noteOlder f).irqSeen = s.irqSeen := rfl
@[simp] theorem State.noteOlder_fiqSeen (f : OlderControls → OlderControls) (s : State) : (s.noteOlder f).fiqSeen = s.fiqSeen := rfl
@[simp] theorem State.noteOlder_power (f : OlderControls → OlderControls) (s : State) : (s.noteOlder f).power = s.power := rfl
@[simp] theorem State.noteOlder_standby (f : OlderControls → OlderControls) (s : State) : (s.noteOlder f).standby = s.standby := rfl
@[simp] theorem State.noteOlder_stuck (f : OlderControls → OlderControls) (s : State) : (s.noteOlder f).stuck = s.stuck := rfl
@[simp] theorem State.noteOlder_vfp (f : OlderControls → OlderControls) (s : State) : (s.noteOlder f).vfp = s.vfp := rfl
@[simp] theorem State.noteOlder_debug (f : OlderControls → OlderControls) (s : State) : (s.noteOlder f).dbg = s.dbg := rfl
@[simp] theorem State.noteOlder_dev (f : OlderControls → OlderControls) (s : State) : (s.noteOlder f).dev = s.dev := rfl
@[simp] theorem State.noteOlder_mem (f : OlderControls → OlderControls) (s : State) : (s.noteOlder f).mem = s.mem := rfl
@[simp] theorem State.noteOlder_freeCtr (f : OlderControls → OlderControls) (s : State) : (s.noteOlder f).freeCtr = s.freeCtr := rfl
@[simp] theorem State.noteOlder_env (f : OlderControls → OlderControls) (s : State) : (s.noteOlder f).env = s.env := rfl

/-! ## `State.flushPrefetch` -/

@[simp] theorem State.flushPrefetch_cfg (s : State) : s.flushPrefetch.cfg = s.cfg := rfl
@[simp] theorem State.flushPrefetch_regs (s : State) : s.flushPrefetch.regs = s.regs := rfl
@[simp] theorem State.flushPrefetch_pc (s : State) : s.flushPrefetch.pc = s.pc := rfl
@[simp] theorem State.flushPrefetch_psrs (s : State) : s.flushPrefetch.psrs = s.psrs := rfl
@[simp] theorem State.flushPrefetch_cp15 (s : State) : s.flushPrefetch.cp15 = s.cp15 := rfl
@[simp] theorem State.flushPrefetch_lockAccess (s : State) : s.flushPrefetch.lockAccess = s.lockAccess := rfl
@[simp] theorem State.flushPrefetch_nmrrImplDefined (s : State) : s.flushPrefetch.nmrrImplDefined = s.nmrrImplDefined := rfl
@[simp] theorem State.flushPrefetch_remapOld (s : State) :
    s.flushPrefetch.remapOld = (s.remapOld.map fun o => { o with flushed := true }).filter fun o => !(o.invalidated && o.flushed) := rfl
@[simp] theorem State.flushPrefetch_cpacrOld (s : State) : s.flushPrefetch.cpacrOld = none := rfl
@[simp] theorem State.flushPrefetch_fetchOld (s : State) : s.flushPrefetch.fetchOld = [] := rfl
@[simp] theorem State.flushPrefetch_tlb (s : State) : s.flushPrefetch.tlb = s.tlb := rfl
@[simp] theorem State.flushPrefetch_lockSlots (s : State) : s.flushPrefetch.lockSlots = s.lockSlots := rfl
@[simp] theorem State.flushPrefetch_prefetched (s : State) : s.flushPrefetch.prefetched = [] := rfl
@[simp] theorem State.flushPrefetch_icache (s : State) : s.flushPrefetch.icache = s.icache := rfl
@[simp] theorem State.flushPrefetch_icVictim (s : State) : s.flushPrefetch.icVictim = s.icVictim := rfl
@[simp] theorem State.flushPrefetch_dcache (s : State) : s.flushPrefetch.dcache = s.dcache := rfl
@[simp] theorem State.flushPrefetch_dcVictim (s : State) : s.flushPrefetch.dcVictim = s.dcVictim := rfl
@[simp] theorem State.flushPrefetch_storeBuffer (s : State) : s.flushPrefetch.storeBuffer = s.storeBuffer := rfl
@[simp] theorem State.flushPrefetch_monitor (s : State) : s.flushPrefetch.monitor = s.monitor := rfl
@[simp] theorem State.flushPrefetch_btac (s : State) : s.flushPrefetch.btac = s.btac := rfl
@[simp] theorem State.flushPrefetch_imprecise (s : State) : s.flushPrefetch.imprecise = s.imprecise := rfl
@[simp] theorem State.flushPrefetch_inFlight (s : State) : s.flushPrefetch.inFlight = s.inFlight := rfl
@[simp] theorem State.flushPrefetch_fiqPin (s : State) : s.flushPrefetch.fiqPin = s.fiqPin := rfl
@[simp] theorem State.flushPrefetch_irqSeen (s : State) : s.flushPrefetch.irqSeen = s.irqSeen := rfl
@[simp] theorem State.flushPrefetch_fiqSeen (s : State) : s.flushPrefetch.fiqSeen = s.fiqSeen := rfl
@[simp] theorem State.flushPrefetch_power (s : State) : s.flushPrefetch.power = s.power := rfl
@[simp] theorem State.flushPrefetch_standby (s : State) : s.flushPrefetch.standby = s.standby := rfl
@[simp] theorem State.flushPrefetch_stuck (s : State) : s.flushPrefetch.stuck = s.stuck := rfl
@[simp] theorem State.flushPrefetch_vfp (s : State) : s.flushPrefetch.vfp = s.vfp := rfl
@[simp] theorem State.flushPrefetch_debug (s : State) : s.flushPrefetch.dbg = s.dbg := rfl
@[simp] theorem State.flushPrefetch_dev (s : State) : s.flushPrefetch.dev = s.dev := rfl
@[simp] theorem State.flushPrefetch_mem (s : State) : s.flushPrefetch.mem = s.mem := rfl
@[simp] theorem State.flushPrefetch_freeCtr (s : State) : s.flushPrefetch.freeCtr = s.freeCtr := rfl
@[simp] theorem State.flushPrefetch_env (s : State) : s.flushPrefetch.env = s.env := rfl

/-! ## `State.committed` -/

@[simp] theorem State.committed_cfg (s : State) : s.committed.cfg = s.cfg := rfl
@[simp] theorem State.committed_regs (s : State) : s.committed.regs = s.regs := rfl
@[simp] theorem State.committed_pc (s : State) : s.committed.pc = s.pc := rfl
@[simp] theorem State.committed_psrs (s : State) : s.committed.psrs = s.psrs := rfl
@[simp] theorem State.committed_cp15 (s : State) : s.committed.cp15 = s.cp15 := rfl
@[simp] theorem State.committed_lockAccess (s : State) : s.committed.lockAccess = s.lockAccess := rfl
@[simp] theorem State.committed_nmrrImplDefined (s : State) : s.committed.nmrrImplDefined = s.nmrrImplDefined := rfl
@[simp] theorem State.committed_remapOld (s : State) : s.committed.remapOld = s.remapOld := rfl
@[simp] theorem State.committed_cpacrOld (s : State) : s.committed.cpacrOld = s.cpacrOld := rfl
@[simp] theorem State.committed_fetchOld (s : State) : s.committed.fetchOld = s.fetchOld := rfl
@[simp] theorem State.committed_tlb (s : State) : s.committed.tlb = s.tlb := rfl
@[simp] theorem State.committed_lockSlots (s : State) : s.committed.lockSlots = s.lockSlots := rfl
@[simp] theorem State.committed_prefetched (s : State) : s.committed.prefetched = s.prefetched := rfl
@[simp] theorem State.committed_icache (s : State) : s.committed.icache = s.icache := rfl
@[simp] theorem State.committed_icVictim (s : State) : s.committed.icVictim = s.icVictim := rfl
@[simp] theorem State.committed_dcache (s : State) : s.committed.dcache = s.dcache := rfl
@[simp] theorem State.committed_dcVictim (s : State) : s.committed.dcVictim = s.dcVictim := rfl
@[simp] theorem State.committed_storeBuffer (s : State) : s.committed.storeBuffer = s.storeBuffer := rfl
@[simp] theorem State.committed_monitor (s : State) : s.committed.monitor = s.monitor := rfl
@[simp] theorem State.committed_btac (s : State) : s.committed.btac = s.btac := rfl
@[simp] theorem State.committed_imprecise (s : State) : s.committed.imprecise = s.imprecise := rfl
@[simp] theorem State.committed_inFlight (s : State) : s.committed.inFlight = s.inFlight := rfl
@[simp] theorem State.committed_fiqPin (s : State) : s.committed.fiqPin = s.fiqPin := rfl
@[simp] theorem State.committed_irqSeen (s : State) : s.committed.irqSeen = s.irqSeen := rfl
@[simp] theorem State.committed_fiqSeen (s : State) : s.committed.fiqSeen = s.fiqSeen := rfl
@[simp] theorem State.committed_power (s : State) : s.committed.power = s.power := rfl
@[simp] theorem State.committed_standby (s : State) : s.committed.standby = s.standby := rfl
@[simp] theorem State.committed_stuck (s : State) : s.committed.stuck = s.stuck := rfl
@[simp] theorem State.committed_vfp (s : State) : s.committed.vfp = s.vfp := rfl
@[simp] theorem State.committed_debug (s : State) : s.committed.dbg = { s.dbg with pcSample := pcSample s } := rfl
@[simp] theorem State.committed_dev (s : State) : s.committed.dev = s.dev := rfl
@[simp] theorem State.committed_mem (s : State) : s.committed.mem = s.mem := rfl
@[simp] theorem State.committed_freeCtr (s : State) : s.committed.freeCtr = s.freeCtr := rfl
@[simp] theorem State.committed_env (s : State) : s.committed.env = s.env := rfl

/-! ## `State.drawWord` -/

@[simp] theorem State.drawWord_cfg (s : State) : s.drawWord.2.cfg = s.cfg := rfl
@[simp] theorem State.drawWord_regs (s : State) : s.drawWord.2.regs = s.regs := rfl
@[simp] theorem State.drawWord_pc (s : State) : s.drawWord.2.pc = s.pc := rfl
@[simp] theorem State.drawWord_psrs (s : State) : s.drawWord.2.psrs = s.psrs := rfl
@[simp] theorem State.drawWord_cp15 (s : State) : s.drawWord.2.cp15 = s.cp15 := rfl
@[simp] theorem State.drawWord_lockAccess (s : State) : s.drawWord.2.lockAccess = s.lockAccess := rfl
@[simp] theorem State.drawWord_nmrrImplDefined (s : State) : s.drawWord.2.nmrrImplDefined = s.nmrrImplDefined := rfl
@[simp] theorem State.drawWord_remapOld (s : State) : s.drawWord.2.remapOld = s.remapOld := rfl
@[simp] theorem State.drawWord_cpacrOld (s : State) : s.drawWord.2.cpacrOld = s.cpacrOld := rfl
@[simp] theorem State.drawWord_fetchOld (s : State) : s.drawWord.2.fetchOld = s.fetchOld := rfl
@[simp] theorem State.drawWord_tlb (s : State) : s.drawWord.2.tlb = s.tlb := rfl
@[simp] theorem State.drawWord_lockSlots (s : State) : s.drawWord.2.lockSlots = s.lockSlots := rfl
@[simp] theorem State.drawWord_prefetched (s : State) : s.drawWord.2.prefetched = s.prefetched := rfl
@[simp] theorem State.drawWord_icache (s : State) : s.drawWord.2.icache = s.icache := rfl
@[simp] theorem State.drawWord_icVictim (s : State) : s.drawWord.2.icVictim = s.icVictim := rfl
@[simp] theorem State.drawWord_dcache (s : State) : s.drawWord.2.dcache = s.dcache := rfl
@[simp] theorem State.drawWord_dcVictim (s : State) : s.drawWord.2.dcVictim = s.dcVictim := rfl
@[simp] theorem State.drawWord_storeBuffer (s : State) : s.drawWord.2.storeBuffer = s.storeBuffer := rfl
@[simp] theorem State.drawWord_monitor (s : State) : s.drawWord.2.monitor = s.monitor := rfl
@[simp] theorem State.drawWord_btac (s : State) : s.drawWord.2.btac = s.btac := rfl
@[simp] theorem State.drawWord_imprecise (s : State) : s.drawWord.2.imprecise = s.imprecise := rfl
@[simp] theorem State.drawWord_inFlight (s : State) : s.drawWord.2.inFlight = s.inFlight := rfl
@[simp] theorem State.drawWord_fiqPin (s : State) : s.drawWord.2.fiqPin = s.fiqPin := rfl
@[simp] theorem State.drawWord_irqSeen (s : State) : s.drawWord.2.irqSeen = s.irqSeen := rfl
@[simp] theorem State.drawWord_fiqSeen (s : State) : s.drawWord.2.fiqSeen = s.fiqSeen := rfl
@[simp] theorem State.drawWord_power (s : State) : s.drawWord.2.power = s.power := rfl
@[simp] theorem State.drawWord_standby (s : State) : s.drawWord.2.standby = s.standby := rfl
@[simp] theorem State.drawWord_stuck (s : State) : s.drawWord.2.stuck = s.stuck := rfl
@[simp] theorem State.drawWord_vfp (s : State) : s.drawWord.2.vfp = s.vfp := rfl
@[simp] theorem State.drawWord_debug (s : State) : s.drawWord.2.dbg = s.dbg := rfl
@[simp] theorem State.drawWord_dev (s : State) : s.drawWord.2.dev = s.dev := rfl
@[simp] theorem State.drawWord_mem (s : State) : s.drawWord.2.mem = s.mem := rfl
@[simp] theorem State.drawWord_freeCtr (s : State) : s.drawWord.2.freeCtr = s.freeCtr + 1 := rfl
@[simp] theorem State.drawWord_env (s : State) : s.drawWord.2.env = s.env := rfl

/-! ## `State.drawBool` -/

@[simp] theorem State.drawBool_cfg (s : State) : s.drawBool.2.cfg = s.cfg := rfl
@[simp] theorem State.drawBool_regs (s : State) : s.drawBool.2.regs = s.regs := rfl
@[simp] theorem State.drawBool_pc (s : State) : s.drawBool.2.pc = s.pc := rfl
@[simp] theorem State.drawBool_psrs (s : State) : s.drawBool.2.psrs = s.psrs := rfl
@[simp] theorem State.drawBool_cp15 (s : State) : s.drawBool.2.cp15 = s.cp15 := rfl
@[simp] theorem State.drawBool_lockAccess (s : State) : s.drawBool.2.lockAccess = s.lockAccess := rfl
@[simp] theorem State.drawBool_nmrrImplDefined (s : State) : s.drawBool.2.nmrrImplDefined = s.nmrrImplDefined := rfl
@[simp] theorem State.drawBool_remapOld (s : State) : s.drawBool.2.remapOld = s.remapOld := rfl
@[simp] theorem State.drawBool_cpacrOld (s : State) : s.drawBool.2.cpacrOld = s.cpacrOld := rfl
@[simp] theorem State.drawBool_fetchOld (s : State) : s.drawBool.2.fetchOld = s.fetchOld := rfl
@[simp] theorem State.drawBool_tlb (s : State) : s.drawBool.2.tlb = s.tlb := rfl
@[simp] theorem State.drawBool_lockSlots (s : State) : s.drawBool.2.lockSlots = s.lockSlots := rfl
@[simp] theorem State.drawBool_prefetched (s : State) : s.drawBool.2.prefetched = s.prefetched := rfl
@[simp] theorem State.drawBool_icache (s : State) : s.drawBool.2.icache = s.icache := rfl
@[simp] theorem State.drawBool_icVictim (s : State) : s.drawBool.2.icVictim = s.icVictim := rfl
@[simp] theorem State.drawBool_dcache (s : State) : s.drawBool.2.dcache = s.dcache := rfl
@[simp] theorem State.drawBool_dcVictim (s : State) : s.drawBool.2.dcVictim = s.dcVictim := rfl
@[simp] theorem State.drawBool_storeBuffer (s : State) : s.drawBool.2.storeBuffer = s.storeBuffer := rfl
@[simp] theorem State.drawBool_monitor (s : State) : s.drawBool.2.monitor = s.monitor := rfl
@[simp] theorem State.drawBool_btac (s : State) : s.drawBool.2.btac = s.btac := rfl
@[simp] theorem State.drawBool_imprecise (s : State) : s.drawBool.2.imprecise = s.imprecise := rfl
@[simp] theorem State.drawBool_inFlight (s : State) : s.drawBool.2.inFlight = s.inFlight := rfl
@[simp] theorem State.drawBool_fiqPin (s : State) : s.drawBool.2.fiqPin = s.fiqPin := rfl
@[simp] theorem State.drawBool_irqSeen (s : State) : s.drawBool.2.irqSeen = s.irqSeen := rfl
@[simp] theorem State.drawBool_fiqSeen (s : State) : s.drawBool.2.fiqSeen = s.fiqSeen := rfl
@[simp] theorem State.drawBool_power (s : State) : s.drawBool.2.power = s.power := rfl
@[simp] theorem State.drawBool_standby (s : State) : s.drawBool.2.standby = s.standby := rfl
@[simp] theorem State.drawBool_stuck (s : State) : s.drawBool.2.stuck = s.stuck := rfl
@[simp] theorem State.drawBool_vfp (s : State) : s.drawBool.2.vfp = s.vfp := rfl
@[simp] theorem State.drawBool_debug (s : State) : s.drawBool.2.dbg = s.dbg := rfl
@[simp] theorem State.drawBool_dev (s : State) : s.drawBool.2.dev = s.dev := rfl
@[simp] theorem State.drawBool_mem (s : State) : s.drawBool.2.mem = s.mem := rfl
@[simp] theorem State.drawBool_freeCtr (s : State) : s.drawBool.2.freeCtr = s.freeCtr + 1 := rfl
@[simp] theorem State.drawBool_env (s : State) : s.drawBool.2.env = s.env := rfl

end Sys2Proof.Machine
end

