-- ==== Sys2Proof/Laws/MemoryOnly.lean ====
section
/-!
SUPPORT. What the shared operations of the memory system can do: everything outside the memory system is as before, and
memory stays canonical. The proofs about loads, stores, fetches and maintenance cite these and unfold nothing.
-/

namespace Sys2Proof.Machine

/-! ## The relation -/

theorem MemoryOnly.refl (s : State) : MemoryOnly s s := ⟨rfl, id⟩

theorem MemoryOnly.trans {s t u : State} (h : MemoryOnly s t) (k : MemoryOnly t u) : MemoryOnly s u :=
  ⟨k.1.trans h.1, fun x => k.2 (h.2 x)⟩

/-- A change that leaves memory itself alone. -/
theorem MemoryOnly.of_mem {s t : State} (h : t.outsideMemory = s.outsideMemory) (hm : t.mem = s.mem) : MemoryOnly s t :=
  ⟨h, fun x => by unfold State.memCanonical at *; rw [hm]; exact x⟩

section
variable {s t : State} (h : MemoryOnly s t)
include h

theorem MemoryOnly.cfg : t.cfg = s.cfg := by have k := congrArg State.cfg h.1; exact k
theorem MemoryOnly.regs : t.regs = s.regs := by have k := congrArg State.regs h.1; exact k
theorem MemoryOnly.pc : t.pc = s.pc := by have k := congrArg State.pc h.1; exact k
theorem MemoryOnly.psrs : t.psrs = s.psrs := by have k := congrArg State.psrs h.1; exact k
theorem MemoryOnly.cp15 : t.cp15 = s.cp15 := by have k := congrArg State.cp15 h.1; exact k
theorem MemoryOnly.vfp : t.vfp = s.vfp := by have k := congrArg State.vfp h.1; exact k
theorem MemoryOnly.stuck : t.stuck = s.stuck := by have k := congrArg State.stuck h.1; exact k
theorem MemoryOnly.power : t.power = s.power := by have k := congrArg State.power h.1; exact k
theorem MemoryOnly.standby : t.standby = s.standby := by have k := congrArg State.standby h.1; exact k
theorem MemoryOnly.prefetched : t.prefetched = s.prefetched := by have k := congrArg State.prefetched h.1; exact k
theorem MemoryOnly.env : t.env = s.env := by have k := congrArg State.env h.1; exact k
theorem MemoryOnly.dscr : t.dbg.dscr = s.dbg.dscr := by have k := congrArg (fun x => x.dbg.dscr) h.1; exact k
theorem MemoryOnly.halted : t.halted = s.halted := by unfold State.halted; rw [h.dscr]
theorem MemoryOnly.cpsr : t.cpsr = s.cpsr := by unfold State.cpsr; rw [h.psrs]
theorem MemoryOnly.mode : t.mode = s.mode := by unfold State.mode; rw [h.cpsr]
theorem MemoryOnly.bankReg (b : Bank) (n : RegNum) : t.bankReg b n = s.bankReg b n := by
  unfold State.bankReg; simp only [h.regs]
theorem MemoryOnly.readPc : t.readPc = s.readPc := by
  unfold State.readPc State.thumb State.tBit
  rw [h.halted, h.cpsr, h.pc, show t.dbg.debugPc = s.dbg.debugPc from by have k := congrArg (fun x => x.dbg.debugPc) h.1; exact k]
theorem MemoryOnly.reg (n : RegNum) : t.reg n = s.reg n := by
  unfold State.reg State.bank
  rw [h.readPc, h.mode, h.bankReg]

end

/-! ## Results -/

theorem Res.MemoryOnly.bind {α β : Type} {s : State} {r : Res α} {f : α → State → Res β} (h : r.MemoryOnly s)
    (k : ∀ a t, Machine.MemoryOnly s t → (f a t).MemoryOnly s) : (r.bind f).MemoryOnly s := by
  cases r with
  | ok a t => exact k a t h
  | exc x t => exact h
  | fault e => trivial
  | refused e => trivial

theorem Res.MemoryOnly.trans {α : Type} {s t : State} {r : Res α} (h : Machine.MemoryOnly s t) (k : r.MemoryOnly t) :
    r.MemoryOnly s := by
  cases r with
  | ok a u => exact Machine.MemoryOnly.trans h k
  | exc x u => exact Machine.MemoryOnly.trans h k
  | fault e => trivial
  | refused e => trivial

/-! ## Free values -/

theorem MemoryOnly.drawWord (s : State) : MemoryOnly s s.drawWord.2 := ⟨rfl, id⟩
theorem MemoryOnly.drawBool (s : State) : MemoryOnly s s.drawBool.2 := ⟨rfl, id⟩

theorem MemoryOnly.withWord {s : State} {k : Word → State → State} (h : ∀ w, MemoryOnly s.drawWord.2 (k w s.drawWord.2)) :
    MemoryOnly s (withWord s k) := (MemoryOnly.drawWord s).trans (h _)
theorem MemoryOnly.withBool {s : State} {k : Bool → State → State} (h : ∀ b, MemoryOnly s.drawBool.2 (k b s.drawBool.2)) :
    MemoryOnly s (withBool s k) := (MemoryOnly.drawBool s).trans (h _)

/-! ## The private memory region -/

theorem MemoryOnly.setDev (s : State) (d : Devices) : MemoryOnly s (s.setDev d) := ⟨rfl, id⟩

theorem MemoryOnly.ite {α : Type} {s : State} {c : Prop} [Decidable c] {x y : α × State} (hx : MemoryOnly s x.2)
    (hy : MemoryOnly s y.2) : MemoryOnly s (if c then x else y).2 := by
  split
  · exact hx
  · exact hy

theorem MemoryOnly.foldl {α : Type} {f : State → α → State} (hf : ∀ s a, MemoryOnly s (f s a)) :
    ∀ (l : List α) (s : State), MemoryOnly s (l.foldl f s)
  | [], s => MemoryOnly.refl s
  | a :: t, s => (hf s a).trans (MemoryOnly.foldl hf t (f s a))

theorem memoryOnly_scuAdvance (s : State) : MemoryOnly s (scuAdvance s) := by
  unfold scuAdvance
  split
  · apply MemoryOnly.foldl
    intro s k
    dsimp only
    split
    · exact MemoryOnly.withWord fun w => MemoryOnly.withBool fun b => MemoryOnly.setDev _ _
    · exact MemoryOnly.refl s
  · exact MemoryOnly.refl s

theorem memoryOnly_irqAckSelected (n : CpuId) (s : State) : MemoryOnly s (irqAckSelected n s).2 := by
  unfold irqAckSelected
  split
  · exact MemoryOnly.refl s
  · split
    · exact MemoryOnly.setDev _ _
    · exact MemoryOnly.refl s

theorem memoryOnly_irqAck (n : CpuId) (s : State) : MemoryOnly s (irqAck n s).2 := by
  unfold irqAck
  split
  · exact memoryOnly_irqAckSelected n s
  · unfold Machine.withBool
    dsimp only
    split
    · exact (MemoryOnly.drawBool s).trans (MemoryOnly.setDev _ _)
    · exact ((MemoryOnly.drawBool s).trans (MemoryOnly.setDev _ _)).trans (memoryOnly_irqAckSelected n _)

theorem memoryOnly_sendSoftwareInterrupt (n : CpuId) (id : Nat) (t : BitVec 4) (s : State) :
    MemoryOnly s (sendSoftwareInterrupt n id t s) := by
  unfold sendSoftwareInterrupt
  dsimp only
  repeat' split
  all_goals exact ⟨rfl, fun h => h⟩

theorem memoryOnly_softwareInterrupt (n : CpuId) (v : Word) (s : State) : MemoryOnly s (softwareInterrupt n v s) := by
  unfold softwareInterrupt
  dsimp only
  repeat' split
  all_goals first
    | exact MemoryOnly.refl s
    | exact memoryOnly_sendSoftwareInterrupt _ _ _ _

theorem memoryOnly_distRead (n : CpuId) (off : Nat) (s : State) : MemoryOnly s (distRead n off s).2 := by
  unfold distRead
  dsimp only
  repeat' refine MemoryOnly.ite ?_ ?_
  all_goals exact ⟨rfl, id⟩

theorem memoryOnly_distWrite (n : CpuId) (off : Nat) (v mask : Word) (s : State) :
    MemoryOnly s (distWrite n off v mask s) := by
  unfold distWrite
  dsimp only
  repeat' split
  all_goals first
    | with_reducible exact MemoryOnly.setDev _ _
    | with_reducible exact MemoryOnly.refl s
    | exact (MemoryOnly.setDev s _).trans (memoryOnly_softwareInterrupt n (v &&& mask) _)

theorem memoryOnly_ifaceRead (n : CpuId) (off : Nat) (s : State) : MemoryOnly s (ifaceRead n off s).2 := by
  unfold ifaceRead
  dsimp only
  repeat' split
  all_goals first | exact MemoryOnly.refl s | exact MemoryOnly.drawWord s | exact memoryOnly_irqAck _ _

theorem memoryOnly_ifaceWrite (n : CpuId) (off : Nat) (v : Word) (s : State) : MemoryOnly s (ifaceWrite n off v s) := by
  unfold ifaceWrite
  dsimp only
  repeat' split
  all_goals exact MemoryOnly.setDev _ _

theorem memoryOnly_timerRead (n : CpuId) (off : Nat) (s : State) : MemoryOnly s (timerRead n off s).2 := by
  unfold timerRead
  dsimp only
  repeat' split
  all_goals exact ⟨rfl, fun h => h⟩

theorem memoryOnly_scuRead (off : Nat) (s : State) : MemoryOnly s (scuRead off s).2 := by
  unfold scuRead
  dsimp only
  repeat' split
  all_goals first | exact MemoryOnly.refl s | exact memoryOnly_scuAdvance s

theorem memoryOnly_scuWrite (off : Nat) (v mask : Word) (s : State) : MemoryOnly s (scuWrite off v mask s) := by
  unfold scuWrite
  dsimp only
  repeat' split
  all_goals first
    | exact (memoryOnly_scuAdvance s).trans (MemoryOnly.setDev _ _)
    | exact memoryOnly_scuAdvance s
    | exact MemoryOnly.setDev _ _

theorem memoryOnly_regionReadWord {n : CpuId} {off : Nat} {s : State} {r : Word × State}
    (h : regionReadWord n off s = some r) : MemoryOnly s r.2 := by
  unfold regionReadWord at h
  split at h
  · rw [← Option.some.inj h]; exact memoryOnly_scuRead _ _
  · rw [← Option.some.inj h]; exact memoryOnly_ifaceRead _ _ _
  · rw [← Option.some.inj h]; exact memoryOnly_timerRead _ _ _
  · rw [← Option.some.inj h]; exact memoryOnly_distRead _ _ _
  · exact absurd h (by simp)

theorem memoryOnly_regionWriteWord {n : CpuId} {off : Nat} {v mask : Word} {s t : State}
    (h : regionWriteWord n off v mask s = some t) : MemoryOnly s t := by
  unfold regionWriteWord at h
  split at h
  · rw [← Option.some.inj h]
    split
    · exact memoryOnly_scuWrite _ _ _ _
    · exact MemoryOnly.refl s
  · rw [← Option.some.inj h]; exact memoryOnly_ifaceWrite _ _ _ _
  · rw [← Option.some.inj h]; exact MemoryOnly.setDev _ _
  · rw [← Option.some.inj h]; exact memoryOnly_distWrite _ _ _ _ _
  · exact absurd h (by simp)

/-- What a read of the region can do. -/
theorem memoryOnly_regionRead {n : CpuId} {off size : Nat} {s t : State} {l : List Byte}
    (h : regionRead n off size s = some (l, t)) : MemoryOnly s t := by
  unfold regionRead at h
  obtain ⟨r, hr, e⟩ := Option.map_eq_some_iff.mp h
  cases e
  exact memoryOnly_regionReadWord hr

/-- What a write of the region can do. -/
theorem memoryOnly_regionWrite {n : CpuId} {off : Nat} {bytes : List Byte} {s t : State}
    (h : regionWrite n off bytes s = some t) : MemoryOnly s t := memoryOnly_regionWriteWord h

/-! ## Bus, caches and store buffer -/

theorem memoryOnly_raiseImprecise (a : ImpreciseAbort) (s : State) : MemoryOnly s (raiseImprecise a s) := by
  unfold raiseImprecise
  refine MemoryOnly.withBool fun b => ?_
  split <;> exact ⟨rfl, id⟩

theorem memoryOnly_busResponse (s : State) : MemoryOnly s (busResponse s) := by
  unfold busResponse
  split
  · exact MemoryOnly.refl s
  · exact ⟨rfl, id⟩

theorem memoryOnly_setMem (s : State) (pa : Word) (bytes : List Byte) :
    MemoryOnly s (s.setMem (s.mem.writeBytes pa bytes)) := ⟨rfl, fun h => Mem.wf_writeBytes bytes pa h⟩

theorem memoryOnly_busWrite (pa : Word) (bytes : List Byte) (s : State) : MemoryOnly s (busWrite pa bytes s) := by
  unfold busWrite
  split
  · exact memoryOnly_raiseImprecise _ _
  · exact memoryOnly_setMem _ _ _

theorem memoryOnly_setStoreBuffer (s : State) (l : List PendingStore) : MemoryOnly s { s with storeBuffer := l } := ⟨rfl, id⟩
theorem memoryOnly_setMonitor (s : State) (m : Monitor) : MemoryOnly s { s with monitor := m } := ⟨rfl, id⟩
theorem memoryOnly_setLine (s : State) (l : Line) : MemoryOnly s (s.setLine l) := ⟨rfl, id⟩
theorem memoryOnly_dropLine (s : State) (tag : BitVec 27) : MemoryOnly s (s.dropLine tag) := ⟨rfl, id⟩

theorem memoryOnly_openMonitorAt (tag : BitVec 27) (s : State) : MemoryOnly s (openMonitorAt tag s) := by
  unfold openMonitorAt
  split
  · exact MemoryOnly.refl s
  · split
    · exact ⟨rfl, id⟩
    · exact MemoryOnly.refl s

theorem memoryOnly_cleanLine (l : Line) (s : State) : MemoryOnly s (cleanLine l s) := by
  unfold cleanLine
  split
  · exact (memoryOnly_busWrite _ _ _).trans (memoryOnly_setLine _ _)
  · exact MemoryOnly.refl s

theorem memoryOnly_invalidateLine (l : Line) (s : State) : MemoryOnly s (invalidateLine l s) :=
  (memoryOnly_openMonitorAt _ _).trans (memoryOnly_dropLine _ _)

theorem memoryOnly_evictLine (l : Line) (s : State) : MemoryOnly s (evictLine l s) :=
  (memoryOnly_cleanLine _ _).trans (memoryOnly_invalidateLine _ _)

theorem memoryOnly_linefill (tag : BitVec 27) (s : State) : MemoryOnly s (linefill tag s) := by
  unfold linefill
  split
  · exact MemoryOnly.refl s
  · dsimp only
    split
    · exact (memoryOnly_evictLine _ s).trans ⟨rfl, id⟩
    · exact ⟨rfl, id⟩

theorem memoryOnly_cacheRead (pa : Word) (n : Nat) (s : State) : MemoryOnly s (cacheRead pa n s).2 := by
  unfold cacheRead
  dsimp only
  split
  · exact MemoryOnly.refl s
  · split
    · exact MemoryOnly.refl s
    · exact memoryOnly_linefill _ _

theorem memoryOnly_cacheWrite (pa : Word) (bytes : List Byte) (s : State) : MemoryOnly s (cacheWrite pa bytes s) := by
  unfold cacheWrite
  dsimp only
  have fill : MemoryOnly s (match s.dline (lineTag pa) with
      | some _ => s
      | none => linefill (lineTag pa) s) := by
    split
    · exact MemoryOnly.refl s
    · exact memoryOnly_linefill _ _
  split
  · exact fill.trans (memoryOnly_setLine _ _)
  · split
    · exact fill.trans (memoryOnly_raiseImprecise _ _)
    · exact fill

theorem memoryOnly_retire (e : PendingStore) (s : State) : MemoryOnly s (retire e s) := by
  unfold retire
  split
  · split
    · exact memoryOnly_regionWrite ‹_›
    · exact memoryOnly_raiseImprecise _ _
  · split
    · exact memoryOnly_cacheWrite _ _ _
    · exact memoryOnly_busWrite _ _ _

theorem memoryOnly_retireAll : ∀ (l : List PendingStore) (s : State), MemoryOnly s (retireAll l s)
  | [], s => MemoryOnly.refl s
  | e :: t, s => (memoryOnly_retire e s).trans (memoryOnly_retireAll t _)

theorem memoryOnly_drainAll (s : State) : MemoryOnly s (drainAll s) :=
  (memoryOnly_setStoreBuffer s []).trans (memoryOnly_retireAll _ _)

theorem memoryOnly_drainStore (k : Nat) (s : State) : MemoryOnly s (drainStore k s) := by
  unfold drainStore
  split
  · exact MemoryOnly.refl s
  · split
    · exact MemoryOnly.refl s
    · exact (memoryOnly_setStoreBuffer s _).trans (memoryOnly_retire _ _)

theorem memoryOnly_makeRoom (e : PendingStore) : ∀ (n : Nat) (s : State), MemoryOnly s (makeRoom e n s)
  | 0, s => MemoryOnly.refl s
  | n + 1, s => by
    unfold makeRoom
    split
    · exact MemoryOnly.refl s
    · split
      · exact MemoryOnly.refl s
      · exact ((memoryOnly_setStoreBuffer s _).trans (memoryOnly_retire _ _)).trans
          (memoryOnly_makeRoom e n _)

theorem memoryOnly_bufferStore (e : PendingStore) (s : State) : MemoryOnly s (bufferStore e s) :=
  (memoryOnly_makeRoom e _ s).trans (memoryOnly_setStoreBuffer _ _)

theorem memoryOnly_dsb (s : State) : MemoryOnly s (dsb s) := (memoryOnly_drainAll s).trans (memoryOnly_busResponse _)
theorem memoryOnly_dmb (s : State) : MemoryOnly s (dmb s) := memoryOnly_drainAll s

theorem memoryOnly_instrRead (mva pa : Word) (n : Nat) (c : Bool) (s : State) : MemoryOnly s (instrRead mva pa n c s).2 := by
  unfold instrRead
  dsimp only
  repeat' split
  all_goals exact MemoryOnly.refl s

theorem memoryOnly_yieldLine (tag : BitVec 27) (s : State) : MemoryOnly s (yieldLine s tag) := by
  unfold yieldLine
  split
  · exact memoryOnly_evictLine _ _
  · exact memoryOnly_openMonitorAt _ _

/-- Changes that only the memory system sees, made one after the other. -/
theorem memoryOnly_foldl {α : Type} (f : State → α → State) (h : ∀ s a, MemoryOnly s (f s a)) :
    ∀ (l : List α) (s : State), MemoryOnly s (l.foldl f s)
  | [], s => MemoryOnly.refl s
  | a :: t, s => (h s a).trans (memoryOnly_foldl f h t _)

theorem memoryOnly_otherCpuWrite (pa : Word) (bytes : List Byte) (s : State) : MemoryOnly s (otherCpuWrite pa bytes s) := by
  unfold otherCpuWrite
  exact (memoryOnly_foldl _ (fun s tag => memoryOnly_yieldLine tag s) _ s).trans (memoryOnly_setMem _ _ _)

theorem memoryOnly_otherCpuPlainWrite (pa : Word) (bytes : List Byte) (s : State) :
    MemoryOnly s (otherCpuPlainWrite pa bytes s) := by
  unfold otherCpuPlainWrite
  exact (memoryOnly_foldl _ (fun s tag => memoryOnly_openMonitorAt tag s) _ s).trans (memoryOnly_setMem _ _ _)

theorem memoryOnly_snoopLine (pa : Word) (s : State) : MemoryOnly s (snoopLine pa s) := by
  unfold snoopLine
  split
  · exact memoryOnly_cleanLine _ _
  · exact MemoryOnly.refl s

/-! ## Translation -/

theorem memoryOnly_physWord (pa : Word) (s : State) : MemoryOnly s (physWord pa s).2 := by
  unfold physWord
  split
  · split
    · exact MemoryOnly.refl s
    · exact memoryOnly_regionRead ‹_›
  · split <;> exact MemoryOnly.refl s

theorem memoryOnly_of_physWord {pa : Word} {s t : State} {r : Except BusError Word} (h : physWord pa s = (r, t)) :
    MemoryOnly s t := by
  have k := memoryOnly_physWord pa s
  rw [h] at k
  exact k

theorem memoryOnly_walk (k : TlbControls) (mva : Word) (s : State) : MemoryOnly s (walk k mva s).2 := by
  unfold walk
  have h := memoryOnly_physWord (firstLevelAddress s mva) s
  split
  · next x => rw [x] at h; exact h
  · next x =>
    rw [x] at h
    split
    · exact h
    · dsimp only
      split
      · next y => exact h.trans (memoryOnly_of_physWord y)
      · next y => split <;> exact h.trans (memoryOnly_of_physWord y)
    · exact h

theorem memoryOnly_setLockSlot (s : State) (k : BitVec 3) (x : LockSlot) : MemoryOnly s (s.setLockSlot k x) := ⟨rfl, id⟩

theorem memoryOnly_tlbFill (e : TlbEntry) (s : State) : MemoryOnly s (tlbFill e s) := by
  unfold tlbFill
  repeat' split
  all_goals exact ⟨rfl, id⟩

theorem memoryOnly_drawEntry : ∀ (e : TlbEntry) (l : List TlbEntry) (s : State), MemoryOnly s (drawEntry e l s).2
  | _, [], s => MemoryOnly.refl s
  | _, x :: t, s => by
    unfold drawEntry Machine.withBool
    dsimp only
    split
    · exact (MemoryOnly.drawBool s).trans (memoryOnly_drawEntry x t _)
    · exact MemoryOnly.drawBool s

theorem memoryOnly_tlbEntryFor (k : TlbControls) (mva : Word) (s : State) : MemoryOnly s (tlbEntryFor k mva s).2 := by
  unfold tlbEntryFor
  split
  · have h := memoryOnly_walk k mva s
    split
    · next x => rw [x] at h; exact h
    · next x =>
      rw [x] at h
      dsimp only
      split
      · exact h
      · exact h.trans (memoryOnly_tlbFill _ _)
  · exact memoryOnly_drawEntry _ _ _

theorem memoryOnly_drawOlder {α : Type} [DecidableEq α] (cur : α) :
    ∀ (l : List α) (s : State), MemoryOnly s (drawOlder cur l s).2
  | [], s => MemoryOnly.refl s
  | x :: t, s => by
    unfold drawOlder
    split
    · exact memoryOnly_drawOlder cur t s
    · unfold Machine.withBool
      dsimp only
      split
      · exact MemoryOnly.drawBool s
      · exact (MemoryOnly.drawBool s).trans (memoryOnly_drawOlder cur t _)

theorem memoryOnly_drawControls (s : State) : MemoryOnly s (drawControls s).2 :=
  ((((memoryOnly_drawOlder _ _ s).trans (memoryOnly_drawOlder _ _ _)).trans (memoryOnly_drawOlder _ _ _)).trans
    (memoryOnly_drawOlder _ _ _)).trans (memoryOnly_drawOlder _ _ _)

/-- What a translation can do. -/
theorem memoryOnly_translate (p : Purpose) (user aligned : Bool) (mva : Word) (s : State) :
    MemoryOnly s (translate p user aligned mva s).2 := by
  unfold translate
  dsimp only
  have d := memoryOnly_drawControls s
  split
  · have h := d.trans (memoryOnly_tlbEntryFor (drawControls s).1 mva (drawControls s).2)
    split
    · next x => rw [x] at h; exact h
    · next x =>
      rw [x] at h
      repeat' split
      all_goals exact h
  · repeat' split
    all_goals exact d

theorem memoryOnly_translateMaintenance (mva : Word) (s : State) : MemoryOnly s (translateMaintenance mva s).2 := by
  unfold translateMaintenance
  split
  · dsimp only
    have h := (memoryOnly_drawControls s).trans (memoryOnly_tlbEntryFor (drawControls s).1 mva (drawControls s).2)
    split
    · next x => rw [x] at h; exact h
    · next x => rw [x] at h; exact h
  · exact MemoryOnly.refl s

/-! ## Debug comparisons -/

theorem memoryOnly_resolve (x : Option Bool) (s : State) : MemoryOnly s (resolve x s).2 := by
  unfold resolve
  split
  · exact MemoryOnly.refl s
  · exact MemoryOnly.drawBool s

theorem memoryOnly_fetchHits (iva : Word) (size : Nat) (priv : Bool) (s : State) : MemoryOnly s (fetchHits iva size priv s).2 :=
  (memoryOnly_resolve _ s).trans (memoryOnly_resolve _ _)

theorem memoryOnly_watchAccess (dva : Word) (size : Nat) (load store priv : Bool) (s : State) :
    MemoryOnly s (watchAccess dva size load store priv s) := by
  unfold watchAccess
  split
  · exact MemoryOnly.refl s
  · exact (memoryOnly_resolve _ s).trans ⟨rfl, id⟩

/-! ## Data accesses -/

theorem memoryOnly_alignAccess (t : AccessType) (write : Bool) (va : Word) (s : State) :
    (alignAccess t write va s).MemoryOnly s := by
  unfold alignAccess
  repeat' split
  all_goals first | trivial | exact MemoryOnly.refl s

theorem memoryOnly_loadError (precise : Bool) (e : BusError) (t : Translated) (mva : Word) (n : Nat) (s : State) :
    (loadError precise e t mva n s).MemoryOnly s := by
  unfold loadError
  split
  · exact MemoryOnly.refl s
  · exact (memoryOnly_raiseImprecise _ _).trans (MemoryOnly.drawWord _)

@[simp] theorem bufferHit_nil (pa : Word) (n : Nat) : bufferHit [] pa (n + 1) = none := rfl

/-- A hit in the store buffer answers the newest buffered byte of each address. -/
theorem bufferHit_bytes {l : List PendingStore} : ∀ {n : Nat} {pa : Word} {bs : List Byte}, bufferHit l pa n = some bs →
    bs.length = n ∧ ∀ k, k < n → bufferedByte l (pa + BitVec.ofNat 32 k) = bs[k]?
  | 0, pa, bs, h => by
    obtain rfl : [] = bs := by simpa [bufferHit] using h
    exact ⟨rfl, fun k hk => absurd hk (Nat.not_lt_zero k)⟩
  | n + 1, pa, bs, h => by
    unfold bufferHit at h
    split at h
    · next b t hb ht =>
      obtain rfl : b :: t = bs := by simpa using h
      obtain ⟨hl, hk⟩ := bufferHit_bytes ht
      refine ⟨by simp [hl], fun k h => ?_⟩
      cases k with
      | zero => simpa using hb
      | succ k =>
        rw [BitVec.add_comm, BitVec.ofNat_add, BitVec.add_assoc, BitVec.add_comm (BitVec.ofNat 32 k), BitVec.add_comm 1#32 pa]
        simpa using hk k (by omega)
    · cases h

theorem memoryOnly_readPhys (m : AccessMode) (t : Translated) (mva : Word) (n : Nat) (s : State) :
    (readPhys m t mva n s).MemoryOnly s := by
  unfold readPhys
  split
  · split
    · trivial
    · dsimp only
      split
      · exact (memoryOnly_drainAll s).trans (memoryOnly_regionRead ‹_›)
      · exact memoryOnly_drainAll s
  · split
    · have d : MemoryOnly s (if m.locked then drainAll s else s) := by
        split
        · exact memoryOnly_drainAll s
        · exact MemoryOnly.refl s
      have h := memoryOnly_cacheRead t.pa n (if m.locked then drainAll s else s)
      dsimp only
      split
      · exact d
      · split
        · next x => rw [x] at h; exact d.trans h
        · next x => rw [x] at h; exact Res.MemoryOnly.trans (d.trans h) (memoryOnly_loadError _ _ _ _ _ _)
    · dsimp only
      split
      · exact Res.MemoryOnly.trans (memoryOnly_drainAll s) (memoryOnly_loadError _ _ _ _ _ _)
      · exact memoryOnly_drainAll s

theorem memoryOnly_writePhys (m : AccessMode) (t : Translated) (mva : Word) (bytes : List Byte) (s : State) :
    (writePhys m t mva bytes s).MemoryOnly s := by
  unfold writePhys
  dsimp only
  have d := memoryOnly_drainAll s
  split
  · split
    · trivial
    · split
      · split
        · exact d.trans (memoryOnly_regionWrite ‹_›)
        · exact d
      · exact memoryOnly_bufferStore _ _
  split
  · trivial
  · split
    · split
      · exact d.trans (memoryOnly_cacheWrite _ _ _)
      · split
        · exact d
        · exact d.trans (memoryOnly_setMem _ _ _)
    · exact memoryOnly_bufferStore _ _

theorem memoryOnly_dataTranslate (write user aligned : Bool) (va : Word) (s : State) :
    (dataTranslate write user aligned va s).MemoryOnly s := by
  unfold dataTranslate
  dsimp only
  have h := memoryOnly_translate (if write then .write else .read) user aligned (fcse s va) s
  split
  · next x => rw [x] at h; exact h
  · next x => rw [x] at h; exact h
  · trivial

theorem memoryOnly_readSplit (m : AccessMode) : ∀ (n : Nat) (va : Word) (s : State), (readSplit m va n s).MemoryOnly s
  | 0, _, s => MemoryOnly.refl s
  | n + 1, va, s => by
    unfold readSplit
    refine (memoryOnly_dataTranslate _ _ _ _ s).bind fun t u hu => ?_
    refine Res.MemoryOnly.bind (Res.MemoryOnly.trans hu (memoryOnly_readPhys _ _ _ _ u)) fun l v hv => ?_
    refine Res.MemoryOnly.bind (Res.MemoryOnly.trans hv (memoryOnly_readSplit m n _ v)) fun r w hw => ?_
    exact hw

theorem memoryOnly_writeSplit (m : AccessMode) : ∀ (l : List Byte) (va : Word) (s : State), (writeSplit m va l s).MemoryOnly s
  | [], _, s => MemoryOnly.refl s
  | b :: t, va, s => by
    unfold writeSplit
    refine (memoryOnly_dataTranslate _ _ _ _ s).bind fun x u hu => ?_
    refine Res.MemoryOnly.bind (Res.MemoryOnly.trans hu (memoryOnly_writePhys _ _ _ _ u)) fun _ v hv => ?_
    exact Res.MemoryOnly.trans hv (memoryOnly_writeSplit m t _ v)

/-- A change that only the counter of free values keeps. -/
theorem memoryOnly_freeCtr (s : State) (k : Nat) : MemoryOnly s { s with freeCtr := k } := ⟨rfl, id⟩

theorem memoryOnly_partialStore {s0 : State} {r : Res Unit} (h : r.MemoryOnly s0) : (partialStore s0 r).MemoryOnly s0 := by
  cases r with
  | ok a t => exact h
  | exc x t =>
    show MemoryOnly s0 (if _ then _ else _)
    split
    · exact Machine.MemoryOnly.trans h (MemoryOnly.drawBool t)
    · exact memoryOnly_freeCtr s0 _
  | fault e => trivial
  | refused e => trivial

theorem memoryOnly_readAt (m : AccessMode) (n : Nat) (va : Word) (s : State) : (readAt m n va s).MemoryOnly s := by
  unfold readAt
  dsimp only
  have w := memoryOnly_watchAccess va n m.load m.store (!m.user) s
  refine Res.MemoryOnly.bind ?_ fun l t h => h
  refine Res.MemoryOnly.trans w ?_
  split
  · exact (memoryOnly_dataTranslate _ _ _ _ _).bind fun t u hu => Res.MemoryOnly.trans hu (memoryOnly_readPhys _ _ _ _ u)
  · exact memoryOnly_readSplit m n va _

theorem memoryOnly_writeAt (m : AccessMode) (n : Nat) (va v : Word) (s : State) : (writeAt m n va v s).MemoryOnly s := by
  unfold writeAt
  dsimp only
  have w := memoryOnly_watchAccess va n m.load m.store (!m.user) s
  refine Res.MemoryOnly.trans w ?_
  split
  · exact (memoryOnly_dataTranslate _ _ _ _ _).bind fun t u hu => Res.MemoryOnly.trans hu (memoryOnly_writePhys _ _ _ _ u)
  · exact memoryOnly_partialStore (memoryOnly_writeSplit _ _ _ _)

theorem memoryOnly_loadValue (m : AccessMode) (ty : AccessType) (n : Nat) (va : Word) (s : State) :
    (loadValue m ty n va s).MemoryOnly s :=
  (memoryOnly_alignAccess _ _ _ s).bind fun a u hu =>
    Res.MemoryOnly.bind (Res.MemoryOnly.trans hu (memoryOnly_readAt m n a u)) fun _ _ hw => hw

theorem memoryOnly_storeValue (m : AccessMode) (ty : AccessType) (n : Nat) (va v : Word) (s : State) :
    (storeValue m ty n va v s).MemoryOnly s :=
  (memoryOnly_alignAccess _ _ _ s).bind fun a u hu => Res.MemoryOnly.trans hu (memoryOnly_writeAt m n a v u)

theorem memoryOnly_loadWords (m : AccessMode) : ∀ (n : Nat) (va : Word) (s : State), (loadWords m va n s).MemoryOnly s
  | 0, _, s => MemoryOnly.refl s
  | n + 1, va, s =>
    (memoryOnly_readAt m 4 va s).bind fun _ u hu =>
      Res.MemoryOnly.bind (Res.MemoryOnly.trans hu (memoryOnly_loadWords m n _ u)) fun _ _ hw => hw

theorem memoryOnly_storeWords (m : AccessMode) : ∀ (l : List Word) (va : Word) (s : State), (storeWords m va l s).MemoryOnly s
  | [], _, s => MemoryOnly.refl s
  | w :: t, va, s =>
    (memoryOnly_writeAt m 4 va w s).bind fun _ u hu => Res.MemoryOnly.trans hu (memoryOnly_storeWords m t _ u)

theorem memoryOnly_loadMany (m : AccessMode) (ty : AccessType) (va : Word) (n : Nat) (s : State) :
    (loadMany m ty va n s).MemoryOnly s :=
  (memoryOnly_alignAccess _ _ _ s).bind fun a u hu => Res.MemoryOnly.trans hu (memoryOnly_loadWords m n a u)

theorem memoryOnly_storeMany (m : AccessMode) (ty : AccessType) (va : Word) (l : List Word) (s : State) :
    (storeMany m ty va l s).MemoryOnly s :=
  (memoryOnly_alignAccess _ _ _ s).bind fun a u hu =>
    Res.MemoryOnly.trans hu (memoryOnly_partialStore (memoryOnly_storeWords m l a u))

/-! ## Exclusive accesses and fetches -/

theorem memoryOnly_exclusiveRead (m : AccessMode) (t : Translated) (mva : Word) (n : Nat) (s : State) :
    (exclusiveRead m t mva n s).MemoryOnly s := by
  unfold exclusiveRead
  split
  · refine (memoryOnly_readPhys _ _ _ _ s).bind fun l u hu => ?_
    exact Res.MemoryOnly.bind (Res.MemoryOnly.trans hu (memoryOnly_readPhys _ _ _ _ u)) fun _ _ hw => hw
  · exact (memoryOnly_readPhys _ _ _ _ s).bind fun _ _ hw => hw

theorem memoryOnly_exclusiveWrite (m : AccessMode) (n : Nat) : ∀ (l : List Word) (t : Translated) (mva : Word) (s : State),
    (exclusiveWrite m t mva n l s).MemoryOnly s
  | [], _, _, s => MemoryOnly.refl s
  | _ :: r, _, _, s =>
    (memoryOnly_writePhys _ _ _ _ s).bind fun _ u hu => Res.MemoryOnly.trans hu (memoryOnly_exclusiveWrite m n r _ _ u)

theorem memoryOnly_loadExclusive (ty : AccessType) (n : Nat) (va : Word) (s : State) :
    (loadExclusive ty n va s).MemoryOnly s := by
  unfold loadExclusive
  dsimp only
  refine (memoryOnly_alignAccess _ _ _ s).bind fun a u hu => ?_
  have hw := hu.trans (memoryOnly_watchAccess a n true false (!(plainMode s false).user) u)
  refine Res.MemoryOnly.trans hw ?_
  refine (memoryOnly_dataTranslate _ _ _ _ _).bind fun t v hv => ?_
  exact Res.MemoryOnly.trans (hv.trans (memoryOnly_setMonitor _ _)) (memoryOnly_exclusiveRead _ _ _ _ _)

theorem memoryOnly_storeExclusive (ty : AccessType) (n : Nat) (va : Word) (l : List Word) (s : State) :
    (storeExclusive ty n va l s).MemoryOnly s := by
  unfold storeExclusive
  dsimp only
  refine (memoryOnly_alignAccess _ _ _ s).bind fun a u hu => ?_
  have hw := hu.trans (memoryOnly_watchAccess a n false true (!s.userAccess) u)
  refine Res.MemoryOnly.trans hw ?_
  refine (memoryOnly_dataTranslate _ _ _ _ _).bind fun t v hv => ?_
  have hd := Machine.MemoryOnly.trans hv (memoryOnly_drainAll v)
  split
  · refine Res.MemoryOnly.bind (Res.MemoryOnly.trans hd (memoryOnly_partialStore (memoryOnly_exclusiveWrite _ _ _ _ _ _))) fun _ _ hw => ?_
    exact Machine.MemoryOnly.trans hw (memoryOnly_setMonitor _ _)
  · exact Machine.MemoryOnly.trans hd (memoryOnly_setMonitor _ _)

theorem memoryOnly_fetchAt (va : Word) (thumb priv : Bool) (s : State) : MemoryOnly s (fetchAt va thumb priv s).2 := by
  unfold fetchAt
  dsimp only
  have h := memoryOnly_translate .fetch (!priv) true (fcse s va) s
  split
  · next x => rw [x] at h; exact h
  · next x => rw [x] at h; exact h
  · next t u x =>
    rw [x] at h
    split
    · exact h
    · have k := memoryOnly_instrRead (fcse s va) t.pa (if thumb then 2 else 4) (instrCachable u t.attr) u
      split
      · next y => rw [y] at k; exact h.trans k
      · next y => rw [y] at k; exact h.trans k

theorem memoryOnly_fetchWithHits (va : Word) (thumb priv : Bool) (s : State) :
    MemoryOnly s (fetchWithHits va thumb priv s).2 := by
  unfold fetchWithHits
  have h := memoryOnly_fetchAt va thumb priv s
  split
  · next x => rw [x] at h; exact h
  · next x => rw [x] at h; exact h.trans (memoryOnly_fetchHits _ _ _ _)

/-! ## Fetches that may see older settings -/

/-- With no change since the last pipeline flush a fetch sees the current settings (41_cp15_c1_control.md R156). -/
theorem fetchInWindow_closed {s : State} (h : s.fetchOld = []) (va : Word) (thumb priv : Bool) :
    fetchInWindow va thumb priv s = fetchWithHits va thumb priv s := by
  unfold fetchInWindow; rw [h]

/-- What a draw among older values answers: the current value or one of the older ones. -/
theorem drawOlder_mem {α : Type} [DecidableEq α] (cur : α) :
    ∀ (l : List α) (s : State), (drawOlder cur l s).1 = cur ∨ (drawOlder cur l s).1 ∈ l
  | [], _ => Or.inl rfl
  | x :: t, s => by
    unfold drawOlder
    split
    · exact (drawOlder_mem cur t s).imp_right fun h => List.mem_cons_of_mem _ h
    · unfold Machine.withBool
      dsimp only
      split
      · exact Or.inr List.mem_cons_self
      · exact (drawOlder_mem cur t _).imp_right fun h => List.mem_cons_of_mem _ h

/-- A draw among the older values of one part of the views. -/
theorem drawOlder_view {α : Type} [DecidableEq α] (cur : α) (f : FetchView → α) (l : List FetchView) (s : State) :
    (drawOlder cur (l.map f) s).1 = cur ∨ ∃ v ∈ l, (drawOlder cur (l.map f) s).1 = f v := by
  rcases drawOlder_mem cur (l.map f) s with h | h
  · exact Or.inl h
  · obtain ⟨v, hv, e⟩ := List.mem_map.1 h
    exact Or.inr ⟨v, hv, e.symm⟩

/-- Of a register group each register that is drawn is the current one or an older one, and the others are the current ones. -/
theorem drawEach_spec (cur : Vector Word 6) (old : List (Vector Word 6)) : ∀ (l : List Nat) (s : State) (k : Nat) (_ : k < 6),
    (drawEach cur old l s).1[k] = cur[k] ∨ ∃ o ∈ old, (drawEach cur old l s).1[k] = o[k]
  | [], _, _, _ => Or.inl rfl
  | j :: t, s, k, h => by
    unfold drawEach
    dsimp only
    rw [Vector.getElem_setIfInBounds h]
    split
    · next e =>
      subst e
      rcases drawOlder_mem (cur.getD j 0) (old.map (·.getD j 0)) s with d | d
      · exact Or.inl (d.trans (by simp [Vector.getD, h]))
      · obtain ⟨o, ho, e⟩ := List.mem_map.1 d
        exact Or.inr ⟨o, ho, e.symm.trans (by simp [Vector.getD, h])⟩
    · exact drawEach_spec cur old t _ k h

theorem memoryOnly_drawEach (cur : Vector Word 6) (old : List (Vector Word 6)) :
    ∀ (l : List Nat) (s : State), MemoryOnly s (drawEach cur old l s).2
  | [], s => MemoryOnly.refl s
  | _ :: t, _ => (memoryOnly_drawOlder _ _ _).trans (memoryOnly_drawEach cur old t _)

/-- A register of the groups a fetch is compared with. -/
theorem drawEach_view (cur : Vector Word 6) (f : FetchView → Vector Word 6) (l : List FetchView) (r : List Nat) (s : State)
    (k : Nat) (h : k < 6) :
    (drawEach cur (l.map f) r s).1[k] = cur[k] ∨ ∃ v ∈ l, (drawEach cur (l.map f) r s).1[k] = (f v)[k] := by
  rcases drawEach_spec cur (l.map f) r s k h with e | ⟨o, ho, e⟩
  · exact Or.inl e
  · obtain ⟨v, hv, rfl⟩ := List.mem_map.1 ho
    exact Or.inr ⟨v, hv, e⟩

/-- What a fetch sees: each register that changes how memory is accessed or that the fetch is compared with is the current one or
one from before a change since the last pipeline flush, the TLB likewise, and every other register the current one
(41_cp15_c1_control.md R156, 46_cp14_debug.md R307 to R309). -/
theorem drawView_spec (s : State) :
    let v := (drawView s).1
    let seen {α : Type} (cur x : α) (f : FetchView → α) : Prop := x = cur ∨ ∃ o ∈ s.fetchOld, x = f o
    seen s.cp15.control v.cp15.control (·.cp15.control) ∧ seen s.cp15.ttbr0 v.cp15.ttbr0 (·.cp15.ttbr0) ∧
      seen s.cp15.ttbr1 v.cp15.ttbr1 (·.cp15.ttbr1) ∧ seen s.cp15.ttbcr v.cp15.ttbcr (·.cp15.ttbcr) ∧
      seen s.cp15.dacr v.cp15.dacr (·.cp15.dacr) ∧ seen s.cp15.tlbLockdown v.cp15.tlbLockdown (·.cp15.tlbLockdown) ∧
      seen s.cp15.fcsePid v.cp15.fcsePid (·.cp15.fcsePid) ∧ seen s.cp15.contextId v.cp15.contextId (·.cp15.contextId) ∧
      seen (s.tlb, s.lockSlots) (v.tlb, v.lockSlots) (fun o => (o.tlb, o.lockSlots)) ∧ seen s.dbg.vcr v.vcr (·.vcr) ∧
      (∀ k (_ : k < 6), seen s.dbg.bvr[k] v.bvr[k] (·.bvr[k]) ∧ seen s.dbg.bcr[k] v.bcr[k] (·.bcr[k])) ∧
      v.cp15 = { s.cp15 with
        control := v.cp15.control, ttbr0 := v.cp15.ttbr0, ttbr1 := v.cp15.ttbr1, ttbcr := v.cp15.ttbcr, dacr := v.cp15.dacr
        tlbLockdown := v.cp15.tlbLockdown, fcsePid := v.cp15.fcsePid, contextId := v.cp15.contextId } :=
  ⟨drawOlder_view _ _ _ _, drawOlder_view _ _ _ _, drawOlder_view _ _ _ _, drawOlder_view _ _ _ _, drawOlder_view _ _ _ _,
    drawOlder_view _ _ _ _, drawOlder_view _ _ _ _, drawOlder_view _ _ _ _,
    drawOlder_view _ (fun o => (o.tlb, o.lockSlots)) _ _, drawOlder_view _ _ _ _,
    fun k h => ⟨drawEach_view _ _ _ _ _ k h, drawEach_view _ _ _ _ _ k h⟩, rfl⟩

theorem memoryOnly_drawView (s : State) : MemoryOnly s (drawView s).2 := by
  unfold drawView
  dsimp only
  exact (memoryOnly_drawOlder _ _ s).trans <| (memoryOnly_drawOlder _ _ _).trans <| (memoryOnly_drawOlder _ _ _).trans <|
    (memoryOnly_drawOlder _ _ _).trans <| (memoryOnly_drawOlder _ _ _).trans <| (memoryOnly_drawOlder _ _ _).trans <|
    (memoryOnly_drawOlder _ _ _).trans <| (memoryOnly_drawOlder _ _ _).trans <| (memoryOnly_drawOlder _ _ _).trans <|
    (memoryOnly_drawOlder _ _ _).trans <| (memoryOnly_drawEach _ _ _ _).trans (memoryOnly_drawEach _ _ _ _)

/-- A fetch made with other CP15 and debug registers, which are then put back, has seen only a change of the memory system. -/
theorem MemoryOnly.putBack {s t u : State} {v : FetchView} {l' : List TlbEntry} {k' : Vector LockSlot 8} (h : MemoryOnly s t)
    (g : MemoryOnly (t.seenBy v) u) : MemoryOnly s { u with cp15 := s.cp15, dbg := s.dbg, tlb := l', lockSlots := k' } := by
  refine ⟨?_, fun m => g.2 (h.2 m)⟩
  have e : ({ u with cp15 := s.cp15, dbg := s.dbg, tlb := l', lockSlots := k' } : State).outsideMemory =
      { u.outsideMemory with cp15 := s.cp15, dbg := { s.dbg with watchHit := false } } := rfl
  have f : (t.seenBy v).outsideMemory =
      { t.outsideMemory with cp15 := v.cp15, dbg := { t.outsideMemory.dbg with vcr := v.vcr, bvr := v.bvr, bcr := v.bcr } } := rfl
  rw [e, g.1, f, h.1]
  rfl

theorem memoryOnly_fetchInWindow (va : Word) (thumb priv : Bool) (s : State) :
    MemoryOnly s (fetchInWindow va thumb priv s).2 := by
  unfold fetchInWindow
  split
  · exact memoryOnly_fetchWithHits va thumb priv s
  · exact (memoryOnly_drawView s).putBack (memoryOnly_fetchWithHits va thumb priv _)

/-! ## What the shared operations of exceptions and debug state can do -/

/-- After a Prefetch Abort that is no debug event only the WFAR may hold something else. -/
theorem openWfar_spec (s : State) :
    ∃ w, openWfar s = { s with cp15 := { s.cp15 with wfar := w }, freeCtr := s.freeCtr + 2 } := ⟨_, rfl⟩

/-- No asynchronous exception is due exactly when no interrupt is taken and no imprecise abort is pending unmasked. -/
theorem dueException_none (s : State) :
    dueException s = none ↔ fiqTaken s = false ∧ irqTaken s = false ∧ (s.imprecise = none ∨ s.aBit = true) := by
  unfold dueException
  cases fiqTaken s <;> cases irqTaken s <;> cases s.imprecise <;> cases s.aBit <;> simp

/-- Only what a read of the PC returns in debug state may change, and that it does so. -/
theorem freshDebugPc_spec (wrote : Bool) (s : State) :
    ∃ touched pc n, freshDebugPc wrote s = { s with dbg := { s.dbg with touched := touched, debugPc := pc }, freeCtr := n } := by
  unfold freshDebugPc
  split
  · exact ⟨_, _, _, rfl⟩
  · exact ⟨_, _, _, rfl⟩

end Sys2Proof.Machine
end

