-- ==== Sys2Proof/Tests/Slice0.lean ====
section
/-!
SUPPORT. Tests, each a named theorem checked by the kernel: the checks of WellFormed, the decoding of every row's word as
spec/opcode_table.json writes it, single steps whose results the vectors of spec/95_test_vectors.md and
spec/96_test_vectors_derived.md (or the cited rules) give, and for every obligation with hypotheses a state and operands that meet
them.
-/

namespace Sys2Proof.Tests

open Sys2Proof Sys2Proof.Machine

noncomputable section

set_option Elab.async false

/-! ## WellFormed refuses what has no encoding of its own -/

/-- A condition field of b1111 (30_encoding.md R111). -/
theorem test_illFormedCondition : (Instr.andImm 15 false 1 0 0 0xFF).wellFormed = false := by decide +kernel

/-- A CP15 access of a listed row is not an unlisted one (30_encoding.md R116, R118). -/
theorem test_illFormedCp15Unlisted : (Instr.cp15Unlisted 14 0 true 0 0 0 0).wellFormed = false := by decide +kernel

/-- A CP14 register row (46_cp14_debug.md R301) and an MCRR or MRRC pattern are not the catch-all row of CP14. -/
theorem test_illFormedCp14Other :
    (Instr.cp14Other 14 0b10000100000000 0b00010000).wellFormed = false ∧
      (Instr.cp14Other 14 0b11000000000000 0).wellFormed = false := by decide +kernel

/-- MRC DSCR with r15 is the row of its own that moves to the flags (46_cp14_debug.md R314). -/
theorem test_illFormedDscrFlags : (Instr.mrcDscr 14 15).wellFormed = false := by decide +kernel

/-- FMRX FPSCR with r15 is FMSTAT (48_vfp.md R789). -/
theorem test_illFormedFmstat : (Instr.fmrx 14 1 15).wellFormed = false := by decide +kernel

/-- An MSR immediate with an empty mask and a small immediate is a hint (47_core_instructions.md R703). -/
theorem test_illFormedHint : (Instr.msrImm 14 false 0 0 3).wellFormed = false := by decide +kernel

/-- A load multiple with P set and no writeback is FLDS, and one in the MRRC space is FMRRD (48_vfp.md R786, R787). -/
theorem test_illFormedFldm :
    (Instr.fldm 14 true true false false 1 0 false 1).wellFormed = false ∧
      (Instr.fldm 14 false false true false 1 0 true 0x11).wellFormed = false ∧
      (Instr.fstm 14 true false false false 1 0 true 4).wellFormed = false := by decide +kernel

/-! ## Decoding: one word for every row, its fields as the table's encoding places them -/

/-- The decoder reads each code as the instruction beside it, which is well formed. -/
def decodesAll (l : List (Code × Instr)) : Bool := l.all fun x => decode x.1 == .ok x.2 && x.2.wellFormed

theorem test_decodeCp15Identification : decodesAll [
    (.arm 0xEE107F10, .mrcMainId 14 7), (.arm 0xEE102F30, .mrcCacheType 14 2), (.arm 0xBE102F70, .mrcTlbType 11 2),
    (.arm 0xBE101FB0, .mrcCpuId 11 1), (.arm 0xBE104F11, .mrcIdPfr0 11 4), (.arm 0xEE107F31, .mrcIdPfr1 14 7),
    (.arm 0xEE104F51, .mrcIdDfr0 14 4), (.arm 0xBE107F71, .mrcIdReserved13 11 7), (.arm 0xBE102F91, .mrcIdMmfr0 11 2),
    (.arm 0xBE101FB1, .mrcIdMmfr1 11 1), (.arm 0xBE107FD1, .mrcIdMmfr2 11 7), (.arm 0xEE101FF1, .mrcIdMmfr3 14 1),
    (.arm 0xEE105F12, .mrcIdIsar0 14 5), (.arm 0xEE109F32, .mrcIdIsar1 14 9), (.arm 0xBE105F52, .mrcIdIsar2 11 5),
    (.arm 0xEE102F72, .mrcIdIsar3 14 2), (.arm 0xBE10BF92, .mrcIdIsar4 11 11), (.arm 0xEE102FB2, .mrcIdReserved25 14 2),
    (.arm 0xEE10AFD2, .mrcIdReserved26 14 10), (.arm 0xBE104FF2, .mrcIdReserved27 11 4),
    (.arm 0xBE107F50, .mrcC0Unlisted2 11 7), (.arm 0xEE108F90, .mrcC0Unlisted4 14 8),
    (.arm 0x0E106FD0, .mrcC0Unlisted6 0 6), (.arm 0xEE10DFF0, .mrcC0Unlisted7 14 13), (.arm 0xEE002FB5, .mcrC0 14 2 5 5)] = true := by
  decide +kernel

theorem test_decodeCp15Control : decodesAll [
    (.arm 0x0E11FF10, .mrcControl 0 15), (.arm 0x0E015F10, .mcrControl 0 5), (.arm 0xEE112F30, .mrcAuxControl 14 2),
    (.arm 0x0E013F30, .mcrAuxControl 0 3), (.arm 0xEE113F50, .mrcCpacr 14 3), (.arm 0x0E017F50, .mcrCpacr 0 7),
    (.arm 0xEE12DF10, .mrcTtbr0 14 13), (.arm 0xBE02DF10, .mcrTtbr0 11 13), (.arm 0xEE126F30, .mrcTtbr1 14 6),
    (.arm 0xEE02AF30, .mcrTtbr1 14 10), (.arm 0xBE12DF50, .mrcTtbcr 11 13), (.arm 0xEE02EF50, .mcrTtbcr 14 14),
    (.arm 0xEE138F10, .mrcDacr 14 8), (.arm 0xEE031F10, .mcrDacr 14 1), (.arm 0xEE15BF10, .mrcDfsr 14 11),
    (.arm 0x0E055F10, .mcrDfsr 0 5), (.arm 0x0E15FF30, .mrcIfsr 0 15), (.arm 0xEE051F30, .mcrIfsr 14 1),
    (.arm 0xEE163F10, .mrcFar 14 3), (.arm 0xEE068F10, .mcrFar 14 8)] = true := by
  decide +kernel

theorem test_decodeCp15Cache : decodesAll [
    (.arm 0xEE16DF30, .mrcWfar 14 13), (.arm 0xEE06CF30, .mcrWfar 14 12), (.arm 0x0E077F90, .mcrWaitForInterrupt 0 7),
    (.arm 0x0E172F14, .mrcPa 0 2), (.arm 0x0E077F15, .mcrInvalidateICache 0 7),
    (.arm 0xEE07FF35, .mcrInvalidateICacheMva 14 15), (.arm 0x0E07EF55, .mcrInvalidateICacheIndex 0 14),
    (.arm 0xEE07CF95, .mcrFlushPrefetchBuffer 14 12), (.arm 0xEE07BFD5, .mcrFlushBtac 14 11),
    (.arm 0x0E074FF5, .mcrFlushBtacEntry 0 4), (.arm 0xEE073F16, .mcrInvalidateDCache 14 3),
    (.arm 0xEE07BF36, .mcrInvalidateDCacheMva 14 11), (.arm 0xEE078F56, .mcrInvalidateDCacheIndex 14 8),
    (.arm 0xBE073F17, .mcrInvalidateBothCaches 11 3), (.arm 0xEE071F18, .mcrVaToPaPrivRead 14 1),
    (.arm 0x0E079F38, .mcrVaToPaPrivWrite 0 9), (.arm 0xBE07AF58, .mcrVaToPaUserRead 11 10),
    (.arm 0xEE07CF78, .mcrVaToPaUserWrite 14 12), (.arm 0xBE07AF1A, .mcrCleanDCache 11 10),
    (.arm 0xEE078F3A, .mcrCleanDCacheMva 14 8), (.arm 0xBE077F5A, .mcrCleanDCacheIndex 11 7),
    (.arm 0x0E077F9A, .mcrDsb 0 7), (.arm 0x0E07BFBA, .mcrDmb 0 11), (.arm 0xEE074F1E, .mcrCleanInvDCache 14 4),
    (.arm 0xEE078F3E, .mcrCleanInvDCacheMva 14 8)] = true := by
  decide +kernel

theorem test_decodeCp15Tlb : decodesAll [
    (.arm 0xEE076F5E, .mcrCleanInvDCacheIndex 14 6), (.arm 0xEE082F15, .mcrInvalidateITlb 14 2),
    (.arm 0xBE083F35, .mcrInvalidateITlbEntry 11 3), (.arm 0xEE086F55, .mcrInvalidateITlbAsid 14 6),
    (.arm 0xEE082F75, .mcrInvalidateITlbMva 14 2), (.arm 0xEE08AF16, .mcrInvalidateDTlb 14 10),
    (.arm 0xEE08BF36, .mcrInvalidateDTlbEntry 14 11), (.arm 0xEE08AF56, .mcrInvalidateDTlbAsid 14 10),
    (.arm 0x0E082F76, .mcrInvalidateDTlbMva 0 2), (.arm 0x0E088F17, .mcrInvalidateUTlb 0 8),
    (.arm 0x0E085F37, .mcrInvalidateUTlbEntry 0 5), (.arm 0xEE082F57, .mcrInvalidateUTlbAsid 14 2),
    (.arm 0xEE08CF77, .mcrInvalidateUTlbMva 14 12), (.arm 0x0E19EF10, .mrcDCacheLockdown 0 14),
    (.arm 0xEE099F10, .mcrDCacheLockdown 14 9), (.arm 0xEE1A9F10, .mrcTlbLockdown 14 9),
    (.arm 0xEE0ACF10, .mcrTlbLockdown 14 12), (.arm 0xEE1ADF12, .mrcPrrr 14 13), (.arm 0xEE0ABF12, .mcrPrrr 14 11),
    (.arm 0xEE1ACF32, .mrcNmrr 14 12), (.arm 0xEE0A9F32, .mcrNmrr 14 9), (.arm 0xEE1D6F10, .mrcFcsePid 14 6),
    (.arm 0xEE0D9F10, .mcrFcsePid 14 9), (.arm 0xBE1D6F30, .mrcContextId 11 6), (.arm 0xEE0DAF30, .mcrContextId 14 10)] = true := by
  decide +kernel

theorem test_decodeCp15Process1 : decodesAll [
    (.arm 0xEE1DDF50, .mrcThreadIdUrw 14 13), (.arm 0x0E0DCF50, .mcrThreadIdUrw 0 12),
    (.arm 0xEE1D4F70, .mrcThreadIdUro 14 4), (.arm 0x0E0D6F70, .mcrThreadIdUro 0 6),
    (.arm 0xEE1D1F90, .mrcThreadIdPrw 14 1), (.arm 0xEE0D8F90, .mcrThreadIdPrw 14 8), (.arm 0xEE1FCF1C, .mrcPmnc 14 12),
    (.arm 0xEE0F8F1C, .mcrPmnc 14 8), (.arm 0xEE1F6F3C, .mrcCcnt 14 6), (.arm 0xEE0F2F3C, .mcrCcnt 14 2),
    (.arm 0x0E1F4F5C, .mrcPmn0 0 4), (.arm 0xEE0F8F5C, .mcrPmn0 14 8), (.arm 0xBE1FEF7C, .mrcPmn1 11 14),
    (.arm 0x0E0FFF7C, .mcrPmn1 0 15), (.arm 0xEEAFDF54, .mcrTlbLockIndexRead 14 13),
    (.arm 0xEEAFEF94, .mcrTlbLockIndexWrite 14 14), (.arm 0xEEBFFF55, .mrcTlbLockVa 14 15),
    (.arm 0xEEAF8F55, .mcrTlbLockVa 14 8), (.arm 0xEEBF7F56, .mrcTlbLockPa 14 7), (.arm 0xEEAF2F56, .mcrTlbLockPa 14 2),
    (.arm 0x0EBF8F57, .mrcTlbLockAttr 0 8), (.arm 0xEEAFCF57, .mcrTlbLockAttr 14 12),
    (.arm 0xEEFF3F11, .mrcTlbDebugControl 14 3), (.arm 0xEEEFAF11, .mcrTlbDebugControl 14 10),
    (.arm 0x0EFEBF73, .cp15Unlisted 0 7 true 14 11 3 3)] = true := by
  decide +kernel

theorem test_decodeCp15Process2 : decodesAll [
    (.arm 0xBE311FEC, .cdpP15 11 3 1 1 7 12), (.arm 0xEDCE4FD4, .ldcStcP15 14 true true true false false 14 4 0xd4)] = true := by
  decide +kernel

theorem test_decodeDebugRegisters1 : decodesAll [
    (.arm 0xEE101E10, .mrcDidr 14 1), (.arm 0xEE105E11, .mrcDscr 14 5), (.arm 0xEE00DE11, .mcrDscr 14 13),
    (.arm 0xEE105E15, .mrcDtr 14 5), (.arm 0x0E00EE15, .mcrDtr 0 14), (.arm 0xEE10FE17, .mrcVcr 14 15),
    (.arm 0xEE00FE17, .mcrVcr 14 15), (.arm 0xBE10EE90, .mrcBvr0 11 14), (.arm 0xBE007E90, .mcrBvr0 11 7),
    (.arm 0xBE103E91, .mrcBvr1 11 3), (.arm 0xEE009E91, .mcrBvr1 14 9), (.arm 0xEE10EE92, .mrcBvr2 14 14),
    (.arm 0xEE00AE92, .mcrBvr2 14 10), (.arm 0xEE103E93, .mrcBvr3 14 3), (.arm 0x0E00AE93, .mcrBvr3 0 10),
    (.arm 0xEE109E94, .mrcBvr4 14 9), (.arm 0xEE00BE94, .mcrBvr4 14 11), (.arm 0xBE109E95, .mrcBvr5 11 9),
    (.arm 0xEE00FE95, .mcrBvr5 14 15), (.arm 0xEE104EB0, .mrcBcr0 14 4), (.arm 0xEE001EB0, .mcrBcr0 14 1),
    (.arm 0xEE109EB1, .mrcBcr1 14 9), (.arm 0xBE001EB1, .mcrBcr1 11 1), (.arm 0xEE108EB2, .mrcBcr2 14 8),
    (.arm 0xBE009EB2, .mcrBcr2 11 9)] = true := by
  decide +kernel

theorem test_decodeDebugRegisters2 : decodesAll [
    (.arm 0xBE104EB3, .mrcBcr3 11 4), (.arm 0xEE008EB3, .mcrBcr3 14 8), (.arm 0xBE10DEB4, .mrcBcr4 11 13),
    (.arm 0xBE004EB4, .mcrBcr4 11 4), (.arm 0xBE10FEB5, .mrcBcr5 11 15), (.arm 0xEE00FEB5, .mcrBcr5 14 15),
    (.arm 0xEE10EED0, .mrcWvr0 14 14), (.arm 0xEE007ED0, .mcrWvr0 14 7), (.arm 0x0E108ED1, .mrcWvr1 0 8),
    (.arm 0xEE00BED1, .mcrWvr1 14 11), (.arm 0x0E102EF0, .mrcWcr0 0 2), (.arm 0xEE00DEF0, .mcrWcr0 14 13),
    (.arm 0xEE10CEF1, .mrcWcr1 14 12), (.arm 0xEE003EF1, .mcrWcr1 14 3), (.arm 0xEE10FE11, .mrcDscrFlags 14),
    (.arm 0xED975EE3, .ldcDtr 14 true true false 7 0xe3), (.arm 0xEDA45E2A, .stcDtr 14 true true true 4 0x2a),
    (.arm 0x0DF9FE84, .cp14Other 0 0x1f9f 0x84)] = true := by
  decide +kernel

theorem test_decodeSystem1 : decodesAll [
    (.arm 0xE320F000, .nop 14), (.arm 0xE320F001, .yield 14), (.arm 0xE320F002, .wfe 14), (.arm 0xE320F003, .wfi 14),
    (.arm 0xE320F004, .sev 14), (.arm 0xF1010200, .setend true), (.thumb 0xB650, .setendThumb false),
    (.arm 0xE10F6000, .mrs 14 false 6), (.arm 0xB129F002, .msrReg 11 false 9 2), (.arm 0xE36FF21E, .msrImm 14 true 15 2 30),
    (.arm 0xF84D051D, .srs false false false 29), (.arm 0xF91D0A00, .rfe true false false 13),
    (.arm 0xF10600D6, .cps 1 true false true true 22), (.thumb 0xB674, .cpsThumb true true false false),
    (.arm 0xB19F9F9F, .ldrex 11 15 9), (.arm 0x018C6F92, .strex 0 12 6 2), (.arm 0xE1BDCF9F, .ldrexd 14 13 12),
    (.arm 0x01AF2F95, .strexd 0 15 2 5), (.arm 0xE1DD5F9F, .ldrexb 14 13 5), (.arm 0xB1CE4F92, .strexb 11 14 4 2),
    (.arm 0xE1F81F9F, .ldrexh 14 8 1), (.arm 0xB1E7FF9F, .strexh 11 7 15 15), (.arm 0xF57FF01F, .clrex),
    (.arm 0xB1031099, .swp 11 3 1 9), (.arm 0xE1423095, .swpb 14 2 3 5)] = true := by
  decide +kernel

theorem test_decodeSystem2 : decodesAll [
    (.arm 0xEF33A716, .swi 14 0x33a716), (.thumb 0xDFEF, .swiThumb 0xef), (.arm 0xE124FE7B, .bkpt 0x4fe 11),
    (.thumb 0xBE4F, .bkptThumb 0x4f)] = true := by
  decide +kernel

theorem test_decodeDataProcessing1 : decodesAll [
    (.arm 0xE2089B2E, .andImm 14 false 8 9 11 0x2e), (.arm 0xE0115121, .andShiftImm 14 true 1 5 2 1 1),
    (.arm 0xB014983F, .andShiftReg 11 true 4 9 8 1 15), (.arm 0xE23EB7A9, .eorImm 14 true 14 11 7 0xa9),
    (.arm 0xB03F78CC, .eorShiftImm 11 true 15 7 17 2 12), (.arm 0xE024EF7C, .eorShiftReg 14 false 4 14 15 3 12),
    (.arm 0xE2461E22, .subImm 14 false 6 1 14 0x22), (.arm 0xE05CF4C3, .subShiftImm 14 true 12 15 9 2 3),
    (.arm 0xE05E7E7B, .subShiftReg 14 true 14 7 14 3 11), (.arm 0xB26C5176, .rsbImm 11 false 12 5 1 0x76),
    (.arm 0xE06814C6, .rsbShiftImm 14 false 8 1 9 2 6), (.arm 0xE061F536, .rsbShiftReg 14 false 1 15 5 1 6),
    (.arm 0xE2872848, .addImm 14 false 7 2 8 0x48), (.arm 0xE089D0A5, .addShiftImm 14 false 9 13 1 1 5),
    (.arm 0xE087A151, .addShiftReg 14 false 7 10 1 2 1), (.arm 0xE2B42AF6, .adcImm 14 true 4 2 10 0xf6),
    (.arm 0xE0BFCD67, .adcShiftImm 14 true 15 12 26 3 7), (.arm 0xE0B8357A, .adcShiftReg 14 true 8 3 5 3 10),
    (.arm 0xE2CEECE5, .sbcImm 14 false 14 14 12 0xe5), (.arm 0x00DCD8AF, .sbcShiftImm 0 true 12 13 17 1 15),
    (.arm 0xB0DEED3E, .sbcShiftReg 11 true 14 14 13 1 14), (.arm 0xB2FFCBF5, .rscImm 11 true 15 12 11 0xf5),
    (.arm 0xE0E112E6, .rscShiftImm 14 false 1 1 5 3 6), (.arm 0x00F89171, .rscShiftReg 0 true 8 9 1 3 1),
    (.arm 0xB31B4844, .tstImm 11 11 4 8 0x44)] = true := by
  decide +kernel

theorem test_decodeDataProcessing2 : decodesAll [
    (.arm 0x011D2C6F, .tstShiftImm 0 13 2 24 3 15), (.arm 0xE11B927C, .tstShiftReg 14 11 9 2 3 12),
    (.arm 0xE33D2E44, .teqImm 14 13 2 14 0x44), (.arm 0xE134CAC8, .teqShiftImm 14 4 12 21 2 8),
    (.arm 0x01328F75, .teqShiftReg 0 2 8 15 3 5), (.arm 0xE35ABB33, .cmpImm 14 10 11 11 0x33),
    (.arm 0xB15364EC, .cmpShiftImm 11 3 6 9 3 12), (.arm 0xE15AA338, .cmpShiftReg 14 10 10 3 1 8),
    (.arm 0x0375B2B2, .cmnImm 0 5 11 2 0xb2), (.arm 0x0175C8C8, .cmnShiftImm 0 5 12 17 2 8),
    (.arm 0x017D2F74, .cmnShiftReg 0 13 2 15 3 4), (.arm 0xE3981576, .orrImm 14 true 8 1 5 0x76),
    (.arm 0xB19856AF, .orrShiftImm 11 true 8 5 13 1 15), (.arm 0xE18A2379, .orrShiftReg 14 false 10 2 3 3 9),
    (.arm 0xE3AAEB83, .movImm 14 false 10 14 11 0x83), (.arm 0xE1B64847, .movShiftImm 14 true 6 4 16 2 7),
    (.arm 0xE1A8B855, .movShiftReg 14 false 8 11 8 2 5), (.arm 0xE3C6761F, .bicImm 14 false 6 7 6 31),
    (.arm 0xE1C6D5C2, .bicShiftImm 14 false 6 13 11 2 2), (.arm 0xE1D1FC55, .bicShiftReg 14 true 1 15 12 2 5),
    (.arm 0xE3E7EA14, .mvnImm 14 false 7 14 10 20), (.arm 0x01F5E142, .mvnShiftImm 0 true 5 14 2 2 2),
    (.arm 0xE1FF3457, .mvnShiftReg 14 true 15 3 4 2 7)] = true := by
  decide +kernel

theorem test_decodeBranchesLoadsStores1 : decodesAll [
    (.arm 0xEA3099F3, .b 14 0x3099f3), (.arm 0xEBC8FF1D, .bl 14 0xc8ff1d), (.arm 0xE12FFF1D, .bx 14 13),
    (.arm 0x012FFF3F, .blxReg 0 15), (.arm 0xB12FFF29, .bxj 11 9), (.arm 0xFAB835E9, .blxImm false 0xb835e9),
    (.arm 0xE598AC0B, .ldrImm 14 true true false 8 10 0xc0b), (.arm 0xE63F92A8, .ldrReg 14 false false true 15 9 5 1 8),
    (.arm 0xE40CCF9F, .strImm 14 false false false 12 12 0xf9f), (.arm 0xE6858967, .strReg 14 false true false 5 8 18 3 7),
    (.arm 0xE5549E7F, .ldrbImm 14 true false false 4 9 0xe7f), (.arm 0x075F6CC7, .ldrbReg 0 true false false 15 6 25 2 7),
    (.arm 0xB44368E5, .strbImm 11 false false false 3 6 0x8e5),
    (.arm 0xE64DA3AC, .strbReg 14 false false false 13 10 7 1 12), (.arm 0x006947B5, .strhImm 0 false false true 9 4 7 5),
    (.arm 0xE02630BB, .strhReg 14 false false true 6 3 11), (.arm 0xB1FE42B5, .ldrhImm 11 true true true 14 4 2 5),
    (.arm 0xE03870B5, .ldrhReg 14 false false true 8 7 5), (.arm 0xE05CDFDD, .ldrsbImm 14 false false false 12 13 15 13),
    (.arm 0xB017F0DF, .ldrsbReg 11 false false false 7 15 15), (.arm 0xB1784DF2, .ldrshImm 11 true false true 8 4 13 2),
    (.arm 0xE0BB20FE, .ldrshReg 14 false true true 11 2 14), (.arm 0x00E11DD3, .ldrdImm 0 false true true 1 1 13 3),
    (.arm 0xB12C50D3, .ldrdReg 11 true false true 12 5 3), (.arm 0xE1CCD2F2, .strdImm 14 true true false 12 13 2 2)] = true := by
  decide +kernel

theorem test_decodeBranchesLoadsStores2 : decodesAll [
    (.arm 0xE1A470F5, .strdReg 14 true true true 4 7 5), (.arm 0xB8584753, .ldm 11 false false true false 8 0x4753),
    (.arm 0xE8A4077F, .stm 14 false true false true 4 0x77f), (.arm 0xE0010498, .mul 14 false 1 4 8),
    (.arm 0x00254B97, .mla 0 false 5 4 11 7), (.arm 0xE16F4F18, .clz 14 4 8)] = true := by
  decide +kernel

theorem test_decodeVfp : decodesAll [
    (.arm 0xEE0C7A10, .fmsr 14 12 7 false), (.arm 0x0E141A90, .fmrs 0 4 1 true), (.arm 0xBE024B10, .fmdlr 11 2 4),
    (.arm 0xEE25DB10, .fmdhr 14 5 13), (.arm 0xEE148B10, .fmrdl 14 4 8), (.arm 0xEE3DFB10, .fmrdh 14 13 15),
    (.arm 0xEEEA8A10, .fmxr 14 10 8), (.arm 0xEEFF4A10, .fmrx 14 15 4), (.arm 0x0EF1FA10, .fmstat 0),
    (.arm 0xEC4A3B1F, .fmdrr 14 10 3 15), (.arm 0xEC541B1A, .fmrrd 14 4 1 10), (.arm 0x0C41CA13, .fmsrr 0 1 12 false 3),
    (.arm 0x0C5FCA36, .fmrrs 0 15 12 true 6), (.arm 0xED9F3A55, .flds 14 true false 15 3 0x55),
    (.arm 0xEDC9CA78, .fsts 14 true true 9 12 0x78), (.arm 0xED9C7BD7, .fldd 14 true 12 7 0xd7),
    (.arm 0xED032B01, .fstd 14 false 3 2 1), (.arm 0xEC3F2BF7, .fldm 14 false false false true 15 2 true 0xf7),
    (.arm 0xEC65EB6F, .fstm 14 false false true true 5 14 true 0x6f), (.arm 0xEEC84AAF, .vfpData 14 12 8 4 false 5 15)] = true := by
  decide +kernel

theorem test_decodeDbgtap : decodesAll [
    (.dbgtap 0b00000, .dbgtapExtest), (.dbgtap 0b00010, .dbgtapScanN), (.dbgtap 0b00100, .dbgtapRestart),
    (.dbgtap 0b01000, .dbgtapHalt), (.dbgtap 0b01100, .dbgtapIntest), (.dbgtap 0b11101, .dbgtapItrsel),
    (.dbgtap 0b11110, .dbgtapIdcode), (.dbgtap 0b11111, .dbgtapBypass)] = true := by
  decide +kernel

/-- Reserved encodings do not fall through to a neighbour: r15 of MRC p13, MRC2, a halfword of Thumb code that is in no row, a
multiply long (30_encoding.md R110, R115, 47_core_instructions.md R700). -/
theorem test_decodeRejects :
    (decode (.arm 0xEE100D10) matches .error _) ∧ (decode (.arm 0xFE110F10) matches .error _) ∧
      (decode (.thumb 0x2001) matches .error _) ∧ (decode (.arm 0xE0810392) matches .error _) := by decide +kernel

/-! ## Steps

The machine of a vector: the instruction stands at 0x8000, the MMU is off, and the registers named hold the values named. -/

/-- A machine with a CPSR and registers of its mode. -/
def core (cpsr : Word) (rs : List (RegNum × Word)) : State :=
  rs.foldl (fun s x => s.setReg x.1 x.2)
    { State.reset with pc := 0x8000, psrs := { State.reset.psrs with cpsr := cpsr } }

/-- The same with the Control Register set: U = 1, or A = 1 as well. -/
def withControl (c : Word) (s : State) : State := { s with cp15 := { s.cp15 with control := c } }
def withSpsr (b : Bank) (v : Word) (s : State) : State := s.setSpsr b v
def withBytes (a : Word) (l : List Byte) (s : State) : State := { s with mem := s.mem.writeBytes a l }

/-- What `f` reads in the state after a step that runs one ARM word or one Thumb halfword. -/
def ran (w : Nat) (s : State) (f : State → List Word) : Option (List Word) :=
  match step (s.withFetchWord (if s.tBit then 16 else 32) w) with
  | .next t => some (f t)
  | _ => none

/-- Whether that step is refused with a reason. -/
def refuses (w : Nat) (s : State) (r : Refusal) : Bool :=
  match step (s.withFetchWord 32 w) with
  | .refused q => q == r
  | _ => false

/-- Registers and the flags N, Z, C, V. -/
def r (n : RegNum) (t : State) : Word := t.reg n
def nzcv (t : State) : Word := t.cpsr >>> 28

/-- 96_test_vectors_derived.md 2.9, vectors 1 to 5. -/
theorem test_addSubCompare :
    ran 0xE0900000 (core 0x13 [(0, 0x80000000)]) (fun t => [r 0 t, nzcv t]) = some [0, 0b0111] ∧
    ran 0xE2900001 (core 0x13 [(0, 0x7FFFFFFF)]) (fun t => [r 0 t, nzcv t]) = some [0x80000000, 0b1001] ∧
    ran 0xE2500001 (core 0x13 []) (fun t => [r 0 t, nzcv t]) = some [0xFFFFFFFF, 0b1000] ∧
    ran 0xE3500000 (core 0x13 []) (fun t => [nzcv t]) = some [0b0110] ∧
    ran 0xE3500001 (core 0x13 [(0, 0x80000000)]) (fun t => [r 0 t, nzcv t]) = some [0x80000000, 0b0011] := by
  decide +kernel

/-- Vectors 6 to 13. -/
theorem test_logicShiftMultiply :
    ran 0xE2A11000 (core 0x20000013 [(1, 0xFFFFFFFF)]) (fun t => [r 1 t, nzcv t]) = some [0, 0b0010] ∧
    ran 0xE1B00E01 (core 0x10000013 [(1, 0xF0)]) (fun t => [r 0 t, nzcv t]) = some [0, 0b0111] ∧
    ran 0xE1B00061 (core 0x13 [(1, 0x80000001)]) (fun t => [r 0 t, nzcv t]) = some [0x40000000, 0b0010] ∧
    ran 0xE3800A01 (core 0x13 [(0, 0x12345678)]) (fun t => [r 0 t]) = some [0x12345678] ∧
    ran 0xE3E00000 (core 0x13 []) (fun t => [r 0 t]) = some [0xFFFFFFFF] ∧
    ran 0xE16F0F11 (core 0x13 [(1, 0x00010000)]) (fun t => [r 0 t]) = some [15] ∧
    ran 0xE16F0F11 (core 0x13 []) (fun t => [r 0 t]) = some [32] ∧
    ran 0xE0000291 (core 0x13 [(1, 0x10000), (2, 0x10000)]) (fun t => [r 0 t]) = some [0] ∧
    ran 0xE0203291 (core 0x13 [(1, 3), (2, 5), (3, 7)]) (fun t => [r 0 t]) = some [22] := by
  decide +kernel

/-- Vectors 14 to 17. -/
theorem test_branches :
    ran 0xEB000002 (core 0x13 []) (fun t => [r 14 t, t.pc]) = some [0x8004, 0x8010] ∧
    ran 0x1AFFFFFA (core 0x13 []) (fun t => [t.pc]) = some [0x7FF0] ∧
    ran 0xE12FFF1E (core 0x13 [(14, 0x9001)]) (fun t => [t.pc, t.cpsr]) = some [0x9000, 0x33] ∧
    refuses 0xE12FFF1E (core 0x13 [(14, 0x9002)]) .misalignedPc = true := by
  decide +kernel

/-- The bytes 11 22 33 44 55 66 77 88 at 0x1000, and r1 an address. -/
def bytes1000 (cpsr control a : Word) : State :=
  withControl control (withBytes 0x1000 [0x11, 0x22, 0x33, 0x44, 0x55, 0x66, 0x77, 0x88] (core cpsr [(1, a)]))

/-- Vectors 18 to 22, and 15 of 2.14: byte order, rotation, true unaligned access, the alignment abort, the refusal. -/
theorem test_loads :
    ran 0xE5910000 (bytes1000 0x13 0x54078 0x1000) (fun t => [r 0 t]) = some [0x44332211] ∧
    ran 0xE5910000 (bytes1000 0x213 0x454078 0x1000) (fun t => [r 0 t]) = some [0x11223344] ∧
    ran 0xE5910000 (bytes1000 0x13 0x54078 0x1001) (fun t => [r 0 t]) = some [0x11443322] ∧
    ran 0xE5910000 (bytes1000 0x13 0x5407A 0x1001) (fun t => [t.cp15.far, r 14 t, t.pc]) =
      some [0x1001, 0x8008, 0x10] ∧
    refuses 0xE1D100B0 (bytes1000 0x13 0x54078 0x1001) .unalignedHalfword = true := by
  decide +kernel

/-- Vector 23: the extensions. -/
theorem test_halfwordLoads :
    let s := withBytes 0x1000 [0x80, 0xFF] (core 0x13 [(1, 0x1000)])
    ran 0xE1D100B0 s (fun t => [r 0 t]) = some [0x0000FF80] ∧ ran 0xE1D100F0 s (fun t => [r 0 t]) = some [0xFFFFFF80] ∧
      ran 0xE1D100D0 s (fun t => [r 0 t]) = some [0xFFFFFF80] := by
  decide +kernel

/-- Vectors 24 to 26. -/
theorem test_doublewordAndMultiple :
    ran 0xE1C020F0 (core 0x13 [(0, 0x2000), (2, 0x11111111), (3, 0x22222222)]) (fun t => [t.wordAt 0x2000, t.wordAt 0x2004]) =
      some [0x11111111, 0x22222222] ∧
    ran 0xE92D400F (core 0x13 [(13, 0x3000), (0, 1), (1, 2), (2, 3), (3, 4), (14, 0x8008)])
        (fun t => [t.wordAt 0x2FEC, t.wordAt 0x2FF0, t.wordAt 0x2FF8, t.wordAt 0x2FFC, r 13 t]) =
      some [1, 2, 4, 0x8008, 0x2FEC] ∧
    ran 0xE8BD800F (withBytes 0x2FEC [1, 0, 0, 0, 2, 0, 0, 0, 3, 0, 0, 0, 4, 0, 0, 0, 8, 0x80, 0, 0] (core 0x13 [(13, 0x2FEC)]))
        (fun t => [r 0 t, r 3 t, t.pc, r 13 t]) = some [1, 4, 0x8008, 0x3000] := by
  decide +kernel

/-- Vectors 27 to 30: the operations on lanes and their GE flags. -/
theorem test_parallel :
    parallel .sadd16 0x7FFF0001 0x0001FFFF = (0x80000000, 0b1111) ∧
    parallel .usub8 0x01020304 0x02020202 = (0xFF000102, 0b0111) ∧
    select 0b0111 0xAAAAAAAA 0x55555555 = 0x55AAAAAA ∧
    parallel .uadd16 0xFFFF0001 0x00010001 = (0x00000002, 0b1100) := by
  decide +kernel

/-- Vectors 31 to 39. -/
theorem test_statusChanges :
    ran 0xF10C0080 (core 0x13 []) (fun t => [t.cpsr]) = some [0x93] ∧
    ran 0xF10800C0 (core 0xD3 []) (fun t => [t.cpsr]) = some [0x13] ∧
    ran 0xF1020013 (core 0xD2 []) (fun t => [t.cpsr]) = some [0xD3] ∧
    ran 0xF10E01DF (core 0x13 []) (fun t => [t.cpsr]) = some [0x1DF] ∧
    ran 0xF10C0080 (core 0x10 []) (fun t => [t.cpsr]) = some [0x10] ∧
    ran 0xF10C0040 (withControl 0x08054078 (core 0x13 [])) (fun t => [t.cpsr]) = some [0x13] ∧
    ran 0xF1010200 (core 0x10 []) (fun t => [t.cpsr]) = some [0x210] ∧
    ran 0xE321F0D3 (core 0xD2 []) (fun t => [t.cpsr]) = some [0xD3] ∧
    ran 0xE129F000 (core 0x10 [(0, 0xF00000DF)]) (fun t => [t.cpsr]) = some [0xF0000010] := by
  decide +kernel

/-- Vectors 40 to 43. -/
theorem test_returns :
    ran 0xF96D0513 (withSpsr .irq 0x60000010 ((core 0x12 [(14, 0x8010), (13, 0x77)]).setBankReg .svc 13 0x2000))
        (fun t => [t.wordAt 0x1FF8, t.wordAt 0x1FFC, t.bankReg .svc 13, t.bankReg .irq 13]) =
      some [0x8010, 0x60000010, 0x1FF8, 0x77] ∧
    ran 0xF8BD0A00 (withBytes 0x1FF8 [0x10, 0x80, 0, 0, 0x10, 0, 0, 0x60] (core 0x13 [(13, 0x1FF8)]))
        (fun t => [t.pc, t.cpsr, t.bankReg .svc 13]) = some [0x8010, 0x60000010, 0x2000] ∧
    ran 0xE1B0F00E (withSpsr .svc 0x30 (core 0x13 [(14, 0x8008)])) (fun t => [t.cpsr, t.pc]) = some [0x30, 0x8008] ∧
    ran 0xE25EF004 (withSpsr .irq 0x10 (core 0x12 [(14, 0x9008)])) (fun t => [t.pc, t.cpsr]) = some [0x9004, 0x10] := by
  decide +kernel

/-- The word at 0x1000, tagged by LDREX. -/
def tagged (n : Nat) : State :=
  { core 0x13 [(0, 0x1000), (2, 9), (3, 7)] with monitor := if n = 0 then .openAccess else .exclusive 0x1000 n }

/-- Vectors 46, 47, 49 and 52: STREX with the monitor tagged, open, and tagged with another size; LDREX; CLREX. -/
theorem test_exclusives :
    ran 0xE1802F93 (tagged 4) (fun t => [r 2 t, t.wordAt 0x1000]) = some [0, 7] ∧
    ran 0xE1802F93 (tagged 0) (fun t => [r 2 t, t.wordAt 0x1000]) = some [1, 0] ∧
    ran 0xE1802F93 (tagged 1) (fun t => [r 2 t, t.wordAt 0x1000]) = some [1, 0] ∧
    ran 0xE1901F9F (tagged 0) (fun t => [r 1 t, if t.monitor = .exclusive 0x1000 4 then 1 else 0]) = some [0, 1] ∧
    ran 0xF57FF01F (tagged 4) (fun t => [if t.monitor = .openAccess then 1 else 0]) = some [1] := by
  decide +kernel

/-- 96_test_vectors_derived.md 2.11, rows 1 to 4, 11 and 12. -/
theorem test_exceptionEntry :
    let seen (b : Bank) (t : State) : List Word := [t.cpsr, t.bankReg b 14, (t.psrs.spsr b).getD 0, t.pc]
    ran 0xEF000011 (core 0x60000010 []) (seen .svc) = some [0x60000093, 0x8004, 0x60000010, 0x08] ∧
    ran 0xDF11 (core 0x30 []) (seen .svc) = some [0x93, 0x8002, 0x30, 0x08] ∧
    ran 0xEE110F10 (core 0x10 []) (seen .und) = some [0x9B, 0x8004, 0x10, 0x04] ∧
    ran 0xEF000000 (withControl 0x02054078 (core 0x10 [])) (seen .svc) = some [0x293, 0x8004, 0x10, 0x08] ∧
    ran 0xEF000000 (withControl 0x00056078 (core 0x10 [])) (seen .svc) = some [0x93, 0x8004, 0x10, 0xFFFF0008] ∧
    ran 0xE1200070 (core 0x13 []) (fun t => seen .abt t ++ [(fld t.dbg.dscr 2 4 : BitVec 4).setWidth 32]) =
      some [0x197, 0x8004, 0x13, 0x0C, 3] := by
  decide +kernel

/-- Rows 8 to 10 and 15: an interrupt instead of the instruction, and one that is masked. -/
theorem test_interrupts :
    let seen (b : Bank) (t : State) : List Word := [t.cpsr, t.bankReg b 14, t.pc]
    ran 0xE3A00001 { core 0x10 [] with irqSeen := true } (seen .irq) = some [0x192, 0x8004, 0x18] ∧
    ran 0xE3A00001 { core 0x10 [] with fiqSeen := true, irqSeen := true } (seen .fiq) = some [0x1D1, 0x8004, 0x1C] ∧
    ran 0xE3A00001 { core 0x53 [] with irqSeen := true, fiqSeen := true } (seen .irq) = some [0x1D2, 0x8004, 0x18] ∧
    ran 0xE3A00001 { core 0x93 [] with irqSeen := true } (fun t => [t.cpsr, r 0 t, t.pc]) = some [0x93, 1, 0x8004] := by
  decide +kernel

/-- 96_test_vectors_derived.md 2.1 to 2.3 and 2.5: reads and writes of CP15 registers. -/
theorem test_cp15Registers :
    ran 0xEE103F30 (core 0x13 []) (fun t => [r 3 t]) = some [0x1D192992] ∧
    ran 0xEE110F10 (core 0x13 []) (fun t => [r 0 t]) = some [0x00054078] ∧
    ran 0xEE010F10 (core 0x13 [(0, 0xFFFFFFFF)]) (fun t => [t.cp15.control]) = some [0x32C5FB7F] ∧
    ran 0xEE010F30 (core 0x13 [(0, 0xFFFFFFFF)]) (fun t => [t.cp15.auxControl]) = some [0x3F] ∧
    ran 0xEE010F50 (core 0x13 [(0, 0xFFFFFFFF)]) (fun t => [t.cp15.cpacr]) = some [0x00F00000] ∧
    ran 0xEE020F30 (core 0x13 [(0, 0xFFFFFFFF)]) (fun t => [t.cp15.ttbr1]) = some [0xFFFFC01A] ∧
    ran 0xEE050F10 (core 0x13 [(0, 0xFFFFFFFF)]) (fun t => [t.cp15.dfsr]) = some [0x1CFF] ∧
    ran 0xEE090F10 (core 0x13 [(0, 0xB)]) (fun t => [t.cp15.dcacheLockdown]) = some [0xFFFFFFFB] ∧
    ran 0xEE0A0F10 (core 0x13 [(0, 0xFFFFFFFF)]) (fun t => [t.cp15.tlbLockdown]) = some [0x1C000001] ∧
    refuses 0xEE000F10 (core 0x13 []) .cp15ReadOnly = true ∧ refuses 0xEE140F10 (core 0x13 []) .cp15Unlisted = true ∧
    refuses 0xEE11FF10 (core 0x13 []) .cp15R15 = true := by
  decide +kernel

/-- 96_test_vectors_derived.md 2.6, vectors 1, 4, 9 and 13; and a VA to PA translation with the MMU off, where an address is its
own and Strongly Ordered (20_memory.md R52, 43_cp15_c7_cache_ops.md R224). -/
theorem test_cp15Operations :
    ran 0xEE070F18 (core 0x13 [(0, 0x00100400)]) (fun t => [t.cp15.pa]) = some [0x00100100] ∧
    ran 0xEE0D0F10 (core 0x13 [(0, 0xFFFFFFFF)]) (fun t => [t.cp15.fcsePid]) = some [0xFE000000] ∧
    ran 0xEE0D1F50 (core 0x10 [(1, 0xAAAA5555)]) (fun t => [t.cp15.threadUrw]) = some [0xAAAA5555] ∧
    ran 0xEE0F0F1C (core 0x13 [(0, 0xFFFFFFFF)]) (fun t => [t.cp15.pmnc, t.cp15.ccnt]) = some [0x0FFFF079, 0] ∧
    ran 0xEE0F0F5C (core 0x13 [(0, 0x1234)]) (fun t => [t.cp15.pmn0]) = some [0x1234] := by
  decide +kernel

/-- 96_test_vectors_derived.md 2.8, vectors 1, 3, 8, 9, 12 and 13. -/
theorem test_debugRegisters :
    let full := { core 0x13 [(0, 0x2000)] with dbg := { Debug.reset with rdtr := 0x55AA55AA, dscr := 0x40000002 } }
    ran 0xEE100E10 (core 0x10 []) (fun t => [r 0 t]) = some [0x15110004] ∧
    ran 0xEE000E11 (core 0x13 [(0, 0xFFFFFFFF)]) (fun t => [t.dbg.dscr]) = some [0x0000903E] ∧
    ran 0xEE100E15 full (fun t => [r 0 t, t.dbg.dscr]) = some [0x55AA55AA, 2] ∧
    ran 0xEE000E15 (core 0x13 [(0, 0x12345678)]) (fun t => [t.dbg.wdtr, t.dbg.dscr]) = some [0x12345678, 0x20000002] ∧
    ran 0xECB05E01 (withBytes 0x1000 [1, 0, 0xFE, 0xCA] (core 0x13 [(0, 0x1000)]))
        (fun t => [t.dbg.wdtr, t.dbg.dscr, r 0 t]) = some [0xCAFE0001, 0x20000002, 0x1004] ∧
    ran 0xECA05E01 full (fun t => [t.wordAt 0x2000, t.dbg.dscr, r 0 t]) = some [0x55AA55AA, 2, 0x2004] := by
  decide +kernel

/-- A machine whose VFP may be used, with values in D0. -/
def fp (cpsr : Word) (rs : List (RegNum × Word)) (d0 : BitVec 64) : State :=
  let s := core cpsr rs
  { s with cp15 := { s.cp15 with cpacr := 0x00F00000 }, vfp := { s.vfp with fpexc := 0x40000000, fpscr := 0x60000000 } }.setDreg 0 d0

/-- 96_test_vectors_derived.md 2.10. -/
theorem test_vfp :
    ran 0xEE000A10 (fp 0x13 [(0, 0x3F800000)] 0) (fun t => [t.sreg 0]) = some [0x3F800000] ∧
    ran 0xEE102A90 (fp 0x13 [] 0xC000000000000000) (fun t => [r 2 t]) = some [0xC0000000] ∧
    ran 0xEC410B10 (fp 0x13 [(0, 0), (1, 0x3FF00000)] 5) (fun t => [t.sreg 0, t.sreg 1]) = some [0, 0x3FF00000] ∧
    ran 0xED810B00 (fp 0x13 [(1, 0x1000)] 0x3FF0000000000000) (fun t => [t.wordAt 0x1000, t.wordAt 0x1004]) = some [0, 0x3FF00000] ∧
    ran 0xED810B00 (withControl 0x454078 (fp 0x213 [(1, 0x1000)] 0x3FF0000000000000)) (fun t => [(t.byteAt 0x1000).setWidth 32]) =
      some [0x3F] ∧
    ran 0xED810A01 (fp 0x13 [(1, 0x1000)] 0x3F800000) (fun t => [t.wordAt 0x1004]) = some [0x3F800000] ∧
    ran 0xEEF1FA10 (fp 0x13 [] 0) (fun t => [nzcv t, t.pc]) = some [0b0110, 0x8004] ∧
    ran 0xEE000A10 (core 0x13 []) (fun t => [t.cpsr]) = some [0x9B] := by
  decide +kernel

/-- 96_test_vectors_derived.md 2.12, vectors 1, 2, 11, 22, 23, 28 and 31: registers of the private memory region. -/
theorem test_privateRegion :
    let store (off v : Word) (f : State → List Word) := ran 0xE5810000 (core 0x13 [(0, v), (1, 0x10100000 + off)]) f
    let load (off : Word) := ran 0xE5910000 (core 0x13 [(1, 0x10100000 + off)]) (fun t => [r 0 t])
    let timer (t : State) := t.dev.timers.get .cpu0
    store 0x600 3 (fun t => [(timer t).load, (timer t).count]) = some [3, 3] ∧
    store 0x608 0xFFFFFFFF (fun t => [(timer t).control]) = some [0x0000FF07] ∧
    store 0x628 9 (fun t => [(timer t).wdControl]) = some [9] ∧
    load 0x1004 = some [0x61] ∧ load 0x1100 = some [0xFFFF] ∧ load 0x104 = some [0xF0] ∧ load 0x108 = some [3] ∧
    load 0x10C = some [0x3FF] := by
  decide +kernel

/-- RFE from a block at the PC; LDRD with writeback to a base that is its second register (47_core_instructions.md R721, R771). -/
theorem test_baseForms :
    ran 0xF8BF0A00 (withBytes 0x8008 [0x10, 0x90, 0, 0, 0x10, 0, 0, 0x60] (core 0x13 [])) (fun t => [t.pc, t.cpsr]) =
      some [0x9010, 0x60000010] ∧
    ran 0xE1E320D0 (bytes1000 0x13 0x54078 0 |>.setReg 3 0x1000) (fun t => [r 2 t, r 3 t]) = some [0x44332211, 0x88776655] := by
  decide +kernel

/-- A CP14 transfer of r15 is Undefined but for the DSCR's flags (46_cp14_debug.md R301, R314); FMXR of an MVFR changes nothing
(48_vfp.md R782). -/
theorem test_copR15 :
    ran 0xEE00FE15 (core 0x13 []) (fun t => [t.cpsr, t.pc, t.dbg.dscr]) = some [0x9B, 4, 2] ∧
    ran 0xEE10FE10 (core 0x13 []) (fun t => [t.cpsr]) = some [0x9B] ∧
    ran 0xEEE70A10 (fp 0x13 [(0, 5)] 0) (fun t => [t.pc, t.cpsr]) = some [0x8004, 0x13] := by
  decide +kernel

/-- The registers of a lockdown entry are read in order, the PA last (45_cp15_c13_c15.md R268); a change of the PRRR leaves the older
controls open and an equal write does not (44_cp15_c8_c10_tlb.md R239). -/
theorem test_lockdownAndRemap :
    refuses 0xEEBF1F56 { core 0x13 [] with lockAccess := .reading false false } .lockdownOrder = true ∧
    ran 0xEEBF1F56 { core 0x13 [] with lockAccess := .reading true false } (fun t => [if t.lockAccess = .none then 1 else 0]) =
      some [1] ∧
    ran 0xEE0A0F12 (core 0x13 [(0, 1)]) (fun t => [t.cp15.prrr, BitVec.ofNat 32 t.remapOld.length]) = some [1, 1] ∧
    ran 0xEE0A0F12 (core 0x13 [(0, 0x00098AA4)]) (fun t => [BitVec.ofNat 32 t.remapOld.length]) = some [0] := by
  decide +kernel

/-- An imprecise Data Abort sets DSCR[7] (46_cp14_debug.md R304); in debug state it is taken with the A bit set too, and the method of
entry is b0110 (R332). -/
theorem test_impreciseAbort :
    let after (s : State) : Option (List Word) := match step { s with imprecise := some ⟨true, true⟩ } with
      | .next t => some [t.pc, t.cpsr, t.dbg.dscr]
      | _ => none
    after (core 0x13 []) = some [0x10, 0x197, 0x82] ∧
      after ((core 0x113 []).setDscr 3) = some [0x10, 0x197, 0x9B] := by
  decide +kernel

/-- Invalidate TLB and Flush Prefetch Buffer count for each change of the controls by itself: a pair that has seen both is gone, and
a later change does not bring it back (44_cp15_c8_c10_tlb.md R239). -/
theorem test_olderControls :
    let old (i f : Bool) : OlderControls := ⟨(core 0x13 []).tlbControls, i, f⟩
    let s : State := { core 0x13 [] with remapOld := [old false false, old false true, old true false] }
    let flags (t : State) : List Word := t.remapOld.map fun o => flag o.invalidated 1 ||| flag o.flushed 0
    ran 0xEE080F17 s flags = some [2, 2] ∧ ran 0xEE070F95 s flags = some [1, 1] := by
  decide +kernel

/-- A read whose bytes are all buffered hits in the store buffer; an exclusive store that does not store drains it (20_memory.md R90,
D3). -/
theorem test_storeBuffer :
    let e : PendingStore := ⟨0x1000, [1, 2, 3, 4], ⟨.normal, false, 0, 0⟩, false⟩
    bufferHit [e] 0x1001 2 = some [2, 3] ∧ bufferHit [e] 0x1002 4 = none ∧
    ran 0xE1810F92 { core 0x13 [(1, 0x2000)] with storeBuffer := [e] }
      (fun t => [r 0 t, BitVec.ofNat 32 t.storeBuffer.length, t.wordAt 0x1000]) = some [1, 0, 0x04030201] := by
  decide +kernel

/-- PLD has no effect (47_core_instructions.md R730); a word outside the subset only moves on if its condition fails (R702). -/
theorem test_preloadAndConditions :
    ran 0xF5D1F000 (core 0x10 []) (fun t => [t.pc]) = some [0x8004] ∧ ran 0xF751F002 (core 0x10 []) (fun t => [t.pc]) = some [0x8004] ∧
    refuses 0xF751F012 (core 0x10 []) .outsideSubset = true ∧
    ran 0x06000010 (core 0x13 []) (fun t => [t.pc]) = some [0x8004] ∧ refuses 0xE6000010 (core 0x13 []) .outsideSubset = true := by
  decide +kernel

/-- The performance counters count between accesses, if they are enabled: a draw for each and one for the overflow flags
(00_scope.md R17, 45_cp15_c13_c15.md R255, R260). -/
theorem test_pmuCount :
    let s := core 0x13 []
    let draws (s : State) : Option Nat := (applyEvent .pmuCount s).toOption.map (·.freeCtr)
    draws s = some s.freeCtr ∧ draws { s with cp15 := { s.cp15 with pmnc := 1 } } = some (s.freeCtr + 4) := by
  decide +kernel

/-- A prediction is flushed by the address of its branch (43_cp15_c7_cache_ops.md R207); the SCU keeps the tags of CPUs that are not
there (49_private_memory_region.md R404). -/
theorem test_predictionAndTags :
    ran 0xEE070FF5 { core 0x13 [(0, 0x9004)] with btac := [⟨0x9000, 0x100⟩, ⟨0x100, 0x9000⟩] }
      (fun t => t.btac.map (·.branch)) = some [0x100] ∧
    ran 0xE5810000 { core 0x13 [(0, 0xFFFF), (1, 0x1010000C)] with cfg := { Config.default with ncpuMinusOne := 1 } }
      (fun t => [t.dev.scu.staleTags.setWidth 32]) = some [0xFF00] := by
  decide +kernel

/-- A DBGTAP code loads the Instruction Register (46_cp14_debug.md R336). -/
theorem test_dbgtap :
    (match step (State.reset.withFetchWord 8 0b01100) with
      | .next t => some t.dbg.tap.ir
      | _ => none) = some 0b01100#5 := by
  decide +kernel

/-- The word that stands where the next step fetches runs as the first instruction after reset: MOV r0,#1. -/
theorem test_firstInstruction : ran 0xE3A00001 State.reset (fun t => [r 0 t, t.pc]) = some [1, 4] := by decide +kernel

/-! ## Witnesses: for every obligation with hypotheses a state and operands that meet them -/

/-!
ExampleWordsDecode, ResetMeetsInvariants, ResetValues, CpuResetFromAnyState, ShifterOperand, DbgtapInstructions and
GreaterOrEqualFlags have no hypotheses. Obligations of one shape share a witness:

* UserModeConfined, UserModeKeepsSystemRegisters: witness_UserMode. Comparisons: witness_DataProcessing.
* BranchAndLink, BranchExchange: witness_Branches.
* Aborts: witness_Aborts, witness_Aborts_misaligned, witness_Aborts_forms. SingleLoads, SingleStores: witness_SingleTransfers,
  witness_SingleLoads, witness_splits. LoadMultiple, StoreMultiple: witness_Multiples, witness_LoadMultiple.
  SwapsAndExclusiveLoads, ExclusiveStores: witness_SingleLoads, witness_Exclusives.
* HintsAndSetend, StatusRegisterMoves, ChangeProcessorState: witness_HintsAndStatus.
* RegisterReads, RegisterWrites, InstructionCacheOperations, PerformanceMonitor: witness_RegisterTransfers.
  DataCacheOperations, DataCacheLineOperations: witness_DataCache. TlbOperations, LockdownEntries: witness_Tlb.
* DebugTransfers: witness_DebugRegisters, witness_DebugTransfers. VfpTransfers: witness_Vfp. VfpLoadsAndStores,
  RunFastDataProcessing: witness_Vfp, witness_VfpLoadsAndStores, witness_doubles.
* DebugEvents: witness_DebugEvents_bkpt and the witnesses after it. SectionTranslation: also witness_tables, witness_sections, witness_entries.
-/

/-- A step or an instruction that gives a next state. -/
def goes (o : Host.Outcome State Fault Refusal) : Bool :=
  match o with
  | .next _ => true
  | _ => false

theorem exists_of_goes {o : Host.Outcome State Fault Refusal} (h : goes o = true) : ∃ t, o = .next t := by
  cases o with
  | next t => exact ⟨t, rfl⟩
  | fault e => exact nomatch h
  | refused e => exact nomatch h

/-- MOV r0,#1 at 0x8000, in Supervisor and in User mode. -/
def ready (cpsr : Word) : State := (core cpsr [(1, 0x1000), (2, 0x2000)]).withFetchWord 32 0xE3A00001

theorem witness_DecodeOfEncode : (Instr.andImm 14 false 1 0 0 0xFF).wellFormed = true := by decide +kernel

theorem witness_EncodeOfDecode :
    decode (.arm 0xE20100FF) = .ok (.andImm 14 false 1 0 0 0xFF) ∧ (∀ x, Code.arm 0xE20100FF ≠ .dbgtap x) ∧
      decode (.dbgtap 0b00001) = .ok .dbgtapBypass :=
  ⟨by decide +kernel, fun _ h => (nomatch h), by decide +kernel⟩

theorem undisturbed_ready : (ready 0x13).undisturbed ∧ (ready 0x10).undisturbed := by
  unfold State.undisturbed
  decide +kernel

theorem witness_StepRunsDecoded :
    (ready 0x13).undisturbed ∧ (ready 0x13).jBit = false ∧ ∃ t h,
      fetchNext (ready 0x13).clearWatch = (.ok (.bits 0xE3A00001, h), t) ∧ commitEvent h t = none ∧
        decode (codeOf t 0xE3A00001) = .ok (.movImm 14 false 0 0 0 1) :=
  ⟨undisturbed_ready.1, by decide +kernel, (ready 0x13).clearWatch, ⟨false, false, false, false⟩, by decide +kernel, rfl,
    by decide +kernel⟩

theorem witness_StepRunsMemory :
    let s := ready 0x13
    s.undisturbed ∧ s.jBit = false ∧ s.prefetched = [] ∧ s.fetchOld = [] ∧ s.ctlM = false ∧ s.ctlI = false ∧
      s.ctlTexRemap = false ∧ s.remapOld = [] ∧ fld s.cp15.fcsePid 25 7 = 0#7 ∧ s.ordinary s.pc 4 ∧ (∀ k (_ : k < 6), bitAt s.dbg.bcr[k] 0 = false) ∧
      s.debugMode = .disabled ∧
      decode (if s.tBit then .thumb (s.byteAt (s.pc + 1) ++ s.byteAt s.pc)
        else .arm (s.byteAt (s.pc + 3) ++ s.byteAt (s.pc + 2) ++ s.byteAt (s.pc + 1) ++ s.byteAt s.pc)) =
          .ok (.movImm 14 false 0 0 0 1) := by
  refine ⟨undisturbed_ready.1, ?_⟩
  unfold State.ordinary
  decide +kernel

/-- A machine in debug state. -/
def halted (s : State) : State := s.setDscr (s.dbg.dscr ||| 1)

theorem witness_FailedConditionAdvances :
    (Instr.movImm 0 false 0 0 0 1).condition = some 0 ∧ (core 0x13 []).passes 0 = false ∧ (core 0x13 []).halted = false ∧
      (Instr.bx 0 1).condition = some 0 ∧ (halted (core 0x13 [])).halted = true ∧ (halted (core 0x13 [])).passes 0 = false ∧
      (decode (.arm 0x06000010) matches .error (.outsideSubset 0)) ∧ (decode (.arm 0x0E000010) matches .error (.absentCoprocessor 0)) ∧
      (decode (.arm 0x0EEA8A90) matches .error (.vfpUnlisted 0)) ∧
      (let w : Word := 0xF7D1F002;
        fld w 26 6 = 0x3D#6 ∧ bitAt w 24 = true ∧ fld w 20 3 = 5#3 ∧ fld w 12 4 = 0xF#4 ∧ bitAt w 4 = false) := by
  decide +kernel

theorem witness_MemoryStaysCanonical : (ready 0x13).memCanonical ∧ ∃ t, step (ready 0x13) = .next t :=
  ⟨by unfold State.memCanonical; decide +kernel, exists_of_goes (by decide +kernel)⟩

theorem witness_ModeStaysLegal : (ready 0x13).modeLegal ∧ ∃ t, step (ready 0x13) = .next t :=
  ⟨by unfold State.modeLegal; decide +kernel, exists_of_goes (by decide +kernel)⟩

theorem witness_ReservedBitsStayFixed :
    let s := ready 0x13
    (∃ t, step s = .next t) ∧ s.cpsr &&& ~~~ psrMask = 0 ∧ (∀ b w, s.psrs.spsr b = some w → w &&& ~~~ psrMask = 0) ∧
      s.controlFixed := by
  refine ⟨exists_of_goes (by decide +kernel), by decide +kernel, ?_, by unfold State.controlFixed; decide +kernel⟩
  have spsrs : ∀ b, (ready 0x13).psrs.spsr b = none ∨ (ready 0x13).psrs.spsr b = some 0 := by
    intro b
    cases b <;> decide +kernel
  intro b w h
  rcases spsrs b with e | e
  · exact nomatch e.symm.trans h
  · obtain rfl := Option.some.inj (e.symm.trans h)
    decide

/-- User mode runs, and leaves by SWI. -/
theorem witness_UserMode :
    (core 0x10 []).halted = false ∧ (core 0x10 []).mode = modeUser ∧ (∃ t, exec (.movImm 14 false 0 0 0 1) (core 0x10 []) = .next t) ∧
      ∃ t, exec (.swi 14 0) (core 0x10 []) = .next t :=
  ⟨by decide +kernel, by decide +kernel, exists_of_goes (by decide +kernel), exists_of_goes (by decide +kernel)⟩

theorem witness_SoftwareInterrupt :
    let s := core 0x10 []
    s.halted = false ∧ s.passes 14 = true ∧ s.jBit = false ∧ s.pc &&& (if s.tBit then 1 else 3) = 0 ∧
      s.cpsr &&& ~~~ psrMask = 0 ∧ s.passes 0 = false ∧ (halted s).halted = true ∧ (halted s).passes 14 = true := by
  decide +kernel

theorem witness_UndefinedInstructions :
    (core 0x10 []).passes 14 = true ∧ (core 0x10 []).halted = false ∧ (core 0x10 []).jBit = false ∧
      (core 0x10 []).mode = modeUser ∧ (core 0x13 []).passes 14 = true ∧ (core 0x13 []).mode ≠ modeUser ∧
      (core 0x13 []).halted = false ∧ (core 0x13 []).jBit = false := by
  decide +kernel

/-- What a Supervisor Call from User mode leaves in the core registers. -/
theorem swi_values :
    let s := core 0x10 []
    let t := takeSwi s
    (t.mode = modeSvc ∧ t.bankReg (bankOf modeSvc) 14 = s.past ∧ t.psrs.spsr (bankOf modeSvc) = some s.cpsr ∧ t.tBit = false ∧
      t.jBit = false ∧ t.iBit = true ∧ t.aBit = (false || s.aBit) ∧ t.fBit = (false || s.fBit) ∧ t.eBit = s.ctlEe) ∧
    t.cpsr &&& 0xF80F0000 = s.cpsr &&& 0xF80F0000 ∧ t.pc = (if s.ctlV then 0xFFFF0000 else 0) + 0x08 ∧
    (∀ k (_ : k < 30), k ≠ physIndex (bankOf modeSvc) 14 → t.regs[k] = s.regs[k]) := by
  decide +kernel

/-- The Supervisor Call entry from User mode is an entry as the statements say it, at the link with offset 0 and the one with
offset 4. -/
theorem witness_ReturnFromException :
    let s := core 0x10 []
    let t := takeSwi s
    modeSvc ∈ [modeFiq, modeIrq, modeSvc, modeAbt, modeUnd] ∧ Entered s t modeSvc 0x08 s.past false false ∧ t.halted = false ∧
      s.jBit = false ∧ s.cpsr &&& ~~~ psrMask = 0 ∧ (s.past - (0#8).setWidth 32) &&& (if s.tBit then 1 else 3) = 0 ∧
      (s.past - (4#8).setWidth 32) &&& (if s.tBit then 1 else 3) = 0 := by
  have spsrs (b : Bank) : b ≠ bankOf modeSvc → (takeSwi (core 0x10 [])).psrs.spsr b = (core 0x10 []).psrs.spsr b := by
    cases b <;> decide +kernel
  obtain ⟨⟨mode, link, spsr, tBit, jBit, iBit, aBit, fBit, eBit⟩, flags, pc, regs⟩ := swi_values
  have entered : Entered (core 0x10 []) (takeSwi (core 0x10 [])) modeSvc 0x08 (core 0x10 []).past false false :=
    ⟨mode, link, spsr, tBit, jBit, iBit, aBit, fBit, eBit, flags, pc, regs, spsrs, fun _ => rfl, rfl⟩
  exact ⟨by decide, entered, by decide +kernel⟩

/-- A pending FIQ; a pending IRQ with no FIQ, and with one that is masked. -/
theorem witness_InterruptEntry :
    let base := core 0x10 []
    (∀ s ∈ [{ base with fiqSeen := true }, { base with irqSeen := true },
        { core 0x50 [] with irqSeen := true, fiqSeen := true }],
      s.env = [] ∧ s.dbg.tap.queue = [] ∧ s.power = .run ∧ s.stuck = false ∧ s.halted = false ∧ s.standby = false ∧
        haltRequest s = false ∧ bitAt s.dbg.dscr 11 = false) ∧
    ({ base with fiqSeen := true } : State).fBit = false ∧ ({ base with irqSeen := true } : State).iBit = false ∧
    ({ core 0x50 [] with irqSeen := true, fiqSeen := true } : State).iBit = false ∧
    ({ core 0x50 [] with irqSeen := true, fiqSeen := true } : State).fBit = true := by
  decide +kernel

/-- The instruction at 0x8000 fetched ahead with a translation fault. -/
def faulted : State :=
  { core 0x13 [] with prefetched :=
      [{ va := 0x8000, thumb := false, priv := true, result := .faulted ⟨0b00101, none⟩, hits := ⟨false, false, false, false⟩ }] }

theorem witness_Aborts :
    (faulted.undisturbed ∧ faulted.jBit = false ∧ ∃ t h, t.halted = false ∧
      fetchNext faulted.clearWatch = (.ok (.faulted ⟨0b00101, none⟩, h), t)) ∧
    (let s : State := { core 0x13 [] with imprecise := some ⟨true, true⟩ };
      s.env = [] ∧ s.dbg.tap.queue = [] ∧ s.power = .run ∧ s.stuck = false ∧ s.halted = false ∧ s.standby = false ∧
        haltRequest s = false ∧ fiqTaken s = false ∧ irqTaken s = false ∧ s.imprecise = some ⟨true, true⟩ ∧ s.aBit = false) ∧
    (let s := withControl 0x5407A (core 0x13 [(1, 0x1000)]);
      s.halted = false ∧ s.passes 14 = true ∧ (s.ctlA = true ∨ s.ctlU = true) ∧ addressingOk true false 1 0 ∧
        addressingOk false false 1 0 ∧ addressingOk true false 1 15 ∧
        (fld (transferAddress true true (s.reg 1) ((1#12).setWidth 32)) 0 2 : BitVec 2) ≠ 0 ∧
        (fld (transferAddress true false (s.reg 1) ((1#12).setWidth 32)) 0 2 : BitVec 2) ≠ 0 ∧
        bitAt (transferAddress true true (s.reg 1) ((0#4 ++ 1#4).setWidth 32)) 0 = true) := by
  refine ⟨⟨by unfold State.undisturbed; decide +kernel, by decide +kernel, { faulted.clearWatch with prefetched := [] },
    ⟨false, false, false, false⟩, by decide +kernel, by decide +kernel⟩, by decide +kernel, ?_⟩
  unfold addressingOk transferWrites
  decide +kernel

/-- Misaligned addresses of every kind with the A bit set: of words, halfwords, doublewords with U = 0 and U = 1, and of a block. -/
theorem witness_Aborts_misaligned :
    let s := withControl 0x5407A (core 0x13 [(1, 0x1002), (2, 0x1003), (4, 0x1004)])
    s.halted = false ∧ s.passes 14 = true ∧ s.ctlA = true ∧ s.ctlU = false ∧ (fld (s.reg 1) 0 2 : BitVec 2) ≠ 0 ∧
      bitAt (s.reg 2) 0 = true ∧ (fld (s.reg 4) 0 3 : BitVec 3) ≠ 0 ∧ (fld (s.reg 4) 0 2 : BitVec 2) = 0 ∧
      (withControl 0x45407A s).ctlU = true ∧ bitAt (6#4) 0 = false ∧
      (fld (multipleStart true false (s.reg 1) (listCount 0xFFFF)) 0 2 : BitVec 2) ≠ 0 ∧ bitAt (0x7FFF#16) 15 = false := by
  decide +kernel

/-- What the other forms that abort ask, with U set, A clear and the MMU off: LDR of the PC, SRS, RFE, a load multiple with the PC,
the transfers of the DTR and the VFP loads and stores of one and of several registers, at addresses that are not aligned. -/
theorem witness_Aborts_forms :
    let s := withControl 0x454078 (fp 0x13 [(1, 0x1002), (13, 0x2001)] 0)
    s.halted = false ∧ s.passes 14 = true ∧ s.ctlA = false ∧ s.ctlU = true ∧ s.ctlM = false ∧ s.ctlTexRemap = false ∧
      s.remapOld = [] ∧ (fld (transferAddress true true (s.reg 1) ((0#12).setWidth 32)) 0 2 : BitVec 2) ≠ 0 ∧
      bitAt (transferAddress true true (s.reg 1) ((0#4 ++ 1#4).setWidth 32)) 0 = true ∧
      (fld (multipleStart true false (s.bankReg (bankOf modeSvc) 13) 2) 0 2 : BitVec 2) ≠ 0 ∧ legalMode modeSvc = true ∧
      s.spsr ≠ none ∧ s.mode ≠ modeUser ∧ s.mayUseComms ∧ s.vfpReady ∧
      (fld (multipleStart false true (s.reg 1) (listCount 0x8001)) 0 2 : BitVec 2) ≠ 0 ∧ bitAt (0x8001#16) 15 = true ∧
      (sNumber 15 true).toNat + 1 ≤ 32 ∧ (sNumber 0 false).toNat + 32 ≤ 32 := by
  unfold State.mayUseComms State.vfpReady
  decide +kernel

theorem witness_DebugEvents_bkpt :
    (core 0x13 []).halted = false ∧ (core 0x13 []).debugMode ≠ .halting ∧
      ((core 0x13 []).setDscr 0x4002).halted = false ∧ ((core 0x13 []).setDscr 0x4002).debugMode = .halting := by
  decide +kernel

/-- The instruction at 0x8000 fetched ahead with debug events found at it, in a debug mode that DSCR[15:14] selects. -/
def caught (cpsr dscr : Word) (h : DebugHits) : State :=
  { (core cpsr []).setDscr dscr with prefetched :=
      [{ va := 0x8000, thumb := false, priv := (core cpsr []).mode != modeUser, result := .bits 0xE3A00001, hits := h }] }

/-- Breakpoints and vector catches in Halting and in Monitor debug-mode, of a privileged and a User mode program. -/
theorem witness_DebugEvents_commit :
    ∀ x ∈ [(0x13, 0x4002, ⟨true, false, false, false⟩, DebugMode.halting), (0x13, 0x4002, ⟨false, true, false, false⟩, .halting),
        (0x13, 0x4002, ⟨false, false, true, false⟩, .halting), (0x13, 0x8002, ⟨true, false, true, true⟩, .monitor),
        (0x10, 0x8002, ⟨false, true, false, false⟩, .monitor), (0x13, 0x8002, ⟨false, true, true, false⟩, .monitor),
        (0x13, 0x8002, ⟨false, true, true, true⟩, .monitor), (0x13, 0x0002, ⟨true, true, true, true⟩, .disabled)],
      let s := caught x.1 x.2.1 x.2.2.1
      s.undisturbed ∧ s.jBit = false ∧ ({ s.clearWatch with prefetched := [] } : State).halted = false ∧
        fetchNext s.clearWatch = (.ok (.bits 0xE3A00001, x.2.2.1), { s.clearWatch with prefetched := [] }) ∧
        ({ s.clearWatch with prefetched := [] } : State).debugMode = x.2.2.2 := by
  unfold State.undisturbed
  decide +kernel

/-- Breakpoint pair 5 on an address and on the Context ID, watchpoint pair 1, a caught vector; registers that are disabled. -/
theorem witness_DebugEvents_match :
    let d := (core 0x13 []).dbg
    let brp (c v : Word) : Debug := { d with bcr := d.bcr.set 5 c, bvr := d.bvr.set 5 v }
    (brp 0x000001E7 0x8000).bcr[5] = 0x000001E7 ∧ (fld (0x8000 : Word) 2 30 : BitVec 30) = fld (brp 0x000001E7 0x8000).bvr[5] 2 30 ∧
      (brp 0x002001E7 0).bcr[5] = 0x002001E7 ∧ (brp 0x002001E7 0).bvr[5] = (core 0x13 []).cp15.contextId ∧
      (d.wcr.set 1 0x000001FF)[1] = 0x000001FF ∧ (d.wvr.set 1 0x1000)[1] = (0x1000 : Word) ∧
      bitAt (0x000000C0 : Word) 7 = true ∧ (core 0x13 []).vectorBase + BitVec.ofNat 32 (4 * 7) = 0x1C ∧
      (∀ k (_ : k < 6), bitAt d.bcr[k] 0 = false) ∧ (∀ k (_ : k < 2), bitAt d.wcr[k] 0 = false) ∧ d.vcr &&& 0xDF = 0 ∧
      d.watchHit = false := by
  decide +kernel

/-- A watchpoint that was hit, in the three modes; the two debug requests; a CPU in debug state whose PC was written, and not. -/
theorem witness_DebugEvents_entry :
    (∀ x ∈ [(0x0002, DebugMode.disabled), (0x4002, .halting), (0x8002, .monitor)],
      let s := (core 0x13 []).setDscr x.1
      s.halted = false ∧ s.debugMode = x.2 ∧ ({ s.dbg with watchHit := true } : Debug).watchHit = true) ∧
    (∀ s ∈ [{ core 0x13 [] with dbg := { Debug.reset with edbgrq := true } },
        { core 0x13 [] with dbg := { Debug.reset with tap := { Tap.reset with haltRequested := true } } }],
      s.env = [] ∧ s.dbg.tap.queue = [] ∧ s.power = .run ∧ s.stuck = false ∧ s.halted = false ∧ s.standby = false ∧
        s.cfg.dbgen = true ∧ fiqTaken s = false ∧ irqTaken s = false ∧ (s.imprecise = none ∨ s.aBit = true) ∧
        (s.dbg.tap.haltRequested = true ∨ s.dbg.edbgrq = true)) ∧
    ∀ w ∈ [true, false],
      let s : State := { core 0x13 [] with dbg :=
        { Debug.reset with dscr := 3, pcWritten := w, tap := { Tap.reset with ir := 0b00100 } } }
      s.halted = true ∧ s.dbg.tap.ir = 0b00100 ∧ s.dbg.pcWritten = w := by
  decide +kernel

theorem witness_DataProcessing :
    (core 0x13 []).passes 14 = true ∧ DpOperand.usable (.shiftReg 3 0 14) [1, 14] ∧ DpOperand.usable (.imm 0 1) [15, 0] ∧
      ¬ DpOperand.usable (.shiftReg 3 0 2) [15, 0] ∧ ¬ DpOperand.usable (.shiftReg 15 0 2) [1, 0] := by
  unfold DpOperand.usable
  decide +kernel

/-- A result 0x8000 that the PC may take, one that it may not, an SPSR and none. -/
theorem witness_ProgramCounterDestination :
    let s := core 0x13 [(1, 0x8000), (2, 0x8002)]
    s.passes 14 = true ∧ s.halted = false ∧ s.tBit = false ∧ DpOperand.usable (.shiftImm 0 0 1) [15] ∧
      (fld (DpOp.mov.result (s.reg 0) ((DpOperand.shiftImm 0 0 1).eval s).value s.flagC) 0 2 : BitVec 2) = 0 ∧
      (fld (DpOp.mov.result (s.reg 0) ((DpOperand.shiftImm 0 0 2).eval s).value s.flagC) 0 2 : BitVec 2) ≠ 0 ∧
      s.spsr = some 0 ∧ (core 0x10 []).spsr = none ∧ (core 0x1F []).spsr = none := by
  unfold DpOperand.usable
  decide +kernel

theorem witness_MultiplyAndCount :
    (core 0x13 [(1, 0x00010000)]).passes 14 = true ∧ (core 0x13 [(1, 0x00010000)]).reg 1 = 0x00010000 := by decide +kernel

/-- Targets in ARM state, in Thumb state with bit [1] clear and set, and one that no state takes. -/
theorem witness_Branches :
    let s := core 0x13 [(1, 0x9000), (2, 0x9001), (3, 0x9003), (4, 0x9002)]
    s.halted = false ∧ s.tBit = false ∧ s.passes 14 = true ∧ (fld (s.reg 1) 0 2 : BitVec 2) = 0 ∧
      (fld (s.reg 2) 0 2 : BitVec 2) = 1 ∧ (fld (s.reg 3) 0 2 : BitVec 2) = 3 ∧ (fld (s.reg 4) 0 2 : BitVec 2) = 2 := by
  decide +kernel

/-- A flat machine, little-endian with U = 0 and big-endian with U = 1. -/
theorem flat_core : (core 0x13 [(1, 0x1000)]).flat ∧ (bytes1000 0x213 0x454078 0x1000).flat ∧ (bytes1000 0x10 0x454078 0x1000).flat := by
  unfold State.flat State.memCanonical
  decide +kernel

/-- Ordinary memory at the lowest and at the highest addresses, and where a block wraps around the top. -/
theorem ordinary_core :
    (core 0x13 []).ordinary 0 8 ∧ (core 0x13 []).ordinary 0xFFFFFFF8 8 ∧ (core 0x13 []).ordinary 0xFFFFFFFC 64 ∧
      (core 0x13 []).ordinary 0x1000 64 := by
  unfold State.ordinary
  decide +kernel

/-- Every addressing form has operands it allows; a word fits at an aligned address, and at any with U = 0 and A = 0. -/
theorem witness_SingleTransfers :
    (core 0x13 []).passes 14 = true ∧ addressingOk true true 1 0 ∧ addressingOk false false 1 0 ∧ addressingOk true false 15 15 ∧
      (core 0x13 []).wordFits 0x1001 ∧ (core 0x13 []).wordFits 0x1003 ∧
      (withControl 0x454078 (core 0x13 [])).wordFits 0x1004 ∧ ¬ (withControl 0x454078 (core 0x13 [])).wordFits 0x1002 := by
  refine ⟨by decide +kernel, ?_, ?_, ?_, ?_⟩
  · exact fun _ => ⟨by decide, by decide⟩
  · exact fun _ => ⟨by decide, by decide⟩
  · rintro (h | h) <;> exact nomatch h
  · unfold State.wordFits
    decide +kernel

/-- Doublewords at a doubleword-aligned address, and at a word-aligned one with U = 1. -/
theorem witness_DoublewordTransfers :
    let s := bytes1000 0x213 0x454078 0x1000
    s.passes 14 = true ∧ bitAt (12#4) 0 = false ∧ addressingOk false false 1 12 ∧ addressingOk false false 1 (12 + 1) ∧
      (fld (transferAddress true true (s.reg 1) ((0#4 ++ 0#4).setWidth 32)) 0 3 : BitVec 3) = 0 ∧ s.ctlU = true ∧
      (fld (transferAddress true true (s.reg 1) ((0#4 ++ 4#4).setWidth 32)) 0 2 : BitVec 2) = 0 ∧
      s.ordinary 0x1000 8 ∧ s.ordinary 0x1004 8 := by
  unfold addressingOk transferWrites State.ordinary
  decide +kernel

/-- Blocks of one register and of every register, with and without r15, below and above the base. -/
theorem witness_Multiples :
    let s := core 0x13 [(1, 0x1000)]
    s.passes 14 = true ∧ bitAt (0x7FFF#16) 15 = false ∧ bitAt (0x8000#16) 15 = true ∧ listCount 0x8000 = 1 ∧
      listCount 0xFFFF = 16 ∧ multipleStart false true (s.reg 1) 1 = 0x1000 ∧ multipleStart true false (s.reg 1) 16 = 0xFC0 ∧
      lowest 4 0x1000 = 0x1000 ∧ lowest 4 0xFC0 = 0xFC0 := by
  decide +kernel

theorem ordinary_blocks :
    (core 0x13 [(1, 0x1000)]).ordinary 0x1000 4 ∧ (core 0x13 [(1, 0x1000)]).ordinary 0xFC0 64 ∧
      (core 0x13 [(1, 0x1000)]).wordFits 0x1000 ∧ (core 0x13 [(1, 0x1000)]).wordFits 0xFC0 := by
  unfold State.wordFits State.ordinary
  decide +kernel

/-- Loads of the PC: a word that interworks to either state and one that does not, L4 clear and set, an SPSR and none. -/
theorem witness_LoadsOfThePc :
    let s (b : Byte) := withBytes 0x1000 [b, 0x90, 0, 0] (core 0x13 [(1, 0x1000)])
    (s 0).flat ∧ (s 0).halted = false ∧ (s 0).tBit = false ∧ (s 0).ctlL4 = false ∧ (fld ((s 0).wordAt 0x1000) 0 2 : BitVec 2) = 0 ∧
      (fld ((s 1).wordAt 0x1000) 0 2 : BitVec 2) = 1 ∧ (fld ((s 3).wordAt 0x1000) 0 2 : BitVec 2) = 3 ∧
      (fld ((s 2).wordAt 0x1000) 0 2 : BitVec 2) = 2 ∧ (withControl 0x5C078 (s 2)).ctlL4 = true ∧ (s 0).spsr = some 0 ∧
      (core 0x1F []).spsr = none ∧ wordOf 0x1000 0x8000 15 = 0x1000 ∧
      transferAddress true true ((s 0).reg 1) ((DpOperand.shiftImm 0 0 2).eval (s 0)).value = 0x1000 := by
  unfold State.flat State.memCanonical
  decide +kernel

/-- The word after next, as a load of the PC with the PC as its base reads it. -/
theorem witness_LoadsOfThePc_literal :
    let s := withBytes 0x8008 [0, 0x90, 0, 0] (core 0x13 [])
    s.flat ∧ s.passes 14 = true ∧ s.halted = false ∧ s.tBit = false ∧ s.ctlL4 = false ∧ ¬ transferWrites true false ∧
      transferAddress true true (s.reg 15) 0 = 0x8008 ∧ s.ordinary 0x8008 4 ∧ s.wordAt 0x8008 = 0x9000 := by
  unfold State.flat State.memCanonical State.ordinary transferWrites
  decide +kernel

/-- One state meets together what a load or a store of a word asks. -/
theorem witness_SingleLoads :
    (core 0x13 [(1, 0x1000)]).passes 14 = true ∧ (core 0x13 [(1, 0x1000)]).flat ∧ (0 : RegNum) ≠ 15 ∧
      addressingOk true true 1 0 ∧ (core 0x13 [(1, 0x1000)]).wordFits 0x1000 ∧ (core 0x13 [(1, 0x1000)]).ordinary 0x1000 4 ∧
      transferAddress true true ((core 0x13 [(1, 0x1000)]).reg 1) 0 = 0x1000 :=
  ⟨by decide +kernel, flat_core.1, by decide, fun _ => ⟨by decide, by decide⟩, ordinary_blocks.2.2.1, ordinary_blocks.1,
    by decide +kernel⟩

/-- A page or section of Normal noncachable memory that a manager's TLB entry maps. -/
def pageTo (log2Size : Nat) (va pa : Word) : TlbEntry :=
  { mvaBase := va, log2Size := log2Size, globalMap := true, asid := 0, paBase := pa, apx := false, ap0 := 3, spv := false, ap1 := 3,
    ap2 := 3, ap3 := 3, domain := 0, xn := false, tex := 1, c := false, b := false, s := false, sBit := false, rBit := false }

/-- U = 1, A = 0 and the MMU on, little-endian or big-endian: the code's section, and two pages that are neighbours only as
virtual addresses; r1 is an address. -/
def twoPages (cpsr a : Word) : State :=
  let s := withBytes 0x00200FFE [0x11, 0x22] (withBytes 0x00305000 [0x33, 0x44] (core cpsr [(0, 0xAABBCCDD), (1, a)]))
  { s with
    cp15 := { s.cp15 with control := 0x00C54079, dacr := 3 }
    tlb := [pageTo 20 0 0, pageTo 12 0x00112000 0x00200000, pageTo 12 0x00113000 0x00305000] }

/-- 20_memory.md R48, D12: the bytes of an unaligned word and halfword across the pages, in either byte order (R43). -/
theorem test_unalignedAcrossPages :
    ran 0xE5912000 (twoPages 0x13 0x00112FFE) (fun t => [r 2 t]) = some [0x44332211] ∧
    ran 0xE5912000 (twoPages 0x213 0x00112FFE) (fun t => [r 2 t]) = some [0x11223344] ∧
    ran 0xE1D120B0 (twoPages 0x13 0x00112FFF) (fun t => [r 2 t]) = some [0x3322] ∧
    ran 0xE5810000 (twoPages 0x13 0x00112FFE) (fun t => let u := drainAll t
      [u.wordAt 0x00200FFC, u.wordAt 0x00305000]) = some [0xCCDD0000, 0x0000AABB] := by
  decide +kernel

/-- Where those bytes are. -/
def twoPagesAt (n k : Nat) : Word := if k < n then 0x00200FFE + BitVec.ofNat 32 (2 - n) + BitVec.ofNat 32 k else
  0x00305000 + BitVec.ofNat 32 (k - n)

theorem witness_splits :
    (∀ x ∈ [(0x00112FFE, 4, 2), (0x00112FFF, 2, 1)], let s := twoPages 0x13 x.1
      s.passes 14 = true ∧ s.splits ∧ x.1.toNat % x.2.1 ≠ 0 ∧ transferAddress true true (s.reg 1) 0 = x.1 ∧
        ∀ j < x.2.1, ∀ k < x.2.1, twoPagesAt x.2.2 j = twoPagesAt x.2.2 k → j = k) ∧
    (twoPages 0x13 0x00112FFE).maps 0x00112FFE 4 (twoPagesAt 2) ∧ (twoPages 0x13 0x00112FFF).maps 0x00112FFF 2 (twoPagesAt 1) := by
  refine ⟨by unfold State.splits State.memCanonical; decide +kernel, ?_, ?_⟩
  · intro k h
    refine ⟨?_, if k < 2 then pageTo 12 0x00112000 0x00200000 else pageTo 12 0x00113000 0x00305000, ?_⟩ <;> revert k <;>
      (try unfold State.ordinary) <;> decide +kernel
  · intro k h
    refine ⟨?_, if k < 1 then pageTo 12 0x00112000 0x00200000 else pageTo 12 0x00113000 0x00305000, ?_⟩ <;> revert k <;>
      (try unfold State.ordinary) <;> decide +kernel

/-- 20_memory.md R55, R56: an entry's XN bit counts with XP = 1 only; 41_cp15_c1_control.md R156: until a flush fetches may see what
stood before a write of the Control Register. -/
theorem test_fetchControls :
    let never (xp : Bool) := checkEntry .fetch false true true true xp 0 { pageTo 20 0 0 with xn := true } ⟨.normal, false, 0, 0⟩
    (never false matches .ok _) ∧ (never true matches .error _) ∧
    ran 0xEE010F10 (core 0x13 []) (fun t => t.fetchOld.map (·.cp15.control)) = some [0x00054078] ∧
    ran 0xEE070F95 { core 0x13 [] with fetchOld := [(core 0x13 []).fetchView] } (fun t => t.fetchOld.map (·.cp15.control)) =
      some [] := by
  decide +kernel

/-- A load of the PC from a literal (47_core_instructions.md R770); with XP = 0 no mapping has an APX or S bit and with XP = 1 no
subpage counts (20_memory.md R75, R77). -/
theorem test_literalAndXp :
    ran 0xE59FF000 (withBytes 0x8008 [0, 0x90, 0, 0] (core 0x13 [])) (fun t => [t.pc]) = some [0x9000] ∧
    (let e := { pageTo 12 0 0 with apx := true, ap0 := 1, spv := true, ap1 := 3, s := true }
      let stores (xp : Bool) := checkEntry .write false true true true xp 0x400 e ⟨.normal, false, 0, 0⟩
      (stores false matches .ok _) ∧ (stores true matches .error _) ∧ entryAp false e 0x400 = 3 ∧ entryAp true e 0x400 = 1 ∧
        (entryAttr ⟨false, false, false, 0, 0⟩ e matches .ok ⟨_, false, _, _⟩) ∧
        (entryAttr ⟨true, false, false, 0, 0⟩ e matches .ok ⟨_, true, _, _⟩)) := by
  decide +kernel

theorem witness_LoadMultiple :
    (core 0x13 [(1, 0x1000)]).passes 14 = true ∧ (core 0x13 [(1, 0x1000)]).flat ∧ (0xFFFF : BitVec 16) ≠ 0 ∧ (1 : RegNum) ≠ 15 ∧
      bitAt (0x0001#16) 15 = false ∧ listCount 0xFFFF = 16 ∧ lowest 4 (multipleStart true false 0x1000 16) = 0xFC0 ∧
      (core 0x13 [(1, 0x1000)]).wordFits 0xFC0 ∧ (core 0x13 [(1, 0x1000)]).ordinary 0xFC0 64 :=
  ⟨by decide +kernel, flat_core.1, by decide, by decide, by decide, by decide +kernel, by decide +kernel, ordinary_blocks.2.2.2,
    ordinary_blocks.2.1⟩

/-- Exclusive accesses under a matching monitor, another size, another address and none. -/
theorem witness_Exclusives :
    let s := core 0x13 [(0, 0x1000)]
    s.flat ∧ s.passes 14 = true ∧ (fld (s.reg 0) 0 3 : BitVec 3) = 0 ∧ s.ordinary 0x1000 8 ∧ bitAt (2#4) 0 = false ∧
      (∀ n ∈ [1, 2, 4, 8], ({ s with monitor := .exclusive 0x1000 n } : State).monitor = .exclusive (s.reg 0) n) ∧
      (tagged 0).monitor ≠ .exclusive ((tagged 0).reg 0) 4 ∧ (tagged 1).monitor ≠ .exclusive ((tagged 1).reg 0) 4 := by
  unfold State.flat State.memCanonical State.ordinary
  decide +kernel

theorem witness_HintsAndStatus :
    (core 0x10 []).passes 14 = true ∧ (core 0x10 []).halted = false ∧ (core 0x10 []).mode = modeUser ∧ (core 0x10 []).spsr = none ∧
      (core 0x13 []).passes 14 = true ∧ (core 0x13 []).halted = false ∧ (core 0x13 []).mode ≠ modeUser ∧
      (core 0x13 []).spsr = some 0 := by
  decide +kernel

/-- SRS and RFE of a block that fits, in the four forms, and in modes with and without an SPSR. -/
theorem witness_ReturnState :
    (core 0x13 [(13, 0x2000)]).spsr = some 0 ∧ legalMode modeSvc = true ∧ (core 0x13 [(13, 0x2000)]).halted = false ∧
      (core 0x13 [(13, 0x2000)]).mode ≠ modeUser ∧ (core 0x10 []).spsr = none ∧ (core 0x10 []).mode = modeUser := by
  decide +kernel

theorem flat_stack : (core 0x13 [(13, 0x2000)]).flat := by
  unfold State.flat State.memCanonical
  decide +kernel

theorem ordinary_stack :
    (core 0x13 [(13, 0x2000)]).ordinary 0x2000 8 ∧ (core 0x13 [(13, 0x2000)]).ordinary 0x2004 8 ∧
      (core 0x13 [(13, 0x2000)]).ordinary 0x1FF8 8 ∧ (core 0x13 [(13, 0x2000)]).ordinary 0x1FFC 8 ∧
      (core 0x13 [(13, 0x2000)]).wordFits 0x2000 ∧ (core 0x13 [(13, 0x2000)]).wordFits 0x1FFC := by
  unfold State.wordFits State.ordinary
  decide +kernel

/-- CP15 transfers in a privileged mode, with the store buffer empty and not, an equal and an unequal pair of TLB debug bits, no
change of the CPACR pending, and the NMRR written only with 0 in its implementation defined bits. -/
theorem witness_RegisterTransfers :
    let s := core 0x13 [(1, 0x30), (2, 0x10)]
    s.passes 14 = true ∧ s.privileged = true ∧ s.storeBuffer = [] ∧ s.nmrrImplDefined = false ∧ s.cpacrOld = none ∧
      bitAt (s.reg 1) 5 = bitAt (s.reg 1) 4 ∧ bitAt (s.reg 2) 5 ≠ bitAt (s.reg 2) 4 ∧
      ({ s with storeBuffer := [⟨0x1000, [1], ⟨.stronglyOrdered, true, 0, 0⟩, false⟩] } : State).storeBuffer ≠ [] ∧
      bitAt s.cp15.pmnc 0 = false := by
  decide +kernel

theorem witness_ThreadIdRegisters :
    (core 0x10 []).passes 14 = true ∧ (core 0x10 []).halted = false ∧ (core 0x10 []).jBit = false ∧
      (core 0x10 []).mode = modeUser ∧ (core 0x13 []).passes 14 = true ∧ (core 0x13 []).privileged = true := by
  decide +kernel

/-- A buffered store of the last word of memory. -/
theorem witness_BarriersAndStoreBuffer :
    (core 0x13 []).passes 14 = true ∧ (core 0x13 []).privileged = true ∧ (core 0x13 []).halted = false ∧
      3 < [(1#8), 2, 3, 4].length ∧ (0xFFFFFFFC#32).toNat + [(1#8), 2, 3, 4].length ≤ 2 ^ 32 := by
  decide +kernel

/-- Two buffered noncachable stores that overlap, with no memory that answers with errors. -/
theorem witness_BarriersAndStoreBuffer_drained :
    let store (a : Word) (b : Byte) : PendingStore := ⟨a, [b, b], ⟨.normal, false, 0, 0⟩, false⟩
    let s : State := { core 0x13 [] with storeBuffer := [store 0x1000 1, store 0x1001 2] }
    s.passes 14 = true ∧ s.memCanonical ∧ s.cfg.errorRegions = [] ∧ s.storeBuffer ≠ [] ∧
      ∀ e ∈ s.storeBuffer, e.cachable = false ∧ inRegion s.cfg e.pa = false ∧ e.pa.toNat + e.bytes.length ≤ 2 ^ 32 := by
  unfold State.memCanonical
  decide +kernel

/-- Two lines in the data cache, one of them dirty; operands that name the dirty one by set and way, and by address. -/
def cached (rd : Word) : State :=
  { core 0x13 [(1, rd)] with dcache :=
      [{ way := 2, set := 5, tag := 0x105, dirty := true, bytes := Vector.replicate 32 7 },
        { way := 3, set := 255, tag := 0x1FF, dirty := false, bytes := Vector.replicate 32 0 }] }

theorem witness_DataCache :
    (∀ s ∈ [cached 0x800000A0, cached 0x000020BF],
      s.passes 14 = true ∧ s.privileged = true ∧ s.storeBuffer = [] ∧ s.cfg.errorRegions = [] ∧ (s.dcache.map (·.tag)).Nodup ∧
        (s.dcache.map fun k => (k.way, k.set)).Nodup ∧ s.mem.wf = true ∧ s.ctlM = false) ∧
    (∃ l ∈ (cached 0x800000A0).dcache, l.dirty = true ∧ l.way = fld ((cached 0x800000A0).reg 1) 30 2 ∧
      l.set = ((cached 0x800000A0).reg 1).toNat / 32 % 256) ∧
    ∃ l ∈ (cached 0x000020BF).dcache, l.dirty = true ∧ l.tag = fld ((cached 0x000020BF).reg 1) 5 27 := by
  decide +kernel

/-- The MMU on, with an empty TLB, the translation table at 0x4000, and the descriptor of the addresses below 1MB. -/
def mapped (d dacr : Word) : State :=
  let s := withBytes 0x4000 [fld d 0 8, fld d 8 8, fld d 16 8, fld d 24 8] (core 0x13 [(1, 0x00012345)])
  { s with cp15 := { s.cp15 with control := 0x00854079, ttbr0 := 0x4000, dacr := dacr } }

def readyToWalk (s : State) (d : Word) : Prop :=
  s.passes 14 = true ∧ s.privileged = true ∧ fld s.cp15.fcsePid 25 7 = 0#7 ∧ s.remapOld = [] ∧ s.ctlM = true ∧
    tlbLookup s.ctlXp s (s.reg 1 &&& 0xFFFFFC00) = [] ∧ fld s.cp15.ttbcr 0 3 = 0#3 ∧ s.walkWord 0x4000 = d

theorem witness_VaToPaTranslation : readyToWalk (mapped 0 1) 0 ∧ readyToWalk (mapped 3 1) 3 := by
  unfold readyToWalk
  decide +kernel

theorem witness_VaToPaTranslation_off :
    (core 0x13 []).ctlM = false ∧ (core 0x13 []).ctlTexRemap = false ∧ (core 0x13 []).remapOld = [] := by
  decide +kernel

theorem ordinary_table : (mapped 0 1).ordinary 0x4000 4 ∧ (mapped 3 1).ordinary 0x4000 4 ∧ (mapped 0x00300C02 1).ordinary 0x4000 4 := by
  unfold State.ordinary
  decide +kernel

/-- Sections whose domain denies, is reserved, manages and is a client; a read that is granted and one that is not. -/
def readyToTranslate (s : State) (dacr : Word) : Prop :=
  s.ctlM = true ∧ tlbLookup s.ctlXp s 0x00012345 = [] ∧ fld s.cp15.ttbcr 0 3 = 0#3 ∧ s.remapOld = [] ∧ s.ctlTexRemap = false ∧
    s.ctlForceAp = false ∧ s.walkWord 0x4000 = 0x00300C02 ∧ s.ctlXp = true ∧ s.ctlS = false ∧ s.ctlR = false ∧
    (fld s.cp15.dacr 0 2 : BitVec 2) = dacr.setWidth 2

theorem witness_SectionTranslation :
    readyToTranslate (mapped 0x00300C02 0) 0 ∧ readyToTranslate (mapped 0x00300C02 1) 1 ∧
      readyToTranslate (mapped 0x00300C02 2) 2 ∧ readyToTranslate (mapped 0x00300C02 3) 3 := by
  unfold readyToTranslate
  decide +kernel

/-- A descriptor whose section a privileged read may read and a User one may not, and two faults of the first level. -/
theorem witness_SectionTranslation_descriptors :
    (fld ((mapped 0x00300402 1).walkWord 0x4000) 10 2 : BitVec 2) = 1 ∧ fld ((mapped 0 1).walkWord 0x4000) 0 2 = 0#2 ∧
      fld ((mapped 3 1).walkWord 0x4000) 0 2 = 3#2 ∧ fld (0x00300C02 : Word) 0 2 = 2#2 ∧ bitAt (0x00300C02 : Word) 18 = false ∧
      fld (0x00300C02 : Word) 12 3 = 0#3 ∧ bitAt (0x00300C02 : Word) 15 = false ∧ (fld (0x00300C02 : Word) 10 2 : BitVec 2) = 3 := by
  decide +kernel

/-- The descriptors that the statements about pages name: a coarse table at 0x5000 with one second-level descriptor. -/
def paged (control l2 dacr : Word) : State :=
  let s := withBytes 0x5048 [fld l2 0 8, fld l2 8 8, fld l2 16 8, fld l2 24 8] (mapped 0x00005001 dacr)
  { s with cp15 := { s.cp15 with control := control } }

/-- What the statements ask of a walk through a coarse table to a second-level descriptor, under one domain. -/
def readyToPage (s : State) (l2 dacr : Word) : Prop :=
  s.ctlM = true ∧ tlbLookup s.ctlXp s 0x00012345 = [] ∧ fld s.cp15.ttbcr 0 3 = 0#3 ∧ s.remapOld = [] ∧ s.ctlTexRemap = false ∧
    s.ctlForceAp = false ∧ s.ctlS = false ∧ s.ctlR = false ∧ s.walkWord 0x4000 = 0x00005001 ∧ s.walkWord 0x5048 = l2 ∧
    (fld s.cp15.dacr 0 2 : BitVec 2) = dacr.setWidth 2

/-- A large page, an extended small page, a small page with subpages and none, under the domains that deny, ask and grant. -/
theorem witness_tables :
    readyToPage (paged 0x00854079 0x00200031 0) 0x00200031 0 ∧ readyToPage (paged 0x00854079 0x00202033 1) 0x00202033 1 ∧
      readyToPage (paged 0x00054079 0x00202FF2 1) 0x00202FF2 1 ∧ readyToPage (paged 0x00854079 0x00202033 3) 0x00202033 3 ∧
      readyToPage (paged 0x00854079 0 1) 0 1 ∧
      ((0x00005001 : Word) &&& 0xFFFFFC00) ||| put (fld (0x00012345 : Word) 12 8 : BitVec 8) 2 = 0x5048 := by
  unfold readyToPage
  decide +kernel

/-- A supersection; sections that are a manager's, or open to a client, of the four memory types. -/
theorem witness_sections :
    (mapped 0x01040002 3).walkWord 0x4000 = 0x01040002 ∧ bitAt (0x01040002 : Word) 18 = true ∧
      readyToWalk (mapped 0x00300C02 3) 0x00300C02 ∧ readyToWalk (mapped 0x00300C06 1) 0x00300C06 ∧
      readyToWalk (mapped 0x00300C0A 3) 0x00300C0A ∧ readyToWalk (mapped 0x00300C0E 1) 0x00300C0E ∧
      (fld (0x00300C0E : Word) 10 2 : BitVec 2) = 3 ∧ bitAt (0x00300C0E : Word) 15 = false := by
  unfold readyToWalk
  decide +kernel

theorem ordinary_tables : (paged 0x00854079 0x00200031 1).ordinary 0x5048 4 ∧ (mapped 0x00300C0E 3).ordinary 0x4000 4 := by
  unfold State.ordinary
  decide +kernel

/-- A page of 4KB in the TLB, Strongly Ordered or cached, a manager's, and the line of its first bytes in the data cache. -/
def resident (c : Bool) : State :=
  { core 0x13 [(1, 0x00012000)] with
    cp15 := { Cp15.reset Config.default with control := 0x0085407D, dacr := 3 }
    tlb := [{ mvaBase := 0x00012000, log2Size := 12, globalMap := true, asid := 0, paBase := 0x00200000, apx := false, ap0 := 3,
              spv := false, ap1 := 3, ap2 := 3, ap3 := 3, domain := 0, xn := false, tex := 0, c := c, b := c, s := false,
              sBit := false, rBit := false }]
    dcache := [{ way := 2, set := 0, tag := 0x10000, dirty := false, bytes := Vector.replicate 32 7 }] }

theorem witness_entries :
    ∀ c ∈ [true, false], let s := resident c
      s.passes 14 = true ∧ s.ctlM = true ∧ s.ctlC = true ∧ s.ctlTexRemap = false ∧ s.remapOld = [] ∧
        fld s.cp15.fcsePid 25 7 = 0#7 ∧ s.storeBuffer = [] ∧ (∀ k (_ : k < 2), bitAt s.dbg.wcr[k] 0 = false) ∧ s.eBit = false ∧
        s.memCanonical ∧ s.ctlForceAp = false ∧
        (∀ u ∈ [true, false], let va := upDown u (s.reg 1) ((0#12).setWidth 32)
          fld va 0 2 = 0#2 ∧ tlbLookup s.ctlXp s va = s.tlb ∧ s.tlb.length = 1) ∧
        (∀ e ∈ s.tlb, e.log2Size = 12 ∧ (fld s.cp15.dacr (2 * e.domain.toNat) 2 : BitVec 2) = 3 ∧ e.tex = 0 ∧ e.c = c ∧ e.b = c ∧
          e.s = false) ∧
        inRegion s.cfg 0x00200000 = false ∧ (fld (0x00200000 : Word) 0 2 : BitVec 2) = 0 ∧
        (s.dline (fld (0x00200000 : Word) 5 27)).isSome = true := by
  unfold State.memCanonical
  decide +kernel

theorem ordinary_resident : (resident false).ordinary 0x00200000 4 := by
  unfold State.ordinary
  decide +kernel

/-- TLB operations and a sequence through the lockdown registers of an entry that is there. -/
theorem witness_Tlb :
    let e : TlbEntry := { mvaBase := 0x00100000, log2Size := 20, globalMap := false, asid := 5, paBase := 0x00200000, apx := false,
                          ap0 := 3, spv := false, ap1 := 3, ap2 := 3, ap3 := 3, domain := 1, xn := false, tex := 0, c := false,
                          b := false, s := false, sBit := false, rBit := false }
    let s : State := { core 0x13 [(1, 7), (2, 0x00100005)] with
      tlb := [e]
      lockSlots := State.reset.lockSlots.set 7 { entry := some e, locked := true, valid := true } }
    s.passes 14 = true ∧ s.privileged = true ∧ 15 ∉ [(1 : RegNum), 2, 3, 4] ∧ s.lockAccess = .none ∧
      (s.lockSlots[7]).entry = some e ∧ (s.lockSlots[7]).translation = some e ∧ (s.lockSlots[0]).translation = none ∧ e.paBase &&& 0xFFF = 0 ∧ e.asid = fld (s.reg 2) 0 8 ∧
      (s.reg 2 &&& 0xFFFFFC00) >>> e.log2Size = e.mvaBase >>> e.log2Size := by
  decide +kernel

/-- Who may use the debug registers, and who may not: DSCR[15:14] b10 selects Monitor debug-mode, DSCR[12] closes the channel. -/
theorem witness_DebugRegisters :
    (core 0x10 []).mayUseComms ∧ (halted (core 0x10 [])).mayUseComms ∧ (halted (core 0x10 [])).mayUseDebug ∧
      ((core 0x13 []).setDscr 0x8002).mayUseDebug ∧ (core 0x13 []).mode ≠ modeUser ∧ (core 0x13 []).debugMode ≠ .monitor ∧
      (core 0x13 []).passes 14 = true ∧ (core 0x13 []).halted = false ∧ (core 0x13 []).jBit = false ∧
      bitAt ((core 0x10 []).setDscr 0x1002).dbg.dscr 12 = true ∧ ((core 0x10 []).setDscr 0x1002).halted = false ∧
      ((core 0x10 []).setDscr 0x1002).mode = modeUser := by
  unfold State.mayUseComms State.mayUseDebug
  decide +kernel

/-- A VFP that may be used, in RunFast mode and with the Inexact exception enabled; registers below and at S31. -/
theorem witness_Vfp :
    (fp 0x13 [(1, 0x1000)] 0).passes 14 = true ∧ (fp 0x13 [(1, 0x1000)] 0).vfpReady ∧ (fp 0x13 [(1, 0x1000)] 0).flat ∧
      sNumber 15 false ≠ 31 ∧ sNumber 15 true = 31 ∧ (fp 0x13 [] 0).privileged = true ∧ (fp 0x13 [] 0).halted = false ∧
      (fp 0x13 [] 0).jBit = false ∧ (sNumber 0 false).toNat + 32 ≤ 32 ∧
      ((0x03000000 : Word) &&& 0x03079F00 = 0x03000000) ∧ bitAt (0x1000 : Word) 12 = true := by
  unfold State.vfpReady State.flat State.memCanonical
  decide +kernel

/-- Whatever operation the bits name, a double with its D and M bits set is out of the register file, and one with D, N and M clear
is not. -/
theorem witness_doubles : vfpBadDouble 4 0 true 1 = true ∧ vfpBadDouble 0 0 true 0 = false := by
  have clear : bitAt (0#4) 2 = false ∧ bitAt (0#3) 2 = false ∧ bitAt (0#3) 0 = false := by decide
  have set : bitAt (4#4) 2 = true ∧ bitAt (1#3) 0 = true := by decide
  unfold vfpBadDouble
  constructor
  · cases Config.vfpDyadic _
    · cases Config.vfpMonadic _ <;> simp [set, monadicDoubleD, monadicDoubleM]
    · simp [set]
  · cases Config.vfpDyadic _ <;> simp [clear]

theorem debug_flat : (core 0x13 [(1, 0x1000)]).mayUseComms := by
  unfold State.mayUseComms
  decide +kernel

theorem witness_DebugTransfers :
    (core 0x13 [(1, 0x1000)]).mayUseComms ∧ (core 0x13 [(1, 0x1000)]).flat ∧ (1 : RegNum) ≠ 15 ∧
      (core 0x13 [(1, 0x1000)]).wordFits 0x1000 ∧ (core 0x13 [(1, 0x1000)]).ordinary 0x1000 4 :=
  ⟨debug_flat, flat_core.1, by decide, ordinary_blocks.2.2.1, ordinary_blocks.1⟩

/-- A VFP load or store of 32 registers from 0x1000. -/
theorem witness_VfpLoadsAndStores :
    (fp 0x13 [(1, 0x1000)] 0).wordFits 0x1000 ∧ (fp 0x13 [(1, 0x1000)] 0).ordinary 0x1000 128 := by
  unfold State.wordFits State.ordinary
  decide +kernel

/-- The traps: no VFP, no access, privileged access only, and disabled. -/
theorem witness_VfpTraps :
    let absent (s : State) : State := { s with cfg := { s.cfg with hasVfp := false } }
    let rights (v : Word) (s : State) : State := { s with cp15 := { s.cp15 with cpacr := v } }
    (Instr.fmstat 14).condition = some 14 ∧ systemVfp (.fmstat 14) = true ∧ plainVfp (.fmsr 14 0 0 false) = true ∧
      (absent (core 0x13 [])).cfg.hasVfp = false ∧ (core 0x13 []).cpacrOld = none ∧ fld (core 0x13 []).cp15.cpacr 20 4 = 0#4 ∧
      fld (rights 0x00500000 (core 0x10 [])).cp15.cpacr 20 4 = 5#4 ∧ (rights 0x00500000 (core 0x10 [])).mode = modeUser ∧
      fld (rights 0x00F00000 (core 0x13 [])).cp15.cpacr 20 4 = 0xF#4 ∧
      bitAt (rights 0x00F00000 (core 0x13 [])).vfp.fpexc 30 = false := by
  decide +kernel

/-- User and privileged programs with the VFP disabled and enabled; and two ARM registers that are one, or the PC. -/
theorem witness_VfpTransferForms :
    let off (cpsr : Word) : State := { fp cpsr [] 0 with vfp := { (fp cpsr [] 0).vfp with fpexc := 0 } }
    (∀ s ∈ [off 0x10, off 0x13, fp 0x10 [] 0], s.passes 14 = true ∧ s.cfg.hasVfp = true ∧ s.cpacrOld = none ∧
      fld s.cp15.cpacr 20 4 = 0xF#4 ∧ s.vfp.bounce = false ∧ s.halted = false ∧ s.jBit = false ∧ s.tBit = false) ∧
    (off 0x10).mode = modeUser ∧ bitAt (off 0x10).vfp.fpexc 30 = false ∧ (fp 0x10 [] 0).mode = modeUser ∧
      (off 0x13).privileged = true ∧ (fld ((fp 0x13 [] 0).sreg 0) 0 2 : BitVec 2) = 0 ∧ (3 : RegNum) ≠ 15 ∧ sNumber 0 false ≠ 31 := by
  decide +kernel

/-- A chip with three groups of hardware interrupts and one with two CPUs; an SCU whose monitor is off; no INT line HIGH. -/
theorem witness_RegionRegisters :
    let c := { Config.default with irqGroups := 7, ncpuMinusOne := 1 }
    (1 : Nat) ≤ 7 ∧ 7 ≤ c.irqGroups.toNat ∧ 4 * 63 < 32 + 32 * c.irqGroups.toNat ∧ 16 * 15 < 32 + 32 * c.irqGroups.toNat ∧
      present c .cpu1 = true ∧ present c .cpu2 = false ∧ bitAt State.reset.dev.scu.pmControl 0 = false ∧
      State.reset.dev.dist.lines = 0 ∧ (fld (0x1E : Word) 1 4 : BitVec 4) ≠ 0 ∧ (fld (0xFFFFFFE1 : Word) 1 4 : BitVec 4) = 0 := by
  decide +kernel

/-- Timers that are stopped, running, about to reach zero and at zero; interrupts that are selected and accepted, selected and
not accepted, and not there. -/
theorem witness_PrivateMemoryRegion :
    let d := State.reset.dev
    let pend (mask : BitVec 4) : State :=
      { State.reset with dev := { d with
          dist := { d.dist with enable := true }
          cpus := d.cpus.set .cpu0 { d.cpus.get .cpu0 with
            mask := mask, enabled := 0xFFFFFFFF, pending := BitVec.ofNat 256 (2 ^ 29), priority := 0 } } }
    ((pend 0xF).dev.cpus.get .cpu0).shadow = none ∧ (irqSelect (pend 0xF).cfg (pend 0xF).dev .cpu0).map (·.id) = some 29 ∧
      irqAccept ((pend 0xF).dev.cpus.get .cpu0) 0 = true ∧ irqAccept ((pend 0).dev.cpus.get .cpu0) 0 = false ∧
      irqSelect State.reset.cfg State.reset.dev .cpu0 = none ∧ bitAt (d.timers.get .cpu0).control 0 = false ∧
      bitAt ({ d.timers.get .cpu0 with control := 7, count := 1 } : Timer).control 1 = true := by
  decide +kernel

end

end Sys2Proof.Tests
end

section
/-! SUPPORT. The bits of a status register: fields and bits replaced, the bits that exist, the bits of the mode and the masks. -/
namespace Sys2Proof.Machine

/-! ## Bits of a status register -/

/-- The bits of a word with a field replaced. -/
theorem getLsbD_setFld {n : Nat} (w : Word) (k : Nat) (x : BitVec n) (i : Nat) (hi : i < 32) :
    (setFld w k x).getLsbD i = if k ≤ i ∧ i < k + n then x.getLsbD (i - k) else w.getLsbD i := by
  by_cases hk : i < k
  · simp [setFld, put, hi, hk, show ¬ k ≤ i by omega]
  · by_cases hn : i - k < n
    · simp [setFld, put, hi, hk, hn, show k ≤ i by omega, show i < k + n by omega]
    · simp [setFld, put, hi, hk, hn, show ¬ i < k + n by omega, BitVec.getLsbD_of_ge x (i - k) (by omega)]

/-- The bits of a word with one bit replaced. -/
theorem getLsbD_setBit (w : Word) (k : Nat) (b : Bool) (i : Nat) (hi : i < 32) :
    (setBit w k b).getLsbD i = if i = k then b else w.getLsbD i := by
  rw [setBit, getLsbD_setFld w k _ i hi]
  by_cases h : i = k
  · subst h; simp
  · rw [if_neg (by omega), if_neg h]

/-- A bit as `bitAt` reads it. -/
theorem bitAt_eq_getLsbD {m : Nat} (w : BitVec m) (k : Nat) : bitAt w k = w.getLsbD k := by
  rw [← ofBool_beq (w.getLsbD k)]
  unfold bitAt
  congr 1
  ext i hi
  obtain rfl : i = 0 := by omega
  simp

/-- A field of a word is known by its bits. -/
theorem fld_congr {v w : Word} {k n : Nat} (h : ∀ i < n, v.getLsbD (k + i) = w.getLsbD (k + i)) :
    (fld v k n : BitVec n) = fld w k n := by
  ext i hi
  simpa [fld, hi] using h i hi

/-- The reserved bits of a status register value are zero (10_state.md R27). -/
def PsrClean (w : Word) : Prop := w &&& ~~~ psrMask = 0

/-- The reserved bits one by one. -/
theorem psrClean_iff {w : Word} : PsrClean w ↔ ∀ i < 32, psrMask.getLsbD i = false → w.getLsbD i = false := by
  constructor
  · intro h i hi hm
    have hb := congrArg (·.getLsbD i) h
    simp only [BitVec.getLsbD_eq_getElem hi] at hm hb ⊢
    simpa [hm] using hb
  · intro h
    apply BitVec.eq_of_getLsbD_eq
    intro i hi
    cases hm : psrMask.getLsbD i
    · simp [h i hi hm]
    · simp [hm]

/-- A value limited to the bits that exist. -/
theorem psrClean_and (w : Word) : PsrClean (w &&& psrMask) := by
  unfold PsrClean; rw [BitVec.and_assoc]; simp [psrMask]

/-- A replaced field that lies within the bits that exist. -/
theorem PsrClean.setFld {w : Word} (h : PsrClean w) {n : Nat} (k : Nat) (x : BitVec n)
    (hk : ∀ i < n, psrMask.getLsbD (k + i) = true) : PsrClean (Machine.setFld w k x) := by
  rw [psrClean_iff] at h ⊢
  intro i hi hm
  rw [getLsbD_setFld w k x i hi]
  split
  · next hin =>
    have := hk (i - k) (by omega)
    rw [show k + (i - k) = i by omega, hm] at this
    exact absurd this (by simp)
  · exact h i hi hm

/-- A replaced bit that exists. -/
theorem PsrClean.setBit {w : Word} (h : PsrClean w) (k : Nat) (b : Bool) (hk : psrMask.getLsbD k = true) :
    PsrClean (Machine.setBit w k b) :=
  h.setFld k _ fun i hi => by obtain rfl : i = 0 := by omega
                              exact hk

/-- Bits put in under a mask of bits that exist. -/
theorem PsrClean.merge {w : Word} (h : PsrClean w) (v m : Word) (hm : PsrClean m) : PsrClean ((w &&& ~~~ m) ||| (v &&& m)) := by
  rw [psrClean_iff] at *
  intro i hi hx
  simp [h i hi hx, hm i hi hx]

/-- Bits that exist put together. -/
theorem PsrClean.or {v w : Word} (h : PsrClean v) (k : PsrClean w) : PsrClean (v ||| w) := by
  rw [psrClean_iff] at *
  intro i hi hx
  simp [h i hi hx, k i hi hx]

/-- Part of the bits of a clean value. -/
theorem PsrClean.and {v : Word} (h : PsrClean v) (w : Word) : PsrClean (v &&& w) := by
  rw [psrClean_iff] at *
  intro i hi hx
  simp [h i hi hx]

/-- Two CPSR values agree in the mode bits and the A, I and F masks, the bits that User mode may not change (10_state.md R34). -/
def SameControl (w v : Word) : Prop := ∀ i < 9, i ≠ 5 → v.getLsbD i = w.getLsbD i

theorem SameControl.refl (w : Word) : SameControl w w := fun _ _ _ => rfl
theorem SameControl.trans {u v w : Word} (h : SameControl u v) (k : SameControl v w) : SameControl u w :=
  fun i hi h5 => (k i hi h5).trans (h i hi h5)

/-- The mode and the masks of two such values are the same. -/
theorem SameControl.mode {w v : Word} (h : SameControl w v) : (fld v 0 5 : BitVec 5) = fld w 0 5 :=
  fld_congr fun i hi => h (0 + i) (by omega) (by omega)
theorem SameControl.masks {w v : Word} (h : SameControl w v) : (fld v 6 3 : BitVec 3) = fld w 6 3 :=
  fld_congr fun i hi => h (6 + i) (by omega) (by omega)

/-- A bit outside the mode and the masks replaced. -/
theorem SameControl.setBit (w : Word) {k : Nat} (b : Bool) (hk : k = 5 ∨ 9 ≤ k) : SameControl w (Machine.setBit w k b) := by
  intro i hi h5
  rw [getLsbD_setBit w k b i (by omega), if_neg (by omega)]

/-- A CPSR value in which only flags and bits of the instruction set state and data endianness differ from another. -/
structure FlagsOnly (w v : Word) : Prop where
  control : SameControl w v
  clean : PsrClean w → PsrClean v

theorem FlagsOnly.trans {u v w : Word} (h : FlagsOnly u v) (k : FlagsOnly v w) : FlagsOnly u w :=
  ⟨h.control.trans k.control, fun c => k.clean (h.clean c)⟩

/-- The bits of the CPSR that an instruction of any mode may change: T, E and the condition flags. -/
theorem FlagsOnly.setBit (w : Word) {k : Nat} (b : Bool) (hk : k = 5 ∨ 9 ≤ k) (hm : psrMask.getLsbD k = true) :
    FlagsOnly w (Machine.setBit w k b) :=
  ⟨.setBit w b hk, fun c => c.setBit k b hm⟩
end Sys2Proof.Machine
end

section
/-! SUPPORT. The invariants of the state that a change keeps, and the updates that leave alone what they speak of. -/
namespace Sys2Proof.Machine

/-! ## What a step may do to the status registers -/

/-- The reserved bits of the CPSR and of every SPSR are zero (10_state.md R27). -/
def Psrs.Clean (p : Psrs) : Prop := PsrClean p.cpsr ∧ ∀ b w, p.spsr b = some w → PsrClean w

/-- The state that the invariants of this family speak of is as before, and so is whether the CPU is in debug state. -/
structure SameStatus (s t : State) : Prop where
  cfg : t.cfg = s.cfg
  psrs : t.psrs = s.psrs
  control : t.cp15.control = s.cp15.control
  stuck : t.stuck = s.stuck
  halted : t.halted = s.halted

/-- A change keeps the invariants: the chip, the fixed bits of the Control Register, the reserved bits of the status registers and
a legal mode (10_state.md R27, R33, 41_cp15_c1_control.md R150). -/
structure Keeps (s t : State) : Prop where
  cfg : t.cfg = s.cfg
  control : s.controlFixed → t.controlFixed
  clean : s.psrs.Clean → t.psrs.Clean
  mode : s.modeLegal → t.modeLegal

/-- What an instruction that raises no exception does: it keeps the invariants, and in User mode the mode bits and the masks
(10_state.md R34). -/
structure Unescalated (s t : State) : Prop extends Keeps s t where
  user : s.privileged = false → SameControl s.cpsr t.cpsr

theorem SameStatus.refl (s : State) : SameStatus s s := ⟨rfl, rfl, rfl, rfl, rfl⟩

theorem SameStatus.trans {s t u : State} (h : SameStatus s t) (k : SameStatus t u) : SameStatus s u :=
  ⟨k.cfg.trans h.cfg, k.psrs.trans h.psrs, k.control.trans h.control, k.stuck.trans h.stuck, k.halted.trans h.halted⟩

theorem MemoryOnly.sameStatus {s t : State} (h : MemoryOnly s t) : SameStatus s t :=
  ⟨h.cfg, h.psrs, congrArg Cp15.control h.cp15, h.stuck, h.halted⟩

section
variable {s t : State} (h : SameStatus s t)
include h

theorem SameStatus.cpsr : t.cpsr = s.cpsr := congrArg Psrs.cpsr h.psrs
theorem SameStatus.mode : t.mode = s.mode := by unfold State.mode; rw [h.cpsr]
theorem SameStatus.privileged : t.privileged = s.privileged := by unfold State.privileged; rw [h.halted, h.mode]
theorem SameStatus.vectorBase : t.vectorBase = s.vectorBase := by
  unfold State.vectorBase State.ctlV; rw [h.control]

end

/-! ## The invariants kept -/

/-- A change of nothing that the invariants speak of. -/
theorem Keeps.of_eq {s t : State} (cfg : t.cfg = s.cfg) (psrs : t.psrs = s.psrs) (control : t.cp15.control = s.cp15.control)
    (stuck : t.stuck = s.stuck) : Keeps s t where
  cfg := cfg
  control h := by unfold State.controlFixed at *; rwa [control, cfg]
  clean h := by rwa [psrs]
  mode h := by unfold State.modeLegal State.mode State.cpsr at *; rwa [stuck, psrs]

theorem Keeps.refl (s : State) : Keeps s s := .of_eq rfl rfl rfl rfl

theorem Keeps.trans {s t u : State} (h : Keeps s t) (k : Keeps t u) : Keeps s u :=
  ⟨k.cfg.trans h.cfg, fun c => k.control (h.control c), fun c => k.clean (h.clean c), fun c => k.mode (h.mode c)⟩

theorem SameStatus.keeps {s t : State} (h : SameStatus s t) : Keeps s t := .of_eq h.cfg h.psrs h.control h.stuck
theorem MemoryOnly.keeps {s t : State} (h : MemoryOnly s t) : Keeps s t := h.sameStatus.keeps

/-- A choice between two changes. -/
theorem Keeps.ite {s t u : State} {c : Prop} [Decidable c] (h : Keeps s t) (k : Keeps s u) : Keeps s (if c then t else u) := by
  split
  · exact h
  · exact k

theorem SameStatus.ite {s t u : State} {c : Prop} [Decidable c] (h : SameStatus s t) (k : SameStatus s u) :
    SameStatus s (if c then t else u) := by
  split
  · exact h
  · exact k

/-! ## Instructions that raise no exception -/

theorem SameStatus.unescalated {s t : State} (h : SameStatus s t) : Unescalated s t where
  toKeeps := h.keeps
  user _ := by rw [h.cpsr]; exact .refl _

theorem Unescalated.refl (s : State) : Unescalated s s := (SameStatus.refl s).unescalated

/-- A change of the status follows one that leaves it alone. -/
theorem SameStatus.andThen {s t u : State} (h : SameStatus s t) (k : Unescalated t u) : Unescalated s u where
  toKeeps := h.keeps.trans k.toKeeps
  user p := by rw [← h.cpsr]; exact k.user (h.privileged.trans p)

/-- A change that leaves the status alone follows. -/
theorem Unescalated.andThen {s t u : State} (h : Unescalated s t) (k : SameStatus t u) : Unescalated s u where
  toKeeps := h.toKeeps.trans k.keeps
  user p := by rw [k.cpsr]; exact h.user p

theorem Unescalated.ite {s t u : State} {c : Prop} [Decidable c] (h : Unescalated s t) (k : Unescalated s u) :
    Unescalated s (if c then t else u) := by
  split
  · exact h
  · exact k

/-- Flags, the instruction set state or the data endianness written to the CPSR. -/
theorem Unescalated.setCpsr {s : State} {v : Word} (h : FlagsOnly s.cpsr v) : Unescalated s (s.setCpsr v) where
  cfg := rfl
  control := id
  clean c := ⟨h.clean c.1, fun b w hw => c.2 b w (by cases b <;> exact hw)⟩
  mode m := m.imp_right fun l => by
    have e : (s.setCpsr v).mode = s.mode := h.control.mode
    rwa [e]
  user _ := h.control

theorem Unescalated.setNzcv (s : State) (n z c v : Bool) : Unescalated s (s.setNzcv n z c v) :=
  .setCpsr <| (FlagsOnly.setBit s.cpsr n (k := 31) (by omega) (by decide)).trans <|
    (FlagsOnly.setBit _ z (k := 30) (by omega) (by decide)).trans <|
    (FlagsOnly.setBit _ c (k := 29) (by omega) (by decide)).trans <| FlagsOnly.setBit _ v (k := 28) (by omega) (by decide)

/-- The T bit written (47_core_instructions.md R705). -/
theorem Unescalated.setThumb (s : State) (b : Bool) : Unescalated s (s.setCpsr (setBit s.cpsr 5 b)) :=
  .setCpsr (.setBit _ b (by omega) (by decide))

/-- The E bit written (47_core_instructions.md R715). -/
theorem Unescalated.setEndian (s : State) (b : Bool) : Unescalated s (s.setCpsr (setBit s.cpsr 9 b)) :=
  .setCpsr (.setBit _ b (by omega) (by decide))

/-! ## Updates of the core that leave the status alone -/

section
variable {s t : State} (h : SameStatus s t)
include h

theorem SameStatus.setBankReg (b : Bank) (n : RegNum) (v : Word) : SameStatus s (t.setBankReg b n v) := by
  refine h.trans ?_
  unfold State.setBankReg
  exact .ite (.refl t) ⟨rfl, rfl, rfl, rfl, rfl⟩

theorem SameStatus.setReg (n : RegNum) (v : Word) : SameStatus s (t.setReg n v) := h.setBankReg _ n v
theorem SameStatus.setLink : SameStatus s t.setLink := h.setReg _ _
theorem SameStatus.setPc (v : Word) : SameStatus s (t.setPc v) := h.trans ⟨rfl, rfl, rfl, rfl, rfl⟩
theorem SameStatus.advance : SameStatus s t.advance := by
  unfold State.advance
  exact .ite h (h.setPc _)

theorem SameStatus.markWritten : SameStatus s t.markWritten := by
  unfold State.markWritten
  exact .ite (h.trans ⟨rfl, rfl, rfl, rfl, rfl⟩) h

theorem SameStatus.writePc (v : Word) : SameStatus s (t.writePc v) := (h.setPc v).markWritten
theorem SameStatus.flushPipeline : SameStatus s t.flushPipeline := h.trans ⟨rfl, rfl, rfl, rfl, rfl⟩
theorem SameStatus.noteStatus (b : Bool) : SameStatus s (t.noteStatus b) := h.trans ⟨rfl, rfl, rfl, rfl, rfl⟩

theorem SameStatus.writeBase (n : RegNum) : ∀ v, SameStatus s (t.writeBase n v)
  | none => h
  | some v => h.setReg n v

theorem SameStatus.returnWritePc (v : Word) : SameStatus s (returnWritePc t v) := by
  unfold Machine.returnWritePc
  exact .ite (h.writePc _) (.ite (h.writePc _) (h.writePc _))

theorem SameStatus.setSreg (n : BitVec 5) (v : Word) : SameStatus s (t.setSreg n v) := h.trans ⟨rfl, rfl, rfl, rfl, rfl⟩
theorem SameStatus.setDreg (n : BitVec 4) (v : BitVec 64) : SameStatus s (t.setDreg n v) := (h.setSreg _ _).setSreg _ _

/-- Free values drawn. -/
theorem SameStatus.draw (n : Nat) : SameStatus s { t with freeCtr := n } := h.trans ⟨rfl, rfl, rfl, rfl, rfl⟩

/-- CP15 registers replaced, but not the Control Register. -/
theorem SameStatus.setCp15 {c : Cp15} (hc : c.control = t.cp15.control) : SameStatus s (t.setCp15 c) :=
  h.trans ⟨rfl, rfl, hc, rfl, rfl⟩

end

/-! ## Writes of the CPSR and the PC -/

/-- The value that a write puts in the CPSR: NMFI keeps F from being set (60_exceptions.md R531). -/
def cpsrWritten (s : State) (v : Word) : Word := if s.ctlNmfi then setBit v 6 (s.fBit && bitAt v 6) else v

/-- Beyond the CPSR and the note of an illegal mode a write of the CPSR changes nothing of the status. -/
theorem writeCpsr_sameStatus (s : State) (v : Word) :
    SameStatus { s.setCpsr (cpsrWritten s v) with stuck := s.stuck || !legalMode (fld (cpsrWritten s v) 0 5) } (s.writeCpsr v) :=
  have mark (t : State) : SameStatus t { t with dbg := { t.dbg with touched := true } } := ⟨rfl, rfl, rfl, rfl, rfl⟩
  .ite (.ite ((mark _).setBankReg _ _ _) (mark _)) (.refl _)

/-- NMFI leaves an F bit that is not to change as it is. -/
theorem SameControl.cpsrWritten {s : State} {v : Word} (h : SameControl s.cpsr v) : SameControl s.cpsr (cpsrWritten s v) := by
  unfold Machine.cpsrWritten
  split
  · intro i hi h5
    rw [getLsbD_setBit _ _ _ _ (by omega)]
    split
    · next e =>
      subst e
      rw [State.fBit, bitAt_eq_getLsbD, bitAt_eq_getLsbD, h 6 (by omega) (by omega), Bool.and_self]
    · exact h i hi h5
  · exact h

theorem PsrClean.cpsrWritten {s : State} {v : Word} (h : PsrClean v) : PsrClean (cpsrWritten s v) := by
  unfold Machine.cpsrWritten
  split
  · exact h.setBit 6 _ (by decide)
  · exact h

/-- A write of the whole CPSR: an illegal mode makes the machine unrecoverable (10_state.md R33). -/
theorem Unescalated.writeCpsr {s : State} {v : Word} (clean : PsrClean s.cpsr → PsrClean v)
    (user : s.privileged = false → SameControl s.cpsr v) : Unescalated s (s.writeCpsr v) := by
  refine Unescalated.andThen ?_ (writeCpsr_sameStatus s v)
  exact
    { cfg := rfl
      control := id
      clean := fun c => ⟨(clean c.1).cpsrWritten, fun b x hx => c.2 b x (by cases b <;> exact hx)⟩
      mode := fun _ => by
        show (s.stuck || !legalMode (fld (cpsrWritten s v) 0 5)) = true ∨ legalMode (fld (cpsrWritten s v) 0 5) = true
        cases legalMode (fld (cpsrWritten s v) 0 5) <;> simp
      user := fun p => (user p).cpsrWritten }

/-- A CPSR value written by a return: in User mode the mode and the masks are those of before (47_core_instructions.md R723). -/
theorem Unescalated.exceptionReturn (s : State) (psr target : Word) : Unescalated s (exceptionReturn s psr target) := by
  refine (Unescalated.writeCpsr (fun _ => ?_) fun p => ?_).andThen ((SameStatus.refl _).returnWritePc _).flushPipeline
  · unfold cpsrByReturn
    split
    · exact psrClean_and psr
    · exact ((psrClean_and psr).setFld 0 _ (by decide)).setFld 6 _ (by decide)
  · intro i hi h5
    unfold cpsrByReturn
    rw [p, if_neg (by simp), getLsbD_setFld _ _ _ _ (by omega)]
    split
    · next hin => simp [fld, show i - 6 < 3 by omega, show 6 + (i - 6) = i by omega]
    · next hout =>
      rw [getLsbD_setFld _ _ _ _ (by omega), if_pos (by omega)]
      simp [fld, show i < 5 by omega]

end Sys2Proof.Machine
end

section
/-! SUPPORT. What raising and taking an exception does to the status, and what an instruction ends in. -/
namespace Sys2Proof.Machine

/-! ## Results -/

/-- The states in which a result leaves the machine have the status of before. -/
def Res.SameStatus {α : Type} (s : State) (r : Res α) : Prop :=
  match r with
  | .ok _ t => Machine.SameStatus s t
  | .exc _ t => Machine.SameStatus s t
  | .fault _ => True
  | .refused _ => True

/-- A result that raises an exception has left the status as it was, and one that raises none has not escalated. -/
def Res.Unescalated {α : Type} (s : State) (r : Res α) : Prop :=
  match r with
  | .ok _ t => Machine.Unescalated s t
  | .exc _ t => Machine.SameStatus s t
  | .fault _ => True
  | .refused _ => True

theorem Res.MemoryOnly.sameStatus {α : Type} {s : State} {r : Res α} (h : r.MemoryOnly s) : r.SameStatus s := by
  cases r with
  | ok a t => exact Machine.MemoryOnly.sameStatus h
  | exc x t => exact Machine.MemoryOnly.sameStatus h
  | fault e => trivial
  | refused e => trivial

theorem Res.SameStatus.unescalated {α : Type} {s : State} {r : Res α} (h : r.SameStatus s) : r.Unescalated s := by
  cases r with
  | ok a t => exact Machine.SameStatus.unescalated h
  | exc x t => exact h
  | fault e => trivial
  | refused e => trivial

theorem Res.SameStatus.bind {α β : Type} {s : State} {r : Res α} {f : α → State → Res β} (h : r.SameStatus s)
    (k : ∀ a t, Machine.SameStatus s t → (f a t).SameStatus s) : (r.bind f).SameStatus s := by
  cases r with
  | ok a t => exact k a t h
  | exc x t => exact h
  | fault e => trivial
  | refused e => trivial

/-- A part that leaves the status alone, then one that does not escalate. -/
theorem Res.SameStatus.andThen {α β : Type} {s : State} {r : Res α} {f : α → State → Res β} (h : r.SameStatus s)
    (k : ∀ a t, Machine.SameStatus s t → (f a t).Unescalated s) : (r.bind f).Unescalated s := by
  cases r with
  | ok a t => exact k a t h
  | exc x t => exact h
  | fault e => trivial
  | refused e => trivial

theorem Res.SameStatus.after {α : Type} {s t : State} {r : Res α} (h : Machine.SameStatus s t) (k : r.SameStatus t) :
    r.SameStatus s := by
  cases r with
  | ok a u => exact Machine.SameStatus.trans h k
  | exc x u => exact Machine.SameStatus.trans h k
  | fault e => trivial
  | refused e => trivial

theorem Res.Unescalated.ite {α : Type} {s : State} {c : Prop} [Decidable c] {x y : Res α} (hx : x.Unescalated s)
    (hy : y.Unescalated s) : (if c then x else y).Unescalated s := by
  split
  · exact hx
  · exact hy

theorem Res.SameStatus.ite {α : Type} {s : State} {c : Prop} [Decidable c] {x y : Res α} (hx : x.SameStatus s)
    (hy : y.SameStatus s) : (if c then x else y).SameStatus s := by
  split
  · exact hx
  · exact hy

/-! ## Entering an exception -/

/-- An exception of a mode and a vector offset has been entered, by `State.enter` from a state with the status of `s`
(60_exceptions.md R510). -/
def Enters (mode : BitVec 5) (offset : Word) (s t : State) : Prop :=
  ∃ u link a f, SameStatus s u ∧ t = u.enter mode offset link a f

theorem enters (s : State) (mode : BitVec 5) (offset link : Word) (a f : Bool) :
    Enters mode offset s (s.enter mode offset link a f) := ⟨s, link, a, f, .refl s, rfl⟩

theorem Enters.after {mode : BitVec 5} {offset : Word} {s t u : State} (h : SameStatus s t) (k : Enters mode offset t u) :
    Enters mode offset s u := by
  obtain ⟨v, link, a, f, hv, e⟩ := k
  exact ⟨v, link, a, f, h.trans hv, e⟩

theorem enter_psrs (s : State) (mode : BitVec 5) (offset link : Word) (a f : Bool) :
    (s.enter mode offset link a f).psrs =
      ({ s.psrs with cpsr := entryCpsr s.cpsr mode a f s.ctlEe } : Psrs).setSpsr (bankOf mode) s.cpsr := by
  simp [State.enter]

theorem enter_cfg (s : State) (mode : BitVec 5) (offset link : Word) (a f : Bool) :
    (s.enter mode offset link a f).cfg = s.cfg := by simp [State.enter]

theorem enter_cp15 (s : State) (mode : BitVec 5) (offset link : Word) (a f : Bool) :
    (s.enter mode offset link a f).cp15 = s.cp15 := by simp [State.enter]

theorem enter_pc (s : State) (mode : BitVec 5) (offset link : Word) (a f : Bool) :
    (s.enter mode offset link a f).pc = s.vectorBase + offset := by simp [State.enter]

/-- Writing an SPSR leaves the CPSR alone. -/
theorem Psrs.setSpsr_cpsr (p : Psrs) (b : Bank) (v : Word) : (p.setSpsr b v).cpsr = p.cpsr := by cases b <;> rfl

/-- Reading an SPSR after writing one; User and System mode have none (10_state.md R26). -/
theorem Psrs.spsr_setSpsr (p : Psrs) (b c : Bank) (v : Word) :
    (p.setSpsr b v).spsr c = if c = b ∧ b ≠ .usr then some v else p.spsr c := by
  cases b <;> cases c <;> rfl

theorem enter_cpsr (s : State) (mode : BitVec 5) (offset link : Word) (a f : Bool) :
    (s.enter mode offset link a f).cpsr = entryCpsr s.cpsr mode a f s.ctlEe := by
  unfold State.cpsr
  rw [enter_psrs, Psrs.setSpsr_cpsr]
  rfl

/-- The mode bits of a value lie below a bit that is replaced. -/
theorem mode_setBit (w : Word) {k : Nat} (b : Bool) (hk : 5 ≤ k) : (fld (setBit w k b) 0 5 : BitVec 5) = fld w 0 5 :=
  fld_congr fun i hi => by rw [getLsbD_setBit _ _ _ _ (by omega), if_neg (by omega)]

/-- The mode bits replaced. -/
theorem mode_setFld (w : Word) (m : BitVec 5) : (fld (setFld w 0 m) 0 5 : BitVec 5) = m := by
  apply BitVec.eq_of_getLsbD_eq
  intro i hi
  simp only [fld, BitVec.getLsbD_extractLsb', hi, decide_true, Bool.true_and]
  rw [getLsbD_setFld _ _ _ _ (by omega), if_pos (by omega)]
  simp

theorem entryCpsr_mode (w : Word) (mode : BitVec 5) (a f ee : Bool) : (fld (entryCpsr w mode a f ee) 0 5 : BitVec 5) = mode := by
  have e : (fld (setBit (setBit (setBit (setFld w 0 mode) 5 false) 24 false) 7 true) 0 5 : BitVec 5) = mode := by
    rw [mode_setBit _ _ (by omega), mode_setBit _ _ (by omega), mode_setBit _ _ (by omega), mode_setFld]
  unfold entryCpsr
  dsimp only
  rw [mode_setBit _ _ (by omega)]
  cases a <;> cases f <;> simp [mode_setBit, e]

theorem PsrClean.entryCpsr {w : Word} (h : PsrClean w) (mode : BitVec 5) (a f ee : Bool) : PsrClean (entryCpsr w mode a f ee) := by
  have h1 := (((h.setFld 0 mode (by decide)).setBit 5 false (by decide)).setBit 24 false (by decide)).setBit 7 true (by decide)
  unfold Machine.entryCpsr
  dsimp only
  refine PsrClean.setBit ?_ 9 ee (by decide)
  cases a <;> cases f
  · exact h1
  · exact h1.setBit 6 true (by decide)
  · exact h1.setBit 8 true (by decide)
  · exact (h1.setBit 8 true (by decide)).setBit 6 true (by decide)

/-- An entry to one of the seven modes keeps the invariants. -/
theorem Enters.keeps {mode : BitVec 5} {offset : Word} {s t : State} (h : Enters mode offset s t) (hm : legalMode mode = true) :
    Keeps s t := by
  obtain ⟨u, link, a, f, hu, rfl⟩ := h
  refine hu.keeps.trans ?_
  exact
    { cfg := enter_cfg ..
      control := fun c => by unfold State.controlFixed at *; rwa [enter_cp15, enter_cfg]
      clean := fun c => by
        rw [enter_psrs]
        refine ⟨?_, fun b w hw => ?_⟩
        · rw [Psrs.setSpsr_cpsr]
          exact c.1.entryCpsr mode a f _
        · rw [Psrs.spsr_setSpsr] at hw
          split at hw
          · exact Option.some.inj hw ▸ c.1
          · exact c.2 b w (by cases b <;> exact hw)
      mode := fun _ => Or.inr (by unfold State.mode; rw [enter_cpsr, entryCpsr_mode]; exact hm) }

/-- What the entry of an exception leaves: the mode, the old CPSR in its SPSR, the PC at the vector (60_exceptions.md R510). -/
theorem Enters.spec {mode : BitVec 5} {offset : Word} {s t : State} (h : Enters mode offset s t) (hb : bankOf mode ≠ .usr) :
    t.mode = mode ∧ t.psrs.spsr t.bank = some s.cpsr ∧ t.pc = s.vectorBase + offset := by
  obtain ⟨u, link, a, f, hu, rfl⟩ := h
  have hmode : (u.enter mode offset link a f).mode = mode := by unfold State.mode; rw [enter_cpsr, entryCpsr_mode]
  refine ⟨hmode, ?_, ?_⟩
  · rw [enter_psrs, State.bank, hmode, Psrs.spsr_setSpsr, if_pos ⟨rfl, hb⟩, hu.cpsr]
  · rw [enter_pc, hu.vectorBase]

/-! ## The exceptions -/

/-- The halted bit is below a field of the DSCR that is replaced. -/
theorem bitAt_setFld_zero {n : Nat} (w : Word) (k : Nat) (x : BitVec n) (hk : 0 < k) : bitAt (setFld w k x) 0 = bitAt w 0 := by
  rw [bitAt_eq_getLsbD, bitAt_eq_getLsbD, getLsbD_setFld _ _ _ _ (by omega), if_neg (by omega)]

section
variable {s t : State} (h : SameStatus s t)
include h

/-- The DSCR written, but not its halted bit. -/
theorem SameStatus.setDscr {v : Word} (hv : bitAt v 0 = bitAt t.dbg.dscr 0) : SameStatus s (t.setDscr v) :=
  h.trans ⟨rfl, rfl, rfl, rfl, hv⟩

theorem SameStatus.setEntry (cause : BitVec 4) : SameStatus s (t.setEntry cause) :=
  h.setDscr (bitAt_setFld_zero _ 2 _ (by omega))
theorem SameStatus.setIfsr (v : Word) : SameStatus s (t.setIfsr v) := h.trans ⟨rfl, rfl, rfl, rfl, rfl⟩
theorem SameStatus.setDfsr (v : Word) : SameStatus s (t.setDfsr v) := h.trans ⟨rfl, rfl, rfl, rfl, rfl⟩
theorem SameStatus.setFar (v : Word) : SameStatus s (t.setFar v) := h.trans ⟨rfl, rfl, rfl, rfl, rfl⟩
theorem SameStatus.setWfar (v : Word) : SameStatus s (t.setWfar v) := h.trans ⟨rfl, rfl, rfl, rfl, rfl⟩
theorem SameStatus.clearWatch : SameStatus s t.clearWatch := h.trans ⟨rfl, rfl, rfl, rfl, rfl⟩
theorem SameStatus.drawWord : SameStatus s t.drawWord.2 := h.trans ⟨rfl, rfl, rfl, rfl, rfl⟩
theorem SameStatus.drawBool : SameStatus s t.drawBool.2 := h.trans ⟨rfl, rfl, rfl, rfl, rfl⟩
theorem SameStatus.openWfar : SameStatus s (openWfar t) := h.trans ⟨rfl, rfl, rfl, rfl, rfl⟩

end

theorem debugPrefetchAbort_enters (s : State) (cause : BitVec 4) : Enters modeAbt 0x0C s (debugPrefetchAbort s cause) :=
  .after ((SameStatus.refl s).drawWord.setEntry cause |>.setIfsr _) (enters ..)

theorem debugDataAbort_enters (s : State) (wfar : Word) : Enters modeAbt 0x10 s (debugDataAbort s wfar) :=
  .after ((SameStatus.refl s).drawWord.drawWord.setEntry entryWatchpoint |>.setDfsr _ |>.setFar _ |>.setWfar _) (enters ..)

/-- A precise Data Abort in debug state sets DSCR[6] and the method of entry (46_cp14_debug.md R332). -/
theorem SameStatus.stickyAbort {s t : State} (h : SameStatus s t) :
    SameStatus s (t.setDscr (setBit (setFld t.dbg.dscr 2 entryDataAbort) 6 true)) :=
  h.setDscr ((bitAt_setFld_zero _ 6 _ (by omega)).trans (bitAt_setFld_zero _ 2 _ (by omega)))

/-- A choice between two states from which the same exception is entered. -/
theorem Enters.ite {mode : BitVec 5} {offset : Word} {s t u : State} {c : Prop} [Decidable c] (h : Enters mode offset s t)
    (k : Enters mode offset s u) : Enters mode offset s (if c then t else u) := by
  split
  · exact h
  · exact k

theorem takeDataAbort_enters (f : DataFault) (s : State) : Enters modeAbt 0x10 s (takeDataAbort f s) := by
  have drawn := (SameStatus.refl s).clearWatch.drawWord.drawWord.drawWord
  have recorded := ((drawn.setDfsr (dfsrValue f.status f.domain f.sd f.write s.clearWatch.drawWord.1)).setFar f.mva).setWfar
    s.clearWatch.drawWord.2.drawWord.1
  exact .ite (.after (SameStatus.stickyAbort (.ite (recorded.drawWord.setIfsr _) recorded)) (enters ..))
    (.after (.ite (recorded.drawWord.setIfsr _) recorded) (enters ..))

theorem takeImpreciseAbort_enters (a : ImpreciseAbort) (s : State) : Enters modeAbt 0x10 s (takeImpreciseAbort a s) := by
  have taken : SameStatus s { s.drawWord.2.drawWord.2 with imprecise := none } := ⟨rfl, rfl, rfl, rfl, rfl⟩
  have recorded := (taken.setDscr (v := setBit s.dbg.dscr 7 true) (bitAt_setFld_zero _ 7 _ (by omega))).setDfsr
    (dfsrValue 0b10110 none (some a.sd) (some a.write) s.drawWord.1)
  exact .ite (.after ((recorded.setEntry entryDataAbort).drawWord.setWfar _) (enters ..)) (.after recorded (enters ..))

theorem takePrefetchAbort_enters (f : FetchFault) (s : State) : Enters modeAbt 0x0C s (takePrefetchAbort f s) :=
  .after ((SameStatus.refl s).openWfar.drawWord.setIfsr _) (enters ..)

theorem takeUndefined_enters (s : State) : Enters modeUnd 0x04 s (takeUndefined s) := by
  unfold takeUndefined
  split
  · exact .after (SameStatus.refl s).drawWord (enters ..)
  · exact enters ..

theorem takeSwi_enters (s : State) : Enters modeSvc 0x08 s (takeSwi s) := enters ..
theorem takeIrq_enters (s : State) : Enters modeIrq 0x18 s (takeIrq s) := enters ..
theorem takeFiq_enters (s : State) : Enters modeFiq 0x1C s (takeFiq s) := enters ..

/-- Entering debug state changes nothing of the status but that (46_cp14_debug.md R329). -/
theorem enterDebugState_keeps (s : State) (cause : BitVec 4) : Keeps s (enterDebugState s cause) := .of_eq rfl rfl rfl rfl

/-- What a BKPT instruction does: nothing, in debug state; entry to debug state; or a Prefetch Abort (46_cp14_debug.md R322,
R331). -/
theorem takeBkpt_cases (s : State) :
    takeBkpt s = s ∨ takeBkpt s = enterDebugState s entryBkpt ∨ Enters modeAbt 0x0C s (takeBkpt s) := by
  unfold takeBkpt
  split
  · exact .inl rfl
  · split
    · exact .inr (.inl rfl)
    · exact .inr (.inr (debugPrefetchAbort_enters s _))
    · exact .inr (.inr (.after (SameStatus.refl s).openWfar (debugPrefetchAbort_enters _ _)))

/-! ## The end of an instruction -/

/-- An instruction has ended in an exception of one of its own kinds: the SPSR of the mode entered holds the CPSR of before, and the
PC is at a vector (60_exceptions.md R510, R550). -/
def TookException (s t : State) : Prop :=
  (t.mode = modeUnd ∨ t.mode = modeSvc ∨ t.mode = modeAbt) ∧ t.psrs.spsr t.bank = some s.cpsr ∧
    ∃ off ∈ ([0x04, 0x08, 0x0C, 0x10] : List Word), t.pc = s.vectorBase + off

/-- What an instruction does: it keeps the invariants, and in User mode it keeps the mode bits and the masks or takes an
exception. -/
structure Executed (s t : State) : Prop extends Keeps s t where
  user : s.privileged = false → SameControl s.cpsr t.cpsr ∨ TookException s t

/-- An outcome whose next state, if there is one, an instruction may give. -/
structure Executes (s : State) (o : Host.Outcome State Fault Refusal) : Prop where
  next : ∀ t, o = .next t → Executed s t

theorem executes_next {s t : State} (h : Executed s t) : Executes s (.next t) := ⟨fun _ e => by cases e; exact h⟩
theorem executes_fault (s : State) (e : Fault) : Executes s (.fault e) := ⟨fun _ => nofun⟩
theorem executes_refused (s : State) (e : Refusal) : Executes s (.refused e) := ⟨fun _ => nofun⟩

theorem Unescalated.executed {s t : State} (h : Unescalated s t) : Executed s t where
  toKeeps := h.toKeeps
  user p := .inl (h.user p)

theorem Enters.executed {mode : BitVec 5} {off : Word} {s t : State} (h : Enters mode off s t)
    (hm : (mode, off) ∈ [(modeUnd, 0x04), (modeSvc, 0x08), (modeAbt, 0x0C), (modeAbt, (0x10 : Word))]) : Executed s t := by
  simp only [List.mem_cons, Prod.mk.injEq, List.not_mem_nil, or_false] at hm
  have legal : legalMode mode = true := by
    rcases hm with ⟨rfl, -⟩ | ⟨rfl, -⟩ | ⟨rfl, -⟩ | ⟨rfl, -⟩ <;> rfl
  have bank : bankOf mode ≠ .usr := by
    rcases hm with ⟨rfl, -⟩ | ⟨rfl, -⟩ | ⟨rfl, -⟩ | ⟨rfl, -⟩ <;> decide
  obtain ⟨hmode, hspsr, hpc⟩ := h.spec bank
  refine ⟨h.keeps legal, fun _ => .inr ⟨?_, hspsr, off, ?_, hpc⟩⟩
  · rw [hmode]
    rcases hm with ⟨rfl, -⟩ | ⟨rfl, -⟩ | ⟨rfl, -⟩ | ⟨rfl, -⟩ <;> simp
  · rcases hm with ⟨-, rfl⟩ | ⟨-, rfl⟩ | ⟨-, rfl⟩ | ⟨-, rfl⟩ <;> simp

/-- Taking the exception that an instruction has raised. -/
theorem takeException_executed (x : Exc) (s : State) : Executed s (takeException x s) := by
  cases x with
  | undefined => exact (takeUndefined_enters s).executed (by simp)
  | swi => exact (takeSwi_enters s).executed (by simp)
  | prefetchAbort f => exact (takePrefetchAbort_enters f s).executed (by simp)
  | dataAbort f => exact (takeDataAbort_enters f s).executed (by simp)
  | bkpt =>
    show Executed s (takeBkpt s)
    rcases takeBkpt_cases s with e | e | e
    · rw [e]; exact (Unescalated.refl s).executed
    · rw [e]; exact ⟨enterDebugState_keeps s _, fun _ => .inl (.refl _)⟩
    · exact e.executed (by simp)

/-- From a state with the same status. -/
theorem Executed.after {s t u : State} (h : SameStatus s t) (k : Executed t u) : Executed s u where
  toKeeps := h.keeps.trans k.toKeeps
  user p := by
    rcases k.user (h.privileged.trans p) with c | ⟨m, sp, off, ho, pc⟩
    · exact .inl (h.cpsr ▸ c)
    · exact .inr ⟨m, by rw [sp, h.cpsr], off, ho, by rw [pc, h.vectorBase]⟩

theorem executes_finish {s : State} {r : Res Unit} (h : r.Unescalated s) : Executes s (finish r) := by
  cases r with
  | ok a u => exact executes_next (Unescalated.executed h)
  | exc x u =>
    unfold finish
    dsimp only
    split
    · exact executes_refused ..
    · exact executes_next ((takeException_executed x u).after h)
  | fault e => exact executes_fault ..
  | refused e => exact executes_refused ..

theorem executes_advance (s : State) : Executes s (.next s.advance) :=
  executes_next (SameStatus.refl s).advance.unescalated.executed

theorem executes_whenPasses {cond : Cond} {s : State} {m : State → Res Unit} (h : (m s).Unescalated s) :
    Executes s (whenPasses cond s m) := by
  unfold whenPasses
  split
  · exact executes_finish h
  · exact executes_advance s

theorem executes_whenBranches {cond : Cond} {s : State} {m : State → Res Unit} (h : (m s).Unescalated s) :
    Executes s (whenBranches cond s m) := by
  unfold whenBranches
  split
  · exact executes_finish h
  · split
    · exact executes_next ((SameStatus.refl s).drawWord.writePc _).unescalated.executed
    · exact executes_advance s

end Sys2Proof.Machine
end

section
/-! SUPPORT. The status through branches, data processing, CP14, CP15 and the moves to the status registers. -/
namespace Sys2Proof.Machine

/-! ## Branches and multiplies -/

theorem unescalated_bxWritePc {s t : State} (h : SameStatus s t) (v : Word) : (bxWritePc t v).Unescalated s := by
  have set (b : Bool) (w : Word) : Unescalated s ((t.setCpsr (setBit t.cpsr 5 b)).writePc w) :=
    h.andThen ((Unescalated.setThumb t b).andThen ((SameStatus.refl _).writePc w))
  exact .ite (set _ _) (.ite trivial (set _ _))

theorem unescalated_aluWritePc {s t : State} (h : SameStatus s t) (v : Word) : (aluWritePc t v).Unescalated s :=
  .ite (h.writePc _).unescalated (.ite (h.writePc _).unescalated (.ite (h.writePc _).unescalated trivial))

theorem unescalated_loadWritePc {s t : State} (h : SameStatus s t) (v : Word) : (loadWritePc t v).Unescalated s :=
  .ite (h.writePc _).unescalated (unescalated_bxWritePc h v)

/-- The return through the SPSR; User mode has none, so it is refused there (60_exceptions.md R512). -/
theorem unescalated_returnFromSpsr {s t : State} (h : SameStatus s t) (v : Word) : (returnFromSpsr t v).Unescalated s := by
  unfold returnFromSpsr
  split
  · trivial
  · exact h.andThen (.exceptionReturn t _ v)

theorem unescalated_branch (s : State) (rm : RegNum) {t : State} (h : SameStatus s t) :
    (if rm = 15 then Res.refused .unpredictableForm else bxWritePc t (s.reg rm)).Unescalated s :=
  .ite trivial (unescalated_bxWritePc h _)

/-- A result written to a register, with or without a write of the flags before. -/
theorem unescalated_flagsThenReg {s : State} {sb : Bool} {flags : State → State} (hf : Unescalated s (flags s)) (rd : RegNum)
    (v : Word) : Unescalated s ((if sb then flags s else s).setReg rd v).advance :=
  (Unescalated.ite hf (.refl s)).andThen ((SameStatus.refl _).setReg rd v).advance

/-- MUL and MLA (47_core_instructions.md R773). -/
theorem executes_multiply (cond : Cond) (sb : Bool) (rd : RegNum) (s : State) (bad : State → Bool) (v : State → Word) :
    Executes s (whenPasses cond s fun s =>
      if bad s then .refused .unpredictableForm else .ok () ((if sb then s.setNz (v s) else s).setReg rd (v s)).advance) :=
  executes_whenPasses <| .ite trivial (unescalated_flagsThenReg (flags := fun s => s.setNz (v s)) (.setNzcv ..) rd _)

/-! ## Data processing -/

theorem unescalated_writeResult {s : State} (sb : Bool) (rd : RegNum) (v : Word) {flags : State → State}
    (hf : Unescalated s (flags s)) : (writeResult s sb rd v flags).Unescalated s :=
  .ite (.ite (unescalated_returnFromSpsr (.refl s) v) (unescalated_aluWritePc (.refl s) v)) (unescalated_flagsThenReg hf rd v)

theorem unescalated_writeLogic (s : State) (sb : Bool) (rd : RegNum) (c : Bool) (v : Word) :
    (writeLogic s sb rd c v).Unescalated s := unescalated_writeResult sb rd v (.setNzcv ..)

theorem unescalated_writeArith (s : State) (sb : Bool) (rd : RegNum) (x : Sum) : (writeArith s sb rd x).Unescalated s :=
  unescalated_writeResult sb rd x.result (.setNzcv ..)

theorem unescalated_testLogic (s : State) (c : Bool) (v : Word) : (testLogic s c v).Unescalated s :=
  (Unescalated.setNzcv ..).andThen (SameStatus.refl _).advance

theorem unescalated_testArith (s : State) (x : Sum) : (testArith s x).Unescalated s :=
  (Unescalated.setNzcv ..).andThen (SameStatus.refl _).advance

theorem unescalated_noPc {s : State} (l : List RegNum) {r : Res Unit} (h : r.Unescalated s) : (noPc l r).Unescalated s :=
  .ite trivial h

/-! ## CP14 -/

theorem executes_cp14Run {cond : Cond} {k : Cp14Kind} {s : State} {m : State → Res Unit} (h : (m s).Unescalated s) :
    Executes s (cp14Run cond k s m) := executes_whenPasses (.ite h (SameStatus.refl s))

theorem executes_cp14Transfer {cond : Cond} {k : Cp14Kind} {rd : RegNum} {s : State} {m : State → Res Unit}
    (h : (m s).Unescalated s) : Executes s (cp14Transfer cond k rd s m) := executes_cp14Run (.ite (SameStatus.refl s) h)

theorem executes_cp14Read (cond : Cond) (k : Cp14Kind) (rd : RegNum) (s : State) (v : State → Word) :
    Executes s (cp14Read cond k rd s v) := executes_cp14Transfer ((SameStatus.refl s).setReg rd _).advance.unescalated

theorem executes_cp14Write {cond : Cond} {k : Cp14Kind} {rd : RegNum} {s : State} {f : Word → State → State}
    (h : ∀ v, SameStatus s (f v s)) : Executes s (cp14Write cond k rd s f) :=
  executes_cp14Transfer (h _).advance.unescalated

section
variable {s t : State} (h : SameStatus s t)
include h

theorem SameStatus.rdtrRead : SameStatus s (rdtrRead t).2 := h.setDscr (bitAt_setFld_zero _ 30 _ (by omega))
theorem SameStatus.wdtrWrite (v : Word) : SameStatus s (wdtrWrite v t) :=
  h.trans ⟨rfl, rfl, rfl, rfl, bitAt_setFld_zero _ 29 _ (by omega)⟩

/-- The core writes no status bit of the DSCR, the halted bit least of all (46_cp14_debug.md R304). -/
theorem SameStatus.dscrWrite (v : Word) : SameStatus s (dscrWrite v t) :=
  h.setDscr (by simp [bitAt_eq_getLsbD])

end

/-- LDC and STC of the data transfer register (46_cp14_debug.md R315, R316). -/
theorem executes_ldcDtr (cond : Cond) (p u w : Bool) (rn : RegNum) (off : BitVec 8) (s : State) :
    Executes s (execLdcDtr cond p u w rn off s) :=
  executes_cp14Run <| .ite trivial <| (memoryOnly_loadMany _ _ _ _ s).sameStatus.andThen fun _ _ h =>
    ((h.wdtrWrite _).writeBase _ _).advance.unescalated

theorem executes_stcDtr (cond : Cond) (p u w : Bool) (rn : RegNum) (off : BitVec 8) (s : State) :
    Executes s (execStcDtr cond p u w rn off s) :=
  executes_cp14Run <| .ite trivial <| (memoryOnly_storeMany _ _ _ _ s).sameStatus.andThen fun _ _ h =>
    (h.rdtrRead.writeBase _ _).advance.unescalated

/-! ## CP15 -/

theorem executes_cp15Run {cond : Cond} {rd : RegNum} {s : State} {m : State → Res Unit} (h : (m s).Unescalated s) :
    Executes s (cp15Run cond rd s m) := executes_whenPasses (.ite (SameStatus.refl s) (.ite trivial h))

theorem executes_cp15RunUser {cond : Cond} {rd : RegNum} {s : State} {m : State → Res Unit} (h : (m s).Unescalated s) :
    Executes s (cp15RunUser cond rd s m) := executes_whenPasses (.ite trivial h)

theorem executes_cp15Read (cond : Cond) (rd : RegNum) (s : State) (v : State → Word) : Executes s (cp15Read cond rd s v) :=
  executes_cp15Run ((SameStatus.refl s).setReg rd _).advance.unescalated

theorem executes_cp15ReadWith {cond : Cond} {rd : RegNum} {s : State} {v : State → Word × State} (h : SameStatus s (v s).2) :
    Executes s (cp15ReadWith cond rd s v) := executes_cp15Run (h.setReg rd _).advance.unescalated

theorem executes_cp15Write_of_unescalated {cond : Cond} {rd : RegNum} {s : State} {f : Word → State → State}
    (h : ∀ v, Unescalated s (f v s)) : Executes s (cp15Write cond rd s f) :=
  executes_cp15Run ((h _).andThen (SameStatus.refl _).advance)

theorem executes_cp15Write {cond : Cond} {rd : RegNum} {s : State} {f : Word → State → State} (h : ∀ v, SameStatus s (f v s)) :
    Executes s (cp15Write cond rd s f) := executes_cp15Write_of_unescalated fun v => (h v).unescalated

/-- An operation by address, which may abort. -/
theorem executes_cp15Op {cond : Cond} {rd : RegNum} {s : State} {r : State → Res Unit} (h : (r s).SameStatus s) :
    Executes s (cp15Run cond rd s fun s => (r s).bind fun _ s => .ok () s.advance) :=
  executes_cp15Run (h.andThen fun _ _ k => k.advance.unescalated)

/-- The bits of the Control Register that no write changes (41_cp15_c1_control.md R150). -/
theorem controlValue_fixed (c : Config) (v : Word) :
    controlValue c v &&& 0xCD3F44F8 = 0x00054078 ||| flag c.fiqIsNmi 27 := by
  have writable : v &&& 0x32C0BB07 &&& (0xCD3F44F8 : Word) = 0 := by rw [BitVec.and_assoc]; simp
  have pin : flag c.fiqIsNmi 27 &&& (0xCD3F44F8 : Word) = flag c.fiqIsNmi 27 := by cases c.fiqIsNmi <;> rfl
  unfold controlValue
  rw [BitVec.and_or_distrib_right, BitVec.and_or_distrib_right, writable, pin]
  rfl

section
variable {s t : State} (h : SameStatus s t)
include h

/-- CP15 registers replaced, but not the Control Register, where a fetch may see the old ones. -/
theorem SameStatus.setFetchCp15 {c : Cp15} (hc : c.control = t.cp15.control) : SameStatus s (t.setFetchCp15 c) :=
  h.trans ⟨rfl, rfl, hc, rfl, rfl⟩

theorem SameStatus.setPa (v : Word) : SameStatus s (t.setPa v) := h.trans ⟨rfl, rfl, rfl, rfl, rfl⟩
theorem SameStatus.noteOlder (f : OlderControls → OlderControls) : SameStatus s (t.noteOlder f) := h.trans ⟨rfl, rfl, rfl, rfl, rfl⟩
theorem SameStatus.flushPrefetch : SameStatus s t.flushPrefetch := h.trans ⟨rfl, rfl, rfl, rfl, rfl⟩

theorem SameStatus.noteRemap (old : State) : SameStatus s (noteRemap old t) := by
  unfold Machine.noteRemap
  exact .ite h (h.trans ⟨rfl, rfl, rfl, rfl, rfl⟩)

theorem SameStatus.dropTlb (l : Bool) (p : TlbEntry → Bool) : SameStatus s (dropTlb l p t) := h.trans ⟨rfl, rfl, rfl, rfl, rfl⟩
theorem SameStatus.invalidateTlb : SameStatus s (invalidateTlb t) := (h.dropTlb _ _).noteOlder _
theorem SameStatus.dsb : SameStatus s (dsb t) := h.trans (memoryOnly_dsb t).sameStatus

theorem SameStatus.waitForInterrupt : SameStatus s (waitForInterrupt t) := by
  unfold Machine.waitForInterrupt
  exact .ite h.dsb (h.dsb.trans ⟨rfl, rfl, rfl, rfl, rfl⟩)

theorem SameStatus.invalidateIcache : SameStatus s (invalidateIcache t) := h.trans ⟨rfl, rfl, rfl, rfl, rfl⟩

theorem SameStatus.pmuAdvance : SameStatus s (pmuAdvance t) := by
  unfold Machine.pmuAdvance
  split
  · exact h.drawWord.drawWord.drawWord.drawWord.setCp15 rfl
  · exact h

theorem SameStatus.everyDataLine {f : Line → State → State} (hf : ∀ l s, MemoryOnly s (f l s)) :
    SameStatus s (everyDataLine f t) :=
  h.trans ((memoryOnly_drainAll t).trans (MemoryOnly.foldl (fun s l => hf l s) _ _)).sameStatus

theorem SameStatus.dataLineAt {f : Line → State → State} (hf : ∀ l s, MemoryOnly s (f l s)) (v : Word) :
    SameStatus s (dataLineAt f v t) := by
  have d := h.trans (memoryOnly_drainAll t).sameStatus
  unfold Machine.dataLineAt
  dsimp only
  split
  · exact d.trans (hf _ _).sameStatus
  · exact d

end

/-- An instruction that replaces CP15 registers, but not the Control Register. -/
theorem unescalated_setCp15 {s : State} {c : Cp15} (hc : c.control = s.cp15.control) :
    (Res.ok () (s.setCp15 c).advance).Unescalated s := ((SameStatus.refl s).setCp15 hc).advance.unescalated
theorem unescalated_setFetchCp15 {s : State} {c : Cp15} (hc : c.control = s.cp15.control) :
    (Res.ok () (s.setFetchCp15 c).advance).Unescalated s := ((SameStatus.refl s).setFetchCp15 hc).advance.unescalated

/-- The Control Register written: its fixed bits stay (41_cp15_c1_control.md R150). -/
theorem unescalated_controlWrite (v : Word) (s : State) : Unescalated s (controlWrite v s) := by
  refine Unescalated.andThen ?_ ((SameStatus.refl _).noteRemap s)
  exact
    { cfg := rfl
      control := fun _ => controlValue_fixed s.cfg v
      clean := id
      mode := id
      user := fun _ => .refl _ }

theorem sameStatus_cpacrWrite (v : Word) (s : State) : SameStatus s (cpacrWrite v s) := by
  unfold cpacrWrite
  split
  · exact ⟨rfl, rfl, rfl, rfl, rfl⟩
  · exact ⟨rfl, rfl, rfl, rfl, rfl⟩

theorem sameStatus_prrrWrite (v : Word) (s : State) :
    SameStatus s (noteRemap s (s.setCp15 { s.cp15 with prrr := v })) :=
  ((SameStatus.refl s).setCp15 (c := { s.cp15 with prrr := v }) rfl).noteRemap s

theorem sameStatus_nmrrRead (s : State) : SameStatus s (nmrrRead s).2 := by
  unfold nmrrRead
  split
  · exact (SameStatus.refl s).drawWord
  · exact .refl s

theorem sameStatus_nmrrWrite (v : Word) (s : State) : SameStatus s (nmrrWrite v s) :=
  (((SameStatus.refl s).setCp15 (c := { s.cp15 with nmrr := v &&& 0xCFFFCFFF }) rfl).noteRemap s).trans ⟨rfl, rfl, rfl, rfl, rfl⟩

theorem sameStatus_selectLockRead (v : Word) (s : State) : SameStatus s (selectLockRead v s) :=
  ((SameStatus.refl s).drawWord.drawWord.drawWord.setCp15 rfl).trans ⟨rfl, rfl, rfl, rfl, rfl⟩

theorem sameStatus_pmncRead (s : State) : SameStatus s (pmncRead s).2 := (SameStatus.refl s).pmuAdvance.drawWord

/-- A performance counter register written, the counters counted on before. -/
theorem sameStatus_afterCount {s : State} {c : Cp15} (hc : c.control = (pmuAdvance s).cp15.control) :
    SameStatus s ((pmuAdvance s).setCp15 c) := (SameStatus.refl s).pmuAdvance.setCp15 hc

theorem sameStatus_maintTranslate (iside : Bool) (v : Word) (s : State) : (maintTranslate iside v s).SameStatus s := by
  have m := (memoryOnly_translateMaintenance (clearLow v 5) s).sameStatus
  unfold maintTranslate
  dsimp only
  split
  · next e => rw [e] at m; exact m
  · next e => rw [e] at m; exact m
  · trivial

theorem sameStatus_dataLineByMva {f : Line → State → State} (hf : ∀ l s, MemoryOnly s (f l s)) (v : Word) (s : State) :
    (dataLineByMva f v s).SameStatus s := by
  unfold dataLineByMva
  refine ((sameStatus_maintTranslate _ _ _).after (memoryOnly_drainAll s).sameStatus).bind fun pa t h => ?_
  split
  · exact h.trans (hf _ _).sameStatus
  · exact h

theorem sameStatus_instrLineByMva (v : Word) (s : State) : (instrLineByMva v s).SameStatus s :=
  (sameStatus_maintTranslate _ _ _).bind fun _ _ h => h.trans ⟨rfl, rfl, rfl, rfl, rfl⟩

theorem sameStatus_vaToPa (p : Purpose) (user : Bool) (v : Word) (s : State) : (vaToPa p user v s).SameStatus s := by
  have m := (memoryOnly_translate p user true (fcse s (clearLow v 10)) s).sameStatus
  unfold vaToPa
  split
  · next e => rw [e] at m; exact m.setPa _
  · next e =>
    rw [e] at m
    split
    · exact m.setPa _
    · exact m.drawBool.setPa _
  · trivial

theorem unescalated_lockRead (k : LockRegister) (rd : RegNum) (v : Word) (s : State) : (lockRead k rd v s).Unescalated s := by
  have access (a : LockAccess) : SameStatus s ({ s with lockAccess := a }.setReg rd v).advance :=
    (SameStatus.setReg (s := s) (t := { s with lockAccess := a }) ⟨rfl, rfl, rfl, rfl, rfl⟩ rd v).advance
  unfold lockRead
  split
  · exact (access _).unescalated
  · exact (access _).unescalated
  · exact .ite (access _).unescalated trivial
  · trivial

/-- A step of a write sequence of the lockdown entry registers. -/
theorem sameStatus_lockStep {s t : State} (h : SameStatus s t) {c : Cp15} (hc : c.control = t.cp15.control) (a : LockAccess) :
    SameStatus s { t.setCp15 c with lockAccess := a }.advance :=
  SameStatus.advance ((h.setCp15 hc).trans ⟨rfl, rfl, rfl, rfl, rfl⟩)

theorem unescalated_lockWriteVa (v : Word) (s : State) : (lockWriteVa v s).Unescalated s := by
  unfold lockWriteVa
  split
  · exact (sameStatus_lockStep (.refl s) (c := { s.cp15 with tlbLockVa := v &&& 0xFFFFF3FF }) rfl _).unescalated
  · trivial

theorem unescalated_lockWriteAttr (v : Word) (s : State) : (lockWriteAttr v s).Unescalated s := by
  unfold lockWriteAttr
  split
  · exact (sameStatus_lockStep (.refl s) (c := { s.cp15 with tlbLockAttr := v &&& 0xFE0007FF }) rfl _).unescalated
  · trivial

theorem unescalated_lockWritePa (v : Word) (s : State) : (lockWritePa v s).Unescalated s := by
  unfold lockWritePa
  split
  · next i _ =>
    have committed (k : LockSlot) : SameStatus s (s.noteFetch (s.setLockSlot i k)) := ⟨rfl, rfl, rfl, rfl, rfl⟩
    exact (sameStatus_lockStep (committed _) (c := { s.cp15 with tlbLockPa := v &&& 0xFFFFF0CF }) rfl _).unescalated
  · trivial

/-! ## Moves to registers and status -/

theorem unescalated_moveToCore {s t : State} (h : SameStatus s t) (rd : RegNum) (v : Word) : (moveToCore rd v t).Unescalated s :=
  .ite (h.andThen ((Unescalated.setNzcv ..).andThen (SameStatus.refl _).advance)) (h.setReg rd v).advance.unescalated

theorem unescalated_writeStatus (s : State) (rd : RegNum) (v : Word) : (writeStatus s rd v).Unescalated s :=
  .ite (unescalated_aluWritePc (.refl s) v) ((SameStatus.refl s).setReg rd v).advance.unescalated

theorem executes_mrs (cond : Cond) (r : Bool) (rd : RegNum) (s : State) : Executes s (execMrs cond r rd s) := by
  refine executes_whenPasses (.ite ?_ (unescalated_writeStatus s rd _))
  split
  · trivial
  · exact unescalated_writeStatus s rd _

/-- The bits that an MSR may write exist (10_state.md R27). -/
theorem psrClean_msrWritable (s : State) : PsrClean (msrWritable s) := by
  unfold msrWritable
  split
  · rfl
  · rfl

/-- An SPSR written with a value of bits that exist. -/
theorem Unescalated.setSpsr {s : State} (b : Bank) {v : Word} (hv : PsrClean v) : Unescalated s (s.setSpsr b v) := by
  have cpsr : (s.setSpsr b v).cpsr = s.cpsr := Psrs.setSpsr_cpsr s.psrs b v
  exact
    { cfg := rfl
      control := id
      clean := fun c => by
        refine ⟨(congrArg PsrClean cpsr).mpr c.1, fun k w hw => ?_⟩
        rw [State.setSpsr_psrs, Psrs.spsr_setSpsr] at hw
        split at hw
        · exact Option.some.inj hw ▸ hv
        · exact c.2 k w hw
      mode := fun m => m.imp_right fun l => by unfold State.mode at *; rwa [cpsr]
      user := fun _ => by rw [cpsr]; exact .refl _ }

theorem unescalated_moveToStatus (r : Bool) (mask : BitVec 4) (v : Word) (s : State) : (moveToStatus r mask v s).Unescalated s := by
  unfold moveToStatus
  dsimp only
  split
  · split
    · trivial
    · exact (Unescalated.setSpsr _ (psrClean_and _)).andThen (SameStatus.refl _).advance
  · refine (Unescalated.writeCpsr (fun c => c.merge v _ ?_) fun p => ?_).andThen (SameStatus.refl _).advance
    · rw [BitVec.and_comm]; exact (psrClean_msrWritable s).and _
    · intro i hi h5
      have hm : (msrWritable s).getLsbD i = false := by
        unfold msrWritable
        rw [p, if_neg (by simp)]
        interval_cases i <;> rfl
      rw [BitVec.getLsbD_eq_getElem (by omega)] at hm
      simp [hm, show i < 32 by omega]

/-- CPS writes the mode and the masks, in a privileged mode (47_core_instructions.md R722). -/
theorem unescalated_cps (imod : BitVec 2) (m a i f : Bool) (mode : BitVec 5) (s : State) :
    Unescalated s (if s.privileged then s.writeCpsr (cpsValue s.cpsr imod m a i f mode) else s).advance := by
  refine Unescalated.andThen ?_ (SameStatus.refl _).advance
  split
  · next p =>
    refine Unescalated.writeCpsr (fun c => ?_) fun q => by rw [p] at q; cases q
    have masks : PsrClean (flag a 8 ||| flag i 7 ||| flag f 6) := by cases a <;> cases i <;> cases f <;> rfl
    have w : PsrClean (if imod = 2#2 then s.cpsr &&& ~~~ (flag a 8 ||| flag i 7 ||| flag f 6)
        else if imod = 3#2 then s.cpsr ||| (flag a 8 ||| flag i 7 ||| flag f 6) else s.cpsr) := by
      split
      · exact c.and _
      · split
        · exact c.or masks
        · exact c
    unfold cpsValue
    dsimp only
    split
    · exact w.setFld 0 mode (by decide)
    · exact w
  · exact .refl s

theorem executes_srs (p u w : Bool) (mode : BitVec 5) (s : State) : Executes s (execSrs p u w mode s) := by
  refine executes_finish (.ite trivial ?_)
  split
  · trivial
  · exact (memoryOnly_storeMany _ _ _ _ s).sameStatus.andThen fun _ _ h =>
      (SameStatus.ite (h.setBankReg ..) h).advance.unescalated

theorem executes_rfe (p u w : Bool) (rn : RegNum) (s : State) : Executes s (execRfe p u w rn s) := by
  refine executes_finish (.ite trivial ?_)
  refine (memoryOnly_alignAccess _ _ _ s).sameStatus.andThen fun a t ht => ?_
  refine ((memoryOnly_readAt _ _ _ t).sameStatus.after ht).andThen fun psr t ht => ?_
  refine ((memoryOnly_readAt _ _ _ t).sameStatus.after ht).andThen fun target t ht => ?_
  exact (SameStatus.ite (ht.setReg ..) ht).andThen (.exceptionReturn ..)

end Sys2Proof.Machine
end

section
/-! SUPPORT. The status through loads and stores, exclusive accesses, and the VFP. -/
namespace Sys2Proof.Machine

/-! ## Loads and stores -/

theorem sameStatus_checkPcLoad (rd : RegNum) (a : Word) (s : State) : (checkPcLoad rd a s).SameStatus s :=
  .ite (.ite (SameStatus.refl s) trivial) (SameStatus.refl s)

theorem unescalated_writeLoaded {s t : State} (h : SameStatus s t) (rn rd : RegNum) (x : Addressed) (v : Word) :
    (writeLoaded rn rd x v t).Unescalated s :=
  have based := h.writeBase rn x.writeback
  .ite (unescalated_loadWritePc based v) (based.setReg rd v).advance.unescalated

theorem unescalated_loadWord (p u w : Bool) (rn rd rm : RegNum) (off : Word) (s : State) :
    (loadWord p u w rn rd rm off s).Unescalated s :=
  .ite trivial <| (sameStatus_checkPcLoad _ _ s).andThen fun _ t ht =>
    ((memoryOnly_loadValue _ _ _ _ t).sameStatus.after ht).andThen fun v _ h => unescalated_writeLoaded h rn rd _ v

theorem unescalated_loadPart (ty : AccessType) (n : Nat) (ext : Word → Word) (p u w : Bool) (rn rd rm : RegNum) (off : Word)
    (s : State) : (loadPart ty n ext p u w rn rd rm off s).Unescalated s :=
  .ite trivial <| (memoryOnly_loadValue _ _ _ _ s).sameStatus.andThen fun v _ h => unescalated_writeLoaded h rn rd _ (ext v)

theorem unescalated_storeSingle (ty : AccessType) (n : Nat) (p u w : Bool) (rn rd rm : RegNum) (off : Word) (s : State) :
    (storeSingle ty n p u w rn rd rm off s).Unescalated s :=
  .ite trivial <| ((memoryOnly_storeValue _ _ _ _ _ _).sameStatus.after (.ite (SameStatus.refl s).drawWord (.refl s))).andThen
    fun _ _ h => (h.writeBase _ _).advance.unescalated

theorem unescalated_extraForm {s : State} (p w : Bool) {r : Res Unit} (h : r.Unescalated s) : (extraForm p w r).Unescalated s :=
  .ite trivial h

theorem unescalated_loadDouble (p u w : Bool) (rn rd rm : RegNum) (off : Word) (s : State) :
    (loadDouble p u w rn rd rm off s).Unescalated s :=
  .ite trivial <| (memoryOnly_loadMany _ _ _ _ s).sameStatus.andThen fun _ _ h =>
    (((h.writeBase _ _).setReg _ _).setReg _ _).advance.unescalated

theorem unescalated_storeDouble (p u w : Bool) (rn rd rm : RegNum) (off : Word) (s : State) :
    (storeDouble p u w rn rd rm off s).Unescalated s :=
  .ite trivial <| (memoryOnly_storeMany _ _ _ _ s).sameStatus.andThen fun _ _ h => (h.writeBase _ _).advance.unescalated

/-! ## Load and store multiple -/

theorem sameStatus_shuffle {α : Type} : ∀ (l : List α) (s : State), SameStatus s (shuffle l s).2
  | [], s => .refl s
  | _ :: t, s => (sameStatus_shuffle t s).drawWord

theorem sameStatus_transferOrder (m : AccessMode) (write : Bool) (l : List (RegNum × Word)) (s : State) :
    SameStatus s (transferOrder m write l s).2 := by
  unfold transferOrder
  split
  · exact sameStatus_shuffle l s
  · exact .refl s

theorem sameStatus_loadList (m : AccessMode) : ∀ (l : List (RegNum × Word)) (s : State), (loadList m l s).SameStatus s
  | [], s => SameStatus.refl s
  | _ :: t, s => (memoryOnly_readAt _ _ _ s).sameStatus.bind fun _ u hu =>
      ((sameStatus_loadList m t u).after hu).bind fun _ _ h => h

theorem sameStatus_storeList (m : AccessMode) (value : RegNum → Word) :
    ∀ (l : List (RegNum × Word)) (s : State), (storeList m value l s).SameStatus s
  | [], s => SameStatus.refl s
  | _ :: t, s => (memoryOnly_writeAt _ _ _ _ s).sameStatus.bind fun _ u hu => (sameStatus_storeList m value t u).after hu

theorem sameStatus_partialStore {s : State} {r : Res Unit} (h : r.SameStatus s) : (partialStore s r).SameStatus s := by
  cases r with
  | ok a t => exact h
  | exc x t => exact Machine.SameStatus.ite (Machine.SameStatus.drawBool h) (Machine.SameStatus.draw (.refl s) _)
  | fault e => trivial
  | refused e => trivial

theorem SameStatus.writeList (b : Bank) : ∀ (l : List (RegNum × Word)) {s t : State}, SameStatus s t →
    SameStatus s (writeList b l t)
  | [], _, _, h => h
  | x :: l, _, _, h => SameStatus.writeList b l (h.setBankReg b x.1 x.2)

theorem SameStatus.multipleWriteBack {s t : State} (h : SameStatus s t) (w unknown : Bool) (rn : RegNum) (v : Word) :
    SameStatus s (multipleWriteBack w unknown rn v t) :=
  .ite (.ite (h.drawWord.setReg _ _) (h.setReg _ _)) h

theorem SameStatus.foldl {α : Type} {f : State → α → State} (hf : ∀ s a, SameStatus s (f s a)) :
    ∀ (l : List α) (s : State), SameStatus s (l.foldl f s)
  | [], s => .refl s
  | a :: t, s => (hf s a).trans (SameStatus.foldl hf t (f s a))

theorem sameStatus_scrambleList (b : Bank) (rn : RegNum) (list : BitVec 16) (s : State) :
    SameStatus s (scrambleList b rn list s) :=
  .foldl (fun s _ => .ite (.refl s) ((SameStatus.refl s).drawWord.setBankReg _ _ _)) _ s

theorem unescalated_onAbort {s : State} {f : State → State} (hf : ∀ t, SameStatus t (f t)) {r : Res Unit} (h : r.Unescalated s) :
    (onAbort f r).Unescalated s := by
  cases r with
  | ok a t => exact h
  | exc x t => exact Machine.SameStatus.trans h (hf t)
  | fault e => trivial
  | refused e => trivial

theorem unescalated_loadMultiple (p u sb w : Bool) (rn : RegNum) (list : BitVec 16) (s : State) :
    (loadMultiple p u sb w rn list s).Unescalated s := by
  refine .ite trivial (.ite trivial ?_)
  refine unescalated_onAbort (sameStatus_scrambleList _ rn list) ?_
  refine (memoryOnly_alignAccess _ _ _ s).sameStatus.andThen fun a t ht => ?_
  refine ((sameStatus_loadList _ _ _).after (ht.trans (sameStatus_transferOrder _ _ _ t))).andThen fun l t ht => ?_
  have loaded := (ht.writeList (if sb && !bitAt list 15 then .usr else s.bank) l).multipleWriteBack w (bitAt list rn.toNat) rn
    (multipleBase u (s.reg rn) (listCount list))
  dsimp only
  split
  · exact loaded.advance.unescalated
  · exact .ite (unescalated_returnFromSpsr loaded _) (unescalated_loadWritePc loaded _)

theorem unescalated_storeMultiple (p u sb w : Bool) (rn : RegNum) (list : BitVec 16) (s : State) :
    (storeMultiple p u sb w rn list s).Unescalated s := by
  refine .ite trivial ?_
  have drawn : SameStatus s (if storesOpen w rn list then s.drawWord.2.drawWord.2 else s) :=
    .ite (SameStatus.refl s).drawWord.drawWord (.refl s)
  refine ((memoryOnly_alignAccess _ _ _ _).sameStatus.after drawn).andThen fun a t ht => ?_
  have ordered := ht.trans (sameStatus_transferOrder (plainMode s true) true (transfers list a) t)
  exact ((sameStatus_partialStore (sameStatus_storeList _ _ _ _)).after ordered).andThen fun _ _ h =>
    (h.multipleWriteBack _ _ _ _).advance.unescalated

/-! ## Exclusive accesses and swaps -/

theorem SameStatus.writeExclusive {s t : State} (h : SameStatus s t) (rd : RegNum) : ∀ l, SameStatus s (writeExclusive rd l t)
  | [] => h
  | [_] => h.setReg _ _
  | _ :: _ :: _ => (h.setReg _ _).setReg _ _

theorem unescalated_exclusiveLoad (ty : AccessType) (n : Nat) (rn rd : RegNum) (s : State) :
    (exclusiveLoad ty n rn rd s).Unescalated s :=
  .ite trivial <| (memoryOnly_loadExclusive _ _ _ s).sameStatus.andThen fun l _ h => (h.writeExclusive rd l).advance.unescalated

theorem unescalated_exclusiveStore (ty : AccessType) (n : Nat) (rn rd rm : RegNum) (s : State) :
    (exclusiveStore ty n rn rd rm s).Unescalated s :=
  .ite trivial <| ((memoryOnly_storeExclusive _ _ _ _ _).sameStatus.after (.ite (SameStatus.refl s).drawWord (.refl s))).andThen
    fun _ _ h => (h.setReg _ _).advance.unescalated

theorem unescalated_swap (lty sty : AccessType) (n : Nat) (rn rd rm : RegNum) (s : State) :
    (swap lty sty n rn rd rm s).Unescalated s :=
  .ite trivial <| ((memoryOnly_loadValue _ _ _ _ _).sameStatus.after (.ite (SameStatus.refl s).drawWord (.refl s))).andThen
    fun _ t ht => ((memoryOnly_storeValue _ _ _ _ _ t).sameStatus.after ht).andThen fun _ _ h =>
      (h.setReg _ _).advance.unescalated

/-! ## VFP -/

/-- VFP registers changed. -/
theorem SameStatus.setVfp {s t : State} (h : SameStatus s t) (v : Vfp) : SameStatus s { t with vfp := v } :=
  h.trans ⟨rfl, rfl, rfl, rfl, rfl⟩

theorem sameStatus_raiseBounce {s t : State} (h : SameStatus s t) : (raiseBounce t).SameStatus s :=
  h.drawWord.drawWord.drawWord.setVfp _

theorem sameStatus_cpacrInForce (s : State) : SameStatus s (cpacrInForce s).2 := by
  unfold cpacrInForce
  split
  · exact .refl s
  · exact (SameStatus.refl s).drawBool

theorem sameStatus_vfpCheck (sys : Option (BitVec 4)) (s : State) : (vfpCheck sys s).SameStatus s := by
  have c := sameStatus_cpacrInForce s
  refine .ite (SameStatus.refl s) ?_
  dsimp only
  split
  · trivial
  · exact c
  · exact .ite c <| .ite c <| .ite (.ite (sameStatus_raiseBounce c) <| .ite (sameStatus_raiseBounce c.drawBool) c.drawBool) c

theorem executes_vfpRun {cond : Cond} {sys : Option (BitVec 4)} {s : State} {m : State → Res Unit}
    (h : ∀ t, SameStatus s t → (m t).Unescalated s) : Executes s (vfpRun cond sys s m) :=
  executes_whenPasses ((sameStatus_vfpCheck sys s).andThen fun _ t ht => h t ht)

theorem unescalated_moveFromVfp {s t : State} (h : SameStatus s t) (rd : RegNum) (v : Word) : (moveFromVfp rd v t).Unescalated s :=
  .ite (unescalated_moveToCore (h.drawBool.noteStatus _) 15 _) (h.setReg rd v).advance.unescalated

theorem unescalated_moveTwoToCore {s t : State} (h : SameStatus s t) (rd rn : RegNum) (low high : Word) :
    (moveTwoToCore rd rn low high t).Unescalated s :=
  .ite (.ite (h.drawWord.returnWritePc _).unescalated (h.drawWord.setReg _ _).advance.unescalated) <|
    .ite (unescalated_aluWritePc (h.setReg _ _) _) <| .ite (unescalated_aluWritePc (h.setReg _ _) _)
      ((h.setReg _ _).setReg _ _).advance.unescalated

theorem SameStatus.writeSregs : ∀ (l : List (BitVec 5 × Word)) {s t : State}, SameStatus s t → SameStatus s (writeSregs l t)
  | [], _, _, h => h
  | x :: l, _, _, h => SameStatus.writeSregs l (h.setSreg x.1 x.2)

theorem SameStatus.scrambleSregs : ∀ (l : List (BitVec 5)) {s t : State}, SameStatus s t → SameStatus s (scrambleSregs l t)
  | [], _, _, h => h
  | n :: l, _, _, h => SameStatus.scrambleSregs l (h.drawWord.setSreg n _)

theorem unescalated_vfpLoad {s t : State} (h : SameStatus s t) (double : Bool) (first : BitVec 5) (n : Nat) (rn : RegNum)
    (x : Addressed) : (vfpLoad double first n rn x t).Unescalated s := by
  refine .ite trivial (.ite trivial ?_)
  have m := (memoryOnly_loadMany (plainMode t false) .multi x.address n t).sameStatus.after h
  dsimp only
  split
  · next e => rw [e] at m; exact ((SameStatus.writeSregs _ m).writeBase _ _).advance.unescalated
  · next e => rw [e] at m; exact SameStatus.ite m (SameStatus.scrambleSregs _ m)
  · trivial
  · trivial

theorem unescalated_vfpStore {s t : State} (h : SameStatus s t) (double : Bool) (first : BitVec 5) (n : Nat) (rn : RegNum)
    (x : Addressed) : (vfpStore double first n rn x t).Unescalated s :=
  .ite trivial <| .ite trivial <| ((memoryOnly_storeMany _ _ _ _ t).sameStatus.after h).andThen fun _ _ k =>
    (k.writeBase _ _).advance.unescalated

theorem executes_fmxr (cond : Cond) (reg : BitVec 4) (rd : RegNum) (s : State) : Executes s (execFmxr cond reg rd s) := by
  refine executes_vfpRun fun t h => ?_
  have written : ∀ u, vfpSystemWrite t reg (t.reg rd) = some u → SameStatus s u := by
    intro u hu
    unfold vfpSystemWrite at hu
    split_ifs at hu
    all_goals cases hu
    · exact h
    all_goals exact h.setVfp _
  split
  · next u e => exact (written u e).advance.unescalated
  · trivial

theorem executes_fmrx (cond : Cond) (reg : BitVec 4) (rd : RegNum) (s : State) : Executes s (execFmrx cond reg rd s) := by
  refine executes_vfpRun fun t h => ?_
  split
  · exact unescalated_moveToCore h rd _
  · trivial

theorem SameStatus.vfpSet {s t : State} (h : SameStatus s t) (double : Bool) (n : Nat) (v : BitVec 64) :
    SameStatus s (vfpSet double n v t) := .ite (h.setDreg _ _) (h.setSreg _ _)

theorem SameStatus.accumulate {s t : State} (h : SameStatus s t) (flags : Word) : SameStatus s (accumulate flags t) := h.setVfp _

theorem sameStatus_vfpOperate (double : Bool) (f : BitVec 64 → BitVec 64 → BitVec 64 → Option VfpResult) :
    ∀ (l : List VfpTriple) {s t u : State}, SameStatus s t → vfpOperate double f l t = some u → SameStatus s u
  | [], _, _, _, h, e => by cases e; exact h
  | x :: l, _, _, _, h, e => by
    unfold vfpOperate at e
    split at e
    · cases e
    · exact sameStatus_vfpOperate double f l ((h.vfpSet _ _ _).accumulate _) e

theorem sameStatus_vfpConvert {op : VfpArith} {toZero double dd dm : Bool} {d m : Nat} {s t u : State} (h : SameStatus s t)
    (e : vfpConvert op toZero double dd dm d m t = some u) : SameStatus s u := by
  obtain ⟨r, -, rfl⟩ := Option.map_eq_some_iff.1 e
  exact (h.vfpSet _ _ _).accumulate _

theorem sameStatus_vfpCompare {nanInvalid zero double : Bool} {d m : Nat} {s t u : State} (h : SameStatus s t)
    (e : vfpCompare nanInvalid zero double d m t = some u) : SameStatus s u := by
  obtain ⟨r, -, rfl⟩ := Option.map_eq_some_iff.1 e
  exact (h.accumulate _).setVfp _

theorem sameStatus_vfpCompute {opc1 fn fd : BitVec 4} {cp1 : Bool} {opc2 : BitVec 3} {fm : BitVec 4} {s t u : State}
    (h : SameStatus s t) (e : vfpCompute opc1 fn fd cp1 opc2 fm t = some u) : SameStatus s u := by
  unfold vfpCompute at e
  dsimp only at e
  split at e
  · cases e
  · split at e
    · exact sameStatus_vfpOperate _ _ _ h e
    · split at e
      · exact sameStatus_vfpOperate _ _ _ h e
      · exact sameStatus_vfpOperate _ _ _ h e
      · exact sameStatus_vfpOperate _ _ _ h e
      · exact sameStatus_vfpOperate _ _ _ h e
      · exact sameStatus_vfpCompare h e
      all_goals exact sameStatus_vfpConvert h e

theorem executes_vfpData (cond : Cond) (opc1 fn fd : BitVec 4) (cp1 : Bool) (opc2 : BitVec 3) (fm : BitVec 4) (s : State) :
    Executes s (execVfpData cond opc1 fn fd cp1 opc2 fm s) := by
  refine executes_vfpRun fun t h => .ite trivial ?_
  split
  · next u e => exact (sameStatus_vfpCompute h e).advance.unescalated
  · exact .ite (sameStatus_raiseBounce h.drawBool).unescalated (h.drawBool.setVfp _).advance.unescalated

end Sys2Proof.Machine
end

section
/-! SUPPORT. The status through every instruction. -/
namespace Sys2Proof.Machine

/-! ## Every instruction -/

theorem SameStatus.setTap {s t : State} (h : SameStatus s t) (x : Tap) : SameStatus s (t.setTap x) :=
  h.trans ⟨rfl, rfl, rfl, rfl, rfl⟩

theorem executes_mrcDscrFlags (cond : Cond) (s : State) : Executes s (execMrcDscrFlags cond s) :=
  executes_cp14Run <| (SameStatus.refl s).drawBool.drawBool.andThen <| (Unescalated.setNzcv ..).andThen (SameStatus.refl _).advance

theorem executes_blxImm (h : Bool) (imm : BitVec 24) (s : State) : Executes s (execBlxImm h imm s) :=
  have linked := (SameStatus.refl s).setLink
  executes_finish <| (linked.andThen <| .setCpsr (linked.cpsr ▸ .setBit _ true (by omega) (by decide))).andThen
    ((SameStatus.refl _).writePc _)

/-- Every instruction keeps the invariants, and in User mode the mode bits and the masks, or takes an exception. The cases stand by
the operation that the instructions share. -/
theorem executes_exec (i : Instr) (s : State) : Executes s (exec i s) := by
  cases i
  all_goals dsimp only [exec]
  case mrcMainId | mrcCacheType | mrcTlbType | mrcCpuId | mrcIdPfr0 | mrcIdPfr1 | mrcIdDfr0 | mrcIdReserved13 |
      mrcIdMmfr0 | mrcIdMmfr1 | mrcIdMmfr2 | mrcIdMmfr3 | mrcIdIsar0 | mrcIdIsar1 | mrcIdIsar2 | mrcIdIsar3 |
      mrcIdIsar4 | mrcIdReserved25 | mrcIdReserved26 | mrcIdReserved27 | mrcC0Unlisted2 | mrcC0Unlisted4 |
      mrcC0Unlisted6 | mrcC0Unlisted7 | mrcControl | mrcAuxControl | mrcCpacr | mrcTtbr0 | mrcTtbr1 | mrcTtbcr |
      mrcDacr | mrcDfsr | mrcIfsr | mrcFar | mrcWfar | mrcPa | mrcDCacheLockdown | mrcTlbLockdown | mrcPrrr |
      mrcFcsePid | mrcContextId | mrcThreadIdPrw | mrcTlbDebugControl =>
    exact executes_cp15Read ..
  case mcrC0 | cp15Unlisted =>
    exact executes_whenPasses (.ite trivial (SameStatus.refl s))
  case cdpP15 | ldcStcP15 | cp14Other =>
    exact executes_whenPasses (SameStatus.refl s)
  case mcrControl =>
    exact executes_cp15Write_of_unescalated fun v => unescalated_controlWrite v s
  case mcrCpacr =>
    exact executes_cp15Write fun v => sameStatus_cpacrWrite v s
  case mcrPrrr =>
    exact executes_cp15Write fun _ => sameStatus_prrrWrite _ s
  case mcrNmrr =>
    exact executes_cp15Write fun v => sameStatus_nmrrWrite v s
  case mrcNmrr =>
    exact executes_cp15ReadWith (sameStatus_nmrrRead s)
  case mrcPmnc =>
    exact executes_cp15ReadWith (sameStatus_pmncRead s)
  case mrcCcnt | mrcPmn0 | mrcPmn1 =>
    exact executes_cp15ReadWith (SameStatus.refl s).pmuAdvance
  case mcrPmnc | mcrCcnt | mcrPmn0 | mcrPmn1 =>
    exact executes_cp15Write fun _ => sameStatus_afterCount rfl
  case mcrWaitForInterrupt =>
    exact executes_cp15Write fun _ => (SameStatus.refl s).waitForInterrupt
  case mcrInvalidateDCache =>
    exact executes_cp15Write fun _ => (SameStatus.refl s).everyDataLine memoryOnly_invalidateLine
  case mcrInvalidateBothCaches =>
    exact executes_cp15Write fun _ => (SameStatus.refl s).invalidateIcache.everyDataLine memoryOnly_invalidateLine
  case mcrCleanDCache =>
    exact executes_cp15Write fun _ => (SameStatus.refl s).everyDataLine memoryOnly_cleanLine
  case mcrCleanInvDCache =>
    exact executes_cp15Write fun _ => (SameStatus.refl s).everyDataLine memoryOnly_evictLine
  case mcrInvalidateDCacheIndex =>
    exact executes_cp15Write fun v => (SameStatus.refl s).dataLineAt memoryOnly_invalidateLine v
  case mcrInvalidateDCacheMva =>
    exact executes_cp15Op (sameStatus_dataLineByMva memoryOnly_invalidateLine _ s)
  case mcrCleanDCacheIndex =>
    exact executes_cp15Write fun v => (SameStatus.refl s).dataLineAt memoryOnly_cleanLine v
  case mcrCleanDCacheMva =>
    exact executes_cp15Op (sameStatus_dataLineByMva memoryOnly_cleanLine _ s)
  case mcrCleanInvDCacheIndex =>
    exact executes_cp15Write fun v => (SameStatus.refl s).dataLineAt memoryOnly_evictLine v
  case mcrCleanInvDCacheMva =>
    exact executes_cp15Op (sameStatus_dataLineByMva memoryOnly_evictLine _ s)
  case mcrInvalidateICacheMva =>
    exact executes_cp15Op (sameStatus_instrLineByMva _ s)
  case mcrVaToPaPrivRead | mcrVaToPaPrivWrite | mcrVaToPaUserRead | mcrVaToPaUserWrite =>
    exact executes_cp15Op (sameStatus_vaToPa _ _ _ s)
  case mcrInvalidateITlb | mcrInvalidateDTlb | mcrInvalidateUTlb =>
    exact executes_cp15Write fun _ => (SameStatus.refl s).invalidateTlb
  case mcrTlbLockIndexRead =>
    exact executes_cp15Write fun v => sameStatus_selectLockRead v s
  case mcrAuxControl | mcrTtbr0 | mcrTtbr1 | mcrTtbcr | mcrDacr | mcrDfsr | mcrIfsr | mcrFar | mcrWfar |
      mcrInvalidateICache | mcrInvalidateICacheIndex | mcrFlushBtac | mcrFlushBtacEntry | mcrInvalidateITlbEntry |
      mcrInvalidateITlbAsid | mcrInvalidateITlbMva | mcrInvalidateDTlbEntry | mcrInvalidateDTlbAsid |
      mcrInvalidateDTlbMva | mcrInvalidateUTlbEntry | mcrInvalidateUTlbAsid | mcrInvalidateUTlbMva | mcrDCacheLockdown
      | mcrTlbLockdown | mcrFcsePid | mcrThreadIdUro | mcrThreadIdPrw | mcrTlbLockIndexWrite =>
    exact executes_cp15Write fun _ => ⟨rfl, rfl, rfl, rfl, rfl⟩
  case mcrFlushPrefetchBuffer =>
    exact executes_cp15RunUser (SameStatus.refl s).flushPrefetch.advance.unescalated
  case mcrDsb =>
    exact executes_cp15RunUser (SameStatus.refl s).dsb.advance.unescalated
  case mcrDmb =>
    exact executes_cp15RunUser (memoryOnly_dmb s).sameStatus.advance.unescalated
  case mrcThreadIdUrw | mrcThreadIdUro =>
    exact executes_cp15RunUser ((SameStatus.refl s).setReg _ _).advance.unescalated
  case mcrThreadIdUrw =>
    exact executes_cp15RunUser (unescalated_setCp15 rfl)
  case mcrContextId =>
    exact executes_cp15Run (.ite (unescalated_setFetchCp15 rfl) trivial)
  case mcrTlbDebugControl =>
    exact executes_cp15Run (.ite trivial (unescalated_setCp15 rfl))
  case mrcTlbLockVa | mrcTlbLockPa | mrcTlbLockAttr =>
    exact executes_cp15Run (unescalated_lockRead _ _ _ s)
  case mcrTlbLockVa =>
    exact executes_cp15Run (unescalated_lockWriteVa _ s)
  case mcrTlbLockAttr =>
    exact executes_cp15Run (unescalated_lockWriteAttr _ s)
  case mcrTlbLockPa =>
    exact executes_cp15Run (unescalated_lockWritePa _ s)
  case mrcDidr | mrcDscr | mrcVcr | mrcBvr0 | mrcBvr1 | mrcBvr2 | mrcBvr3 | mrcBvr4 | mrcBvr5 | mrcBcr0 | mrcBcr1 |
      mrcBcr2 | mrcBcr3 | mrcBcr4 | mrcBcr5 | mrcWvr0 | mrcWvr1 | mrcWcr0 | mrcWcr1 =>
    exact executes_cp14Read ..
  case mcrDscr =>
    exact executes_cp14Write fun v => (SameStatus.refl s).dscrWrite v
  case mrcDtr =>
    exact executes_cp14Transfer ((SameStatus.refl s).rdtrRead.setReg _ _).advance.unescalated
  case mcrDtr =>
    exact executes_cp14Write fun v => (SameStatus.refl s).wdtrWrite v
  case mcrVcr | mcrBvr0 | mcrBvr1 | mcrBvr2 | mcrBvr3 | mcrBvr4 | mcrBvr5 | mcrBcr0 | mcrBcr1 | mcrBcr2 | mcrBcr3 |
      mcrBcr4 | mcrBcr5 | mcrWvr0 | mcrWvr1 | mcrWcr0 | mcrWcr1 =>
    exact executes_cp14Write fun _ => ⟨rfl, rfl, rfl, rfl, rfl⟩
  case mrcDscrFlags =>
    exact executes_mrcDscrFlags ..
  case ldcDtr =>
    exact executes_ldcDtr ..
  case stcDtr =>
    exact executes_stcDtr ..
  case nop | yield | wfe | sev =>
    exact executes_whenPasses (SameStatus.refl s).advance.unescalated
  case wfi =>
    exact executes_whenPasses (SameStatus.ite (SameStatus.refl s).waitForInterrupt (.refl s)).advance.unescalated
  case setend | setendThumb =>
    exact executes_finish ((Unescalated.setEndian s _).andThen (SameStatus.refl _).advance)
  case mrs =>
    exact executes_mrs ..
  case msrReg | msrImm =>
    exact executes_whenPasses (unescalated_moveToStatus _ _ _ s)
  case srs =>
    exact executes_srs ..
  case rfe =>
    exact executes_rfe ..
  case cps | cpsThumb =>
    exact executes_finish (unescalated_cps _ _ _ _ _ _ s)
  case ldrex | ldrexd | ldrexb | ldrexh =>
    exact executes_whenPasses (unescalated_exclusiveLoad _ _ _ _ s)
  case strex | strexd | strexb | strexh =>
    exact executes_whenPasses (unescalated_exclusiveStore _ _ _ _ _ s)
  case clrex =>
    exact executes_finish (memoryOnly_setMonitor s _).sameStatus.advance.unescalated
  case swp =>
    exact executes_whenPasses (.ite (unescalated_swap ..) (unescalated_swap ..))
  case swpb =>
    exact executes_whenPasses (unescalated_swap ..)
  case swi =>
    exact executes_whenPasses (SameStatus.refl s)
  case swiThumb | bkpt | bkptThumb =>
    exact executes_finish (SameStatus.refl s)
  case andImm | andShiftImm | eorImm | eorShiftImm | orrImm | orrShiftImm | movImm | movShiftImm | bicImm |
      bicShiftImm | mvnImm | mvnShiftImm =>
    exact executes_whenPasses (unescalated_writeLogic ..)
  case andShiftReg | eorShiftReg | orrShiftReg | movShiftReg | bicShiftReg | mvnShiftReg =>
    exact executes_whenPasses (unescalated_noPc _ (unescalated_writeLogic ..))
  case subImm | subShiftImm | rsbImm | rsbShiftImm | addImm | addShiftImm | adcImm | adcShiftImm | sbcImm |
      sbcShiftImm | rscImm | rscShiftImm =>
    exact executes_whenPasses (unescalated_writeArith ..)
  case subShiftReg | rsbShiftReg | addShiftReg | adcShiftReg | sbcShiftReg | rscShiftReg =>
    exact executes_whenPasses (unescalated_noPc _ (unescalated_writeArith ..))
  case tstImm | tstShiftImm | teqImm | teqShiftImm =>
    exact executes_whenPasses (unescalated_testLogic ..)
  case tstShiftReg | teqShiftReg =>
    exact executes_whenPasses (unescalated_noPc _ (unescalated_testLogic ..))
  case cmpImm | cmpShiftImm | cmnImm | cmnShiftImm =>
    exact executes_whenPasses (unescalated_testArith ..)
  case cmpShiftReg | cmnShiftReg =>
    exact executes_whenPasses (unescalated_noPc _ (unescalated_testArith ..))
  case b =>
    exact executes_whenBranches ((SameStatus.refl s).writePc _).unescalated
  case bl =>
    exact executes_whenBranches ((SameStatus.refl s).setLink.writePc _).unescalated
  case bx | bxj =>
    exact executes_whenBranches (unescalated_branch s _ (.refl s))
  case blxReg =>
    exact executes_whenBranches (unescalated_branch s _ (SameStatus.refl s).setLink)
  case blxImm =>
    exact executes_blxImm ..
  case ldrImm | ldrReg =>
    exact executes_whenPasses (unescalated_loadWord ..)
  case ldrbImm | ldrbReg =>
    exact executes_whenPasses (unescalated_loadPart ..)
  case strImm | strReg | strbImm | strbReg =>
    exact executes_whenPasses (unescalated_storeSingle ..)
  case ldrhImm | ldrhReg | ldrsbImm | ldrsbReg | ldrshImm | ldrshReg =>
    exact executes_whenPasses (unescalated_extraForm _ _ (unescalated_loadPart ..))
  case strhImm | strhReg =>
    exact executes_whenPasses (unescalated_extraForm _ _ (unescalated_storeSingle ..))
  case ldrdImm | ldrdReg =>
    exact executes_whenPasses (unescalated_extraForm _ _ (unescalated_loadDouble ..))
  case strdImm | strdReg =>
    exact executes_whenPasses (unescalated_extraForm _ _ (unescalated_storeDouble ..))
  case ldm =>
    exact executes_whenPasses (unescalated_loadMultiple ..)
  case stm =>
    exact executes_whenPasses (unescalated_storeMultiple ..)
  case mul | mla =>
    exact executes_multiply ..
  case clz =>
    exact executes_whenPasses (.ite trivial ((SameStatus.refl s).setReg _ _).advance.unescalated)
  case fmsr | fmdlr | fmdhr =>
    exact executes_vfpRun fun _ h => (h.setSreg _ _).advance.unescalated
  case fmrs | fmrdl | fmrdh =>
    exact executes_vfpRun fun _ h => unescalated_moveFromVfp h _ _
  case fmxr =>
    exact executes_fmxr ..
  case fmrx =>
    exact executes_fmrx ..
  case fmstat =>
    exact executes_vfpRun fun _ h => unescalated_moveToCore h _ _
  case fmdrr =>
    exact executes_vfpRun fun _ h => (h.setDreg _ _).advance.unescalated
  case fmrrd =>
    exact executes_vfpRun fun _ h => unescalated_moveTwoToCore h _ _ _ _
  case fmsrr =>
    exact executes_vfpRun fun _ h => .ite trivial ((h.setSreg _ _).setSreg _ _).advance.unescalated
  case fmrrs =>
    exact executes_vfpRun fun _ h => .ite trivial (unescalated_moveTwoToCore h _ _ _ _)
  case flds | fldd =>
    exact executes_vfpRun fun _ h => unescalated_vfpLoad h _ _ _ _ _
  case fsts | fstd =>
    exact executes_vfpRun fun _ h => unescalated_vfpStore h _ _ _ _ _
  case fldm =>
    exact executes_vfpRun fun _ h => .ite trivial (unescalated_vfpLoad h _ _ _ _ _)
  case fstm =>
    exact executes_vfpRun fun _ h => .ite trivial (unescalated_vfpStore h _ _ _ _ _)
  case vfpData =>
    exact executes_vfpData ..
  case dbgtapRestart =>
    exact executes_next ((SameStatus.refl s).setDscr (bitAt_setFld_zero _ 1 _ (by omega)) |>.setTap _).unescalated.executed
  case dbgtapExtest | dbgtapScanN | dbgtapHalt | dbgtapIntest | dbgtapItrsel | dbgtapIdcode | dbgtapBypass =>
    exact executes_next ((SameStatus.refl s).setTap _).unescalated.executed

end Sys2Proof.Machine
end

section
/-! User mode is confined (O13). -/
namespace Sys2Proof.Machine

/-! ## User mode -/

/-- Settles O13, by cases on the instruction (`executes_exec`): a User mode instruction that takes no exception changes no bit of
the mode and the masks. -/
theorem userModeConfined : Obligations.UserModeConfined := by
  unfold Obligations.UserModeConfined
  intro i s t running user ran
  have unprivileged : s.privileged = false := by simp [State.privileged, running, user]
  rcases ((executes_exec i s).next t ran).user unprivileged with same | took
  · exact .inl ⟨Eq.trans same.mode user, same.masks⟩
  · exact .inr took
end Sys2Proof.Machine
end

section
/-! SUPPORT. The status through resets, the power modes, the access port, the environment and the step. -/
namespace Sys2Proof.Machine

/-! ## Resets -/

/-- The status registers replaced, with a legal mode. -/
theorem Keeps.of_legal {s t : State} (cfg : t.cfg = s.cfg) (control : t.cp15.control = s.cp15.control)
    (clean : s.psrs.Clean → t.psrs.Clean) (legal : legalMode t.mode = true) : Keeps s t where
  cfg := cfg
  control h := by unfold State.controlFixed at *; rwa [control, cfg]
  clean := clean
  mode _ := Or.inr legal

/-- The Control Register replaced. -/
theorem Keeps.of_control {s t : State} (cfg : t.cfg = s.cfg) (psrs : t.psrs = s.psrs) (stuck : t.stuck = s.stuck)
    (fixed : t.controlFixed) : Keeps s t where
  cfg := cfg
  control _ := fixed
  clean h := by rwa [psrs]
  mode h := by unfold State.modeLegal State.mode State.cpsr at *; rwa [stuck, psrs]

/-- The free word that a draw gives. -/
def State.freeAt (s : State) (k : Nat) : Word := Config.freeWord (s.freeCtr + k)

/-- The status registers after a reset (10_state.md R35, 92_eei_decisions.md D7). -/
theorem scrambleCore_psrs (s : State) :
    (scrambleCore s).psrs =
      { cpsr := resetCpsr s.cfg ||| ((s.freeAt 30 &&& psrMask) &&& 0xF80F0000)
        fiq := s.freeAt 31 &&& psrMask, irq := s.freeAt 32 &&& psrMask, svc := s.freeAt 33 &&& psrMask
        abt := s.freeAt 34 &&& psrMask, und := s.freeAt 35 &&& psrMask } := by
  unfold scrambleCore
  rfl

/-- The bits that a reset leaves open are outside the mode field. -/
theorem mode_resetCpsr (c : Config) (w : Word) : (fld (resetCpsr c ||| (w &&& 0xF80F0000)) 0 5 : BitVec 5) = modeSvc := by
  have flagsOnly : (fld (w &&& 0xF80F0000) 0 5 : BitVec 5) = 0 := by
    rw [fld, BitVec.extractLsb'_and]; simp
  rw [fld_or, flagsOnly]
  unfold resetCpsr
  cases c.cfgEnd <;> rfl

theorem scrambleCore_mode (s : State) : (scrambleCore s).mode = modeSvc := by
  unfold State.mode State.cpsr
  rw [scrambleCore_psrs, mode_resetCpsr]

theorem scrambleCore_clean (s : State) : (scrambleCore s).psrs.Clean := by
  rw [scrambleCore_psrs]
  refine ⟨PsrClean.or ?_ ((psrClean_and _).and _), fun b w hw => by cases b <;> cases hw <;> exact psrClean_and _⟩
  unfold resetCpsr
  cases s.cfg.cfgEnd <;> rfl

theorem scrambleCore_keeps (s : State) : Keeps s (scrambleCore s) := by
  have legal : legalMode (scrambleCore s).mode = true := by rw [scrambleCore_mode]; rfl
  have clean := scrambleCore_clean s
  unfold scrambleCore at *
  exact .of_legal rfl rfl (fun _ => clean) legal

/-- The bits of the Control Register that no write changes have their values after a reset (41_cp15_c1_control.md R150). -/
theorem resetControl_fixed (c : Config) : resetControl c &&& 0xCD3F44F8 = 0x00054078 ||| flag c.fiqIsNmi 27 := by
  unfold resetControl
  cases c.vinithi <;> cases c.cfgEnd <;> cases c.fiqIsNmi <;> rfl

theorem resetCp15_keeps (s : State) : Keeps s (resetCp15 s) := by
  unfold resetCp15
  exact .of_control rfl rfl rfl (resetControl_fixed s.cfg)

theorem resetVfp_keeps (s : State) : Keeps s (resetVfp s) := by
  unfold resetVfp
  exact .of_eq rfl rfl rfl rfl

theorem resetCp14_keeps (s : State) : Keeps s (resetCp14 s) := by
  unfold resetCp14
  exact .of_eq rfl rfl rfl rfl

theorem tapReset_keeps (s : State) : Keeps s (tapReset s) := .of_eq rfl rfl rfl rfl
theorem resetScu_keeps (s : State) : Keeps s (resetScu s) := (MemoryOnly.setDev ..).keeps
theorem resetWatchdogs_keeps (wd cpu : BitVec 4) (s : State) : Keeps s (resetWatchdogs wd cpu s) := (MemoryOnly.setDev ..).keeps
theorem resetOthers_keeps (cpu : BitVec 4) (s : State) : Keeps s (resetOthers cpu s) := (MemoryOnly.setDev ..).keeps

/-- The registers of the CPU as a reset leaves them. -/
def coldRegisters (s : State) : State := resetVfp (resetCp15 (scrambleCore (drainAll s)))

theorem coldRegisters_keeps (s : State) : Keeps s (coldRegisters s) :=
  (memoryOnly_drainAll s).keeps.trans <| (scrambleCore_keeps _).trans <| (resetCp15_keeps _).trans (resetVfp_keeps _)

theorem coldRegisters_psrs (s : State) : (coldRegisters s).psrs = (scrambleCore (drainAll s)).psrs := by
  unfold coldRegisters resetVfp resetCp15
  rfl

/-- What a reset of the CPU does beside that. -/
theorem resetCpu_frame (s : State) :
    (resetCpu s).cfg = (coldRegisters s).cfg ∧ (resetCpu s).psrs = (coldRegisters s).psrs ∧
      (resetCpu s).cp15 = (coldRegisters s).cp15 := by
  unfold resetCpu coldRegisters
  generalize resetVfp (resetCp15 (scrambleCore (drainAll s))) = t
  exact ⟨rfl, rfl, rfl⟩

theorem resetCpu_mode (s : State) : (resetCpu s).mode = modeSvc := by
  obtain ⟨-, psrs, -⟩ := resetCpu_frame s
  unfold State.mode State.cpsr
  rw [psrs, coldRegisters_psrs]
  exact scrambleCore_mode _

/-- A reset of the CPU ends the unrecoverable state and enters Supervisor mode (10_state.md R33, R35). -/
theorem resetCpu_keeps (s : State) : Keeps s (resetCpu s) := by
  obtain ⟨cfg, psrs, cp15⟩ := resetCpu_frame s
  refine (coldRegisters_keeps s).trans (.of_legal cfg (congrArg Cp15.control cp15) (fun c => psrs ▸ c) ?_)
  rw [resetCpu_mode]
  rfl

theorem freeTlb_keeps (s : State) : Keeps s (freeTlb s) := by
  unfold freeTlb
  exact .of_eq rfl rfl rfl rfl

theorem freeCaches_keeps (s : State) : Keeps s (freeCaches s) := by
  unfold freeCaches
  exact .of_eq rfl rfl rfl rfl

theorem freePredictor_keeps (s : State) : Keeps s (freePredictor s) := by
  unfold freePredictor
  exact .of_eq rfl rfl rfl rfl

theorem Keeps.whenever {s t : State} {c : Bool} {f : State → State} (h : Keeps s t) (hf : Keeps t (f t)) :
    Keeps s (if c then f t else t) := .ite (h.trans hf) h

theorem applyReset_keeps {trst scu : Bool} {por wd cpu : BitVec 4} {s t : State} (h : applyReset trst scu por wd cpu s = .ok t) :
    Keeps s t := by
  have tap : Keeps s (if trst then tapReset s else s) := (Keeps.refl s).whenever (tapReset_keeps s)
  unfold applyReset at h
  dsimp only at h
  generalize (if trst then tapReset s else s) = u at h tap
  split at h
  · split at h
    · obtain rfl := Except.ok.inj h
      refine Keeps.trans (Keeps.whenever (f := freePredictor ∘ freeCaches ∘ freeTlb) ?_ ?_) (resetOthers_keeps ..)
      · exact (((tap.whenever (resetScu_keeps _)).whenever (resetCp14_keeps _)).trans (resetWatchdogs_keeps ..)).whenever
          (resetCpu_keeps _)
      · exact (freeTlb_keeps _).trans <| (freeCaches_keeps _).trans (freePredictor_keeps _)
    · cases h
  · cases h
    exact tap

/-! ## Power -/

theorem legalMode_anyMode (n : Nat) : legalMode (anyMode n) = true := by
  have h : n % 7 < 7 := Nat.mod_lt _ (by omega)
  unfold anyMode
  interval_cases n % 7 <;> rfl

/-- What the free values of the core do to the CPSR. -/
theorem freeCore_psrs (s : State) :
    ∃ w k, (freeCore s).psrs = { (scrambleCore s).psrs with cpsr := setFld (w &&& psrMask) 0 (anyMode k) } := by
  unfold freeCore
  generalize scrambleCore s = t
  exact ⟨t.drawWord.2.drawWord.1, t.drawWord.2.drawWord.2.drawWord.1.toNat, rfl⟩

theorem freeCore_frame (s : State) :
    (freeCore s).cfg = (scrambleCore s).cfg ∧ (freeCore s).cp15 = (scrambleCore s).cp15 := by
  unfold freeCore
  generalize scrambleCore s = t
  exact ⟨rfl, rfl⟩

theorem freeCore_keeps (s : State) : Keeps s (freeCore s) := by
  obtain ⟨w, k, psrs⟩ := freeCore_psrs s
  obtain ⟨cfg, cp15⟩ := freeCore_frame s
  refine (scrambleCore_keeps s).trans (.of_legal cfg (congrArg Cp15.control cp15) (fun c => ?_) ?_)
  · rw [psrs]
    exact ⟨(psrClean_and w).setFld 0 _ (by decide), fun b x hx => c.2 b x (by cases b <;> exact hx)⟩
  · unfold State.mode State.cpsr
    rw [psrs, mode_setFld, legalMode_anyMode]

theorem freeCp15_keeps (s : State) : Keeps s (freeCp15 s) := by
  unfold freeCp15
  exact .of_control rfl rfl rfl (controlValue_fixed s.cfg _)

theorem freeVfp_keeps (s : State) : Keeps s (freeVfp s) := by
  unfold freeVfp
  exact .of_eq rfl rfl rfl rfl

theorem freeCp14_keeps (s : State) : Keeps s (freeCp14 s) := by
  unfold freeCp14
  exact .ite (.refl s) (.of_eq rfl rfl rfl rfl)

theorem losePower_keeps (p : Power) (s : State) : Keeps s (losePower p s) := by
  have off (t : State) : Keeps t { t with power := p, prefetched := [] } := .of_eq rfl rfl rfl rfl
  exact (freeCore_keeps s).trans <| (freeCp15_keeps _).trans <| (freeVfp_keeps _).trans <| (freeCp14_keeps _).trans <|
    (freeTlb_keeps _).trans <| (freePredictor_keeps _).trans (off _)

theorem powerDown_keeps (p : Power) (s : State) : Keeps s (powerDown p s) := by
  unfold powerDown
  refine .ite ?_ (.refl s)
  cases p with
  | run => exact .refl s
  | dormant => exact .ite (losePower_keeps _ s) (.refl s)
  | off => exact .ite ((losePower_keeps _ s).trans (freeCaches_keeps _)) (.refl s)
end Sys2Proof.Machine
end

section
/-! The invariants of the state through every step (O8, O9). -/
namespace Sys2Proof.Machine

/-! ## The access port -/

theorem captureDr_keeps (s : State) : Keeps s (captureDr s) := by
  unfold captureDr
  dsimp only
  split
  · exact .of_eq rfl rfl rfl rfl
  · exact .of_eq rfl rfl rfl rfl
  · exact .of_eq rfl rfl rfl rfl
  · refine .ite (.of_eq rfl rfl rfl rfl) <| .ite (.ite ?_ ?_) <| .ite ?_ <| .ite (.ite ?_ ?_) <| .ite ?_ ?_
    all_goals exact .of_eq rfl rfl rfl rfl

theorem updateDr_keeps {s t : State} (h : updateDr s = .ok t) : Keeps s t := by
  unfold updateDr dscrDebuggerWrite at h
  dsimp only at h
  split at h
  · cases h; exact .of_eq rfl rfl rfl rfl
  · split_ifs at h
    all_goals cases h
    all_goals exact .of_eq rfl rfl rfl rfl
  · cases h; exact .refl s

theorem leaveDebugState_keeps (s : State) : Keeps s (leaveDebugState s) := by
  have drawn : Keeps s (s.drawWord.2.setDscr (setBit (setBit s.dbg.dscr 0 false) 1 true)) := .of_eq rfl rfl rfl rfl
  have placed (t : State) (pc : Word) : Keeps t (t.setPc pc) := ((SameStatus.refl t).setPc pc).keeps
  have flushed (t : State) :
      Keeps t { t.flushPipeline with dbg := { t.dbg with pcWritten := false, touched := false } } := .of_eq rfl rfl rfl rfl
  exact (Keeps.ite drawn (drawn.trans (placed _ _))).trans (flushed _)

theorem enterIdle_keeps (s : State) : Keeps s (enterIdle s) := by
  unfold enterIdle
  exact .ite (.of_eq rfl rfl rfl rfl) <| .ite (.ite (leaveDebugState_keeps s) (.of_eq rfl rfl rfl rfl)) <|
    .ite (.of_eq rfl rfl rfl rfl) (.refl s)

theorem tapClock_keeps {tms tdi : Bool} {s t : State} (h : tapClock tms tdi s = .ok t) : Keeps s t := by
  unfold tapClock at h
  dsimp only at h
  have moved (x : Tap) : Keeps s (s.setTap x) := .of_eq rfl rfl rfl rfl
  split at h
  · cases h; exact .of_eq rfl rfl rfl rfl
  · cases h; exact (moved _).trans (captureDr_keeps _)
  · exact (moved _).trans (updateDr_keeps h)
  · cases h; exact .of_eq rfl rfl rfl rfl
  · cases h; exact .of_eq rfl rfl rfl rfl
  · cases h; exact .ite (moved _) ((moved _).trans (enterIdle_keeps _))
  · cases h; exact moved _

theorem chainRead_keeps (a : BitVec 7) (s : State) : Keeps s (chainRead a s).2 := by
  unfold chainRead
  dsimp only
  split_ifs
  all_goals exact .of_eq rfl rfl rfl rfl

theorem chainWrite_keeps (a : BitVec 7) (v : Word) (s : State) : Keeps s (chainWrite a v s) := by
  unfold chainWrite
  dsimp only
  split_ifs
  all_goals exact .of_eq rfl rfl rfl rfl

theorem completeRequest_keeps (s : State) : Keeps s (completeRequest s) := by
  unfold completeRequest
  exact .ite (.refl s) <| .ite ((chainWrite_keeps _ _ s).trans (.of_eq rfl rfl rfl rfl))
    ((chainRead_keeps _ s).trans (.of_eq rfl rfl rfl rfl))

/-! ## The environment -/

theorem whenPowered_keeps {f : State → State} {s : State} (h : Keeps s (f s)) : Keeps s (whenPowered f s) := .ite h (.refl s)

theorem prefetchAt_keeps (va : Word) (thumb priv : Bool) (s : State) : Keeps s (prefetchAt va thumb priv s) := by
  have m := (memoryOnly_fetchInWindow va thumb priv s).keeps
  unfold prefetchAt
  refine .ite ?_ (.refl s)
  split
  · next e => rw [e] at m; exact m.trans (.of_eq rfl rfl rfl rfl)
  · exact .refl s

theorem foreignWrite_keeps (pa : Word) (bytes : List Byte) (s : State) : Keeps s (foreignWrite pa bytes s) :=
  .ite (.refl s) <| .ite (memoryOnly_otherCpuWrite pa bytes s).keeps (memoryOnly_otherCpuPlainWrite pa bytes s).keeps

theorem foreignRegionRead_keeps (n : CpuId) (off size : Nat) (s : State) : Keeps s (foreignRegionRead n off size s) := by
  unfold foreignRegionRead
  split
  · exact .refl s
  · split
    · next e => exact (memoryOnly_regionRead e).keeps
    · exact .refl s

theorem foreignRegionWrite_keeps (n : CpuId) (off : Nat) (bytes : List Byte) (s : State) :
    Keeps s (foreignRegionWrite n off bytes s) := by
  unfold foreignRegionWrite
  split
  · exact .refl s
  · cases e : regionWrite n off bytes s with
    | none => exact .refl s
    | some t => exact (memoryOnly_regionWrite e).keeps

theorem tick_keeps (f : CpuId → Devices → Devices) (n : CpuId) (s : State) : Keeps s (tick f n s) :=
  .ite (.refl s) (MemoryOnly.setDev ..).keeps

theorem applyEvent_keeps {e : EnvEvent} {s t : State} (h : applyEvent e s = .ok t) : Keeps s t := by
  cases e with
  | tck tms tdi =>
    unfold applyEvent at h
    dsimp only at h
    split at h
    · exact tapClock_keeps h
    · cases h; exact .refl s
  | reset trst scu por wd cpu => exact applyReset_keeps h
  | drainStore k => cases h; exact (memoryOnly_drainStore k s).keeps
  | busResponse => cases h; exact (memoryOnly_busResponse s).keeps
  | evictTlb k => cases h; exact whenPowered_keeps (.of_eq rfl rfl rfl rfl)
  | evictLine k =>
    cases h
    refine whenPowered_keeps ?_
    split
    · exact (memoryOnly_evictLine _ s).keeps
    · exact .refl s
  | evictInstrLine k => cases h; exact whenPowered_keeps (.of_eq rfl rfl rfl rfl)
  | victims d i => cases h; exact whenPowered_keeps (.of_eq rfl rfl rfl rfl)
  | prefetch va thumb priv => cases h; exact whenPowered_keeps (prefetchAt_keeps va thumb priv s)
  | predict b t => cases h; exact whenPowered_keeps (.ite (.of_eq rfl rfl rfl rfl) (.refl s))
  | irqPin n low => cases h; exact (MemoryOnly.setDev ..).keeps
  | fiqPin low => cases h; exact .of_eq rfl rfl rfl rfl
  | sampleIrq => cases h; exact .of_eq rfl rfl rfl rfl
  | sampleFiq => cases h; exact .of_eq rfl rfl rfl rfl
  | intLine id high => cases h; exact (MemoryOnly.setDev ..).keeps
  | timerTick n => cases h; exact tick_keeps ..
  | watchdogTick n => cases h; exact tick_keeps ..
  | pmuCount => cases h; exact whenPowered_keeps (SameStatus.refl s).pmuAdvance.keeps
  | scuCount => cases h; exact (memoryOnly_scuAdvance s).keeps
  | deviceRead n off size => cases h; exact foreignRegionRead_keeps ..
  | deviceWrite n off size v => cases h; exact foreignRegionWrite_keeps ..
  | otherSmp b => cases h; exact (MemoryOnly.setDev ..).keeps
  | cpuWrite pa bytes => cases h; exact foreignWrite_keeps ..
  | busWrite pa bytes => cases h; exact .ite (.refl s) (memoryOnly_setMem s pa bytes).keeps
  | snoop pa => cases h; exact .ite (memoryOnly_snoopLine pa s).keeps (.refl s)
  | edbgrq high => cases h; exact .of_eq rfl rfl rfl rfl
  | debugRequest => cases h; exact .ite (completeRequest_keeps s) (.refl s)
  | powerDown p => cases h; exact powerDown_keeps p s

theorem applyEvents_keeps : ∀ {l : List EnvEvent} {s t : State} {left : List EnvEvent},
    applyEvents l s = .ok (left, t) → Keeps s t
  | [], s, _, _, h => by cases h; exact .refl s
  | e :: l, s, t, left, h => by
    unfold applyEvents at h
    split at h
    · cases h; exact .refl s
    · split at h
      · cases h
      · next he => exact (applyEvent_keeps he).trans (applyEvents_keeps h)

theorem environment_keeps {s t : State} (h : environment s = .ok t) : Keeps s t := by
  unfold environment at h
  split at h
  · cases h; exact .refl s
  · split at h
    · cases h
    · next e => cases h; exact (applyEvents_keeps e).trans (.of_eq rfl rfl rfl rfl)
    · next e => cases h; exact (applyEvents_keeps e).trans (.of_eq rfl rfl rfl rfl)

/-! ## The step -/

/-- An outcome whose next state, if there is one, keeps the invariants. -/
structure Answer.Keeps (s : State) (o : Answer) : Prop where
  next : ∀ t, o = .next t → Machine.Keeps s t

theorem Answer.keeps_next {s t : State} (h : Machine.Keeps s t) : Answer.Keeps s (.next t) := ⟨fun _ e => by cases e; exact h⟩
theorem Answer.keeps_refused (s : State) (r : Refusal) : Answer.Keeps s (.refused r) := ⟨fun _ => nofun⟩
theorem Answer.keeps_fault (s : State) (e : Fault) : Answer.Keeps s (.fault e) := ⟨fun _ => nofun⟩

theorem Executes.keeps {s : State} {o : Answer} (h : Executes s o) : Answer.Keeps s o := ⟨fun t e => (h.next t e).toKeeps⟩

theorem Answer.Keeps.after {s t : State} {o : Answer} (h : Machine.Keeps s t) (k : Answer.Keeps t o) : Answer.Keeps s o :=
  ⟨fun u e => h.trans (k.next u e)⟩

theorem Answer.Keeps.onNext {s : State} {f : State → State} (hf : ∀ t, Machine.Keeps t (f t)) {o : Answer}
    (h : Answer.Keeps s o) : Answer.Keeps s (onNext f o) := by
  cases o with
  | next t => exact Answer.keeps_next ((h.next t rfl).trans (hf t))
  | fault e => exact Answer.keeps_fault ..
  | refused r => exact Answer.keeps_refused ..

theorem Answer.Keeps.ite {s : State} {c : Prop} [Decidable c] {x y : Answer} (hx : Answer.Keeps s x) (hy : Answer.Keeps s y) :
    Answer.Keeps s (if c then x else y) := by
  split
  · exact hx
  · exact hy

theorem rejected_executes (r : Reject) (s : State) : Executes s (rejected r s) := by
  have unlisted : (vfpCheck none s).bind (fun _ _ => (.refused .vfpUnlisted : Res Unit)) |>.Unescalated s :=
    (sameStatus_vfpCheck none s).andThen fun _ _ _ => trivial
  unfold rejected
  cases r with
  | absentCoprocessor cond => exact executes_whenPasses (SameStatus.refl s)
  | vfpUnlisted cond => exact executes_whenPasses unlisted
  | unconditionalCoprocessor cp =>
    dsimp only
    split
    · exact executes_finish unlisted
    · exact executes_finish (SameStatus.refl s)
  | outsideSubset cond => exact executes_whenPasses trivial
  | preload => exact executes_advance s

theorem runCode_keeps (c : Code) (s : State) : Answer.Keeps s (runCode c s) := by
  unfold runCode
  split
  · exact (executes_exec _ s).keeps
  · exact (rejected_executes _ s).keeps

theorem debugPrefetchAbort_keeps (s : State) (cause : BitVec 4) : Keeps s (debugPrefetchAbort s cause) :=
  (debugPrefetchAbort_enters s cause).keeps rfl

/-- The debug event on a committed instruction enters debug state or is an abort (46_cp14_debug.md R326). -/
theorem commitEvent_keeps {h : DebugHits} {s t : State} (e : commitEvent h s = some t) : Keeps s t := by
  have enter {act : State → BitVec 4 → State} (ha : ∀ s c, Keeps s (act s c)) (b v : Bool)
      (e : (match b, v with
        | true, true => some (withBool s fun first s => act s (if first then entryBreakpoint else entryVectorCatch))
        | true, false => some (act s entryBreakpoint)
        | false, true => some (act s entryVectorCatch)
        | false, false => none) = some t) : Keeps s t := by
    cases b <;> cases v <;> cases e
    · exact ha ..
    · exact ha ..
    · exact (SameStatus.refl s).drawBool.keeps.trans (ha ..)
  unfold commitEvent at e
  dsimp only at e
  split at e
  · cases e
  · exact enter enterDebugState_keeps _ _ e
  · exact enter debugPrefetchAbort_keeps _ _ e

theorem watchEvent_keeps (wfar : Word) (s : State) : Keeps s (watchEvent wfar s) := by
  have cleared : Keeps s s.clearWatch := (SameStatus.refl s).clearWatch.keeps
  unfold watchEvent
  dsimp only
  split
  · split
    · exact cleared
    · exact cleared.trans (((SameStatus.refl _).setWfar wfar).keeps.trans (enterDebugState_keeps ..))
    · exact cleared.trans ((debugDataAbort_enters _ wfar).keeps rfl)
  · exact .refl s

theorem commit_keeps (f : Fetched) (h : DebugHits) (s : State) : Answer.Keeps s (commit f h s) := by
  unfold commit
  split
  · exact Executes.keeps (executes_finish (SameStatus.refl s))
  · split
    · next e => exact Answer.keeps_next (commitEvent_keeps e)
    · refine .ite (Executes.keeps (executes_finish (SameStatus.refl s))) (.onNext (watchEvent_keeps _) ?_)
      exact .after (t := s.committed) (.of_eq rfl rfl rfl rfl) (runCode_keeps _ _)

theorem fetchNext_keeps (s : State) : Keeps s (fetchNext s).2 := by
  have window := (memoryOnly_fetchInWindow s.pc s.thumb (!s.userAccess) s).keeps
  unfold fetchNext
  dsimp only
  split
  · split
    · exact .of_eq rfl rfl rfl rfl
    · exact window
  · exact window

theorem instruction_keeps (s : State) : Answer.Keeps s (instruction s) := by
  refine .after (SameStatus.refl s).clearWatch.keeps ?_
  have fetched := fetchNext_keeps s.clearWatch
  unfold instruction
  refine .ite (Answer.keeps_refused ..) ?_
  split
  · exact Answer.keeps_refused ..
  · next e => rw [e] at fetched; exact .after fetched (commit_keeps ..)

theorem dueException_keeps {s t : State} (h : dueException s = some t) : Keeps s t := by
  unfold dueException at h
  split at h
  · cases h; exact (takeFiq_enters s).keeps rfl
  · split at h
    · cases h; exact (takeIrq_enters s).keeps rfl
    · split at h
      · split at h
        · cases h
        · cases h; exact (takeImpreciseAbort_enters _ s).keeps rfl
      · cases h

theorem enterOnRequest_keeps (s : State) : Keeps s (enterOnRequest s) :=
  .ite (.of_eq rfl rfl rfl rfl) (enterDebugState_keeps ..)

theorem boundary_keeps (s : State) : Answer.Keeps s (boundary s) := by
  unfold boundary
  split
  · exact .ite (Answer.keeps_next (enterOnRequest_keeps s)) (instruction_keeps s)
  · next e =>
    refine .ite (Answer.keeps_next ?_) (Answer.keeps_next (dueException_keeps e))
    refine (SameStatus.refl s).drawBool.keeps.trans (.ite (enterOnRequest_keeps _) ?_)
    cases d : dueException s.drawBool.2 with
    | none => exact .refl _
    | some u => exact dueException_keeps d

theorem wakeUp_keeps (s : State) : Keeps s (wakeUp s) :=
  .ite (.of_eq rfl rfl rfl rfl) <| .ite (.ite (.of_eq rfl rfl rfl rfl) (.of_eq rfl rfl rfl rfl)) (.refl s)

theorem freshDebugPc_keeps (wrote : Bool) (s : State) : Keeps s (freshDebugPc wrote s) := by
  obtain ⟨touched, pc, n, e⟩ := freshDebugPc_spec wrote s
  rw [e]
  exact .of_eq rfl rfl rfl rfl

theorem debugStep_keeps (s : State) : Answer.Keeps s (debugStep s) := by
  unfold debugStep
  split
  · refine .ite (Answer.keeps_refused ..) (.onNext (fun t => ?_) (runCode_keeps _ s))
    exact ((SameStatus.refl t).setTap _).keeps.trans (freshDebugPc_keeps _ _)
  · split
    · exact Answer.keeps_next (((takeImpreciseAbort_enters _ s).keeps rfl).trans (freshDebugPc_keeps _ _))
    · exact Answer.keeps_next (.refl s)

theorem cpuStep_keeps (s : State) : Answer.Keeps s (cpuStep s) := by
  unfold cpuStep
  refine .ite (Answer.keeps_next (.refl s)) <| .ite (Answer.keeps_fault ..) <| .ite (debugStep_keeps s) ?_
  have woken : Keeps s (if s.standby then wakeUp s else s) := .ite (wakeUp_keeps s) (.refl s)
  exact .ite (Answer.keeps_next woken) (.after woken (boundary_keeps _))

/-- Every step keeps the invariants: the chip, the fixed bits of the Control Register, the reserved bits of the status registers, and
a legal mode or the note of an illegal one. -/
theorem step_keeps (s : State) : Answer.Keeps s (step s) := by
  unfold step cycle
  split
  · exact .after ((SameStatus.refl s).setTap _).keeps (runCode_keeps _ _)
  · split
    · exact Answer.keeps_refused ..
    · next e => exact .after (environment_keeps e) (.ite (cpuStep_keeps _) (Answer.keeps_next (.refl _)))

/-! ## The invariants -/

/-- Settles O8, by what every step keeps (`step_keeps`). -/
theorem modeStaysLegal : Obligations.ModeStaysLegal :=
  fun s t legal stepped => ((step_keeps s).next t stepped).mode legal

/-- Settles O9, by what every step keeps (`step_keeps`). -/
theorem reservedBitsStayFixed : Obligations.ReservedBitsStayFixed := by
  intro s t stepped
  obtain ⟨cfg, control, clean, -⟩ := (step_keeps s).next t stepped
  exact ⟨clean, control, cfg⟩

end Sys2Proof.Machine
end

section
/-! SUPPORT. Draining the store buffer. -/
namespace Sys2Proof.Machine

/-! ## Draining the store buffer -/

/-- Nothing has changed but the devices of the private memory region and the count of free values. -/
def DevicesOnly (s t : State) : Prop := t = { s with dev := t.dev, freeCtr := t.freeCtr }

theorem DevicesOnly.refl (s : State) : DevicesOnly s s := rfl
theorem DevicesOnly.setDev (s : State) (d : Devices) : DevicesOnly s (s.setDev d) := rfl

theorem DevicesOnly.trans {s t u : State} (h : DevicesOnly s t) (k : DevicesOnly t u) : DevicesOnly s u := by
  unfold DevicesOnly at *
  rw [k, h]

theorem DevicesOnly.storeBuffer {s t : State} (h : DevicesOnly s t) : t.storeBuffer = s.storeBuffer := by rw [h]

theorem devicesOnly_foldl {α : Type} {f : State → α → State} (hf : ∀ s a, DevicesOnly s (f s a)) :
    ∀ (l : List α) (s : State), DevicesOnly s (l.foldl f s)
  | [], s => .refl s
  | a :: l, s => (hf s a).trans (devicesOnly_foldl hf l (f s a))

theorem devicesOnly_scuAdvance (s : State) : DevicesOnly s (scuAdvance s) := by
  unfold scuAdvance
  split
  · refine devicesOnly_foldl (fun s k => ?_) _ s
    dsimp only
    split
    · rfl
    · exact .refl s
  · exact .refl s

theorem devicesOnly_scuWrite (off : Nat) (v mask : Word) (s : State) : DevicesOnly s (scuWrite off v mask s) := by
  have counted (d : Devices) : DevicesOnly s ((scuAdvance s).setDev d) := (devicesOnly_scuAdvance s).trans (.setDev _ d)
  unfold scuWrite
  dsimp only
  split_ifs
  all_goals first
    | with_reducible exact .refl s
    | with_reducible exact .setDev ..
    | with_reducible exact counted _
    | with_reducible exact devicesOnly_scuAdvance s

theorem devicesOnly_ifaceWrite (n : CpuId) (off : Nat) (v : Word) (s : State) : DevicesOnly s (ifaceWrite n off v s) := by
  unfold ifaceWrite
  dsimp only
  repeat' split
  all_goals exact .setDev ..

theorem devicesOnly_softwareInterrupt (n : CpuId) (v : Word) (s : State) : DevicesOnly s (softwareInterrupt n v s) := by
  unfold softwareInterrupt sendSoftwareInterrupt
  dsimp only
  repeat' split
  all_goals rfl

theorem devicesOnly_distWrite (n : CpuId) (off : Nat) (v mask : Word) (s : State) : DevicesOnly s (distWrite n off v mask s) := by
  unfold distWrite
  dsimp only
  repeat' split
  all_goals first
    | with_reducible exact .refl s
    | with_reducible exact .setDev ..
    | exact (DevicesOnly.setDev s _).trans (devicesOnly_softwareInterrupt ..)

/-- A write of the private memory region changes only its devices. -/
theorem devicesOnly_regionWrite {n : CpuId} {off : Nat} {bytes : List Byte} {s t : State}
    (h : regionWrite n off bytes s = some t) : DevicesOnly s t := by
  unfold regionWrite regionWriteWord at h
  dsimp only at h
  split at h
  · obtain rfl := Option.some.inj h
    split
    · exact devicesOnly_scuWrite ..
    · exact .refl s
  · obtain rfl := Option.some.inj h
    exact devicesOnly_ifaceWrite ..
  · obtain rfl := Option.some.inj h
    exact .setDev ..
  · obtain rfl := Option.some.inj h
    exact devicesOnly_distWrite ..
  · cases h

@[simp] theorem raiseImprecise_storeBuffer (a : ImpreciseAbort) (s : State) : (raiseImprecise a s).storeBuffer = s.storeBuffer := by
  unfold raiseImprecise Machine.withBool
  dsimp only
  split <;> rfl

@[simp] theorem busWrite_storeBuffer (pa : Word) (bytes : List Byte) (s : State) :
    (busWrite pa bytes s).storeBuffer = s.storeBuffer := by
  unfold busWrite
  split
  · exact raiseImprecise_storeBuffer ..
  · rfl

@[simp] theorem cleanLine_storeBuffer (l : Line) (s : State) : (cleanLine l s).storeBuffer = s.storeBuffer := by
  unfold cleanLine
  split
  · exact busWrite_storeBuffer ..
  · rfl

@[simp] theorem openMonitorAt_storeBuffer (tag : BitVec 27) (s : State) : (openMonitorAt tag s).storeBuffer = s.storeBuffer := by
  unfold openMonitorAt
  split
  · rfl
  · split <;> rfl

@[simp] theorem evictLine_storeBuffer (l : Line) (s : State) : (evictLine l s).storeBuffer = s.storeBuffer :=
  (openMonitorAt_storeBuffer l.tag (cleanLine l s)).trans (cleanLine_storeBuffer l s)

@[simp] theorem linefill_storeBuffer (tag : BitVec 27) (s : State) : (linefill tag s).storeBuffer = s.storeBuffer := by
  unfold linefill
  split
  · rfl
  · dsimp only
    split
    · exact evictLine_storeBuffer ..
    · rfl

@[simp] theorem cacheWrite_storeBuffer (pa : Word) (bytes : List Byte) (s : State) :
    (cacheWrite pa bytes s).storeBuffer = s.storeBuffer := by
  have filled : (match s.dline (lineTag pa) with
      | some _ => s
      | none => linefill (lineTag pa) s).storeBuffer = s.storeBuffer := by
    split
    · rfl
    · exact linefill_storeBuffer ..
  unfold cacheWrite
  dsimp only
  split
  · exact filled
  · split
    · exact (raiseImprecise_storeBuffer ..).trans filled
    · exact filled

/-- A write that reaches its place changes nothing of those still buffered. -/
theorem retire_storeBuffer (e : PendingStore) (s : State) : (retire e s).storeBuffer = s.storeBuffer := by
  unfold retire
  split
  · split
    · next h => exact (devicesOnly_regionWrite h).storeBuffer
    · exact raiseImprecise_storeBuffer ..
  · split
    · exact cacheWrite_storeBuffer ..
    · exact busWrite_storeBuffer ..

theorem retireAll_storeBuffer : ∀ (l : List PendingStore) (s : State), (retireAll l s).storeBuffer = s.storeBuffer
  | [], _ => rfl
  | e :: l, s => (retireAll_storeBuffer l (retire e s)).trans (retire_storeBuffer e s)

/-- Draining leaves no buffered write (20_memory.md R90). -/
theorem drainAll_storeBuffer (s : State) : (drainAll s).storeBuffer = [] := retireAll_storeBuffer _ _
end Sys2Proof.Machine
end

section
/-! The machine after a reset (O10, O11, O12). -/
namespace Sys2Proof.Machine

/-! ## The machine after reset -/

/-- Settles O10: the memory is all zero, and the registers have fixed values. -/
theorem resetMeetsInvariants : Obligations.ResetMeetsInvariants := by
  refine ⟨Mem.wf_reset, Or.inr rfl, rfl, rfl, fun b w hw => ?_⟩
  cases b <;> cases hw <;> rfl

/-- Settles O11, by evaluating the reset state. -/
theorem resetValues : Obligations.ResetValues := by
  unfold Obligations.ResetValues
  repeat' apply And.intro
  all_goals rfl

/-! ## A reset of the CPU from any state -/

theorem drainAll_cfg (s : State) : (drainAll s).cfg = s.cfg := (memoryOnly_drainAll s).cfg

/-- The CPSR after a reset: the specified bits, and open flags (10_state.md R35). -/
theorem resetCpu_cpsr (s : State) : ∃ w, (resetCpu s).cpsr = resetCpsr s.cfg ||| (w &&& 0xF80F0000) := by
  obtain ⟨-, psrs, -⟩ := resetCpu_frame s
  refine ⟨(drainAll s).freeAt 30 &&& psrMask, ?_⟩
  unfold State.cpsr
  rw [psrs, coldRegisters_psrs, scrambleCore_psrs, drainAll_cfg]

/-- An open flag does not change a bit outside the flags. -/
theorem bitAt_or_flags (v w : Word) {k : Nat} (hk : (0xF80F0000 : Word).getLsbD k = false) :
    bitAt (v ||| (w &&& 0xF80F0000)) k = bitAt v k := by
  rw [bitAt_eq_getLsbD, BitVec.getLsbD_or, BitVec.getLsbD_and, hk, bitAt_eq_getLsbD, Bool.and_false, Bool.or_false]

/-- The bits of the CPSR after a reset (10_state.md R35). -/
theorem resetCpu_psrBits (s : State) :
    let t := resetCpu s
    t.aBit = true ∧ t.iBit = true ∧ t.fBit = true ∧ t.tBit = false ∧ t.jBit = false ∧ t.eBit = (s.cfg.cfgEnd == .b11) := by
  obtain ⟨w, e⟩ := resetCpu_cpsr s
  simp only [State.aBit, State.iBit, State.fBit, State.tBit, State.jBit, State.eBit, e]
  rw [bitAt_or_flags (k := 8) _ _ (by decide), bitAt_or_flags (k := 7) _ _ (by decide), bitAt_or_flags (k := 6) _ _ (by decide),
    bitAt_or_flags (k := 5) _ _ (by decide), bitAt_or_flags (k := 24) _ _ (by decide), bitAt_or_flags (k := 9) _ _ (by decide)]
  unfold resetCpsr
  cases s.cfg.cfgEnd <;> decide

/-- The CP15 registers after a reset: nine are open (10_state.md R37). -/
theorem resetCpu_cp15 (s : State) : ∃ dfsr ifsr far wfar ccnt pmn0 pmn1 lockRead lockWrite,
    (resetCpu s).cp15 = { Cp15.reset s.cfg with
      dfsr := dfsr, ifsr := ifsr, far := far, wfar := wfar, ccnt := ccnt, pmn0 := pmn0, pmn1 := pmn1
      tlbLockIndexRead := lockRead, tlbLockIndexWrite := lockWrite } := by
  have chip : (scrambleCore (drainAll s)).cfg = s.cfg := (scrambleCore_keeps _).cfg.trans (drainAll_cfg s)
  obtain ⟨-, -, cp15⟩ := resetCpu_frame s
  rw [cp15]
  unfold coldRegisters
  generalize scrambleCore (drainAll s) = t at chip
  unfold resetVfp resetCp15
  rw [← chip]
  exact ⟨_, _, _, _, _, _, _, _, _, rfl⟩

/-- The bits of the Control Register after a reset (41_cp15_c1_control.md R150 to R152). -/
theorem bitAt_resetControl (c : Config) :
    bitAt (resetControl c) 13 = c.vinithi ∧ bitAt (resetControl c) 22 = (c.cfgEnd != .b00) ∧
      bitAt (resetControl c) 25 = (c.cfgEnd == .b11) ∧ bitAt (resetControl c) 27 = c.fiqIsNmi ∧
      bitAt (resetControl c) 0 = false ∧ bitAt (resetControl c) 1 = false ∧ bitAt (resetControl c) 2 = false ∧
      bitAt (resetControl c) 12 = false := by
  unfold resetControl
  cases c.vinithi <;> cases c.cfgEnd <;> cases c.fiqIsNmi <;> decide

theorem resetControl_eq (c : Config) :
    resetControl c = (0x00054078 ||| flag c.vinithi 13 ||| flag (c.cfgEnd != .b00) 22 ||| flag (c.cfgEnd == .b11) 25 |||
      flag c.fiqIsNmi 27) := by
  unfold resetControl
  cases c.cfgEnd <;> rfl

theorem scrambleCore_storeBuffer (s : State) : (scrambleCore s).storeBuffer = s.storeBuffer := by
  unfold scrambleCore
  rfl

theorem resetCp15_buffers (s : State) : (resetCp15 s).fetchOld = [] ∧ (resetCp15 s).storeBuffer = s.storeBuffer := by
  unfold resetCp15
  exact ⟨rfl, rfl⟩

theorem resetVfp_buffers (s : State) : (resetVfp s).fetchOld = s.fetchOld ∧ (resetVfp s).storeBuffer = s.storeBuffer := by
  unfold resetVfp
  exact ⟨rfl, rfl⟩

/-- No older setting and no buffered write is left after a reset (92_eei_decisions.md D41). -/
theorem coldRegisters_buffers (s : State) : (coldRegisters s).fetchOld = [] ∧ (coldRegisters s).storeBuffer = [] := by
  unfold coldRegisters
  rw [(resetVfp_buffers _).1, (resetVfp_buffers _).2, (resetCp15_buffers _).1, (resetCp15_buffers _).2, scrambleCore_storeBuffer,
    drainAll_storeBuffer]
  exact ⟨rfl, rfl⟩

/-- The parts of the state that a reset of the CPU empties or ends (10_state.md R33, 60_exceptions.md R514, 46_cp14_debug.md R332,
70_reset_and_hazards.md R603). -/
theorem resetCpu_ends (s : State) :
    let t := resetCpu s
    t.pc = resetVector s.cfg ∧ t.halted = false ∧ t.stuck = false ∧ t.standby = false ∧ t.prefetched = [] ∧ t.fetchOld = [] ∧
      t.storeBuffer = [] := by
  have chip : (coldRegisters s).cfg = s.cfg := (coldRegisters_keeps s).cfg
  obtain ⟨fetchOld, storeBuffer⟩ := coldRegisters_buffers s
  unfold resetCpu
  rw [show resetVfp (resetCp15 (scrambleCore (drainAll s))) = coldRegisters s from rfl]
  generalize coldRegisters s = t at chip fetchOld storeBuffer
  refine ⟨congrArg resetVector chip, ?_, rfl, rfl, rfl, fetchOld, storeBuffer⟩
  unfold State.halted
  rw [bitAt_eq_getLsbD, getLsbD_setBit _ _ _ _ (by omega), if_neg (by omega), getLsbD_setBit _ _ _ _ (by omega), if_pos rfl]

/-- Settles O12, from the CPSR, the CP15 registers and the rest of the state after a reset of the CPU. -/
theorem cpuResetFromAnyState : Obligations.CpuResetFromAnyState := by
  intro s
  obtain ⟨aBit, iBit, fBit, tBit, jBit, eBit⟩ := resetCpu_psrBits s
  obtain ⟨pc, ended⟩ := resetCpu_ends s
  obtain ⟨_, _, _, _, _, _, _, _, _, cp15⟩ := resetCpu_cp15 s
  obtain ⟨v, u, ee, nmfi, m, a, c, i⟩ := bitAt_resetControl s.cfg
  have control : (resetCpu s).cp15.control = resetControl s.cfg := by rw [cp15]; rfl
  refine ⟨resetCpu_mode s, aBit, iBit, fBit, tBit, jBit, eBit, pc, control.trans (resetControl_eq _), ?_⟩
  unfold State.ctlV State.ctlU State.ctlEe State.ctlNmfi State.ctlM State.ctlA State.ctlC State.ctlI
  rw [control]
  refine ⟨v, u, ee, nmfi, m, a, c, i, ?_⟩
  rw [cp15]
  exact ⟨rfl, rfl, rfl, rfl, rfl, rfl, rfl, rfl, rfl, rfl, rfl, rfl, rfl, rfl, rfl, rfl, rfl, rfl, rfl, rfl, rfl, ended⟩

end Sys2Proof.Machine
end

section
/-! SUPPORT. Canonical memory: the relation, and the updates, exceptions and results that leave memory alone. -/
namespace Sys2Proof.Machine

/-! ## Canonical memory kept -/

/-- A change keeps memory in its canonical form (20_memory.md R42). -/
def KeepsMem (s t : State) : Prop := s.memCanonical → t.memCanonical

theorem KeepsMem.refl (s : State) : KeepsMem s s := id
theorem KeepsMem.trans {s t u : State} (h : KeepsMem s t) (k : KeepsMem t u) : KeepsMem s u := k ∘ h
theorem MemoryOnly.keepsMem {s t : State} (h : MemoryOnly s t) : KeepsMem s t := h.2

/-- Memory itself is left alone after the change. -/
theorem KeepsMem.same {s t u : State} (h : KeepsMem s t) (e : u.mem = t.mem) : KeepsMem s u := fun c => by
  unfold State.memCanonical
  rw [e]
  exact h c

theorem KeepsMem.of_eq {s t : State} (e : t.mem = s.mem) : KeepsMem s t := (KeepsMem.refl s).same e

/-- A choice between two changes. -/
theorem KeepsMem.ite {s t u : State} {c : Prop} [Decidable c] (h : KeepsMem s t) (k : KeepsMem s u) :
    KeepsMem s (if c then t else u) := by
  split
  · exact h
  · exact k

/-- The states in which a result leaves the machine have memory in canonical form. -/
def Res.KeepsMem {α : Type} (s : State) (r : Res α) : Prop :=
  match r with
  | .ok _ t => Machine.KeepsMem s t
  | .exc _ t => Machine.KeepsMem s t
  | .fault _ => True
  | .refused _ => True

theorem Res.MemoryOnly.keepsMem {α : Type} {s : State} {r : Res α} (h : r.MemoryOnly s) : r.KeepsMem s := by
  cases r with
  | ok a t => exact Machine.MemoryOnly.keepsMem h
  | exc x t => exact Machine.MemoryOnly.keepsMem h
  | fault e => trivial
  | refused e => trivial

theorem Res.KeepsMem.bind {α β : Type} {s : State} {r : Res α} {f : α → State → Res β} (h : r.KeepsMem s)
    (k : ∀ a t, Machine.KeepsMem s t → (f a t).KeepsMem s) : (r.bind f).KeepsMem s := by
  cases r with
  | ok a t => exact k a t h
  | exc x t => exact h
  | fault e => trivial
  | refused e => trivial

/-- A result reached from a state that a change has left. -/
theorem Res.KeepsMem.after {α : Type} {s t : State} {r : Res α} (k : r.KeepsMem t) (h : Machine.KeepsMem s t) :
    r.KeepsMem s := by
  cases r with
  | ok a u => exact Machine.KeepsMem.trans h k
  | exc x u => exact Machine.KeepsMem.trans h k
  | fault e => trivial
  | refused e => trivial

theorem Res.KeepsMem.ite {α : Type} {s : State} {c : Prop} [Decidable c] {x y : Res α} (hx : x.KeepsMem s) (hy : y.KeepsMem s) :
    (if c then x else y).KeepsMem s := by
  split
  · exact hx
  · exact hy

/-! ## Updates that leave memory alone -/

@[simp] theorem State.setLink_mem (s : State) : s.setLink.mem = s.mem := s.setReg_mem _ _
@[simp] theorem State.writePc_mem (s : State) (v : Word) : (s.writePc v).mem = s.mem := State.markWritten_mem _
@[simp] theorem State.writeBase_mem (s : State) (n : RegNum) (v : Option Word) : (s.writeBase n v).mem = s.mem := by
  cases v with
  | none => rfl
  | some v => exact s.setReg_mem n v
@[simp] theorem State.setDreg_mem (s : State) (n : BitVec 4) (v : BitVec 64) : (s.setDreg n v).mem = s.mem := rfl

@[simp] theorem State.setEntry_mem (s : State) (c : BitVec 4) : (s.setEntry c).mem = s.mem := rfl

/-- A choice between two states with the same memory. -/
theorem State.mem_ite {s t : State} {m : Mem} {c : Prop} [Decidable c] (h : s.mem = m) (k : t.mem = m) :
    (if c then s else t).mem = m := by
  split
  · exact h
  · exact k

@[simp] theorem State.writeCpsr_mem (s : State) (v : Word) : (s.writeCpsr v).mem = s.mem :=
  State.mem_ite (m := s.mem) (State.mem_ite (State.setBankReg_mem ..) rfl) rfl

@[simp] theorem returnWritePc_mem (s : State) (v : Word) : (returnWritePc s v).mem = s.mem := by
  unfold returnWritePc
  repeat' split
  all_goals exact s.writePc_mem _

@[simp] theorem exceptionReturn_mem (s : State) (psr target : Word) : (exceptionReturn s psr target).mem = s.mem := by
  simp [exceptionReturn]

/-! ## Exceptions leave memory alone -/

@[simp] theorem State.enter_mem (s : State) (mode : BitVec 5) (offset link : Word) (a f : Bool) :
    (s.enter mode offset link a f).mem = s.mem := by simp [State.enter]

@[simp] theorem enterDebugState_mem (s : State) (cause : BitVec 4) : (enterDebugState s cause).mem = s.mem := rfl

@[simp] theorem openWfar_mem (s : State) : (openWfar s).mem = s.mem := rfl

@[simp] theorem debugPrefetchAbort_mem (s : State) (cause : BitVec 4) : (debugPrefetchAbort s cause).mem = s.mem := by
  simp [debugPrefetchAbort, withWord]

@[simp] theorem debugDataAbort_mem (s : State) (wfar : Word) : (debugDataAbort s wfar).mem = s.mem := by
  simp [debugDataAbort, withWord]

@[simp] theorem takeImpreciseAbort_mem (a : ImpreciseAbort) (s : State) : (takeImpreciseAbort a s).mem = s.mem := by
  unfold takeImpreciseAbort withWord
  dsimp only
  split <;> simp

theorem takeDataAbort_mem (f : DataFault) (s : State) : (takeDataAbort f s).mem = s.mem := by
  unfold takeDataAbort withWord
  dsimp only
  cases f.iside <;> split <;> simp

theorem takePrefetchAbort_mem (f : FetchFault) (s : State) : (takePrefetchAbort f s).mem = s.mem := by
  simp [takePrefetchAbort, withWord]

theorem takeUndefined_mem (s : State) : (takeUndefined s).mem = s.mem := by
  unfold takeUndefined withWord
  split <;> simp

theorem takeBkpt_mem (s : State) : (takeBkpt s).mem = s.mem := by
  unfold takeBkpt
  split
  · rfl
  · split <;> simp

theorem takeException_mem (x : Exc) (s : State) : (takeException x s).mem = s.mem := by
  cases x with
  | undefined => exact takeUndefined_mem s
  | swi => exact s.enter_mem ..
  | prefetchAbort f => exact takePrefetchAbort_mem f s
  | dataAbort f => exact takeDataAbort_mem f s
  | bkpt => exact takeBkpt_mem s

/-! ## Outcomes -/

/-- An outcome whose next state, if there is one, has memory in canonical form. -/
structure Answer.KeepsMem (s : State) (o : Answer) : Prop where
  next : ∀ t, o = .next t → Machine.KeepsMem s t

theorem Answer.keepsMem_next {s t : State} (h : Machine.KeepsMem s t) : Answer.KeepsMem s (.next t) :=
  ⟨fun _ e => by cases e; exact h⟩
theorem Answer.keepsMem_refused (s : State) (r : Refusal) : Answer.KeepsMem s (.refused r) := ⟨fun _ => nofun⟩
theorem Answer.keepsMem_fault (s : State) (e : Fault) : Answer.KeepsMem s (.fault e) := ⟨fun _ => nofun⟩

theorem Answer.KeepsMem.after {s t : State} {o : Answer} (k : Answer.KeepsMem t o) (h : Machine.KeepsMem s t) :
    Answer.KeepsMem s o := ⟨fun u e => h.trans (k.next u e)⟩

theorem Answer.KeepsMem.ite {s : State} {c : Prop} [Decidable c] {x y : Answer} (hx : Answer.KeepsMem s x)
    (hy : Answer.KeepsMem s y) : Answer.KeepsMem s (if c then x else y) := by
  split
  · exact hx
  · exact hy

theorem Answer.KeepsMem.onNext {s : State} {f : State → State} (hf : ∀ t, Machine.KeepsMem t (f t)) {o : Answer}
    (h : Answer.KeepsMem s o) : Answer.KeepsMem s (onNext f o) := by
  cases o with
  | next t => exact keepsMem_next ((h.next t rfl).trans (hf t))
  | fault e => exact keepsMem_fault ..
  | refused r => exact keepsMem_refused ..

theorem keepsMem_finish {s : State} {r : Res Unit} (h : r.KeepsMem s) : Answer.KeepsMem s (finish r) := by
  cases r with
  | ok a t => exact Answer.keepsMem_next h
  | exc x t =>
    exact .ite (Answer.keepsMem_refused ..) (Answer.keepsMem_next (Machine.KeepsMem.same h (takeException_mem x t)))
  | fault e => exact Answer.keepsMem_fault ..
  | refused e => exact Answer.keepsMem_refused ..

theorem keepsMem_advance (s : State) : Answer.KeepsMem s (.next s.advance) := Answer.keepsMem_next (.of_eq s.advance_mem)

theorem keepsMem_whenPasses {cond : Cond} {s : State} {m : State → Res Unit} (h : (m s).KeepsMem s) :
    Answer.KeepsMem s (whenPasses cond s m) := .ite (keepsMem_finish h) (keepsMem_advance s)

theorem keepsMem_whenBranches {cond : Cond} {s : State} {m : State → Res Unit} (h : (m s).KeepsMem s) :
    Answer.KeepsMem s (whenBranches cond s m) :=
  .ite (keepsMem_finish h) <| .ite (Answer.keepsMem_next (.of_eq (State.writePc_mem ..))) (keepsMem_advance s)

end Sys2Proof.Machine
end

section
/-! SUPPORT. Canonical memory through the shared operations of the instructions. -/
namespace Sys2Proof.Machine

/-! ## Branches, data processing and moves to the status registers -/

section
variable {s t : State} (h : KeepsMem s t)
include h

theorem keepsMem_bxWritePc (v : Word) : (bxWritePc t v).KeepsMem s :=
  .ite (h.same (by simp)) (.ite trivial (h.same (by simp)))

theorem keepsMem_aluWritePc (v : Word) : (aluWritePc t v).KeepsMem s :=
  .ite (h.same (by simp)) (.ite (h.same (by simp)) (.ite (h.same (by simp)) trivial))

theorem keepsMem_loadWritePc (v : Word) : (loadWritePc t v).KeepsMem s :=
  .ite (h.same (by simp)) (keepsMem_bxWritePc h v)

theorem keepsMem_returnFromSpsr (v : Word) : (returnFromSpsr t v).KeepsMem s := by
  unfold returnFromSpsr
  split
  · trivial
  · exact h.same (by simp)

theorem keepsMem_moveToCore (rd : RegNum) (v : Word) : (moveToCore rd v t).KeepsMem s :=
  .ite (h.same (by simp)) (h.same (by simp))

end

/-- MUL and MLA (47_core_instructions.md R773). -/
theorem keepsMem_multiply (cond : Cond) (sb : Bool) (rd : RegNum) (s : State) (bad : State → Bool) (v : State → Word) :
    Answer.KeepsMem s (whenPasses cond s fun s =>
      if bad s then .refused .unpredictableForm else .ok () ((if sb then s.setNz (v s) else s).setReg rd (v s)).advance) :=
  keepsMem_whenPasses (.ite trivial (.of_eq (by cases sb <;> simp)))

theorem keepsMem_writeResult {s : State} (sb : Bool) (rd : RegNum) (v : Word) {flags : State → State}
    (hf : (flags s).mem = s.mem) : (writeResult s sb rd v flags).KeepsMem s :=
  .ite (.ite (keepsMem_returnFromSpsr (.refl s) v) (keepsMem_aluWritePc (.refl s) v)) (.of_eq (by cases sb <;> simp [hf]))

theorem keepsMem_writeLogic (s : State) (sb : Bool) (rd : RegNum) (c : Bool) (v : Word) : (writeLogic s sb rd c v).KeepsMem s :=
  keepsMem_writeResult sb rd v (by simp)

theorem keepsMem_writeArith (s : State) (sb : Bool) (rd : RegNum) (x : Sum) : (writeArith s sb rd x).KeepsMem s :=
  keepsMem_writeResult sb rd x.result (by simp)

theorem keepsMem_testLogic (s : State) (c : Bool) (v : Word) : (testLogic s c v).KeepsMem s := .of_eq (by simp)
theorem keepsMem_testArith (s : State) (x : Sum) : (testArith s x).KeepsMem s := .of_eq (by simp)

theorem keepsMem_writeStatus (s : State) (rd : RegNum) (v : Word) : (writeStatus s rd v).KeepsMem s :=
  .ite (keepsMem_aluWritePc (.refl s) v) (.of_eq (by simp))

theorem keepsMem_mrs (cond : Cond) (r : Bool) (rd : RegNum) (s : State) : Answer.KeepsMem s (execMrs cond r rd s) := by
  refine keepsMem_whenPasses (.ite ?_ (keepsMem_writeStatus s rd _))
  split
  · trivial
  · exact keepsMem_writeStatus s rd _

theorem keepsMem_moveToStatus (r : Bool) (mask : BitVec 4) (v : Word) (s : State) : (moveToStatus r mask v s).KeepsMem s := by
  unfold moveToStatus
  dsimp only
  split
  · split
    · trivial
    · exact .of_eq (by simp)
  · exact .of_eq (by simp)

/-! ## CP14 and CP15 -/

theorem keepsMem_cp14Run {cond : Cond} {k : Cp14Kind} {s : State} {m : State → Res Unit} (h : (m s).KeepsMem s) :
    Answer.KeepsMem s (cp14Run cond k s m) := keepsMem_whenPasses (.ite h (KeepsMem.refl s))

theorem keepsMem_cp14Transfer {cond : Cond} {k : Cp14Kind} {rd : RegNum} {s : State} {m : State → Res Unit}
    (h : (m s).KeepsMem s) : Answer.KeepsMem s (cp14Transfer cond k rd s m) := keepsMem_cp14Run (.ite (KeepsMem.refl s) h)

theorem keepsMem_cp14Read (cond : Cond) (k : Cp14Kind) (rd : RegNum) (s : State) (v : State → Word) :
    Answer.KeepsMem s (cp14Read cond k rd s v) := keepsMem_cp14Transfer (.of_eq (by simp))

theorem keepsMem_cp14Write {cond : Cond} {k : Cp14Kind} {rd : RegNum} {s : State} {f : Word → State → State}
    (h : ∀ v, (f v s).mem = s.mem) : Answer.KeepsMem s (cp14Write cond k rd s f) :=
  keepsMem_cp14Transfer (.of_eq (by simp [h]))

theorem keepsMem_ldcDtr (cond : Cond) (p u w : Bool) (rn : RegNum) (off : BitVec 8) (s : State) :
    Answer.KeepsMem s (execLdcDtr cond p u w rn off s) :=
  keepsMem_cp14Run <| .ite trivial <| (memoryOnly_loadMany _ _ _ _ s).keepsMem.bind fun _ _ h =>
    h.same (by simp [wdtrWrite])

theorem keepsMem_stcDtr (cond : Cond) (p u w : Bool) (rn : RegNum) (off : BitVec 8) (s : State) :
    Answer.KeepsMem s (execStcDtr cond p u w rn off s) :=
  keepsMem_cp14Run <| .ite trivial <| (memoryOnly_storeMany _ _ _ _ s).keepsMem.bind fun _ _ h =>
    h.same (by simp [rdtrRead])

theorem keepsMem_cp15Run {cond : Cond} {rd : RegNum} {s : State} {m : State → Res Unit} (h : (m s).KeepsMem s) :
    Answer.KeepsMem s (cp15Run cond rd s m) := keepsMem_whenPasses (.ite (KeepsMem.refl s) (.ite trivial h))

theorem keepsMem_cp15RunUser {cond : Cond} {rd : RegNum} {s : State} {m : State → Res Unit} (h : (m s).KeepsMem s) :
    Answer.KeepsMem s (cp15RunUser cond rd s m) := keepsMem_whenPasses (.ite trivial h)

theorem keepsMem_cp15Read (cond : Cond) (rd : RegNum) (s : State) (v : State → Word) :
    Answer.KeepsMem s (cp15Read cond rd s v) := keepsMem_cp15Run (.of_eq (by simp))

theorem keepsMem_cp15ReadWith {cond : Cond} {rd : RegNum} {s : State} {v : State → Word × State} (h : (v s).2.mem = s.mem) :
    Answer.KeepsMem s (cp15ReadWith cond rd s v) := keepsMem_cp15Run (.of_eq (by simp [h]))

theorem keepsMem_cp15Write {cond : Cond} {rd : RegNum} {s : State} {f : Word → State → State} (h : ∀ v, KeepsMem s (f v s)) :
    Answer.KeepsMem s (cp15Write cond rd s f) := keepsMem_cp15Run ((h (s.reg rd)).same (State.advance_mem _))

/-- A register write that leaves memory alone. -/
theorem keepsMem_cp15WriteReg {cond : Cond} {rd : RegNum} {s : State} {f : Word → State → State}
    (h : ∀ v, (f v s).mem = s.mem) : Answer.KeepsMem s (cp15Write cond rd s f) := keepsMem_cp15Write fun v => .of_eq (h v)

/-- An operation by address, which may abort. -/
theorem keepsMem_cp15Op {cond : Cond} {rd : RegNum} {s : State} {r : State → Res Unit} (h : (r s).KeepsMem s) :
    Answer.KeepsMem s (cp15Run cond rd s fun s => (r s).bind fun _ s => .ok () s.advance) :=
  keepsMem_cp15Run (h.bind fun _ _ k => k.same (by simp))

@[simp] theorem noteRemap_mem (old s : State) : (noteRemap old s).mem = s.mem := State.mem_ite rfl rfl

theorem cpacrWrite_mem (v : Word) (s : State) : (cpacrWrite v s).mem = s.mem := by
  unfold cpacrWrite
  split <;> rfl

theorem nmrrRead_mem (s : State) : (nmrrRead s).2.mem = s.mem := by
  unfold nmrrRead
  split <;> rfl

@[simp] theorem pmuAdvance_mem (s : State) : (pmuAdvance s).mem = s.mem := by
  unfold pmuAdvance
  exact State.mem_ite (by simp [withWord]) rfl

theorem keepsMem_dsb (s : State) : KeepsMem s (dsb s) := (memoryOnly_dsb s).keepsMem

theorem keepsMem_waitForInterrupt (s : State) : KeepsMem s (waitForInterrupt s) :=
  .ite (keepsMem_dsb s) ((keepsMem_dsb s).same rfl)

theorem keepsMem_everyDataLine {f : Line → State → State} (hf : ∀ l s, MemoryOnly s (f l s)) (s : State) :
    KeepsMem s (everyDataLine f s) :=
  ((memoryOnly_drainAll s).trans (MemoryOnly.foldl (fun s l => hf l s) _ _)).keepsMem

theorem keepsMem_dataLineAt {f : Line → State → State} (hf : ∀ l s, MemoryOnly s (f l s)) (v : Word) (s : State) :
    KeepsMem s (dataLineAt f v s) := by
  unfold dataLineAt
  dsimp only
  split
  · exact ((memoryOnly_drainAll s).trans (hf _ _)).keepsMem
  · exact (memoryOnly_drainAll s).keepsMem

theorem keepsMem_maintTranslate (iside : Bool) (v : Word) (s : State) : (maintTranslate iside v s).KeepsMem s := by
  have m := (memoryOnly_translateMaintenance (clearLow v 5) s).keepsMem
  unfold maintTranslate
  dsimp only
  split
  · next e => rw [e] at m; exact m
  · next e => rw [e] at m; exact m
  · trivial

theorem keepsMem_dataLineByMva {f : Line → State → State} (hf : ∀ l s, MemoryOnly s (f l s)) (v : Word) (s : State) :
    (dataLineByMva f v s).KeepsMem s := by
  refine ((keepsMem_maintTranslate _ _ _).after (memoryOnly_drainAll s).keepsMem).bind fun pa t h => ?_
  split
  · exact h.trans (hf _ _).keepsMem
  · exact h

theorem keepsMem_instrLineByMva (v : Word) (s : State) : (instrLineByMva v s).KeepsMem s :=
  (keepsMem_maintTranslate _ _ _).bind fun _ _ h => h.same rfl

theorem keepsMem_vaToPa (p : Purpose) (user : Bool) (v : Word) (s : State) : (vaToPa p user v s).KeepsMem s := by
  have m := (memoryOnly_translate p user true (fcse s (clearLow v 10)) s).keepsMem
  unfold vaToPa
  split
  · next e => rw [e] at m; exact m.same rfl
  · next e =>
    rw [e] at m
    split
    · exact m.same rfl
    · exact m.same rfl
  · trivial

theorem keepsMem_lockRead (k : LockRegister) (rd : RegNum) (v : Word) (s : State) : (lockRead k rd v s).KeepsMem s := by
  have access (a : LockAccess) : KeepsMem s ({ s with lockAccess := a }.setReg rd v).advance := .of_eq (by simp)
  unfold lockRead
  split
  · exact access _
  · exact access _
  · exact .ite (access _) trivial
  · trivial

theorem keepsMem_lockWriteVa (v : Word) (s : State) : (lockWriteVa v s).KeepsMem s := by
  unfold lockWriteVa
  split
  · exact .of_eq (by simp)
  · trivial

theorem keepsMem_lockWriteAttr (v : Word) (s : State) : (lockWriteAttr v s).KeepsMem s := by
  unfold lockWriteAttr
  split
  · exact .of_eq (by simp)
  · trivial

theorem keepsMem_lockWritePa (v : Word) (s : State) : (lockWritePa v s).KeepsMem s := by
  unfold lockWritePa
  split
  · exact .of_eq (by simp)
  · trivial

/-! ## Stores and loads of the status -/

theorem keepsMem_srs (p u w : Bool) (mode : BitVec 5) (s : State) : Answer.KeepsMem s (execSrs p u w mode s) := by
  refine keepsMem_finish (.ite trivial ?_)
  split
  · trivial
  · exact (memoryOnly_storeMany _ _ _ _ s).keepsMem.bind fun _ _ h => h.same (by cases w <;> simp)

theorem keepsMem_rfe (p u w : Bool) (rn : RegNum) (s : State) : Answer.KeepsMem s (execRfe p u w rn s) := by
  refine keepsMem_finish (.ite trivial ?_)
  refine (memoryOnly_alignAccess _ _ _ s).keepsMem.bind fun a t ht => ?_
  refine ((memoryOnly_readAt _ _ _ t).keepsMem.after ht).bind fun psr t ht => ?_
  exact ((memoryOnly_readAt _ _ _ t).keepsMem.after ht).bind fun target t ht => ht.same (by cases w <;> simp)

/-! ## Loads and stores -/

theorem keepsMem_checkPcLoad (rd : RegNum) (a : Word) (s : State) : (checkPcLoad rd a s).KeepsMem s :=
  .ite (.ite (KeepsMem.refl s) trivial) (KeepsMem.refl s)

theorem keepsMem_writeLoaded {s t : State} (h : KeepsMem s t) (rn rd : RegNum) (x : Addressed) (v : Word) :
    (writeLoaded rn rd x v t).KeepsMem s :=
  .ite (keepsMem_loadWritePc (h.same (t.writeBase_mem ..)) v) (h.same (by simp))

theorem keepsMem_loadWord (p u w : Bool) (rn rd rm : RegNum) (off : Word) (s : State) :
    (loadWord p u w rn rd rm off s).KeepsMem s :=
  .ite trivial <| (keepsMem_checkPcLoad _ _ s).bind fun _ t ht =>
    ((memoryOnly_loadValue _ _ _ _ t).keepsMem.after ht).bind fun v _ h => keepsMem_writeLoaded h rn rd _ v

theorem keepsMem_loadPart (ty : AccessType) (n : Nat) (ext : Word → Word) (p u w : Bool) (rn rd rm : RegNum) (off : Word)
    (s : State) : (loadPart ty n ext p u w rn rd rm off s).KeepsMem s :=
  .ite trivial <| (memoryOnly_loadValue _ _ _ _ s).keepsMem.bind fun v _ h => keepsMem_writeLoaded h rn rd _ (ext v)

/-- A free value drawn where a stored register is open. -/
theorem KeepsMem.drawn (s : State) (c : Prop) [Decidable c] : KeepsMem s (if c then s.drawWord.2 else s) :=
  .of_eq (State.mem_ite rfl rfl)

theorem keepsMem_storeSingle (ty : AccessType) (n : Nat) (p u w : Bool) (rn rd rm : RegNum) (off : Word) (s : State) :
    (storeSingle ty n p u w rn rd rm off s).KeepsMem s :=
  .ite trivial <| ((memoryOnly_storeValue ..).keepsMem.after (.drawn s _)).bind fun _ _ h => h.same (by simp)

theorem keepsMem_loadDouble (p u w : Bool) (rn rd rm : RegNum) (off : Word) (s : State) :
    (loadDouble p u w rn rd rm off s).KeepsMem s :=
  .ite trivial <| (memoryOnly_loadMany _ _ _ _ s).keepsMem.bind fun _ _ h => h.same (by simp)

theorem keepsMem_storeDouble (p u w : Bool) (rn rd rm : RegNum) (off : Word) (s : State) :
    (storeDouble p u w rn rd rm off s).KeepsMem s :=
  .ite trivial <| (memoryOnly_storeMany _ _ _ _ s).keepsMem.bind fun _ _ h => h.same (by simp)

/-! ## Load and store multiple -/

theorem shuffle_mem {α : Type} : ∀ (l : List α) (s : State), (shuffle l s).2.mem = s.mem
  | [], _ => rfl
  | _ :: t, s => shuffle_mem t s

@[simp] theorem transferOrder_mem (m : AccessMode) (write : Bool) (l : List (RegNum × Word)) (s : State) :
    (transferOrder m write l s).2.mem = s.mem := by
  unfold transferOrder
  split
  · exact shuffle_mem l s
  · rfl

@[simp] theorem writeList_mem (b : Bank) : ∀ (l : List (RegNum × Word)) (s : State), (writeList b l s).mem = s.mem
  | [], _ => rfl
  | x :: l, s => (writeList_mem b l _).trans (s.setBankReg_mem b x.1 x.2)

@[simp] theorem multipleWriteBack_mem (w unknown : Bool) (rn : RegNum) (v : Word) (s : State) :
    (multipleWriteBack w unknown rn v s).mem = s.mem :=
  State.mem_ite (State.mem_ite (State.setReg_mem ..) (State.setReg_mem ..)) rfl

theorem State.foldl_mem {α : Type} {f : State → α → State} (hf : ∀ s a, (f s a).mem = s.mem) :
    ∀ (l : List α) (s : State), (l.foldl f s).mem = s.mem
  | [], _ => rfl
  | a :: t, s => (State.foldl_mem hf t (f s a)).trans (hf s a)

theorem scrambleList_mem (b : Bank) (rn : RegNum) (list : BitVec 16) (s : State) : (scrambleList b rn list s).mem = s.mem := by
  unfold scrambleList
  refine State.foldl_mem (fun t i => ?_) _ s
  exact State.mem_ite rfl (State.setBankReg_mem ..)

theorem keepsMem_loadList (m : AccessMode) : ∀ (l : List (RegNum × Word)) (s : State), (loadList m l s).KeepsMem s
  | [], s => KeepsMem.refl s
  | _ :: t, s => (memoryOnly_readAt _ _ _ s).keepsMem.bind fun _ u hu =>
      ((keepsMem_loadList m t u).after hu).bind fun _ _ h => h

theorem keepsMem_storeList (m : AccessMode) (value : RegNum → Word) :
    ∀ (l : List (RegNum × Word)) (s : State), (storeList m value l s).KeepsMem s
  | [], s => KeepsMem.refl s
  | _ :: t, s => (memoryOnly_writeAt _ _ _ _ s).keepsMem.bind fun _ u hu => (keepsMem_storeList m value t u).after hu

/-- A store of several accesses that aborts keeps memory, whether its earlier accesses stay made or not. -/
theorem keepsMem_partialStore {s : State} {r : Res Unit} (h : r.KeepsMem s) : (partialStore s r).KeepsMem s := by
  cases r with
  | ok a t => exact h
  | exc x t => exact Machine.KeepsMem.ite (Machine.KeepsMem.same h rfl) (.of_eq rfl)
  | fault e => trivial
  | refused e => trivial

theorem keepsMem_onAbort {s : State} {f : State → State} (hf : ∀ t, (f t).mem = t.mem) {r : Res Unit} (h : r.KeepsMem s) :
    (onAbort f r).KeepsMem s := by
  cases r with
  | ok a t => exact h
  | exc x t => exact Machine.KeepsMem.same h (hf t)
  | fault e => trivial
  | refused e => trivial

theorem keepsMem_loadMultiple (p u sb w : Bool) (rn : RegNum) (list : BitVec 16) (s : State) :
    (loadMultiple p u sb w rn list s).KeepsMem s := by
  refine .ite trivial (.ite trivial ?_)
  refine keepsMem_onAbort (scrambleList_mem _ rn list) ?_
  refine (memoryOnly_alignAccess _ _ _ s).keepsMem.bind fun a t ht => ?_
  refine ((keepsMem_loadList _ _ _).after (ht.same (transferOrder_mem ..))).bind fun l t ht => ?_
  have loaded := ht.same ((multipleWriteBack_mem w (bitAt list rn.toNat) rn (multipleBase u (s.reg rn) (listCount list)) _).trans
    (writeList_mem (if sb && !bitAt list 15 then .usr else s.bank) l t))
  dsimp only
  split
  · exact loaded.same (by simp)
  · exact .ite (keepsMem_returnFromSpsr loaded _) (keepsMem_loadWritePc loaded _)

theorem keepsMem_storeMultiple (p u sb w : Bool) (rn : RegNum) (list : BitVec 16) (s : State) :
    (storeMultiple p u sb w rn list s).KeepsMem s := by
  refine .ite trivial ?_
  have drawn : KeepsMem s (if storesOpen w rn list then s.drawWord.2.drawWord.2 else s) := .of_eq (State.mem_ite rfl rfl)
  refine ((memoryOnly_alignAccess _ _ _ _).keepsMem.after drawn).bind fun a t ht => ?_
  refine ((keepsMem_partialStore (keepsMem_storeList _ _ _ _)).after (ht.same (transferOrder_mem ..))).bind fun _ _ h => ?_
  exact h.same (by simp)

/-! ## Exclusive accesses and swaps -/

@[simp] theorem writeExclusive_mem (rd : RegNum) (l : List Word) (s : State) : (writeExclusive rd l s).mem = s.mem := by
  unfold writeExclusive
  split <;> simp

theorem keepsMem_exclusiveLoad (ty : AccessType) (n : Nat) (rn rd : RegNum) (s : State) :
    (exclusiveLoad ty n rn rd s).KeepsMem s :=
  .ite trivial <| (memoryOnly_loadExclusive _ _ _ s).keepsMem.bind fun _ _ h => h.same (by simp)

theorem keepsMem_exclusiveStore (ty : AccessType) (n : Nat) (rn rd rm : RegNum) (s : State) :
    (exclusiveStore ty n rn rd rm s).KeepsMem s :=
  .ite trivial <| ((memoryOnly_storeExclusive ..).keepsMem.after (.drawn s _)).bind fun _ _ h => h.same (by simp)

theorem keepsMem_swap (lty sty : AccessType) (n : Nat) (rn rd rm : RegNum) (s : State) :
    (swap lty sty n rn rd rm s).KeepsMem s :=
  .ite trivial <| ((memoryOnly_loadValue ..).keepsMem.after (.drawn s _)).bind fun _ t ht =>
    ((memoryOnly_storeValue _ _ _ _ _ t).keepsMem.after ht).bind fun _ _ h => h.same (by simp)

/-! ## VFP -/

theorem keepsMem_raiseBounce {s t : State} (h : KeepsMem s t) : (raiseBounce t).KeepsMem s := h.same rfl

@[simp] theorem cpacrInForce_mem (s : State) : (cpacrInForce s).2.mem = s.mem := by
  unfold cpacrInForce
  split <;> rfl

theorem keepsMem_vfpCheck (sys : Option (BitVec 4)) (s : State) : (vfpCheck sys s).KeepsMem s := by
  have c : KeepsMem s (cpacrInForce s).2 := .of_eq (by simp)
  refine .ite (KeepsMem.refl s) ?_
  dsimp only
  split
  · trivial
  · exact c
  · exact .ite c <| .ite c <| .ite (.ite (keepsMem_raiseBounce c) <| .ite (keepsMem_raiseBounce (c.same rfl)) (c.same rfl)) c

theorem keepsMem_vfpRun {cond : Cond} {sys : Option (BitVec 4)} {s : State} {m : State → Res Unit}
    (h : ∀ t, KeepsMem s t → (m t).KeepsMem s) : Answer.KeepsMem s (vfpRun cond sys s m) :=
  keepsMem_whenPasses ((keepsMem_vfpCheck sys s).bind fun _ t ht => h t ht)

theorem keepsMem_moveFromVfp {s t : State} (h : KeepsMem s t) (rd : RegNum) (v : Word) : (moveFromVfp rd v t).KeepsMem s :=
  .ite (keepsMem_moveToCore (t := t.drawBool.2.noteStatus _) (h.same rfl) 15 _) (h.same (by simp))

theorem keepsMem_moveTwoToCore {s t : State} (h : KeepsMem s t) (rd rn : RegNum) (low high : Word) :
    (moveTwoToCore rd rn low high t).KeepsMem s :=
  .ite (.ite (h.same (returnWritePc_mem ..)) (h.same (t := t) (by simp))) <|
    .ite (keepsMem_aluWritePc (h.same (t.setReg_mem ..)) _) <| .ite (keepsMem_aluWritePc (h.same (t.setReg_mem ..)) _)
      (h.same (by simp))

@[simp] theorem writeSregs_mem : ∀ (l : List (BitVec 5 × Word)) (s : State), (writeSregs l s).mem = s.mem
  | [], _ => rfl
  | x :: l, s => writeSregs_mem l (s.setSreg x.1 x.2)

theorem scrambleSregs_mem : ∀ (l : List (BitVec 5)) (s : State), (scrambleSregs l s).mem = s.mem
  | [], _ => rfl
  | n :: l, s => scrambleSregs_mem l (s.drawWord.2.setSreg n _)

theorem keepsMem_vfpLoad {s t : State} (h : KeepsMem s t) (double : Bool) (first : BitVec 5) (n : Nat) (rn : RegNum)
    (x : Addressed) : (vfpLoad double first n rn x t).KeepsMem s := by
  refine .ite trivial (.ite trivial ?_)
  have m := (memoryOnly_loadMany (plainMode t false) .multi x.address n t).keepsMem.after h
  dsimp only
  split
  · next e => rw [e] at m; exact Machine.KeepsMem.same m (by simp)
  · next e => rw [e] at m; exact Machine.KeepsMem.same m (State.mem_ite rfl (scrambleSregs_mem ..))
  · trivial
  · trivial

theorem keepsMem_vfpStore {s t : State} (h : KeepsMem s t) (double : Bool) (first : BitVec 5) (n : Nat) (rn : RegNum)
    (x : Addressed) : (vfpStore double first n rn x t).KeepsMem s :=
  .ite trivial <| .ite trivial <| ((memoryOnly_storeMany _ _ _ _ t).keepsMem.after h).bind fun _ _ k => k.same (by simp)

theorem vfpSystemWrite_mem {s t : State} {r : BitVec 4} {v : Word} (h : vfpSystemWrite s r v = some t) : t.mem = s.mem := by
  unfold vfpSystemWrite at h
  split_ifs at h
  all_goals cases h
  all_goals rfl

theorem keepsMem_fmxr (cond : Cond) (reg : BitVec 4) (rd : RegNum) (s : State) : Answer.KeepsMem s (execFmxr cond reg rd s) := by
  refine keepsMem_vfpRun fun t h => ?_
  split
  · next e => exact h.same (by simp [vfpSystemWrite_mem e])
  · trivial

theorem keepsMem_fmrx (cond : Cond) (reg : BitVec 4) (rd : RegNum) (s : State) : Answer.KeepsMem s (execFmrx cond reg rd s) := by
  refine keepsMem_vfpRun fun t h => ?_
  split
  · exact keepsMem_moveToCore h rd _
  · trivial

theorem vfpSet_mem (double : Bool) (n : Nat) (v : BitVec 64) (s : State) : (vfpSet double n v s).mem = s.mem :=
  State.mem_ite rfl rfl

theorem vfpOperate_mem (double : Bool) (f : BitVec 64 → BitVec 64 → BitVec 64 → Option VfpResult) :
    ∀ (l : List VfpTriple) {s t : State}, vfpOperate double f l s = some t → t.mem = s.mem
  | [], _, _, e => by cases e; rfl
  | x :: l, s, _, e => by
    unfold vfpOperate at e
    split at e
    · cases e
    · exact (vfpOperate_mem double f l e).trans (vfpSet_mem double x.d _ s)

theorem vfpConvert_mem {op : VfpArith} {toZero double dd dm : Bool} {d m : Nat} {s t : State}
    (e : vfpConvert op toZero double dd dm d m s = some t) : t.mem = s.mem := by
  obtain ⟨r, -, rfl⟩ := Option.map_eq_some_iff.1 e
  exact vfpSet_mem dd d r.value s

theorem vfpCompare_mem {nanInvalid zero double : Bool} {d m : Nat} {s t : State}
    (e : vfpCompare nanInvalid zero double d m s = some t) : t.mem = s.mem := by
  obtain ⟨r, -, rfl⟩ := Option.map_eq_some_iff.1 e
  rfl

theorem vfpCompute_mem {opc1 fn fd : BitVec 4} {cp1 : Bool} {opc2 : BitVec 3} {fm : BitVec 4} {s t : State}
    (e : vfpCompute opc1 fn fd cp1 opc2 fm s = some t) : t.mem = s.mem := by
  unfold vfpCompute at e
  dsimp only at e
  split at e
  · cases e
  · split at e
    · exact vfpOperate_mem _ _ _ e
    · split at e
      · exact vfpOperate_mem _ _ _ e
      · exact vfpOperate_mem _ _ _ e
      · exact vfpOperate_mem _ _ _ e
      · exact vfpOperate_mem _ _ _ e
      · exact vfpCompare_mem e
      all_goals exact vfpConvert_mem e

theorem keepsMem_vfpData (cond : Cond) (opc1 fn fd : BitVec 4) (cp1 : Bool) (opc2 : BitVec 3) (fm : BitVec 4) (s : State) :
    Answer.KeepsMem s (execVfpData cond opc1 fn fd cp1 opc2 fm s) := by
  refine keepsMem_vfpRun fun t h => .ite trivial ?_
  split
  · next e => exact h.same (by simp [vfpCompute_mem e])
  · exact .ite (keepsMem_raiseBounce (h.same rfl)) (h.same (t := t) (by simp))

end Sys2Proof.Machine
end

section
/-! SUPPORT. Canonical memory through every instruction. -/
namespace Sys2Proof.Machine

theorem keepsMem_mrcDscrFlags (cond : Cond) (s : State) : Answer.KeepsMem s (execMrcDscrFlags cond s) :=
  keepsMem_cp14Run (.of_eq (by simp))

theorem keepsMem_blxImm (h : Bool) (imm : BitVec 24) (s : State) : Answer.KeepsMem s (execBlxImm h imm s) :=
  keepsMem_finish (.of_eq (by simp))

theorem keepsMem_cps (s : State) (v : Word) : Res.KeepsMem s (.ok () (if s.privileged then s.writeCpsr v else s).advance) :=
  .of_eq ((State.advance_mem _).trans (State.mem_ite (s.writeCpsr_mem v) rfl))

theorem keepsMem_setEndian (s : State) (e : Bool) : Answer.KeepsMem s (execSetend e s) := keepsMem_finish (.of_eq (by simp))

theorem selectLockRead_mem (v : Word) (s : State) : (selectLockRead v s).mem = s.mem := by
  unfold selectLockRead withWord
  rfl

/-- Every instruction keeps memory in its canonical form. The cases stand by the operation that the instructions share. -/
theorem keepsMem_exec (i : Instr) (s : State) : Answer.KeepsMem s (exec i s) := by
  cases i
  all_goals dsimp only [exec]
  case mrcMainId | mrcCacheType | mrcTlbType | mrcCpuId | mrcIdPfr0 | mrcIdPfr1 | mrcIdDfr0 | mrcIdReserved13 |
      mrcIdMmfr0 | mrcIdMmfr1 | mrcIdMmfr2 | mrcIdMmfr3 | mrcIdIsar0 | mrcIdIsar1 | mrcIdIsar2 | mrcIdIsar3 |
      mrcIdIsar4 | mrcIdReserved25 | mrcIdReserved26 | mrcIdReserved27 | mrcC0Unlisted2 | mrcC0Unlisted4 |
      mrcC0Unlisted6 | mrcC0Unlisted7 | mrcControl | mrcAuxControl | mrcCpacr | mrcTtbr0 | mrcTtbr1 | mrcTtbcr |
      mrcDacr | mrcDfsr | mrcIfsr | mrcFar | mrcWfar | mrcPa | mrcDCacheLockdown | mrcTlbLockdown | mrcPrrr |
      mrcFcsePid | mrcContextId | mrcThreadIdPrw | mrcTlbDebugControl =>
    exact keepsMem_cp15Read ..
  case mcrC0 | cp15Unlisted =>
    exact keepsMem_whenPasses (.ite trivial (KeepsMem.refl s))
  case cdpP15 | ldcStcP15 | cp14Other =>
    exact keepsMem_whenPasses (KeepsMem.refl s)
  case mcrControl =>
    exact keepsMem_cp15WriteReg fun _ => noteRemap_mem ..
  case mcrPrrr =>
    exact keepsMem_cp15WriteReg fun _ => noteRemap_mem ..
  case mcrNmrr =>
    exact keepsMem_cp15WriteReg fun _ => noteRemap_mem ..
  case mcrCpacr =>
    exact keepsMem_cp15WriteReg fun v => cpacrWrite_mem v s
  case mrcNmrr =>
    exact keepsMem_cp15ReadWith (nmrrRead_mem s)
  case mrcPmnc =>
    exact keepsMem_cp15ReadWith (pmuAdvance_mem s)
  case mrcCcnt | mrcPmn0 | mrcPmn1 =>
    exact keepsMem_cp15ReadWith (pmuAdvance_mem s)
  case mcrPmnc | mcrCcnt | mcrPmn0 | mcrPmn1 =>
    exact keepsMem_cp15WriteReg fun _ => (State.setCp15_mem ..).trans (pmuAdvance_mem s)
  case mcrWaitForInterrupt =>
    exact keepsMem_cp15Write fun _ => keepsMem_waitForInterrupt s
  case mcrInvalidateDCache =>
    exact keepsMem_cp15Write fun _ => keepsMem_everyDataLine memoryOnly_invalidateLine s
  case mcrInvalidateBothCaches =>
    exact keepsMem_cp15Write fun _ => (KeepsMem.of_eq (t := invalidateIcache s) rfl).trans
      (keepsMem_everyDataLine memoryOnly_invalidateLine _)
  case mcrCleanDCache =>
    exact keepsMem_cp15Write fun _ => keepsMem_everyDataLine memoryOnly_cleanLine s
  case mcrCleanInvDCache =>
    exact keepsMem_cp15Write fun _ => keepsMem_everyDataLine memoryOnly_evictLine s
  case mcrInvalidateDCacheIndex =>
    exact keepsMem_cp15Write fun v => keepsMem_dataLineAt memoryOnly_invalidateLine v s
  case mcrCleanDCacheIndex =>
    exact keepsMem_cp15Write fun v => keepsMem_dataLineAt memoryOnly_cleanLine v s
  case mcrCleanInvDCacheIndex =>
    exact keepsMem_cp15Write fun v => keepsMem_dataLineAt memoryOnly_evictLine v s
  case mcrInvalidateDCacheMva =>
    exact keepsMem_cp15Op (keepsMem_dataLineByMva memoryOnly_invalidateLine _ s)
  case mcrCleanDCacheMva =>
    exact keepsMem_cp15Op (keepsMem_dataLineByMva memoryOnly_cleanLine _ s)
  case mcrCleanInvDCacheMva =>
    exact keepsMem_cp15Op (keepsMem_dataLineByMva memoryOnly_evictLine _ s)
  case mcrInvalidateICacheMva =>
    exact keepsMem_cp15Op (keepsMem_instrLineByMva _ s)
  case mcrVaToPaPrivRead | mcrVaToPaPrivWrite | mcrVaToPaUserRead | mcrVaToPaUserWrite =>
    exact keepsMem_cp15Op (keepsMem_vaToPa _ _ _ s)
  case mcrTlbLockIndexRead =>
    exact keepsMem_cp15WriteReg fun v => selectLockRead_mem v s
  case mcrInvalidateITlb | mcrInvalidateDTlb | mcrInvalidateUTlb | mcrAuxControl | mcrTtbr0 |
      mcrTtbr1 | mcrTtbcr | mcrDacr | mcrDfsr | mcrIfsr | mcrFar | mcrWfar | mcrInvalidateICache |
      mcrInvalidateICacheIndex | mcrFlushBtac | mcrFlushBtacEntry | mcrInvalidateITlbEntry | mcrInvalidateITlbAsid |
      mcrInvalidateITlbMva | mcrInvalidateDTlbEntry | mcrInvalidateDTlbAsid | mcrInvalidateDTlbMva |
      mcrInvalidateUTlbEntry | mcrInvalidateUTlbAsid | mcrInvalidateUTlbMva | mcrDCacheLockdown | mcrTlbLockdown |
      mcrFcsePid | mcrThreadIdUro | mcrThreadIdPrw | mcrTlbLockIndexWrite =>
    exact keepsMem_cp15WriteReg fun _ => rfl
  case mcrFlushPrefetchBuffer =>
    exact keepsMem_cp15RunUser (.of_eq (by simp))
  case mcrDsb =>
    exact keepsMem_cp15RunUser ((keepsMem_dsb s).same (State.advance_mem _))
  case mcrDmb =>
    exact keepsMem_cp15RunUser ((memoryOnly_dmb s).keepsMem.same (State.advance_mem _))
  case mrcThreadIdUrw | mrcThreadIdUro =>
    exact keepsMem_cp15RunUser (.of_eq (by simp))
  case mcrThreadIdUrw =>
    exact keepsMem_cp15RunUser (.of_eq (by simp))
  case mcrContextId =>
    exact keepsMem_cp15Run (.ite (.of_eq (by simp)) trivial)
  case mcrTlbDebugControl =>
    exact keepsMem_cp15Run (.ite trivial (.of_eq (by simp)))
  case mrcTlbLockVa | mrcTlbLockPa | mrcTlbLockAttr =>
    exact keepsMem_cp15Run (keepsMem_lockRead _ _ _ s)
  case mcrTlbLockVa =>
    exact keepsMem_cp15Run (keepsMem_lockWriteVa _ s)
  case mcrTlbLockAttr =>
    exact keepsMem_cp15Run (keepsMem_lockWriteAttr _ s)
  case mcrTlbLockPa =>
    exact keepsMem_cp15Run (keepsMem_lockWritePa _ s)
  case mrcDidr | mrcDscr | mrcVcr | mrcBvr0 | mrcBvr1 | mrcBvr2 | mrcBvr3 | mrcBvr4 | mrcBvr5 | mrcBcr0 | mrcBcr1 |
      mrcBcr2 | mrcBcr3 | mrcBcr4 | mrcBcr5 | mrcWvr0 | mrcWvr1 | mrcWcr0 | mrcWcr1 =>
    exact keepsMem_cp14Read ..
  case mrcDtr =>
    exact keepsMem_cp14Transfer (.of_eq (by simp [rdtrRead]))
  case mcrDscr | mcrDtr | mcrVcr | mcrBvr0 | mcrBvr1 | mcrBvr2 | mcrBvr3 | mcrBvr4 | mcrBvr5 | mcrBcr0 | mcrBcr1 |
      mcrBcr2 | mcrBcr3 | mcrBcr4 | mcrBcr5 | mcrWvr0 | mcrWvr1 | mcrWcr0 | mcrWcr1 =>
    exact keepsMem_cp14Write fun _ => rfl
  case mrcDscrFlags =>
    exact keepsMem_mrcDscrFlags ..
  case ldcDtr =>
    exact keepsMem_ldcDtr ..
  case stcDtr =>
    exact keepsMem_stcDtr ..
  case nop | yield | wfe | sev =>
    exact keepsMem_whenPasses (.of_eq (State.advance_mem _))
  case wfi =>
    exact keepsMem_whenPasses ((KeepsMem.ite (keepsMem_waitForInterrupt s) (.refl s)).same (State.advance_mem _))
  case setend | setendThumb =>
    exact keepsMem_setEndian ..
  case mrs =>
    exact keepsMem_mrs ..
  case msrReg | msrImm =>
    exact keepsMem_whenPasses (keepsMem_moveToStatus _ _ _ s)
  case srs =>
    exact keepsMem_srs ..
  case rfe =>
    exact keepsMem_rfe ..
  case cps | cpsThumb =>
    exact keepsMem_finish (keepsMem_cps s _)
  case ldrex | ldrexd | ldrexb | ldrexh =>
    exact keepsMem_whenPasses (keepsMem_exclusiveLoad _ _ _ _ s)
  case strex | strexd | strexb | strexh =>
    exact keepsMem_whenPasses (keepsMem_exclusiveStore _ _ _ _ _ s)
  case clrex =>
    exact keepsMem_finish (.of_eq (State.advance_mem _))
  case swp =>
    exact keepsMem_whenPasses (.ite (keepsMem_swap ..) (keepsMem_swap ..))
  case swpb =>
    exact keepsMem_whenPasses (keepsMem_swap ..)
  case swi =>
    exact keepsMem_whenPasses (KeepsMem.refl s)
  case swiThumb | bkpt | bkptThumb =>
    exact keepsMem_finish (KeepsMem.refl s)
  case andImm | andShiftImm | eorImm | eorShiftImm | orrImm | orrShiftImm | movImm | movShiftImm | bicImm |
      bicShiftImm | mvnImm | mvnShiftImm =>
    exact keepsMem_whenPasses (keepsMem_writeLogic ..)
  case andShiftReg | eorShiftReg | orrShiftReg | movShiftReg | bicShiftReg | mvnShiftReg =>
    exact keepsMem_whenPasses (.ite trivial (keepsMem_writeLogic ..))
  case subImm | subShiftImm | rsbImm | rsbShiftImm | addImm | addShiftImm | adcImm | adcShiftImm | sbcImm |
      sbcShiftImm | rscImm | rscShiftImm =>
    exact keepsMem_whenPasses (keepsMem_writeArith ..)
  case subShiftReg | rsbShiftReg | addShiftReg | adcShiftReg | sbcShiftReg | rscShiftReg =>
    exact keepsMem_whenPasses (.ite trivial (keepsMem_writeArith ..))
  case tstImm | tstShiftImm | teqImm | teqShiftImm =>
    exact keepsMem_whenPasses (keepsMem_testLogic s _ _)
  case tstShiftReg | teqShiftReg =>
    exact keepsMem_whenPasses (.ite trivial (keepsMem_testLogic s _ _))
  case cmpImm | cmpShiftImm | cmnImm | cmnShiftImm =>
    exact keepsMem_whenPasses (keepsMem_testArith s _)
  case cmpShiftReg | cmnShiftReg =>
    exact keepsMem_whenPasses (.ite trivial (keepsMem_testArith s _))
  case b =>
    exact keepsMem_whenBranches (.of_eq (State.writePc_mem ..))
  case bl =>
    exact keepsMem_whenBranches (.of_eq (by simp))
  case bx | bxj =>
    exact keepsMem_whenBranches (.ite trivial (keepsMem_bxWritePc (.refl s) _))
  case blxReg =>
    exact keepsMem_whenBranches (.ite trivial (keepsMem_bxWritePc (.of_eq s.setLink_mem) _))
  case blxImm =>
    exact keepsMem_blxImm ..
  case ldrImm | ldrReg =>
    exact keepsMem_whenPasses (keepsMem_loadWord ..)
  case ldrbImm | ldrbReg =>
    exact keepsMem_whenPasses (keepsMem_loadPart ..)
  case strImm | strReg | strbImm | strbReg =>
    exact keepsMem_whenPasses (keepsMem_storeSingle ..)
  case ldrhImm | ldrhReg | ldrsbImm | ldrsbReg | ldrshImm | ldrshReg =>
    exact keepsMem_whenPasses (.ite trivial (keepsMem_loadPart ..))
  case strhImm | strhReg =>
    exact keepsMem_whenPasses (.ite trivial (keepsMem_storeSingle ..))
  case ldrdImm | ldrdReg =>
    exact keepsMem_whenPasses (.ite trivial (keepsMem_loadDouble ..))
  case strdImm | strdReg =>
    exact keepsMem_whenPasses (.ite trivial (keepsMem_storeDouble ..))
  case ldm =>
    exact keepsMem_whenPasses (keepsMem_loadMultiple ..)
  case stm =>
    exact keepsMem_whenPasses (keepsMem_storeMultiple ..)
  case mul | mla =>
    exact keepsMem_multiply ..
  case clz =>
    exact keepsMem_whenPasses (.ite trivial (.of_eq (by simp)))
  case fmsr | fmdlr | fmdhr =>
    exact keepsMem_vfpRun fun _ h => h.same (by simp)
  case fmrs | fmrdl | fmrdh =>
    exact keepsMem_vfpRun fun _ h => keepsMem_moveFromVfp h _ _
  case fmxr =>
    exact keepsMem_fmxr ..
  case fmrx =>
    exact keepsMem_fmrx ..
  case fmstat =>
    exact keepsMem_vfpRun fun _ h => keepsMem_moveToCore h _ _
  case fmdrr =>
    exact keepsMem_vfpRun fun _ h => h.same (by simp)
  case fmrrd =>
    exact keepsMem_vfpRun fun _ h => keepsMem_moveTwoToCore h _ _ _ _
  case fmsrr =>
    exact keepsMem_vfpRun fun _ h => .ite trivial (h.same (by simp))
  case fmrrs =>
    exact keepsMem_vfpRun fun _ h => .ite trivial (keepsMem_moveTwoToCore h _ _ _ _)
  case flds | fldd =>
    exact keepsMem_vfpRun fun _ h => keepsMem_vfpLoad h _ _ _ _ _
  case fsts | fstd =>
    exact keepsMem_vfpRun fun _ h => keepsMem_vfpStore h _ _ _ _ _
  case fldm =>
    exact keepsMem_vfpRun fun _ h => .ite trivial (keepsMem_vfpLoad h _ _ _ _ _)
  case fstm =>
    exact keepsMem_vfpRun fun _ h => .ite trivial (keepsMem_vfpStore h _ _ _ _ _)
  case vfpData =>
    exact keepsMem_vfpData ..
  case dbgtapRestart | dbgtapExtest | dbgtapScanN | dbgtapHalt | dbgtapIntest | dbgtapItrsel | dbgtapIdcode | dbgtapBypass =>
    exact Answer.keepsMem_next (.of_eq rfl)

end Sys2Proof.Machine
end

section
/-! SUPPORT. Canonical memory through resets, the power modes and the access port. -/
namespace Sys2Proof.Machine

/-! ## Resets -/

theorem scrambleCore_mem (s : State) : (scrambleCore s).mem = s.mem := by
  unfold scrambleCore
  rfl

theorem resetCp15_mem (s : State) : (resetCp15 s).mem = s.mem := by
  unfold resetCp15
  rfl

theorem resetVfp_mem (s : State) : (resetVfp s).mem = s.mem := by
  unfold resetVfp
  rfl

theorem resetCp14_mem (s : State) : (resetCp14 s).mem = s.mem := by
  unfold resetCp14
  rfl

theorem freeTlb_mem (s : State) : (freeTlb s).mem = s.mem := by
  unfold freeTlb
  rfl

theorem freeCaches_mem (s : State) : (freeCaches s).mem = s.mem := by
  unfold freeCaches
  rfl

theorem freePredictor_mem (s : State) : (freePredictor s).mem = s.mem := by
  unfold freePredictor
  rfl

theorem coldRegisters_keepsMem (s : State) : KeepsMem s (coldRegisters s) :=
  (memoryOnly_drainAll s).keepsMem.same ((resetVfp_mem _).trans <| (resetCp15_mem _).trans (scrambleCore_mem _))

theorem resetCpu_mem (s : State) : (resetCpu s).mem = (coldRegisters s).mem := by
  unfold resetCpu coldRegisters
  generalize resetVfp (resetCp15 (scrambleCore (drainAll s))) = t
  rfl

theorem resetCpu_keepsMem (s : State) : KeepsMem s (resetCpu s) := (coldRegisters_keepsMem s).same (resetCpu_mem s)

theorem KeepsMem.whenever {s t : State} {c : Bool} {f : State → State} (h : KeepsMem s t) (hf : KeepsMem t (f t)) :
    KeepsMem s (if c then f t else t) := .ite (h.trans hf) h

theorem applyReset_keepsMem {trst scu : Bool} {por wd cpu : BitVec 4} {s t : State}
    (h : applyReset trst scu por wd cpu s = .ok t) : KeepsMem s t := by
  have tap : KeepsMem s (if trst then tapReset s else s) := (KeepsMem.refl s).whenever (.of_eq rfl)
  unfold applyReset at h
  dsimp only at h
  generalize (if trst then tapReset s else s) = u at h tap
  split at h
  · split at h
    · obtain rfl := Except.ok.inj h
      refine KeepsMem.same (KeepsMem.whenever (f := freePredictor ∘ freeCaches ∘ freeTlb) ?_ ?_) (State.setDev_mem ..)
      · exact (((tap.whenever (.of_eq (State.setDev_mem ..))).whenever (.of_eq (resetCp14_mem _))).same
          (State.setDev_mem ..)).whenever (resetCpu_keepsMem _)
      · exact .of_eq ((freePredictor_mem _).trans <| (freeCaches_mem _).trans (freeTlb_mem _))
    · cases h
  · cases h
    exact tap

/-! ## Power -/

theorem freeCore_mem (s : State) : (freeCore s).mem = s.mem := by
  simp [freeCore, withWord, scrambleCore_mem]

theorem freeCp15_mem (s : State) : (freeCp15 s).mem = s.mem := by
  unfold freeCp15
  rfl

theorem freeVfp_mem (s : State) : (freeVfp s).mem = s.mem := by
  unfold freeVfp
  rfl

theorem freeCp14_mem (s : State) : (freeCp14 s).mem = s.mem := by
  unfold freeCp14
  exact State.mem_ite rfl rfl

theorem losePower_mem (p : Power) (s : State) : (losePower p s).mem = s.mem := by
  unfold losePower
  exact (freePredictor_mem _).trans <| (freeTlb_mem _).trans <| (freeCp14_mem _).trans <| (freeVfp_mem _).trans <|
    (freeCp15_mem _).trans (freeCore_mem s)

theorem powerDown_mem (p : Power) (s : State) : (powerDown p s).mem = s.mem := by
  unfold powerDown
  refine State.mem_ite ?_ rfl
  cases p with
  | run => rfl
  | dormant => exact State.mem_ite (losePower_mem _ s) rfl
  | off => exact State.mem_ite ((freeCaches_mem _).trans (losePower_mem _ s)) rfl

/-! ## The access port -/

theorem captureDr_mem (s : State) : (captureDr s).mem = s.mem := by
  unfold captureDr
  dsimp only
  split
  · rfl
  · rfl
  · rfl
  · refine State.mem_ite rfl <| State.mem_ite (State.mem_ite ?_ ?_) <| State.mem_ite ?_ <|
      State.mem_ite (State.mem_ite ?_ ?_) <| State.mem_ite ?_ ?_
    all_goals rfl

theorem updateDr_mem {s t : State} (h : updateDr s = .ok t) : t.mem = s.mem := by
  unfold updateDr dscrDebuggerWrite at h
  dsimp only at h
  split at h
  · cases h; rfl
  · split_ifs at h
    all_goals cases h
    all_goals rfl
  · cases h; rfl

theorem leaveDebugState_mem (s : State) : (leaveDebugState s).mem = s.mem :=
  State.mem_ite (s := s.drawWord.2.setDscr (setBit (setBit s.dbg.dscr 0 false) 1 true)) rfl (State.setPc_mem ..)

theorem enterIdle_mem (s : State) : (enterIdle s).mem = s.mem := by
  unfold enterIdle
  exact State.mem_ite rfl <| State.mem_ite (State.mem_ite (leaveDebugState_mem s) rfl) <| State.mem_ite rfl rfl

theorem tapClock_mem {tms tdi : Bool} {s t : State} (h : tapClock tms tdi s = .ok t) : t.mem = s.mem := by
  unfold tapClock at h
  dsimp only at h
  split at h
  · cases h; rfl
  · cases h; exact captureDr_mem _
  · exact (updateDr_mem h).trans (s.setTap_mem _)
  · cases h; rfl
  · cases h; rfl
  · cases h; exact State.mem_ite rfl (enterIdle_mem _)
  · cases h; rfl

theorem chainRead_mem (a : BitVec 7) (s : State) : (chainRead a s).2.mem = s.mem := by
  unfold chainRead
  dsimp only
  split_ifs
  all_goals rfl

theorem chainWrite_mem (a : BitVec 7) (v : Word) (s : State) : (chainWrite a v s).mem = s.mem := by
  unfold chainWrite
  dsimp only
  split_ifs
  all_goals rfl

theorem completeRequest_mem (s : State) : (completeRequest s).mem = s.mem := by
  unfold completeRequest
  exact State.mem_ite rfl <| State.mem_ite (chainWrite_mem _ _ s) (chainRead_mem _ s)

end Sys2Proof.Machine
end

section
/-! Memory keeps its canonical form (O7). -/
namespace Sys2Proof.Machine

/-! ## The environment -/

theorem whenPowered_keepsMem {f : State → State} {s : State} (h : KeepsMem s (f s)) : KeepsMem s (whenPowered f s) :=
  .ite h (.refl s)

theorem prefetchAt_keepsMem (va : Word) (thumb priv : Bool) (s : State) : KeepsMem s (prefetchAt va thumb priv s) := by
  have m := (memoryOnly_fetchInWindow va thumb priv s).keepsMem
  unfold prefetchAt
  refine .ite ?_ (.refl s)
  split
  · next e => rw [e] at m; exact m.same rfl
  · exact .refl s

theorem foreignWrite_keepsMem (pa : Word) (bytes : List Byte) (s : State) : KeepsMem s (foreignWrite pa bytes s) :=
  .ite (.refl s) <| .ite (memoryOnly_otherCpuWrite pa bytes s).keepsMem (memoryOnly_otherCpuPlainWrite pa bytes s).keepsMem

theorem foreignRegionRead_keepsMem (n : CpuId) (off size : Nat) (s : State) : KeepsMem s (foreignRegionRead n off size s) := by
  unfold foreignRegionRead
  split
  · exact .refl s
  · split
    · next e => exact (memoryOnly_regionRead e).keepsMem
    · exact .refl s

theorem foreignRegionWrite_keepsMem (n : CpuId) (off : Nat) (bytes : List Byte) (s : State) :
    KeepsMem s (foreignRegionWrite n off bytes s) := by
  unfold foreignRegionWrite
  split
  · exact .refl s
  · cases e : regionWrite n off bytes s with
    | none => exact .refl s
    | some t => exact (memoryOnly_regionWrite e).keepsMem

/-- An event that leaves memory alone while the power is on. -/
theorem whenPowered_keepsMem_of_eq {f : State → State} {s : State} (h : (f s).mem = s.mem) : KeepsMem s (whenPowered f s) :=
  whenPowered_keepsMem (.of_eq h)

theorem applyEvent_keepsMem {e : EnvEvent} {s t : State} (h : applyEvent e s = .ok t) : KeepsMem s t := by
  cases e with
  | tck tms tdi =>
    unfold applyEvent at h
    dsimp only at h
    split at h
    · exact .of_eq (tapClock_mem h)
    · cases h; exact .refl s
  | reset trst scu por wd cpu => exact applyReset_keepsMem h
  | drainStore k => cases h; exact (memoryOnly_drainStore k s).keepsMem
  | busResponse => cases h; exact (memoryOnly_busResponse s).keepsMem
  | evictTlb k => cases h; exact whenPowered_keepsMem_of_eq rfl
  | evictLine k =>
    cases h
    refine whenPowered_keepsMem ?_
    split
    · exact (memoryOnly_evictLine _ s).keepsMem
    · exact .refl s
  | evictInstrLine k => cases h; exact whenPowered_keepsMem_of_eq rfl
  | victims d i => cases h; exact whenPowered_keepsMem_of_eq rfl
  | prefetch va thumb priv => cases h; exact whenPowered_keepsMem (prefetchAt_keepsMem va thumb priv s)
  | predict b t => cases h; exact whenPowered_keepsMem_of_eq (State.mem_ite rfl rfl)
  | irqPin n low => cases h; exact .of_eq (State.setDev_mem ..)
  | fiqPin low => cases h; exact .of_eq rfl
  | sampleIrq => cases h; exact .of_eq rfl
  | sampleFiq => cases h; exact .of_eq rfl
  | intLine id high => cases h; exact .of_eq (State.setDev_mem ..)
  | timerTick n => cases h; exact .of_eq (State.mem_ite rfl (State.setDev_mem ..))
  | watchdogTick n => cases h; exact .of_eq (State.mem_ite rfl (State.setDev_mem ..))
  | pmuCount => cases h; exact whenPowered_keepsMem_of_eq (pmuAdvance_mem s)
  | scuCount => cases h; exact (memoryOnly_scuAdvance s).keepsMem
  | deviceRead n off size => cases h; exact foreignRegionRead_keepsMem _ _ _ s
  | deviceWrite n off size v => cases h; exact foreignRegionWrite_keepsMem _ _ _ s
  | otherSmp b => cases h; exact .of_eq (State.setDev_mem ..)
  | cpuWrite pa bytes => cases h; exact foreignWrite_keepsMem _ _ s
  | busWrite pa bytes => cases h; exact .ite (.refl s) (memoryOnly_setMem s pa bytes).keepsMem
  | snoop pa => cases h; exact .ite (memoryOnly_snoopLine pa s).keepsMem (.refl s)
  | edbgrq high => cases h; exact .of_eq rfl
  | debugRequest => cases h; exact .ite (.of_eq (completeRequest_mem s)) (.refl s)
  | powerDown p => cases h; exact .of_eq (powerDown_mem p s)

theorem applyEvents_keepsMem : ∀ {l : List EnvEvent} {s t : State} {left : List EnvEvent},
    applyEvents l s = .ok (left, t) → KeepsMem s t
  | [], s, _, _, h => by cases h; exact .refl s
  | e :: l, s, t, left, h => by
    unfold applyEvents at h
    split at h
    · cases h; exact .refl s
    · split at h
      · cases h
      · next he => exact (applyEvent_keepsMem he).trans (applyEvents_keepsMem h)

theorem environment_keepsMem {s t : State} (h : environment s = .ok t) : KeepsMem s t := by
  unfold environment at h
  split at h
  · cases h; exact .refl s
  · split at h
    · cases h
    · next e => cases h; exact (applyEvents_keepsMem e).same rfl
    · next e => cases h; exact (applyEvents_keepsMem e).same rfl

/-! ## The step -/

theorem rejected_keepsMem (r : Reject) (s : State) : Answer.KeepsMem s (rejected r s) := by
  have unlisted : ((vfpCheck none s).bind fun _ _ => (.refused .vfpUnlisted : Res Unit)).KeepsMem s :=
    (keepsMem_vfpCheck none s).bind fun _ _ _ => trivial
  unfold rejected
  cases r with
  | absentCoprocessor cond => exact keepsMem_whenPasses (KeepsMem.refl s)
  | vfpUnlisted cond => exact keepsMem_whenPasses unlisted
  | unconditionalCoprocessor cp =>
    dsimp only
    split
    · exact keepsMem_finish unlisted
    · exact keepsMem_finish (KeepsMem.refl s)
  | outsideSubset cond => exact keepsMem_whenPasses trivial
  | preload => exact keepsMem_advance s

theorem runCode_keepsMem (c : Code) (s : State) : Answer.KeepsMem s (runCode c s) := by
  unfold runCode
  split
  · exact keepsMem_exec _ s
  · exact rejected_keepsMem _ s

/-- The debug event on a committed instruction enters debug state or is an abort (46_cp14_debug.md R326). -/
theorem commitEvent_mem {h : DebugHits} {s t : State} (e : commitEvent h s = some t) : t.mem = s.mem := by
  have enter {act : State → BitVec 4 → State} (ha : ∀ s c, (act s c).mem = s.mem) (b v : Bool)
      (e : (match b, v with
        | true, true => some (withBool s fun first s => act s (if first then entryBreakpoint else entryVectorCatch))
        | true, false => some (act s entryBreakpoint)
        | false, true => some (act s entryVectorCatch)
        | false, false => none) = some t) : t.mem = s.mem := by
    cases b <;> cases v <;> cases e
    · exact ha ..
    · exact ha ..
    · exact ha s.drawBool.2 _
  unfold commitEvent at e
  dsimp only at e
  split at e
  · cases e
  · exact enter enterDebugState_mem _ _ e
  · exact enter debugPrefetchAbort_mem _ _ e

theorem watchEvent_mem (wfar : Word) (s : State) : (watchEvent wfar s).mem = s.mem := by
  unfold watchEvent
  dsimp only
  split
  · split
    · exact State.clearWatch_mem s
    · exact enterDebugState_mem ..
    · exact debugDataAbort_mem ..
  · rfl

theorem commit_keepsMem (f : Fetched) (h : DebugHits) (s : State) : Answer.KeepsMem s (commit f h s) := by
  unfold commit
  split
  · exact keepsMem_finish (KeepsMem.refl s)
  · split
    · next e => exact Answer.keepsMem_next (.of_eq (commitEvent_mem e))
    · refine .ite (keepsMem_finish (KeepsMem.refl s)) (.onNext (fun t => .of_eq (watchEvent_mem _ t)) ?_)
      exact (runCode_keepsMem _ s.committed).after (.of_eq rfl)

theorem fetchNext_keepsMem (s : State) : KeepsMem s (fetchNext s).2 := by
  have window := (memoryOnly_fetchInWindow s.pc s.thumb (!s.userAccess) s).keepsMem
  unfold fetchNext
  dsimp only
  split
  · split
    · exact .of_eq rfl
    · exact window
  · exact window

theorem instruction_keepsMem (s : State) : Answer.KeepsMem s (instruction s) := by
  have fetched := (KeepsMem.of_eq s.clearWatch_mem).trans (fetchNext_keepsMem s.clearWatch)
  unfold instruction
  refine .ite (Answer.keepsMem_refused ..) ?_
  split
  · exact Answer.keepsMem_refused ..
  · next e => rw [e] at fetched; exact (commit_keepsMem ..).after fetched

theorem dueException_mem {s t : State} (h : dueException s = some t) : t.mem = s.mem := by
  unfold dueException at h
  split at h
  · cases h; exact s.enter_mem ..
  · split at h
    · cases h; exact s.enter_mem ..
    · split at h
      · split at h
        · cases h
        · cases h; exact takeImpreciseAbort_mem ..
      · cases h

theorem enterOnRequest_mem (s : State) : (enterOnRequest s).mem = s.mem := State.mem_ite rfl (enterDebugState_mem ..)

theorem boundary_keepsMem (s : State) : Answer.KeepsMem s (boundary s) := by
  unfold boundary
  split
  · exact .ite (Answer.keepsMem_next (.of_eq (enterOnRequest_mem s))) (instruction_keepsMem s)
  · next e =>
    refine .ite (Answer.keepsMem_next ?_) (Answer.keepsMem_next (.of_eq (dueException_mem e)))
    refine .of_eq (State.mem_ite (enterOnRequest_mem s.drawBool.2) ?_)
    cases d : dueException s.drawBool.2 with
    | none => rfl
    | some u => exact (dueException_mem d).trans s.drawBool_mem

theorem wakeUp_mem (s : State) : (wakeUp s).mem = s.mem :=
  State.mem_ite rfl <| State.mem_ite (State.mem_ite rfl rfl) rfl

theorem freshDebugPc_mem (wrote : Bool) (s : State) : (freshDebugPc wrote s).mem = s.mem := by
  obtain ⟨touched, pc, n, e⟩ := freshDebugPc_spec wrote s
  rw [e]

theorem afterIssue_mem (wrote : Bool) (s : State) : (afterIssue wrote s).mem = s.mem := freshDebugPc_mem ..

theorem debugStep_keepsMem (s : State) : Answer.KeepsMem s (debugStep s) := by
  unfold debugStep
  split
  · exact .ite (Answer.keepsMem_refused ..) (.onNext (fun _ => .of_eq (afterIssue_mem ..)) (runCode_keepsMem _ s))
  · split
    · exact Answer.keepsMem_next (.of_eq ((freshDebugPc_mem ..).trans (takeImpreciseAbort_mem ..)))
    · exact Answer.keepsMem_next (.refl s)

theorem cpuStep_keepsMem (s : State) : Answer.KeepsMem s (cpuStep s) := by
  have woken : KeepsMem s (if s.standby then wakeUp s else s) := .of_eq (State.mem_ite (wakeUp_mem s) rfl)
  unfold cpuStep
  exact .ite (Answer.keepsMem_next (.refl s)) <| .ite (Answer.keepsMem_fault ..) <| .ite (debugStep_keepsMem s) <|
    .ite (Answer.keepsMem_next woken) ((boundary_keepsMem _).after woken)

/-- Every step keeps memory in its canonical form. -/
theorem step_keepsMem (s : State) : Answer.KeepsMem s (step s) := by
  unfold step cycle
  split
  · exact (runCode_keepsMem _ _).after (.of_eq (s.setTap_mem _))
  · split
    · exact Answer.keepsMem_refused ..
    · next e =>
      exact (Answer.KeepsMem.ite (cpuStep_keepsMem _) (Answer.keepsMem_next (.refl _))).after (environment_keepsMem e)

/-- Settles O7, by what every step keeps (`step_keepsMem`): each operation leaves memory alone or writes it by `Mem.writeBytes`. -/
theorem memoryStaysCanonical : Obligations.MemoryStaysCanonical :=
  fun s t canonical stepped => (step_keepsMem s).next t stepped canonical

end Sys2Proof.Machine
end

section
/-! SUPPORT. The instruction boundary with nothing else due, and fetches with the MMU off. -/
namespace Sys2Proof.Machine

/-! ## The instruction boundary -/

/-- With nothing else due, the step is the instruction at the PC (60_exceptions.md R540). -/
theorem step_of_undisturbed {s : State} (h : s.undisturbed) : step s = instruction s := by
  obtain ⟨env, queue, power, stuck, halted, standby, request, fiq, irq, imprecise⟩ := h
  have nothingDue := (dueException_none s).2 ⟨fiq, irq, imprecise⟩
  simp [step, cycle, environment, cpuStep, boundary, queue, env, power, stuck, halted, standby, nothingDue, request]

theorem fetchNext_psrs (s : State) : (fetchNext s).2.psrs = s.psrs := by
  have window := (memoryOnly_fetchInWindow s.pc s.thumb (!s.userAccess) s).psrs
  unfold fetchNext
  dsimp only
  split
  · split
    · rfl
    · exact window
  · exact window

theorem State.jBit_congr {s t : State} (h : s.psrs = t.psrs) : s.jBit = t.jBit := by
  unfold State.jBit State.cpsr
  rw [h]

/-- A committed instruction that no debug event stands on and that decodes is executed, and then the watchpoint it hit is taken. -/
theorem commit_bits {s : State} {w : Word} {h : DebugHits} {i : Instr} (quiet : commitEvent h s = none) (j : s.jBit = false)
    (decoded : decode (codeOf s w) = .ok i) :
    commit (.bits w) h s = onNext (watchEvent s.readPc) (exec i s.committed) := by
  simp [commit, quiet, j, runCode, decoded]

theorem instruction_fetched {s t : State} {f : Fetched} {h : DebugHits} (j : s.jBit = false)
    (fetched : fetchNext s.clearWatch = (.ok (f, h), t)) : instruction s = commit f h t := by
  have notJazelle : s.clearWatch.jBit = false := j
  simp [instruction, notJazelle, fetched]

/-- Settles O4, from the step of an undisturbed boundary (`step_of_undisturbed`). -/
theorem stepRunsDecoded : Obligations.StepRunsDecoded := by
  intro s t w h i undisturbed j fetched quiet decoded
  have tj : t.jBit = false := by
    have kept := fetchNext_psrs s.clearWatch
    rw [fetched] at kept
    rwa [State.jBit_congr kept]
  rw [step_of_undisturbed undisturbed, instruction_fetched j fetched, commit_bits quiet tj decoded]

/-! ## Comparisons that find nothing -/

theorem allOf_true : ∀ {l : List (Option Bool)}, (∀ x ∈ l, x = some true) → allOf l = some true
  | [], _ => rfl
  | x :: t, h => by
    have first : x = some true := h x (by simp)
    have rest : allOf t = some true := allOf_true fun y hy => h y (by simp [hy])
    simp [allOf, first, rest]

theorem anyOf_false {l : List (Option Bool)} (h : ∀ x ∈ l, x = some false) : anyOf l = some false := by
  have all : allOf (l.map fun x => x.map not) = some true := allOf_true (by simpa using fun x hx => h x hx)
  simp [anyOf, all]

/-- No breakpoint is enabled (46_cp14_debug.md R309). -/
def State.noBreakpoint (s : State) : Prop := ∀ k (_ : k < 6), bitAt s.dbg.bcr[k] 0 = false

theorem brpAddrHit_off {s : State} (off : s.noBreakpoint) (y : Nat) (iva : Word) (size : Nat) (priv : Bool) :
    brpAddrHit s y iva size priv = some false := by
  unfold brpAddrHit
  split
  · next e _ =>
    obtain ⟨hy, rfl⟩ := Vector.getElem?_eq_some_iff.1 e
    simp [off y hy]
  · rfl

theorem brpContextHit_off {s : State} (off : s.noBreakpoint) (y : Nat) (priv : Bool) : brpContextHit s y priv = some false := by
  unfold brpContextHit
  split
  · next e _ =>
    obtain ⟨hy, rfl⟩ := Vector.getElem?_eq_some_iff.1 e
    simp [off y hy]
  · rfl

/-- With no breakpoint enabled the comparisons of a fetch draw nothing. -/
theorem fetchHits_off {s : State} (off : s.noBreakpoint) (iva : Word) (size : Nat) (priv : Bool) :
    (fetchHits iva size priv s).2 = s := by
  have addr := anyOf_false (l := (List.range 6).map fun y => brpAddrHit s y iva size priv)
    (by simp [brpAddrHit_off off])
  have context := anyOf_false (l := (List.range 6).map fun y => brpContextHit s y priv) (by simp [brpContextHit_off off])
  simp [fetchHits, addr, resolve, context]

/-! ## Memory with the MMU off -/

/-- The attributes of memory with the MMU and the caches off (20_memory.md R52). -/
def flatMemory : MemAttr := ⟨.stronglyOrdered, true, 0, 0⟩

/-- With no older control left, a translation is made with the current ones. -/
theorem drawControls_settled {s : State} (h : s.remapOld = []) : drawControls s = (s.tlbControls, s) := by
  simp [drawControls, State.olderAccess, State.olderRemap, h, drawOlder]

/-- With process identifier 0 the FCSE changes no address (20_memory.md R51). -/
theorem fcse_zero {s : State} (h : fld s.cp15.fcsePid 25 7 = 0#7) (va : Word) : fcse s va = va := by
  simp [fcse, h, put]

/-- With the MMU off an address stands for itself, in Strongly Ordered memory (20_memory.md R52). -/
theorem translate_flat {s : State} {p : Purpose} {aligned : Bool} (m : s.ctlM = false) (r : s.ctlTexRemap = false)
    (o : s.remapOld = []) (uncached : (p == .fetch && s.ctlI) = false) (fits : aligned = true ∨ s.ctlU = false) (user : Bool)
    (mva : Word) : translate p user aligned mva s = (.ok ⟨mva, flatMemory, none⟩, s) := by
  have k : flatAttr s.tlbControls (p == .fetch && s.ctlI) = .ok flatMemory := by
    simp [flatAttr, State.tlbControls, r, uncached, flatMemory]
  have noFault : (s.ctlU && flatMemory.ty != .normal && !aligned) = false := by
    rcases fits with h | h <;> simp [h]
  simp [translate, m, drawControls_settled o, k, noFault]

/-- Ordinary memory lies outside the private memory region. -/
theorem inRegion_of_ordinary {s : State} {a : Word} {n : Nat} (h : s.ordinary a n) (pos : 0 < n) : inRegion s.cfg a = false := by
  simpa using (h 0 pos).1

/-- The address after the first of a run. -/
theorem add_succ_ofNat (a : Word) (k : Nat) : a + BitVec.ofNat 32 (k + 1) = a + 1 + BitVec.ofNat 32 k := by
  rw [BitVec.ofNat_add]
  ac_rfl

/-- Ordinary memory answers no transfer with an error. -/
theorem busErrorIn_of_ordinary {s : State} : ∀ {n : Nat} {a : Word}, s.ordinary a n → busErrorIn s.cfg a n = none
  | 0, _, _ => rfl
  | n + 1, a, h => by
    have first : busError s.cfg a = none := by simpa using (h 0 (by omega)).2
    have rest : s.ordinary (a + 1) n := fun k hk => by
      have := h (k + 1) (by omega)
      rwa [add_succ_ofNat] at this
    unfold busErrorIn
    rw [first]
    exact busErrorIn_of_ordinary rest

theorem State.ordinary.mono {s : State} {a : Word} {m n : Nat} (h : s.ordinary a n) (le : m ≤ n) : s.ordinary a m :=
  fun k hk => h k (by omega)

/-! ## Bytes as numbers -/

theorem getLsbD_littleEndian_cons (b : Byte) (l : List Byte) {i : Nat} (h : i < 32) :
    (littleEndian (b :: l)).getLsbD i = if i < 8 then b.getLsbD i else (littleEndian l).getLsbD (i - 8) := by
  by_cases low : i < 8
  · simp [littleEndian, put, h, low]
  · simp [littleEndian, put, h, low, BitVec.getLsbD_of_ge b i (by omega), BitVec.getLsbD_eq_getElem (show i - 8 < 32 by omega)]

/-- Two bytes as a number, the first the low one (20_memory.md R43). -/
theorem littleEndian_two (x y : Byte) : littleEndian [x, y] = put (y ++ x) 0 := by
  refine BitVec.eq_of_getLsbD_eq fun i hi => ?_
  rw [put, BitVec.shiftLeft_zero, getLsbD_littleEndian_cons x _ hi, BitVec.getLsbD_setWidth, BitVec.getLsbD_append]
  by_cases low : i < 8
  · simp [low, hi]
  · rw [getLsbD_littleEndian_cons y _ (by omega)]
    by_cases next : i - 8 < 8
    · simp [low, hi, next]
    · simp [low, hi, next, littleEndian, BitVec.getLsbD_of_ge y (i - 8) (by omega)]

/-- Four bytes as a number, the first the lowest one (20_memory.md R43). -/
theorem littleEndian_four (a b c d : Byte) : littleEndian [a, b, c, d] = d ++ c ++ b ++ a := by
  refine BitVec.eq_of_getLsbD_eq fun i hi => ?_
  rw [getLsbD_littleEndian_cons a _ hi, BitVec.getLsbD_append]
  by_cases h : i < 8
  · simp [h]
  · rw [if_neg h, if_neg h, getLsbD_littleEndian_cons b _ (by omega), BitVec.getLsbD_append]
    by_cases h : i - 8 < 8
    · simp [h]
    · rw [if_neg h, if_neg h, getLsbD_littleEndian_cons c _ (by omega), BitVec.getLsbD_append]
      by_cases h : i - 8 - 8 < 8
      · simp [h]
      · rw [if_neg h, if_neg h, getLsbD_littleEndian_cons d _ (by omega), if_pos (by omega)]

end Sys2Proof.Machine
end

section
/-! The step runs what stands in memory (O5). -/
namespace Sys2Proof.Machine

/-- The bytes of an instruction are those of memory when the instruction cache is not in use (20_memory.md R52). -/
theorem instrRead_uncached {s : State} {pa : Word} {n : Nat} (h : s.ordinary pa n) (mva : Word) :
    instrRead mva pa n false s = (.ok (s.mem.readBytes pa n), s) := by
  simp [instrRead, busErrorIn_of_ordinary h]

/-- With the MMU and the instruction cache off a fetch brings what stands in memory. -/
theorem fetchAt_flat {s : State} {va : Word} (m : s.ctlM = false) (r : s.ctlTexRemap = false) (o : s.remapOld = [])
    (i : s.ctlI = false) (pid : fld s.cp15.fcsePid 25 7 = 0#7) (mem : s.ordinary va 4) (thumb priv : Bool) :
    fetchAt va thumb priv s = (.ok (.bits (littleEndian (s.mem.readBytes va (if thumb then 2 else 4)))), s) := by
  have size : s.ordinary va (if thumb then 2 else 4) := mem.mono (by cases thumb <;> simp)
  simp [fetchAt, fcse_zero pid, translate_flat m r o (p := .fetch) (by simp [i]) (.inl rfl), inRegion_of_ordinary mem,
    instrCachable, i, instrRead_uncached size]

/-- So does the fetch of the next instruction, if none has been fetched ahead and no older setting is left. -/
theorem fetchNext_flat {s : State} (ahead : s.prefetched = []) (old : s.fetchOld = []) (m : s.ctlM = false)
    (r : s.ctlTexRemap = false) (o : s.remapOld = []) (i : s.ctlI = false) (pid : fld s.cp15.fcsePid 25 7 = 0#7)
    (mem : s.ordinary s.pc 4) (off : s.noBreakpoint) :
    ∃ h, fetchNext s = (.ok (.bits (littleEndian (s.mem.readBytes s.pc (if s.thumb then 2 else 4))), h), s) := by
  have fetched := fetchAt_flat m r o i pid mem s.thumb (!s.userAccess)
  refine ⟨(fetchHits s.pc (if s.thumb then 2 else 4) (!s.userAccess) s).1, ?_⟩
  simp [fetchNext, ahead, fetchInWindow_closed old, fetchWithHits, fetched, fetchHits_off off]

/-- The instruction in memory at the PC (20_memory.md R43, R49). -/
theorem codeOf_memory {s : State} (running : s.halted = false) :
    codeOf s (littleEndian (s.mem.readBytes s.pc (if s.thumb then 2 else 4))) =
      if s.tBit then .thumb (s.byteAt (s.pc + 1) ++ s.byteAt s.pc)
      else .arm (s.byteAt (s.pc + 3) ++ s.byteAt (s.pc + 2) ++ s.byteAt (s.pc + 1) ++ s.byteAt s.pc) := by
  have state : s.thumb = s.tBit := by simp [State.thumb, running]
  cases t : s.tBit with
  | true =>
    rw [t] at state
    have half (x y : Byte) : fld (littleEndian [x, y]) 0 16 = y ++ x := by
      rw [littleEndian_two, fld_put_in _ (le_refl 0) (le_refl 16) (by omega)]
      exact fld_whole _
    simp [codeOf, state, Mem.readBytes, half, State.byteAt]
  | false =>
    rw [t] at state
    simp [codeOf, state, Mem.readBytes, littleEndian_four, State.byteAt, BitVec.add_assoc]

theorem commitEvent_disabled {s : State} (off : s.debugMode = .disabled) (h : DebugHits) : commitEvent h s = none := by
  simp [commitEvent, off]

/-- Settles O5, by O4: with the MMU off the fetch brings the word in memory (`fetchNext_flat`). -/
theorem stepRunsMemory : Obligations.StepRunsMemory := by
  intro s i undisturbed j ahead old m icache r o pid mem off debug decoded
  have running : s.clearWatch.halted = false := by
    obtain ⟨-, -, -, -, halted, -⟩ := undisturbed
    exact halted
  obtain ⟨h, fetched⟩ := fetchNext_flat (s := s.clearWatch) ahead old m r o icache pid mem off
  refine stepRunsDecoded s s.clearWatch _ h i undisturbed j fetched (commitEvent_disabled (s := s.clearWatch) debug h) ?_
  rw [codeOf_memory running]
  exact decoded

end Sys2Proof.Machine
end

section
/-! SUPPORT. Bytes in memory, the low bits of an address, and the register that an instruction writes. -/
namespace Sys2Proof.Machine

/-! ## Bytes in memory -/

theorem littleEndian_bytes : ∀ (l : List Byte) (i : Nat), i < 32 →
    (littleEndian l).getLsbD i = (l.getD (i / 8) 0).getLsbD (i % 8)
  | [], i, _ => by simp [littleEndian]
  | b :: t, i, h => by
    rw [getLsbD_littleEndian_cons b t h]
    by_cases low : i < 8
    · simp [low, Nat.div_eq_of_lt low, Nat.mod_eq_of_lt low]
    · rw [if_neg low, littleEndian_bytes t (i - 8) (by omega), show i / 8 = (i - 8) / 8 + 1 by omega,
        show i % 8 = (i - 8) % 8 by omega]
      simp

/-- The bytes of a value are its fields. -/
theorem littleEndian_take_bytesOf (v : Word) (n : Nat) :
    littleEndian ((bytesOf v).take n) = put (fld v 0 (8 * n)) 0 := by
  refine BitVec.eq_of_getLsbD_eq fun i hi => ?_
  rw [littleEndian_bytes _ i hi]
  have byte : ∀ k < 4, (bytesOf v).getD k 0 = fld v (8 * k) 8 := by
    intro k hk
    interval_cases k <;> rfl
  have field : (fld v (8 * (i / 8)) 8).getLsbD (i % 8) = v.getLsbD i := by
    rw [fld, BitVec.getLsbD_extractLsb', show 8 * (i / 8) + i % 8 = i by omega]
    simp [show i % 8 < 8 by omega]
  by_cases within : i < 8 * n
  · rw [List.getD_eq_getElem?_getD, List.getElem?_take_of_lt (by omega), ← List.getD_eq_getElem?_getD, byte _ (by omega), field]
    simp [put, fld, within, hi]
  · rw [List.getD_eq_getElem?_getD, List.getElem?_take_eq_none (by omega)]
    simp [put, fld, within]

theorem length_laneBytes (big : Bool) (v : Word) {n : Nat} (h : n ≤ 4) : (laneBytes big v n).length = n := by
  have : ((bytesOf v).take n).length = n := by simp [bytesOf]; omega
  unfold laneBytes
  cases big <;> simp [this]

/-- What the bytes of a value give when they are read again in the same endianness (20_memory.md R43). -/
theorem laneValue_laneBytes (big : Bool) (v : Word) (n : Nat) :
    laneValue big (laneBytes big v n) = put (fld v 0 (8 * n)) 0 := by
  rw [← littleEndian_take_bytesOf v n]
  unfold laneValue laneBytes
  cases big <;> simp

theorem laneValue_laneBytes_word (big : Bool) (v : Word) : laneValue big (laneBytes big v 4) = v := by
  rw [laneValue_laneBytes big v 4]
  simp [put]

theorem State.wordAt_eq (s : State) (a : Word) : s.wordAt a = laneValue s.eBit (s.mem.readBytes a 4) := by
  unfold State.wordAt laneValue
  simp only [Mem.readBytes, BitVec.add_assoc]
  cases s.eBit <;> simp [littleEndian_four, State.byteAt]

theorem State.halfAt_eq (s : State) (a : Word) : put (s.halfAt a) 0 = laneValue s.eBit (s.mem.readBytes a 2) := by
  unfold State.halfAt laneValue
  cases s.eBit <;> simp [Mem.readBytes, littleEndian_two, State.byteAt]

theorem State.byteAt_eq (s : State) (a : Word) : put (s.byteAt a) 0 = laneValue s.eBit (s.mem.readBytes a 1) := by
  unfold laneValue
  cases s.eBit <;> simp [Mem.readBytes, littleEndian, State.byteAt]

theorem put_injective {n : Nat} (h : n ≤ 32) {x y : BitVec n} (e : put x 0 = put y 0) : x = y := by
  have e := congrArg (fun w => fld w 0 n) e
  simpa [fld_put_in _ (le_refl 0) (show 0 + n ≤ 0 + n by omega) (by omega)] using e

theorem Mem.length_readBytes (m : Mem) : ∀ (n : Nat) (a : Word), (m.readBytes a n).length = n
  | 0, _ => rfl
  | n + 1, a => by rw [Mem.readBytes, List.length_cons, Mem.length_readBytes m n]

/-- Bytes written are read again. -/
theorem Mem.readBytes_writeBytes : ∀ (l : List Byte) {m : Mem} (a : Word), m.wf = true → l.length ≤ 2 ^ 32 →
    (m.writeBytes a l).readBytes a l.length = l
  | [], _, _, _, _ => rfl
  | b :: t, m, a, wf, len => by
    have short : t.length < 2 ^ 32 := by simpa using len
    have apart (k : Nat) (hk : k < t.length) : a.toNat ≠ (a + 1 + BitVec.ofNat 32 k).toNat := by
      intro e
      have e := BitVec.eq_of_toNat_eq e
      rw [← add_succ_ofNat, BitVec.self_eq_add_right] at e
      have := congrArg BitVec.toNat e
      rw [BitVec.toNat_ofNat, Nat.mod_eq_of_lt (by omega)] at this
      simp at this
    have wf' := Mem.wf_write (v := b) a.isLt wf
    have first : ((m.write a.toNat b).writeBytes (a + 1) t).read a.toNat = b := by
      rw [Mem.read_writeBytes_other t (a + 1) wf' apart, Mem.read_write wf, if_pos rfl]
    rw [Mem.writeBytes, List.length_cons, Mem.readBytes, first, Mem.readBytes_writeBytes t (a + 1) wf' (by omega)]

theorem Mem.writeBytes_append : ∀ (l r : List Byte) (m : Mem) (a : Word),
    m.writeBytes a (l ++ r) = (m.writeBytes a l).writeBytes (a + BitVec.ofNat 32 l.length) r
  | [], _, _, a => by simp [Mem.writeBytes]
  | b :: t, r, m, a => by
    rw [List.cons_append, Mem.writeBytes, Mem.writeBytes_append t r, List.length_cons, add_succ_ofNat]
    rfl

theorem Mem.readBytes_append (m : Mem) : ∀ (n k : Nat) (a : Word),
    m.readBytes a (n + k) = m.readBytes a n ++ m.readBytes (a + BitVec.ofNat 32 n) k
  | 0, k, a => by simp [Mem.readBytes]
  | n + 1, k, a => by
    rw [show n + 1 + k = n + k + 1 by omega, Mem.readBytes, Mem.readBytes, Mem.readBytes_append m n k, add_succ_ofNat]
    rfl

/-- A write changes no byte but those it is made to. -/
theorem memBut_writeBytes {s t : State} {a : Word} {l : List Byte} (canonical : s.memCanonical)
    (e : t.mem = s.mem.writeBytes a l) : MemBut s t a l.length := fun b h => by
  rw [e, Mem.read_writeBytes_other l a canonical h]

/-! ## The low bits of an address -/

theorem toNat_fld_zero (a : Word) (n : Nat) : (fld a 0 n).toNat = a.toNat % 2 ^ n := by simp [fld]

theorem bitAt_fld_zero (a : Word) {n i : Nat} (h : i < n) : bitAt (fld a 0 n) i = bitAt a i := by
  simp [bitAt_eq_getLsbD, fld, h]

theorem bitAt_of_fld {a : Word} {n : Nat} (h : fld a 0 n = 0#n) {i : Nat} (lt : i < n) : bitAt a i = false := by
  rw [← bitAt_fld_zero a lt, h, bitAt_eq_getLsbD]
  simp

theorem naturallyAligned_of_fld {a : Word} {n : Nat} (h : fld a 0 n = 0#n) : naturallyAligned a (2 ^ n) = true := by
  have := congrArg BitVec.toNat h
  rw [toNat_fld_zero] at this
  simpa [naturallyAligned] using this

theorem getLsbD_clearLow (w : Word) (n : Nat) {i : Nat} (hi : i < 32) :
    (clearLow w n).getLsbD i = (decide (n ≤ i) && w.getLsbD i) := by
  by_cases low : i < n
  · simp [clearLow, low]
  · have high : n ≤ i := by omega
    simp only [clearLow, BitVec.getLsbD_shiftLeft, BitVec.getLsbD_ushiftRight, hi, low, Nat.add_sub_cancel' high, high]
    simp

/-- The address of the word that holds a byte, as the mask and as the shifts give it. -/
theorem lowest_four (a : Word) : lowest 4 a = clearLow a 2 := by
  refine BitVec.eq_of_getLsbD_eq fun i hi => ?_
  rw [getLsbD_clearLow a 2 hi]
  by_cases low : i < 2
  · interval_cases i <;> simp [lowest]
  · have mask : (3 : Word).getLsbD i = false := by
      interval_cases i <;> simp_all
    simp only [lowest, BitVec.getLsbD_and, BitVec.getLsbD_not, hi, show 2 ≤ i by omega]
    rw [show (BitVec.ofNat 32 (4 - 1) : Word) = 3 from rfl, mask]
    simp

theorem lowest_of_aligned {a : Word} (h : fld a 0 2 = 0#2) : lowest 4 a = a := by
  rw [lowest_four]
  refine BitVec.eq_of_getLsbD_eq fun i hi => ?_
  rw [getLsbD_clearLow a 2 hi]
  by_cases low : i < 2
  · have clear : a.getLsbD i = false := by rw [← bitAt_eq_getLsbD, bitAt_of_fld h low]
    rw [clear, Bool.and_false]
  · simp [show 2 ≤ i by omega]

/-- An address without its lowest bits is aligned. -/
theorem fld_clearLow (a : Word) (n : Nat) : fld (clearLow a n) 0 n = 0#n := by
  refine BitVec.eq_of_getLsbD_eq fun i hi => ?_
  simp [fld, clearLow, hi]

theorem fld_lowest (a : Word) : fld (lowest 4 a) 0 2 = 0#2 := by rw [lowest_four, fld_clearLow]

end Sys2Proof.Machine
end

section
/-! SUPPORT. Data accesses with the MMU off. -/
namespace Sys2Proof.Machine

/-! ## Registers after an instruction -/

theorem physIndex_injective {b : Bank} {m n : RegNum} (hm : m ≠ 15) (hn : n ≠ 15)
    (e : physIndex b m = physIndex b n) : m = n := by
  have hm : m.toNat < 15 := by have := m.isLt; have : m.toNat ≠ 15 := fun h => hm (BitVec.eq_of_toNat_eq h); omega
  have hn : n.toNat < 15 := by have := n.isLt; have : n.toNat ≠ 15 := fun h => hn (BitVec.eq_of_toNat_eq h); omega
  refine BitVec.eq_of_toNat_eq ?_
  unfold physIndex at e
  cases b <;> simp only [hm, hn, if_true, reduceCtorEq, if_false] at e <;> split_ifs at e <;> omega

theorem bankReg_setBankReg_same (s : State) (b : Bank) {n : RegNum} (h : n ≠ 15) (v : Word) :
    (s.setBankReg b n v).bankReg b n = v := by
  rw [State.setBankReg, if_neg h]
  simp [State.bankReg]

theorem bankReg_setBankReg_other (s : State) (b : Bank) {m n : RegNum} (hm : m ≠ 15) (ne : m ≠ n) (v : Word) :
    (s.setBankReg b n v).bankReg b m = s.bankReg b m := by
  unfold State.setBankReg
  split
  · rfl
  · next hn =>
    have apart : physIndex b n ≠ physIndex b m := fun e => ne (physIndex_injective hn hm e).symm
    simp [State.bankReg, Vector.getElem_set_ne _ _ apart]

theorem regsBut_nil (s : State) : RegsBut s s [] := fun _ _ _ => rfl

theorem RegsBut.setReg {s t : State} {l : List RegNum} (h : RegsBut s t l) (bank : t.bank = s.bank) (n : RegNum) (v : Word) :
    RegsBut s (t.setReg n v) (l ++ [n]) := fun k hk apart => by
  have kept := h k hk fun m hm => apart m (by simp [hm])
  unfold State.setReg State.setBankReg
  split
  · exact kept
  · next hn =>
    have ne : physIndex t.bank n ≠ k := fun e => apart n (by simp) hn (by rw [← e, bank])
    simpa [Vector.getElem_set_ne _ _ ne] using kept

theorem RegsBut.of_regs {s t u : State} {l : List RegNum} (h : RegsBut s t l) (e : u.regs = t.regs) :
    RegsBut s u l := fun k hk a => by
  simp only [e]
  exact h k hk a

/-- The state after an instruction that writes no PC. -/
theorem State.advance_eq (s : State) : s.advance = { s with pc := s.past } := by
  unfold State.advance State.past State.setPc State.instrLength
  cases s.halted <;> cases s.thumb <;> rfl

/-- The register file after a register write. -/
theorem State.setReg_eq (s : State) (n : RegNum) (v : Word) : s.setReg n v = { s with regs := (s.setReg n v).regs } := by
  unfold State.setReg State.setBankReg
  split <;> rfl

/-- What the register file holds after a register write depends on the file and the bank before it. -/
theorem regs_setReg_congr {s t : State} (regs : t.regs = s.regs) (bank : t.bank = s.bank) (n : RegNum) (v : Word) :
    (t.setReg n v).regs = (s.setReg n v).regs := by
  unfold State.setReg State.setBankReg
  split
  · exact regs
  · simp only [regs, bank]

/-! ## Flat memory -/

/-- A watchpoint that is not enabled matches nothing (46_cp14_debug.md R321). -/
theorem wrpHit_off {s : State} (off : ∀ k (_ : k < 2), bitAt s.dbg.wcr[k] 0 = false) (y : Nat) (dva : Word) (size : Nat)
    (load store priv : Bool) : wrpHit s y dva size load store priv = some false := by
  unfold wrpHit
  split
  · next e _ =>
    obtain ⟨hy, rfl⟩ := Vector.getElem?_eq_some_iff.1 e
    simp [off y hy]
  · rfl

/-- Without a watchpoint an access is not noted. -/
theorem watchAccess_off {s : State} (off : ∀ k (_ : k < 2), bitAt s.dbg.wcr[k] 0 = false) (dva : Word) (size : Nat)
    (load store priv : Bool) : watchAccess dva size load store priv s = s := by
  have none := anyOf_false (l := (List.range 2).map fun y => wrpHit s y dva size load store priv) (by simp [wrpHit_off off])
  unfold watchAccess
  simp [none, resolve]

theorem drainAll_empty {s : State} (h : s.storeBuffer = []) : drainAll s = s := by
  unfold drainAll
  rw [h, retireAll, ← h]

/-- The parts of `State.flat` by name. -/
structure State.Flat (s : State) : Prop where
  mmu : s.ctlM = false
  remap : s.ctlTexRemap = false
  older : s.remapOld = []
  pid : fld s.cp15.fcsePid 25 7 = 0#7
  buffer : s.storeBuffer = []
  watch : ∀ k (_ : k < 2), bitAt s.dbg.wcr[k] 0 = false
  endian : s.ctlU = true ∨ s.ctlA = true ∨ s.eBit = false
  canonical : s.memCanonical

theorem State.flat_iff (s : State) : s.flat ↔ s.Flat := by
  constructor
  · rintro ⟨mmu, remap, older, pid, buffer, watch, endian, canonical⟩
    exact ⟨mmu, remap, older, pid, buffer, watch, endian, canonical⟩
  · rintro ⟨mmu, remap, older, pid, buffer, watch, endian, canonical⟩
    exact ⟨mmu, remap, older, pid, buffer, watch, endian, canonical⟩

/-- An access that the alignment rules let through (20_memory.md R45). -/
theorem alignAccess_direct {s : State} (endian : s.ctlU = true ∨ s.ctlA = true ∨ s.eBit = false) {ty : AccessType} {a : Word}
    (h : alignment s.ctlU s.ctlA ty (fld a 0 3) = .direct) (write : Bool) : alignAccess ty write a s = .ok a s := by
  have known : (!s.ctlU && !s.ctlA && s.eBit) = false := by rcases endian with h | h | h <;> simp [h]
  simp [alignAccess, known, h]

/-- A flat translation: the address itself. -/
def flatTo (a : Word) : Translated := ⟨a, flatMemory, none⟩

theorem dataCachable_flat (s : State) : dataCachable s flatMemory = false := by simp [dataCachable, cachableAttr, flatMemory]

/-- A read of Strongly Ordered memory with nothing buffered (20_memory.md R64, R90). -/
theorem readPhys_direct {s : State} (buffer : s.storeBuffer = []) {t : Translated} (attr : t.attr = flatMemory) {n : Nat}
    (o : s.ordinary t.pa n) (pos : 0 < n) (m : AccessMode) (mva : Word) :
    readPhys m t mva n s = .ok (s.mem.readBytes t.pa n) s := by
  simp [readPhys, attr, inRegion_of_ordinary o pos, dataCachable_flat, drainAll_empty buffer, busErrorIn_of_ordinary o]

/-- A write of Strongly Ordered memory with nothing buffered (20_memory.md R64, R90). -/
theorem writePhys_direct {s : State} (buffer : s.storeBuffer = []) {t : Translated} (attr : t.attr = flatMemory)
    {bytes : List Byte} (o : s.ordinary t.pa bytes.length) (pos : 0 < bytes.length) (m : AccessMode) (mva : Word) :
    writePhys m t mva bytes s = .ok () (s.setMem (s.mem.writeBytes t.pa bytes)) := by
  have direct : (flatMemory.ty == .stronglyOrdered) = true := rfl
  simp [writePhys, attr, inRegion_of_ordinary o pos, dataCachable_flat, drainAll_empty buffer, busErrorIn_of_ordinary o, direct]

section
variable {s : State} (f : s.Flat)
include f

theorem State.Flat.dataTranslate {aligned : Bool} (fits : aligned = true ∨ s.ctlU = false) (write user : Bool) (va : Word) :
    dataTranslate write user aligned va s = .ok (flatTo va) s := by
  have t := translate_flat (p := if write then .write else .read) f.mmu f.remap f.older (by cases write <;> rfl) fits user va
  simp [Machine.dataTranslate, fcse_zero f.pid, t, flatTo]

theorem State.Flat.readPhys {a : Word} {n : Nat} (o : s.ordinary a n) (pos : 0 < n) (m : AccessMode) (mva : Word) :
    readPhys m (flatTo a) mva n s = .ok (s.mem.readBytes a n) s := readPhys_direct (t := flatTo a) f.buffer rfl o pos m mva

theorem State.Flat.writePhys {a : Word} {bytes : List Byte} (o : s.ordinary a bytes.length) (pos : 0 < bytes.length)
    (m : AccessMode) (mva : Word) :
    writePhys m (flatTo a) mva bytes s = .ok () (s.setMem (s.mem.writeBytes a bytes)) :=
  writePhys_direct (t := flatTo a) f.buffer rfl o pos m mva

theorem State.Flat.readAt {a : Word} {n : Nat} (o : s.ordinary a n) (pos : 0 < n) (aligned : naturallyAligned a n = true)
    (m : AccessMode) : readAt m n a s = .ok (laneValue s.eBit (s.mem.readBytes a n)) s := by
  simp [Machine.readAt, watchAccess_off f.watch, aligned, f.dataTranslate, Res.bind, f.readPhys o pos]

theorem State.Flat.writeAt {a : Word} {n : Nat} (o : s.ordinary a n) (pos : 0 < n) (small : n ≤ 4)
    (aligned : naturallyAligned a n = true) (m : AccessMode) (v : Word) :
    writeAt m n a v s = .ok () (s.setMem (s.mem.writeBytes a (laneBytes s.eBit v n))) := by
  have len := length_laneBytes s.eBit v small
  have written := f.writePhys (bytes := laneBytes s.eBit v n) (by rwa [len]) (by rwa [len]) m (fcse s a)
  simp [Machine.writeAt, watchAccess_off f.watch, aligned, f.dataTranslate, Res.bind, written]

theorem State.Flat.alignAccess {ty : AccessType} {a : Word} (h : alignment s.ctlU s.ctlA ty (fld a 0 3) = .direct) (write : Bool) :
    alignAccess ty write a s = .ok a s := alignAccess_direct f.endian h write

theorem State.Flat.alignAccess_forced {ty : AccessType} {a : Word} (h : alignment s.ctlU s.ctlA ty (fld a 0 3) = .forced)
    (write : Bool) : Machine.alignAccess ty write a s = .ok (lowest 4 a) s := by
  have known : (!s.ctlU && !s.ctlA && s.eBit) = false := by rcases f.endian with h | h | h <;> simp [h]
  simp [Machine.alignAccess, known, h, lowest_four]

end

/-! ## Alignment -/

theorem alignment_byte (u a : Bool) (low : BitVec 3) : alignment u a .byte low = .direct := rfl

theorem alignment_halfSync {v : Word} (h : bitAt v 0 = false) (u a : Bool) : alignment u a .halfSync (fld v 0 3) = .direct := by
  simp [alignment, bitAt_fld_zero, h]

theorem alignment_wordSync {v : Word} (h : fld v 0 2 = 0#2) (u a : Bool) : alignment u a .wordSync (fld v 0 3) = .direct := by
  simp [alignment, bitAt_fld_zero, bitAt_of_fld h]

theorem alignment_doubleSync {v : Word} (h : fld v 0 3 = 0#3) (u a : Bool) : alignment u a .doubleSync (fld v 0 3) = .direct := by
  simp [alignment, h]

/-- A plain word access at a word-aligned address. -/
theorem alignment_word {ty : AccessType} (plain : ty = .wload ∨ ty = .wstore) {v : Word} (h : fld v 0 2 = 0#2) (u a : Bool) :
    alignment u a ty (fld v 0 3) = .direct := by
  rcases plain with rfl | rfl <;> simp [alignment, bitAt_fld_zero, bitAt_of_fld h]

/-- A plain word access at another address, with U = 0 and A = 0 (20_memory.md R45). -/
theorem alignment_forced {ty : AccessType} (plain : ty = .wload ∨ ty = .wstore) {v : Word} (h : fld v 0 2 ≠ 0#2) :
    alignment false false ty (fld v 0 3) = .forced := by
  have odd : (bitAt v 0 || bitAt v 1) = true := by
    by_contra none
    simp only [Bool.or_eq_true, not_or, Bool.not_eq_true] at none
    refine h (BitVec.eq_of_getLsbD_eq fun i hi => ?_)
    have bit : bitAt v i = false := by
      obtain rfl | rfl : i = 0 ∨ i = 1 := by omega
      · exact none.1
      · exact none.2
    simpa [fld, hi, bitAt_eq_getLsbD] using bit
  rcases plain with rfl | rfl <;> simp [alignment, bitAt_fld_zero, odd]

/-- The type of a word access of SWP (20_memory.md R44). -/
def swapType (u : Bool) (plain : AccessType) : AccessType := if u then .wordSync else plain

/-- A word access of SWP is made at the aligned address below (20_memory.md R45). -/
theorem State.Flat.alignAccess_swap {s : State} (f : s.Flat) {ty : AccessType} (plain : ty = .wload ∨ ty = .wstore) {a : Word}
    (fits : s.wordFits a) (write : Bool) : Machine.alignAccess (swapType s.ctlU ty) write a s = .ok (lowest 4 a) s := by
  by_cases aligned : fld a 0 2 = 0#2
  · rw [lowest_of_aligned aligned]
    refine f.alignAccess ?_ write
    unfold swapType
    split
    · exact alignment_wordSync aligned ..
    · exact alignment_word plain aligned ..
  · obtain ⟨u, al⟩ := fits.resolve_left aligned
    rw [swapType, if_neg (by simp [u])]
    refine f.alignAccess_forced ?_ write
    rw [u, al]
    exact alignment_forced plain aligned

end Sys2Proof.Machine
end

section
/-! Swaps and exclusive loads (O34). -/
namespace Sys2Proof.Machine

/-- Another count of free values changes nothing that flat memory depends on. -/
theorem State.Flat.free {s : State} (f : s.Flat) (c : Nat) : ({ s with freeCtr := c } : State).Flat :=
  ⟨f.mmu, f.remap, f.older, f.pid, f.buffer, f.watch, f.endian, f.canonical⟩

theorem State.Flat.tag {s : State} (f : s.Flat) (x : Monitor) : ({ s with monitor := x } : State).Flat :=
  ⟨f.mmu, f.remap, f.older, f.pid, f.buffer, f.watch, f.endian, f.canonical⟩

theorem State.ordinary.shift {s : State} {a : Word} {j n : Nat} (h : s.ordinary a (j + n)) :
    s.ordinary (a + BitVec.ofNat 32 j) n := fun k hk => by
  have := h (j + k) (by omega)
  rwa [BitVec.ofNat_add, ← BitVec.add_assoc] at this

theorem bankReg_setReg {s : State} {n : RegNum} (h : n ≠ 15) (v : Word) {b : Bank} (bank : s.bank = b) :
    (s.setReg n v).bankReg b n = v := bank ▸ bankReg_setBankReg_same s s.bank h v

theorem bankReg_setReg_other {s : State} {m n : RegNum} (h : m ≠ 15) (ne : m ≠ n) (v : Word) {b : Bank} (bank : s.bank = b) :
    (s.setReg n v).bankReg b m = s.bankReg b m := bank ▸ bankReg_setBankReg_other s s.bank h ne v

theorem regsBut_setReg (s : State) (n : RegNum) (v : Word) : RegsBut s (s.setReg n v) [n] := (regsBut_nil s).setReg rfl n v

theorem bankReg_advance (s : State) (b : Bank) (n : RegNum) : s.advance.bankReg b n = s.bankReg b n := by
  rw [State.advance_eq]
  rfl

theorem bank_setReg (s : State) (n : RegNum) (v : Word) : (s.setReg n v).bank = s.bank := by
  rw [State.setReg_eq]
  rfl

/-! ## The values of flat memory -/

theorem put_zero {n : Nat} (x : BitVec n) : put x 0 = x.setWidth 32 := by simp [put]

theorem fld_low (v : Word) (n : Nat) : fld v 0 n = v.setWidth n := by
  refine BitVec.eq_of_getLsbD_eq fun i hi => ?_
  simp [fld, hi]

/-- What a write of a value leaves to be read at its address. -/
theorem readBytes_laneBytes {s t : State} {a : Word} {n : Nat} (canonical : s.memCanonical) (small : n ≤ 4) (v : Word)
    (e : t.mem = s.mem.writeBytes a (laneBytes s.eBit v n)) :
    laneValue s.eBit (t.mem.readBytes a n) = put (fld v 0 (8 * n)) 0 := by
  have len := length_laneBytes s.eBit v small
  have read := Mem.readBytes_writeBytes (laneBytes s.eBit v n) a canonical (by omega)
  rw [len] at read
  rw [e, read, laneValue_laneBytes]

theorem State.eBit_congr {s t : State} (h : t.psrs = s.psrs) : t.eBit = s.eBit := by
  unfold State.eBit State.cpsr
  rw [h]

section
variable {s t : State} {a v : Word} (canonical : s.memCanonical) (psrs : t.psrs = s.psrs)
include canonical psrs

theorem wordAt_written (e : t.mem = s.mem.writeBytes a (laneBytes s.eBit v 4)) : t.wordAt a = v := by
  rw [State.wordAt_eq, State.eBit_congr psrs, readBytes_laneBytes canonical (by omega) v e]
  simp [put]

theorem halfAt_written (e : t.mem = s.mem.writeBytes a (laneBytes s.eBit v 2)) : t.halfAt a = v.setWidth 16 := by
  refine put_injective (by omega) ?_
  rw [State.halfAt_eq, State.eBit_congr psrs, readBytes_laneBytes canonical (by omega) v e, fld_low]

theorem byteAt_written (e : t.mem = s.mem.writeBytes a (laneBytes s.eBit v 1)) : t.byteAt a = v.setWidth 8 := by
  refine put_injective (by omega) ?_
  rw [State.byteAt_eq, State.eBit_congr psrs, readBytes_laneBytes canonical (by omega) v e, fld_low]

end

/-! ## Swaps -/

section
variable {s : State} (f : s.Flat)
include f

/-- The load of SWP (20_memory.md R45, R46). -/
theorem State.Flat.loadValue_swap {a : Word} (fits : s.wordFits a) (o : s.ordinary (lowest 4 a) 4) (m : AccessMode) :
    loadValue m (swapType s.ctlU .wload) 4 a s = .ok (s.rotatedWord a) s := by
  have aligned := naturallyAligned_of_fld (fld_lowest a)
  have read := f.readAt o (by omega) aligned m
  rw [← State.wordAt_eq] at read
  simp only [loadValue, f.alignAccess_swap (.inl rfl) fits, Res.bind, read]
  congr 1
  unfold State.rotatedWord
  split
  · next e =>
    have low : fld a 0 2 = 0#2 := by rw [← e, fld_lowest]
    simp [low, BitVec.rotateRight_def]
  · rfl

/-- The store of SWP. -/
theorem State.Flat.storeValue_swap {a : Word} (fits : s.wordFits a) (o : s.ordinary (lowest 4 a) 4) (m : AccessMode) (v : Word) :
    storeValue m (swapType s.ctlU .wstore) 4 a v s =
      .ok () (s.setMem (s.mem.writeBytes (lowest 4 a) (laneBytes s.eBit v 4))) := by
  have aligned := naturallyAligned_of_fld (fld_lowest a)
  simp only [storeValue, f.alignAccess_swap (.inr rfl) fits, Res.bind, f.writeAt o (by omega) (by omega) aligned]

theorem State.Flat.loadValue_byte {a : Word} (o : s.ordinary a 1) (m : AccessMode) :
    loadValue m .byte 1 a s = .ok ((s.byteAt a).setWidth 32) s := by
  have read := f.readAt o (by omega) (by simp [naturallyAligned, Nat.mod_one]) m
  rw [← State.byteAt_eq, put_zero] at read
  simp [loadValue, f.alignAccess (alignment_byte ..), Res.bind, read]

theorem State.Flat.storeValue_byte {a : Word} (o : s.ordinary a 1) (m : AccessMode) (v : Word) :
    storeValue m .byte 1 a v s = .ok () (s.setMem (s.mem.writeBytes a (laneBytes s.eBit v 1))) := by
  simp only [storeValue, f.alignAccess (alignment_byte ..), Res.bind,
    f.writeAt o (by omega) (by omega) (by simp [naturallyAligned, Nat.mod_one])]

end

/-- A register written, bytes stored, and the PC moved on, with a count of free values. -/
def exchanged (s : State) (rd : RegNum) (v b : Word) (l : List Byte) (c : Nat) : State :=
  { s with regs := (s.setReg rd v).regs, pc := s.past, mem := s.mem.writeBytes b l, freeCtr := c }

theorem exchanged_eq (s : State) (rd : RegNum) (v b : Word) (l : List Byte) (c : Nat) :
    (({ s with freeCtr := c, mem := s.mem.writeBytes b l } : State).setReg rd v).advance = exchanged s rd v b l c := by
  have regs := regs_setReg_congr (s := s) (t := { s with freeCtr := c, mem := s.mem.writeBytes b l }) rfl rfl rd v
  rw [State.advance_eq, State.setReg_eq, regs]
  rfl

/-- A swap whose accesses succeed, whatever the count of free values: the value loaded, and the bytes stored of the value of Rm, or
of a free value if Rm is r15 (20_memory.md R98). -/
theorem swap_spec {s : State} {lty sty : AccessType} {n : Nat} {rn rd rm : RegNum} {v b : Word} (hrd : rd ≠ 15)
    (load : ∀ c m, loadValue m lty n (s.reg rn) { s with freeCtr := c } = .ok v { s with freeCtr := c })
    (store : ∀ c m x, storeValue m sty n (s.reg rn) x { s with freeCtr := c } =
      .ok () { s with freeCtr := c, mem := s.mem.writeBytes b (laneBytes s.eBit x n) }) :
    ∃ new c, swap lty sty n rn rd rm s = .ok () (exchanged s rd v b (laneBytes s.eBit new n) c) ∧
      (rm ≠ 15 → new = s.reg rm) := by
  have both (c : Nat) (m : AccessMode) (x : Word) :
      ((loadValue m lty n (s.reg rn) { s with freeCtr := c }).bind fun v t =>
        (storeValue m sty n (s.reg rn) x t).bind fun _ t => .ok () (t.setReg rd v).advance) =
        .ok () (exchanged s rd v b (laneBytes s.eBit x n) c) := by
    simp only [load, Res.bind, store, exchanged_eq]
  unfold swap
  rw [if_neg hrd]
  by_cases h : rm = 15
  · refine ⟨s.drawWord.1, s.drawWord.2.freeCtr, ?_, fun k => absurd h k⟩
    simp only [if_pos h]
    exact both ..
  · refine ⟨s.reg rm, s.freeCtr, ?_, fun _ => rfl⟩
    simp only [if_neg h]
    exact both s.freeCtr ..

theorem gives_of_passes {i : Instr} {s : State} {m : State → Res Unit} {cc : Cond} {P : State → Prop}
    (pass : s.passes cc = true) (e : exec i s = whenPasses cc s m) (h : ∃ t, m s = .ok () t ∧ P t) : Gives i s P := by
  obtain ⟨t, run, holds⟩ := h
  exact ⟨t, by simp [e, whenPasses, pass, run, finish], holds⟩

theorem exec_swp (cc : Cond) (rn rd rm : RegNum) (s : State) :
    exec (.swp cc rn rd rm) s =
      whenPasses cc s fun t => swap (swapType t.ctlU .wload) (swapType t.ctlU .wstore) 4 rn rd rm t := by
  have form (t : State) : (if t.ctlU then swap .wordSync .wordSync 4 rn rd rm t else swap .wload .wstore 4 rn rd rm t) =
      swap (swapType t.ctlU .wload) (swapType t.ctlU .wstore) 4 rn rd rm t := by
    cases t.ctlU <;> rfl
  change execSwp cc rn rd rm s = _
  simp only [execSwp, form]

/-- What a swap leaves alone. -/
theorem exchanged_frame {s : State} (canonical : s.memCanonical) (rd : RegNum) (v b : Word) (l : List Byte) (c : Nat) :
    let t := exchanged s rd v b l c
    RegsBut s t [rd] ∧ t.psrs = s.psrs ∧ t.pc = s.past ∧ CoreMemOnly s t ∧ MemBut s t b l.length :=
  ⟨(regsBut_setReg s rd v).of_regs rfl, rfl, rfl, rfl, memBut_writeBytes canonical rfl⟩

theorem bankReg_exchanged {s : State} {rd : RegNum} (hrd : rd ≠ 15) (v b : Word) (l : List Byte) (c : Nat) :
    (exchanged s rd v b l c).bankReg s.bank rd = v := bankReg_setReg hrd v rfl

/-! ## Exclusive loads -/

section
variable {s : State} (f : s.Flat)
include f

/-- The read of an exclusive load of a byte, halfword or word. -/
theorem State.Flat.exclusiveRead {a : Word} {n : Nat} (o : s.ordinary a n) (pos : 0 < n) (small : n ≠ 8) (m : AccessMode)
    (mva : Word) : exclusiveRead m (flatTo a) mva n s = .ok [laneValue s.eBit (s.mem.readBytes a n)] s := by
  simp [Machine.exclusiveRead, small, f.readPhys o pos, Res.bind]

/-- The two reads of an exclusive load of a doubleword. -/
theorem State.Flat.exclusiveRead_double {a : Word} (o : s.ordinary a 8) (m : AccessMode) (mva : Word) :
    Machine.exclusiveRead m (flatTo a) mva 8 s = .ok [s.wordAt a, s.wordAt (a + 4)] s := by
  have low := f.readPhys (o.mono (show 4 ≤ 8 by omega)) (by omega) m mva
  have high := f.readPhys (a := a + 4) (n := 4) (o.shift (j := 4)) (by omega) m (mva + 4)
  have second : ({ flatTo a with pa := (flatTo a).pa + 4 } : Translated) = flatTo (a + 4) := rfl
  simp only [Machine.exclusiveRead, if_true, low, Res.bind, second, high, State.wordAt_eq]

/-- An exclusive load at an aligned address tags the monitor (20_memory.md R97). -/
theorem State.Flat.loadExclusive {ty : AccessType} {a : Word} {n : Nat} {l : List Word}
    (direct : alignment s.ctlU s.ctlA ty (fld a 0 3) = .direct)
    (read : ∀ m mva x, Machine.exclusiveRead m (flatTo a) mva n { s with monitor := x } = .ok l { s with monitor := x }) :
    loadExclusive ty n a s = .ok l { s with monitor := .exclusive a n } := by
  have tagged := read (plainMode s false) (fcse s a) (.exclusive a n)
  simp only [Machine.loadExclusive, f.alignAccess direct, Res.bind, watchAccess_off f.watch, f.dataTranslate (.inl rfl)]
  exact tagged

end

/-- The state after an exclusive load of a list of registers. -/
def Tagged (s t : State) (a : Word) (n : Nat) (l : List RegNum) : Prop :=
  RegsBut s t l ∧ t = { s with regs := t.regs, pc := s.past, monitor := .exclusive a n }

theorem tagged_advance {s u : State} {a : Word} {n : Nat} {l : List RegNum} (regs : RegsBut s u l)
    (e : u = { s with regs := u.regs, monitor := .exclusive a n }) : Tagged s u.advance a n l := by
  refine ⟨regs.of_regs (by rw [State.advance_eq]), ?_⟩
  rw [State.advance_eq, e]
  rfl

/-- An exclusive load of a byte, halfword or word. -/
theorem exclusiveLoad_single {s : State} {ty : AccessType} {n : Nat} {rn rd : RegNum} {v : Word} (hrd : rd ≠ 15) (small : n ≠ 8)
    (load : loadExclusive ty n (s.reg rn) s = .ok [v] { s with monitor := .exclusive (s.reg rn) n }) :
    ∃ t, exclusiveLoad ty n rn rd s = .ok () t ∧ t.bankReg s.bank rd = v ∧ Tagged s t (s.reg rn) n [rd] := by
  have well : ¬ (rd = 15 ∨ (n = 8 ∧ (bitAt rd 0 ∨ rd = 14))) := by
    rintro (h | ⟨h, -⟩)
    · exact hrd h
    · exact small h
  refine ⟨(({ s with monitor := .exclusive (s.reg rn) n } : State).setReg rd v).advance, ?_, ?_, tagged_advance ?_ ?_⟩
  · simp only [exclusiveLoad, if_neg well, load, Res.bind, writeExclusive]
  · rw [bankReg_advance]
    exact bankReg_setReg hrd v rfl
  · exact regsBut_setReg ({ s with monitor := .exclusive (s.reg rn) n }) rd v
  · rw [State.setReg_eq]

/-- An exclusive load of a doubleword. -/
theorem exclusiveLoad_double {s : State} {ty : AccessType} {rn rd : RegNum} {v w : Word} (hrd : rd ≠ 15) (even : bitAt rd 0 = false)
    (low : rd ≠ 14) (load : loadExclusive ty 8 (s.reg rn) s = .ok [v, w] { s with monitor := .exclusive (s.reg rn) 8 }) :
    ∃ t, exclusiveLoad ty 8 rn rd s = .ok () t ∧ t.bankReg s.bank rd = v ∧ t.bankReg s.bank (rd + 1) = w ∧
      Tagged s t (s.reg rn) 8 [rd, rd + 1] := by
  have well : ¬ (rd = 15 ∨ (8 = 8 ∧ (bitAt rd 0 ∨ rd = 14))) := by
    rintro (h | ⟨-, h | h⟩)
    · exact hrd h
    · simp [even] at h
    · exact low h
  have next : rd + 1 ≠ 15 := fun e => low (by rw [← BitVec.add_sub_cancel rd 1, e]; rfl)
  have apart : rd ≠ rd + 1 := fun e => absurd (BitVec.self_eq_add_right.1 e) (by decide)
  let u : State := { s with monitor := .exclusive (s.reg rn) 8 }
  have bank : (u.setReg rd v).bank = u.bank := bank_setReg ..
  refine ⟨((u.setReg rd v).setReg (rd + 1) w).advance, ?_, ?_, ?_, tagged_advance ?_ ?_⟩
  · rw [exclusiveLoad, if_neg well, load]
    rfl
  · rw [bankReg_advance]
    exact (bankReg_setReg_other hrd apart w bank).trans (bankReg_setReg hrd v rfl)
  · rw [bankReg_advance]
    exact bankReg_setReg next w bank
  · exact (regsBut_setReg u rd v).setReg bank (rd + 1) w
  · rw [State.setReg_eq, State.setReg_eq u]

/-- Settles O34: the accesses go straight to memory (`State.Flat.readPhys`, `State.Flat.writePhys`), at the address of the word that
holds the byte for SWP (`State.Flat.alignAccess_swap`). -/
theorem swapsAndExclusiveLoads : Obligations.SwapsAndExclusiveLoads := by
  intro s cc rn rd rm pass flat hrd a frame tagged
  have f := (State.flat_iff s).1 flat
  have single {ty : AccessType} {n : Nat} (direct : alignment s.ctlU s.ctlA ty (fld a 0 3) = .direct) (o : s.ordinary a n)
      (pos : 0 < n) (small : n ≠ 8) := exclusiveLoad_single (rn := rn) hrd small
        (f.loadExclusive (l := [laneValue s.eBit (s.mem.readBytes a n)]) direct fun m mva x =>
          (f.tag x).exclusiveRead o pos small m mva)
  refine ⟨fun fits o => ?_, fun o => ?_, fun al o => ?_, fun o => ?_, fun al o => ?_, fun al o even low => ?_⟩
  · obtain ⟨new, c, run, value⟩ := swap_spec (s := s) (rn := rn) (rm := rm) (lty := swapType s.ctlU .wload)
      (sty := swapType s.ctlU .wstore) (v := s.rotatedWord a) (b := lowest 4 a) hrd
      (fun c m => (f.free c).loadValue_swap fits o m) (fun c m x => (f.free c).storeValue_swap fits o m x)
    have kept := exchanged_frame f.canonical rd (s.rotatedWord a) (lowest 4 a) (laneBytes s.eBit new 4) c
    rw [length_laneBytes _ _ (by omega)] at kept
    refine gives_of_passes pass (exec_swp ..) ⟨_, run, bankReg_exchanged hrd .., fun hrm => ?_, kept⟩
    exact value hrm ▸ wordAt_written f.canonical rfl rfl
  · obtain ⟨new, c, run, value⟩ := swap_spec (s := s) (rn := rn) (rm := rm) (lty := .byte) (sty := .byte)
      (v := (s.byteAt a).setWidth 32) (b := a) hrd
      (fun c m => (f.free c).loadValue_byte o m) (fun c m x => (f.free c).storeValue_byte o m x)
    have kept := exchanged_frame f.canonical rd ((s.byteAt a).setWidth 32) a (laneBytes s.eBit new 1) c
    rw [length_laneBytes _ _ (by omega)] at kept
    refine gives_of_passes pass rfl ⟨_, run, bankReg_exchanged hrd .., fun hrm => ?_, kept⟩
    exact value hrm ▸ byteAt_written f.canonical rfl rfl
  · have load := single (alignment_wordSync al ..) o (by omega) (by omega)
    rw [← State.wordAt_eq] at load
    exact gives_of_passes pass rfl load
  · have load := single (ty := .byte) rfl o (by omega) (by omega)
    rw [← State.byteAt_eq, put_zero] at load
    exact gives_of_passes pass rfl load
  · have load := single (alignment_halfSync al ..) o (by omega) (by omega)
    rw [← State.halfAt_eq, put_zero] at load
    exact gives_of_passes pass rfl load
  · refine gives_of_passes pass rfl (exclusiveLoad_double hrd even low ?_)
    exact f.loadExclusive (alignment_doubleSync al ..) fun m mva x => (f.tag x).exclusiveRead_double o m mva

end Sys2Proof.Machine
end

section
/-! Exclusive stores (O35). -/
namespace Sys2Proof.Machine

/-! ## The writes of an exclusive store -/

theorem State.Flat.setMem {s : State} (f : s.Flat) {m : Mem} (wf : m.wf = true) : (s.setMem m).Flat :=
  ⟨f.mmu, f.remap, f.older, f.pid, f.buffer, f.watch, f.endian, wf⟩

section
variable {s : State} (f : s.Flat)
include f

theorem State.Flat.exclusiveWrite_single {a : Word} {n : Nat} (o : s.ordinary a n) (pos : 0 < n) (small : n ≤ 4) (m : AccessMode)
    (mva v : Word) :
    exclusiveWrite m (flatTo a) mva n [v] s = .ok () (s.setMem (s.mem.writeBytes a (laneBytes s.eBit v n))) := by
  have len := length_laneBytes s.eBit v small
  have written := f.writePhys (bytes := laneBytes s.eBit v n) (by rwa [len]) (by rwa [len]) m mva
  simp only [exclusiveWrite, Nat.min_eq_left small, written, Res.bind]

theorem State.Flat.exclusiveWrite_double {a : Word} (o : s.ordinary a 8) (m : AccessMode) (mva v w : Word) :
    exclusiveWrite m (flatTo a) mva 8 [v, w] s =
      .ok () (s.setMem (s.mem.writeBytes a (laneBytes s.eBit v 4 ++ laneBytes s.eBit w 4))) := by
  have four (x : Word) := length_laneBytes s.eBit x (le_refl 4)
  let u := s.setMem (s.mem.writeBytes a (laneBytes s.eBit v 4))
  have fu : u.Flat := f.setMem (Mem.wf_writeBytes _ a f.canonical)
  have first := f.writePhys (bytes := laneBytes s.eBit v 4) (by rw [four]; exact o.mono (by omega)) (by rw [four]; omega) m mva
  have high : u.ordinary (a + 4) 4 := State.ordinary.shift (s := s) (j := 4) o
  have second := fu.writePhys (bytes := laneBytes s.eBit w 4) (by rwa [four]) (by rw [four]; omega) m (mva + 4)
  have next : ({ flatTo a with pa := (flatTo a).pa + 4 } : Translated) = flatTo (a + 4) := rfl
  simp only [exclusiveWrite, show min 8 4 = 4 from rfl, first, Res.bind, next]
  rw [Mem.writeBytes_append, four]
  exact (congrArg (Res.bind · _) second).trans rfl

end

/-! ## The store -/

/-- The state after an exclusive store: whether the monitor held the address and the size decides what Rd and memory hold. -/
def afterExclusive (s : State) (rd : RegNum) (a : Word) (n : Nat) (l : List Byte) (c : Nat) : State :=
  let held := s.monitor = .exclusive a n
  { s with
    regs := (s.setReg rd (if held then 0 else 1)).regs
    pc := s.past
    mem := if held then s.mem.writeBytes a l else s.mem
    freeCtr := c
    monitor := .openAccess }

theorem afterExclusive_eq (s : State) (rd : RegNum) (a : Word) (n : Nat) (l : List Byte) (c : Nat) :
    (({ s with
        freeCtr := c
        mem := if s.monitor = .exclusive a n then s.mem.writeBytes a l else s.mem
        monitor := .openAccess } : State).setReg rd (if s.monitor = .exclusive a n then 0 else 1)).advance =
      afterExclusive s rd a n l c := by
  let u : State :=
    { s with
      freeCtr := c
      mem := if s.monitor = .exclusive a n then s.mem.writeBytes a l else s.mem
      monitor := .openAccess }
  have regs := regs_setReg_congr (s := s) (t := u) rfl rfl rd (if s.monitor = .exclusive a n then 0 else 1)
  rw [State.advance_eq, State.setReg_eq, regs]
  rfl

/-- An exclusive store whose accesses succeed (20_memory.md R97). -/
theorem State.Flat.storeExclusive {s : State} (f : s.Flat) {ty : AccessType} {a : Word} {n : Nat} {l : List Word} {bytes : List Byte}
    (direct : alignment s.ctlU s.ctlA ty (fld a 0 3) = .direct)
    (write : ∀ m mva, exclusiveWrite m (flatTo a) mva n l s = .ok () (s.setMem (s.mem.writeBytes a bytes))) :
    storeExclusive ty n a l s = .ok (decide (s.monitor = .exclusive a n))
      { s with
        mem := if s.monitor = .exclusive a n then s.mem.writeBytes a bytes else s.mem
        monitor := .openAccess } := by
  simp only [Machine.storeExclusive, f.alignAccess direct, Res.bind, watchAccess_off f.watch, f.dataTranslate (.inl rfl),
    drainAll_empty f.buffer, write, partialStore]
  by_cases held : s.monitor = .exclusive a n
  · simp only [flatTo, held, if_true, decide_true]
    rfl
  · simp only [flatTo, held, if_false, decide_false]

/-- Whether a store of `n` bytes names registers that it may name (notes/assumptions/13.md). -/
def storesWell (n : Nat) (rm : RegNum) : Prop := n = 8 → bitAt rm 0 = false ∧ rm ≠ 14

theorem exclusiveStore_spec {s : State} (f : s.Flat) {ty : AccessType} {n : Nat} {rn rd rm : RegNum} {bytes : List Byte}
    (hrd : rd ≠ 15) (well : storesWell n rm) (direct : alignment s.ctlU s.ctlA ty (fld (s.reg rn) 0 3) = .direct)
    (write : ∀ c m mva, exclusiveWrite m (flatTo (s.reg rn)) mva n (exclusiveValue s n rm) { s with freeCtr := c } =
      .ok () { s with freeCtr := c, mem := s.mem.writeBytes (s.reg rn) bytes }) :
    ∃ c, exclusiveStore ty n rn rd rm s = .ok () (afterExclusive s rd (s.reg rn) n bytes c) := by
  have form : ¬ (rd = 15 ∨ (n = 8 ∧ (bitAt rm 0 ∨ rm = 14))) := by
    rintro (h | ⟨eight, h | h⟩)
    · exact hrd h
    · simp [(well eight).1] at h
    · exact (well eight).2 h
  have drawn : ∃ c, (if n ≠ 8 ∧ rm = 15 then s.drawWord.2 else s) = { s with freeCtr := c } := by
    split
    · exact ⟨_, rfl⟩
    · exact ⟨_, rfl⟩
  obtain ⟨c, drawn⟩ := drawn
  refine ⟨c, ?_⟩
  have stored := (f.free c).storeExclusive direct (write c)
  rw [exclusiveStore, if_neg form]
  dsimp only
  rw [drawn]
  refine (congrArg (Res.bind · _) stored).trans ?_
  simp only [Res.bind, decide_eq_true_eq]
  exact congrArg (Res.ok ()) (afterExclusive_eq s rd (s.reg rn) n bytes c)

/-- What an exclusive store changes, given what the bytes stored mean. -/
theorem afterExclusive_spec {s : State} (canonical : s.memCanonical) {rd : RegNum} (hrd : rd ≠ 15) {a : Word} {n : Nat}
    {l : List Byte} (len : l.length = n) (c : Nat) {held : State → Prop} {p : Prop}
    (means : p → ∀ t : State, t.psrs = s.psrs → t.mem = s.mem.writeBytes a l → held t) :
    let t := afterExclusive s rd a n l c
    RegsBut s t [rd] ∧
      t = { s with regs := t.regs, pc := s.past, mem := t.mem, freeCtr := t.freeCtr, monitor := .openAccess } ∧
      if s.monitor = .exclusive a n then t.bankReg s.bank rd = 0 ∧ MemBut s t a n ∧ (p → held t)
      else t.bankReg s.bank rd = 1 ∧ t.mem = s.mem := by
  subst len
  have answer : (afterExclusive s rd a l.length l c).bankReg s.bank rd = if s.monitor = .exclusive a l.length then 0 else 1 :=
    bankReg_setReg hrd _ rfl
  refine ⟨(regsBut_setReg s rd _).of_regs rfl, rfl, ?_⟩
  rw [answer]
  by_cases matched : s.monitor = .exclusive a l.length
  · have mem : (afterExclusive s rd a l.length l c).mem = s.mem.writeBytes a l := if_pos matched
    rw [if_pos matched, if_pos matched]
    exact ⟨rfl, memBut_writeBytes canonical mem, fun hp => means hp _ rfl mem⟩
  · rw [if_neg matched, if_neg matched]
    exact ⟨rfl, if_neg matched⟩

/-- The two words of a doubleword that has been stored. -/
theorem words_written {s t : State} {a v w : Word} (canonical : s.memCanonical) (psrs : t.psrs = s.psrs)
    (e : t.mem = s.mem.writeBytes a (laneBytes s.eBit v 4 ++ laneBytes s.eBit w 4)) : t.wordAt a = v ∧ t.wordAt (a + 4) = w := by
  have four (x : Word) := length_laneBytes s.eBit x (le_refl 4)
  have read := Mem.readBytes_writeBytes (laneBytes s.eBit v 4 ++ laneBytes s.eBit w 4) a canonical (by simp [four])
  rw [← e, List.length_append, four, four, Mem.readBytes_append] at read
  obtain ⟨low, high⟩ := List.append_inj read (by rw [Mem.length_readBytes, four])
  constructor
  · rw [State.wordAt_eq, State.eBit_congr psrs, low, laneValue_laneBytes_word]
  · rw [State.wordAt_eq, State.eBit_congr psrs]
    exact (congrArg _ high).trans (laneValue_laneBytes_word ..)

theorem exclusiveValue_single {n : Nat} (small : n ≠ 8) (rm : RegNum) (s : State) :
    ∃ v, exclusiveValue s n rm = [v] ∧ (rm ≠ 15 → v = s.reg rm) := by
  rw [exclusiveValue, if_neg small]
  by_cases h : rm = 15
  · exact ⟨_, if_pos h, fun k => absurd h k⟩
  · exact ⟨_, if_neg h, fun _ => rfl⟩

/-- Settles O35: the monitor decides (`State.Flat.storeExclusive`), and the writes go straight to memory. -/
theorem exclusiveStores : Obligations.ExclusiveStores := by
  intro s cc rn rd rm pass flat hrd a after
  have f := (State.flat_iff s).1 flat
  have single {i : Instr} {ty : AccessType} {n : Nat} {held : State → Prop} (pos : 0 < n) (small : n ≤ 4)
      (e : exec i s = whenPasses cc s fun s => exclusiveStore ty n rn rd rm s)
      (direct : alignment s.ctlU s.ctlA ty (fld a 0 3) = .direct)
      (means : ∀ t : State, t.psrs = s.psrs → t.mem = s.mem.writeBytes a (laneBytes s.eBit (s.reg rm) n) → held t) :
      after i n held := fun o => by
    have ne : n ≠ 8 := by omega
    obtain ⟨v, value, plain⟩ := exclusiveValue_single ne rm s
    obtain ⟨c, run⟩ := exclusiveStore_spec (bytes := laneBytes s.eBit v n) f hrd (fun h => absurd h ne) direct fun c m mva => by
      rw [value]
      exact (f.free c).exclusiveWrite_single o pos small m mva v
    refine gives_of_passes pass e ⟨_, run, afterExclusive_spec f.canonical hrd (length_laneBytes _ _ small) c fun hp => ?_⟩
    rw [plain hp]
    exact means
  refine ⟨fun al => ?_, ?_, fun al => ?_, fun al even low o => ?_, ?_⟩
  · exact single (by omega) (by omega) rfl (alignment_wordSync al ..) fun _ => wordAt_written f.canonical
  · exact single (by omega) (by omega) rfl (alignment_byte ..) fun _ => byteAt_written f.canonical
  · exact single (by omega) (by omega) rfl (alignment_halfSync al ..) fun _ => halfAt_written f.canonical
  · obtain ⟨c, run⟩ := exclusiveStore_spec (bytes := laneBytes s.eBit (s.reg rm) 4 ++ laneBytes s.eBit (s.reg (rm + 1)) 4) f hrd
      (fun _ => ⟨even, low⟩) (alignment_doubleSync al ..) fun c m mva => (f.free c).exclusiveWrite_double o m mva _ _
    refine gives_of_passes pass rfl ⟨_, run, afterExclusive_spec f.canonical hrd ?_ c fun _ _ => words_written f.canonical⟩
    rw [List.length_append, length_laneBytes _ _ (le_refl 4), length_laneBytes _ _ (le_refl 4)]
  · change finish (.ok () { s with monitor := .openAccess }.advance) = _
    rw [State.advance_eq]
    rfl

end Sys2Proof.Machine
end

section
/-! SUPPORT. Translations with the MMU on: the table walk, the entry and its checks. -/
namespace Sys2Proof.Machine

/-! ## Masks and fields -/

/-- A word without its lowest bits, as a mask gives it. -/
theorem clearLow_eq_and (w : Word) (n : Nat) : clearLow w n = w &&& (BitVec.allOnes 32 <<< n) := by
  refine BitVec.eq_of_getLsbD_eq fun i hi => ?_
  rw [getLsbD_clearLow w n hi, BitVec.getLsbD_and, BitVec.getLsbD_shiftLeft, BitVec.getLsbD_allOnes]
  by_cases low : n ≤ i
  · simp [low, hi, show ¬ i < n by omega, show i - n < 32 by omega]
  · simp [low, show i < n by omega]

/-- The twelve highest bits of an address, as the index of a first-level descriptor. -/
theorem put_fld_index (mva : Word) : put (fld mva 20 12) 2 = (mva >>> 20) <<< 2 := by
  refine BitVec.eq_of_getLsbD_eq fun i hi => ?_
  by_cases low : i < 2
  · simp [put, low]
  · have field : ((fld mva 20 12).setWidth 32 : Word).getLsbD (i - 2) = (mva >>> 20).getLsbD (i - 2) := by
      by_cases within : i - 2 < 12
      · simp only [fld, BitVec.getLsbD_setWidth, BitVec.getLsbD_extractLsb', BitVec.getLsbD_ushiftRight, within,
          show i - 2 < 32 by omega]
        simp
      · simp only [fld, BitVec.getLsbD_setWidth, BitVec.getLsbD_extractLsb', BitVec.getLsbD_ushiftRight, within,
          BitVec.getLsbD_of_ge mva (20 + (i - 2)) (by omega)]
        simp
    simp only [put, BitVec.getLsbD_shiftLeft, hi, low, field]

/-! ## The table walk -/

theorem State.walkWord_eq (s : State) (a : Word) : s.walkWord a = laneValue s.ctlEe (s.mem.readBytes a 4) := by
  unfold State.walkWord laneValue
  simp only [Mem.readBytes, BitVec.add_assoc]
  cases s.ctlEe <;> simp [littleEndian_four, State.byteAt]

/-- The walk reads ordinary memory (20_memory.md R43, R70). -/
theorem physWord_ordinary {s : State} {a : Word} (o : s.ordinary a 4) : physWord a s = (.ok (s.walkWord a), s) := by
  simp [physWord, inRegion_of_ordinary o, busErrorIn_of_ordinary o, State.walkWord_eq]

/-- The first-level descriptor of an address with N = 0 (20_memory.md R71). -/
def descriptorAddress (s : State) (mva : Word) : Word := (s.cp15.ttbr0 &&& 0xFFFFC000) ||| (mva >>> 20) <<< 2

theorem firstLevelAddress_zero {s : State} (h : fld s.cp15.ttbcr 0 3 = 0#3) (mva : Word) :
    firstLevelAddress s mva = descriptorAddress s mva := by
  have base := clearLow_eq_and s.cp15.ttbr0 14
  simp only [clearLow] at base
  simp [firstLevelAddress, h, base, put_fld_index, descriptorAddress]

section
variable {s : State} {mva : Word} {k : TlbControls} (n : fld s.cp15.ttbcr 0 3 = 0#3) (o : s.ordinary (descriptorAddress s mva) 4)
include n o

/-- A first-level descriptor that is neither of a section nor of a table faults (20_memory.md R72, R83). -/
theorem walk_fault {l1 : Word} (d : s.walkWord (descriptorAddress s mva) = l1) (h : fld l1 0 2 = 0#2 ∨ fld l1 0 2 = 3#2) :
    walk k mva s = (.error (.fault ⟨0b00101, none, none⟩), s) := by
  unfold walk
  rw [firstLevelAddress_zero n, physWord_ordinary o, d]
  rcases h with h | h <;> simp [h, statusTranslation]

theorem walk_section {l1 : Word} (d : s.walkWord (descriptorAddress s mva) = l1) (h : fld l1 0 2 = 2#2) :
    walk k mva s = (.ok (sectionEntry k s mva l1), s) := by
  unfold walk
  rw [firstLevelAddress_zero n, physWord_ordinary o, d]
  simp [h]

/-- The second-level descriptor of an address (20_memory.md R73). -/
def pageDescriptorAddress (l1 mva : Word) : Word := (l1 &&& 0xFFFFFC00) ||| put (fld mva 12 8 : BitVec 8) 2

omit n o in
theorem pageDescriptorAddress_eq (l1 mva : Word) : clearLow l1 10 ||| put (fld mva 12 8) 2 = pageDescriptorAddress l1 mva := by
  rw [clearLow_eq_and]
  rfl

theorem walk_page_fault {l1 l2 : Word} (d : s.walkWord (descriptorAddress s mva) = l1) (h : fld l1 0 2 = 1#2)
    (o2 : s.ordinary (pageDescriptorAddress l1 mva) 4) (d2 : s.walkWord (pageDescriptorAddress l1 mva) = l2) (h2 : fld l2 0 2 = 0#2) :
    walk k mva s = (.error (.fault ⟨0b00111, some (fld l1 5 4), none⟩), s) := by
  unfold walk
  rw [firstLevelAddress_zero n, physWord_ordinary o, d]
  simp [h, pageDescriptorAddress_eq, physWord_ordinary o2, d2, h2, statusTranslation]

theorem walk_page {l1 l2 : Word} (d : s.walkWord (descriptorAddress s mva) = l1) (h : fld l1 0 2 = 1#2)
    (o2 : s.ordinary (pageDescriptorAddress l1 mva) 4) (d2 : s.walkWord (pageDescriptorAddress l1 mva) = l2) (h2 : fld l2 0 2 ≠ 0#2) :
    walk k mva s = (.ok (pageEntry k s mva (fld l1 5 4) l2), s) := by
  unfold walk
  rw [firstLevelAddress_zero n, physWord_ordinary o, d]
  simp [h, pageDescriptorAddress_eq, physWord_ordinary o2, d2, h2]

end

/-! ## The entry and its checks -/

/-- The Domain Access Control Register's field of a domain (20_memory.md R54). -/
def domainAccess (s : State) (domain : BitVec 4) : BitVec 2 := fld s.cp15.dacr (2 * domain.toNat) 2

/-- What an entry makes of an aligned access: the domain check, the attributes, the checks of a client (20_memory.md R54, R55,
R82). -/
def entryResult (s : State) (p : Purpose) (user : Bool) (mva : Word) (e : TlbEntry) : Except MmuStop Translated :=
  let access := domainAccess s e.domain
  if !bitAt access 0 then .error (.fault ⟨statusDomain (entryPage e), some e.domain, none⟩)
  else match entryAttr s.tlbControls e with
    | .error r => .error (.refused r)
    | .ok a => checkEntry p user true (access == 1#2) s.ctlU s.ctlXp mva e a

/-- The MMU is on, the controls are settled, and no Access Bit fault is in force. -/
structure State.Translating (s : State) : Prop where
  mmu : s.ctlM = true
  older : s.remapOld = []
  remap : s.ctlTexRemap = false
  forceAp : s.ctlXp = false ∨ s.ctlForceAp = false

theorem tlbFill_cp15 (e : TlbEntry) (s : State) : (tlbFill e s).cp15 = s.cp15 := by
  unfold tlbFill
  split
  · rfl
  · split <;> rfl

theorem accessBitClear_false {s : State} (h : s.Translating) (e : TlbEntry) : accessBitClear s.tlbControls e = false := by
  rcases h.forceAp with h | h <;> simp [accessBitClear, State.tlbControls, h]

/-- What `translate` does with the entry that it is given. -/
theorem translate_of_entry {s t : State} (h : s.Translating) {p : Purpose} {user : Bool} {mva : Word} {e : TlbEntry}
    (entry : tlbEntryFor s.tlbControls mva s = (.ok e, t)) (kept : t.cp15 = s.cp15) :
    translate p user true mva s = (entryResult s p user mva e, t) := by
  have u : t.ctlU = s.ctlU := by rw [State.ctlU, kept]; rfl
  have access : fld t.cp15.dacr (2 * e.domain.toNat) 2 = domainAccess s e.domain := by rw [kept]; rfl
  simp only [translate, h.mmu, drawControls_settled h.older, entry, if_true, accessBitClear_false h, Bool.false_eq_true, if_false,
    entryResult, access, u]
  by_cases closed : (!bitAt (domainAccess s e.domain) 0) = true
  · rw [if_pos closed, if_pos closed]
  · rw [if_neg closed, if_neg closed]
    cases entryAttr s.tlbControls e <;> rfl

section
variable {s : State} (h : s.Translating) {p : Purpose} {user : Bool} {mva : Word}
include h

/-- A translation by a walk that finds an entry. -/
theorem translate_of_walk {e : TlbEntry} (miss : tlbLookup s.ctlXp s mva = []) (found : walk s.tlbControls mva s = (.ok e, s)) :
    (translate p user true mva s).1 = entryResult s p user mva e := by
  have miss : tlbLookup s.tlbControls.xp s mva = [] := miss
  have entry : tlbEntryFor s.tlbControls mva s = (.ok e, tlbFill e s) := by
    simp only [tlbEntryFor, miss, found, accessBitClear_false h, Bool.false_eq_true, if_false]
  rw [translate_of_entry h entry (tlbFill_cp15 e s)]

/-- A translation by a walk that faults. -/
theorem translate_of_walk_error {x : MmuStop} (miss : tlbLookup s.ctlXp s mva = [])
    (found : walk s.tlbControls mva s = (.error x, s)) : (translate p user true mva s).1 = .error x := by
  have miss : tlbLookup s.tlbControls.xp s mva = [] := miss
  have entry : tlbEntryFor s.tlbControls mva s = (.error x, s) := by simp only [tlbEntryFor, miss, found]
  simp only [translate, h.mmu, drawControls_settled h.older, entry, if_true]

/-- A translation by the one entry of the TLB that matches. -/
theorem translate_of_hit {e : TlbEntry} (hit : tlbLookup s.ctlXp s mva = [e]) :
    translate p user true mva s = (entryResult s p user mva e, s) := by
  have hit : tlbLookup s.tlbControls.xp s mva = [e] := hit
  refine translate_of_entry h ?_ rfl
  simp only [tlbEntryFor, hit, drawEntry]

/-- The attributes of a type field 0 (20_memory.md R61). -/
theorem entryAttr_zero {e : TlbEntry} (tex : e.tex = 0) : ∃ a, entryAttr s.tlbControls e = .ok a := by
  have plain : entryAttr s.tlbControls e = plainAttr e.tex e.c e.b (s.ctlXp && e.s) := by
    simp [entryAttr, State.tlbControls, h.remap]
  rw [plain, tex]
  cases e.c <;> cases e.b <;> exact ⟨_, rfl⟩

end

section
variable {s : State} {p : Purpose} {user : Bool} {mva : Word}

/-- No access, and the reserved value of the domain (20_memory.md R54). -/
theorem entryResult_no_access {e : TlbEntry} (d : domainAccess s e.domain = 0 ∨ domainAccess s e.domain = 2) :
    entryResult s p user mva e = .error (.fault ⟨statusDomain (entryPage e), some e.domain, none⟩) := by
  rcases d with d | d <;> simp [entryResult, d, bitAt]

/-- A manager's access is granted (20_memory.md R54). -/
theorem entryResult_manager {e : TlbEntry} {a : MemAttr} (d : domainAccess s e.domain = 3#2)
    (attr : entryAttr s.tlbControls e = .ok a) : entryResult s p user mva e = .ok ⟨entryPa e mva, a, some e.domain⟩ := by
  simp [entryResult, d, bitAt, attr, checkEntry]

/-- What a client may do: read, write (20_memory.md R55). -/
def clientMay (apx : Bool) (ap : BitVec 2) (user : Bool) : Bool × Bool :=
  ((!user && ap != 0) || (user && (ap == 2 || ap == 3)), !apx && ((!user && ap != 0) || (user && ap == 3)))

theorem permission_client {apx : Bool} {ap : BitVec 2} (known : ¬ (apx = true ∧ ap = 0)) :
    permission false false apx ap user = some (clientMay apx ap user) := by
  revert known
  revert apx ap user
  decide

/-- What a client is granted for a purpose. -/
def clientGranted (p : Purpose) (may : Bool × Bool) (xn : Bool) : Bool :=
  match p with
  | .read => may.1
  | .write => may.2
  | .fetch => may.1 && !xn

/-- Of a client the permission bits decide (20_memory.md R55). -/
theorem entryResult_client {e : TlbEntry} {a : MemAttr} (d : domainAccess s e.domain = 1#2)
    (attr : entryAttr s.tlbControls e = .ok a) (sb : e.sBit = false) (rb : e.rBit = false)
    (known : ¬ ((s.ctlXp && e.apx) = true ∧ entryAp s.ctlXp e mva = 0)) :
    entryResult s p user mva e =
      if clientGranted p (clientMay (s.ctlXp && e.apx) (entryAp s.ctlXp e mva) user) (s.ctlXp && e.xn)
      then .ok ⟨entryPa e mva, a, some e.domain⟩
      else .error (.fault ⟨statusPermission (entryPage e), some e.domain, none⟩) := by
  have client : bitAt (1#2) 0 = true := rfl
  simp only [entryResult, d, attr, checkEntry, sb, rb, permission_client known, client, Bool.not_true, Bool.and_false,
    Bool.false_eq_true, if_false, BEq.rfl, if_true]
  cases p <;> rfl

end

end Sys2Proof.Machine
end

section
/-! SUPPORT. What the descriptors of sections and pages give. -/
namespace Sys2Proof.Machine

/-! ## Sections and supersections -/

theorem entryPa_eq (e : TlbEntry) (mva : Word) {d base low : Word} {n : Nat} (pa : e.paBase = clearLow d n) (size : e.log2Size = n)
    (hb : BitVec.allOnes 32 <<< n = base) (hl : BitVec.allOnes 32 >>> (32 - n) = low) :
    entryPa e mva = (d &&& base) ||| (mva &&& low) := by
  rw [entryPa, pa, size, clearLow_eq_and, hb, hl]

section
variable {k : TlbControls} {s : State} {mva l1 : Word}

theorem sectionEntry_plain (h : bitAt l1 18 = false) :
    (sectionEntry k s mva l1).domain = fld l1 5 4 ∧ entryPage (sectionEntry k s mva l1) = false ∧
      entryPa (sectionEntry k s mva l1) mva = (l1 &&& 0xFFF00000) ||| (mva &&& 0x000FFFFF) := by
  have size : (sectionEntry k s mva l1).log2Size = 20 := by simp [sectionEntry, h]
  have base : (sectionEntry k s mva l1).paBase = clearLow l1 20 := by simp [sectionEntry, h]
  exact ⟨by simp [sectionEntry, h], by simp [entryPage, size], entryPa_eq _ mva base size rfl rfl⟩

theorem sectionEntry_super (h : bitAt l1 18 = true) :
    (sectionEntry k s mva l1).domain = 0 ∧
      entryPa (sectionEntry k s mva l1) mva = (l1 &&& 0xFF000000) ||| (mva &&& 0x00FFFFFF) := by
  have size : (sectionEntry k s mva l1).log2Size = 24 := by simp [sectionEntry, h]
  have base : (sectionEntry k s mva l1).paBase = clearLow l1 24 := by simp [sectionEntry, h]
  exact ⟨by simp [sectionEntry, h], entryPa_eq _ mva base size rfl rfl⟩

/-- A section has one permission pair (20_memory.md R75). -/
theorem entryAp_section (xp : Bool) : entryAp xp (sectionEntry k s mva l1) mva = fld l1 10 2 := by simp [entryAp, sectionEntry]

end

/-! ## Pages -/

/-- A second-level descriptor is of a large page (20_memory.md R74). -/
def largePage (l2 : Word) : Bool := fld l2 0 2 == 1#2

/-- The address bits that name the subpage, and its number (20_memory.md R77). -/
def subpageField (l2 mva : Word) : BitVec 2 := if largePage l2 then fld mva 14 2 else fld mva 10 2
def subpageOf (l2 mva : Word) : Nat := if largePage l2 then (fld mva 14 2 : BitVec 2).toNat else (fld mva 10 2 : BitVec 2).toNat

theorem subpageOf_eq (l2 mva : Word) : subpageOf l2 mva = (subpageField l2 mva).toNat := by
  unfold subpageOf subpageField
  split <;> rfl

/-- The permission pair of a page: of the subpage with XP = 0, but for an extended small page (20_memory.md R74, R77). -/
def pageAp (xp : Bool) (l2 mva : Word) : BitVec 2 :=
  if xp || fld l2 0 2 == 3#2 then fld l2 4 2 else fld l2 (4 + 2 * subpageOf l2 mva) 2

/-- The physical address of a page and the offset in it (20_memory.md R76). -/
def pagePa (l2 mva : Word) : Word :=
  if largePage l2 then (l2 &&& 0xFFFF0000) ||| (mva &&& 0x0000FFFF) else (l2 &&& 0xFFFFF000) ||| (mva &&& 0x00000FFF)

/-- The type field of a page (20_memory.md R61, R74). -/
def pageTex (xp : Bool) (l2 : Word) : BitVec 3 :=
  if largePage l2 then fld l2 12 3 else if xp || fld l2 0 2 == 3#2 then fld l2 6 3 else 0

theorem two_bits (q : BitVec 2) : q = 0 ∨ q = 1 ∨ q = 2 ∨ q = 3 := by
  revert q
  decide

section
variable {k : TlbControls} {s : State} {mva l2 : Word} {domain : BitVec 4}

theorem pageEntry_size : (pageEntry k s mva domain l2).log2Size = if largePage l2 then 16 else 12 := rfl

theorem pageEntry_page : entryPage (pageEntry k s mva domain l2) = true := by
  rw [entryPage, pageEntry_size]
  cases largePage l2 <;> rfl

theorem pageEntry_pa : entryPa (pageEntry k s mva domain l2) mva = pagePa l2 mva := by
  have size := pageEntry_size (k := k) (s := s) (mva := mva) (l2 := l2) (domain := domain)
  have base : (pageEntry k s mva domain l2).paBase = clearLow l2 (if largePage l2 then 16 else 12) := rfl
  unfold pagePa
  cases h : largePage l2
  · rw [h] at size base
    exact entryPa_eq _ mva base size rfl rfl
  · rw [h] at size base
    exact entryPa_eq _ mva base size rfl rfl

theorem pageEntry_tex (present : fld l2 0 2 ≠ 0#2) : (pageEntry k s mva domain l2).tex = pageTex k.xp l2 := by
  have tex : (pageEntry k s mva domain l2).tex =
      if largePage l2 then fld l2 12 3 else if !k.xp && fld l2 0 2 == 2#2 then 0 else fld l2 6 3 := rfl
  rw [tex, pageTex]
  cases large : largePage l2 with
  | true => rfl
  | false =>
    have kind := two_bits (fld l2 0 2)
    have small : fld l2 0 2 ≠ 1#2 := fun h => by simp [largePage, h] at large
    have kind : fld l2 0 2 = 2#2 ∨ fld l2 0 2 = 3#2 := by
      rcases kind with h | h | h | h
      · exact absurd h present
      · exact absurd h small
      · exact .inl h
      · exact .inr h
    rcases kind with h | h <;> cases k.xp <;> simp [h]

/-- The permission pair that a page gives an access. -/
theorem entryAp_page : entryAp k.xp (pageEntry k s mva domain l2) mva = pageAp k.xp l2 mva := by
  have address : (if (pageEntry k s mva domain l2).log2Size = 16 then fld mva 14 2 else fld mva 10 2) = subpageField l2 mva := by
    rw [pageEntry_size, subpageField]
    cases largePage l2 <;> rfl
  unfold entryAp
  rw [address, pageAp, subpageOf_eq]
  by_cases whole : (k.xp || fld l2 0 2 == 3#2) = true
  · have one : (pageEntry k s mva domain l2).spv = false := by
      rcases Bool.or_eq_true_iff.1 whole with h | h <;> simp_all [pageEntry]
    rw [one, if_pos whole]
    rfl
  · rw [if_neg whole]
    obtain ⟨xp, ext⟩ : k.xp = false ∧ (fld l2 0 2 != 3#2) = true := by simpa using whole
    cases subpages : (pageEntry k s mva domain l2).spv with
    | true =>
      have pairs := subpages
      rcases two_bits (subpageField l2 mva) with q | q | q | q
      all_goals simp [pageEntry, xp, ext] at pairs
      all_goals simp [q, xp, pageEntry, ext, pairs]
    | false =>
      have equal : fld l2 4 2 = fld l2 6 2 ∧ fld l2 6 2 = fld l2 8 2 ∧ fld l2 8 2 = fld l2 10 2 := by
        simpa [pageEntry, xp, ext, and_assoc] using subpages
      obtain ⟨e1, e2, e3⟩ := equal
      rcases two_bits (subpageField l2 mva) with q | q | q | q
      all_goals simp [q, pageEntry, e1, e2, e3]

theorem pageEntry_apx : (k.xp && (pageEntry k s mva domain l2).apx) = (k.xp && bitAt l2 9) := by
  cases h : k.xp <;> simp [pageEntry, h]

theorem pageEntry_xn : (k.xp && (pageEntry k s mva domain l2).xn) = (k.xp && bitAt l2 (if largePage l2 then 15 else 0)) := by
  cases h : k.xp <;> cases l : largePage l2 <;> simp_all [pageEntry, largePage]

end

end Sys2Proof.Machine
end

section
/-! SUPPORT. Translations by sections and pages. -/
namespace Sys2Proof.Machine

/-! ## Sections -/

section
variable {s : State} {p : Purpose} {user : Bool} {mva l1 : Word} (plain : bitAt l1 18 = false)
include plain

theorem entryResult_section_closed (closed : domainAccess s (fld l1 5 4) = 0 ∨ domainAccess s (fld l1 5 4) = 2) :
    entryResult s p user mva (sectionEntry s.tlbControls s mva l1) = .error (.fault ⟨0b01001, some (fld l1 5 4), none⟩) := by
  obtain ⟨dom, page, -⟩ := sectionEntry_plain (k := s.tlbControls) (s := s) (mva := mva) plain
  rw [entryResult_no_access (by rw [dom]; exact closed), dom, page]
  rfl

variable (h : s.Translating) (tex : fld l1 12 3 = 0#3)
include h tex

theorem entryResult_section_manager (manager : domainAccess s (fld l1 5 4) = 3) :
    ∃ a, entryResult s p user mva (sectionEntry s.tlbControls s mva l1) =
      .ok ⟨(l1 &&& 0xFFF00000) ||| (mva &&& 0x000FFFFF), a, some (fld l1 5 4)⟩ := by
  obtain ⟨dom, -, pa⟩ := sectionEntry_plain (k := s.tlbControls) (s := s) (mva := mva) plain
  obtain ⟨a, attr⟩ := entryAttr_zero h (e := sectionEntry s.tlbControls s mva l1) tex
  exact ⟨a, by rw [entryResult_manager (by rw [dom]; exact manager) attr, dom, pa]⟩

/-- A client's access to a section with XP = 1 (20_memory.md R55, R75). -/
theorem entryResult_section_client (client : domainAccess s (fld l1 5 4) = 1) (xp : s.ctlXp = true) (sb : s.ctlS = false)
    (rb : s.ctlR = false) (known : ¬ (bitAt l1 15 = true ∧ fld l1 10 2 = 0#2)) :
    ∃ a, entryResult s p user mva (sectionEntry s.tlbControls s mva l1) =
      if clientGranted p (clientMay (bitAt l1 15) (fld l1 10 2) user) (bitAt l1 4)
      then .ok ⟨(l1 &&& 0xFFF00000) ||| (mva &&& 0x000FFFFF), a, some (fld l1 5 4)⟩
      else .error (.fault ⟨0b01101, some (fld l1 5 4), none⟩) := by
  obtain ⟨dom, page, pa⟩ := sectionEntry_plain (k := s.tlbControls) (s := s) (mva := mva) plain
  obtain ⟨a, attr⟩ := entryAttr_zero h (e := sectionEntry s.tlbControls s mva l1) tex
  have apx : (s.ctlXp && (sectionEntry s.tlbControls s mva l1).apx) = bitAt l1 15 := by
    simp [sectionEntry, State.tlbControls, xp]
  have xn : (s.ctlXp && (sectionEntry s.tlbControls s mva l1).xn) = bitAt l1 4 := by
    simp [sectionEntry, State.tlbControls, xp]
  refine ⟨a, ?_⟩
  rw [entryResult_client (by rw [dom]; exact client) attr sb rb (by rw [apx, entryAp_section]; exact known), apx, xn,
    entryAp_section, dom, page, pa]
  rfl

end

theorem entryResult_supersection_manager {s : State} {p : Purpose} {user : Bool} {mva l1 : Word} (super : bitAt l1 18 = true)
    (h : s.Translating) (tex : fld l1 12 3 = 0#3) (manager : fld s.cp15.dacr 0 2 = 3#2) :
    ∃ a, entryResult s p user mva (sectionEntry s.tlbControls s mva l1) =
      .ok ⟨(l1 &&& 0xFF000000) ||| (mva &&& 0x00FFFFFF), a, some 0⟩ := by
  obtain ⟨dom, pa⟩ := sectionEntry_super (k := s.tlbControls) (s := s) (mva := mva) super
  obtain ⟨a, attr⟩ := entryAttr_zero h (e := sectionEntry s.tlbControls s mva l1) tex
  exact ⟨a, by rw [entryResult_manager (by rw [dom]; exact manager) attr, dom, pa]⟩

/-! ## Pages -/

section
variable {s : State} {p : Purpose} {user : Bool} {mva l2 : Word} {domain : BitVec 4}

theorem entryResult_page_closed (closed : domainAccess s domain = 0 ∨ domainAccess s domain = 2) :
    entryResult s p user mva (pageEntry s.tlbControls s mva domain l2) = .error (.fault ⟨0b01011, some domain, none⟩) := by
  rw [entryResult_no_access (e := pageEntry s.tlbControls s mva domain l2) closed, pageEntry_page]
  rfl

variable (h : s.Translating) (present : fld l2 0 2 ≠ 0#2) (tex : pageTex s.ctlXp l2 = 0)
include h present tex

theorem entryResult_page_manager (manager : domainAccess s domain = 3) :
    ∃ a, entryResult s p user mva (pageEntry s.tlbControls s mva domain l2) = .ok ⟨pagePa l2 mva, a, some domain⟩ := by
  obtain ⟨a, attr⟩ := entryAttr_zero h (e := pageEntry s.tlbControls s mva domain l2) ((pageEntry_tex present).trans tex)
  exact ⟨a, by rw [entryResult_manager (e := pageEntry s.tlbControls s mva domain l2) manager attr, pageEntry_pa]; rfl⟩

/-- A client's access to a page (20_memory.md R55, R77). -/
theorem entryResult_page_client (client : domainAccess s domain = 1) (sb : s.ctlS = false) (rb : s.ctlR = false)
    (known : ¬ ((s.ctlXp && bitAt l2 9) = true ∧ pageAp s.ctlXp l2 mva = 0)) :
    ∃ a, entryResult s p user mva (pageEntry s.tlbControls s mva domain l2) =
      if clientGranted p (clientMay (s.ctlXp && bitAt l2 9) (pageAp s.ctlXp l2 mva) user)
        (s.ctlXp && bitAt l2 (if largePage l2 then 15 else 0))
      then .ok ⟨pagePa l2 mva, a, some domain⟩
      else .error (.fault ⟨0b01111, some domain, none⟩) := by
  obtain ⟨a, attr⟩ := entryAttr_zero h (e := pageEntry s.tlbControls s mva domain l2) ((pageEntry_tex present).trans tex)
  let e := pageEntry s.tlbControls s mva domain l2
  have apx : (s.ctlXp && e.apx) = (s.ctlXp && bitAt l2 9) := pageEntry_apx (k := s.tlbControls)
  have xn : (s.ctlXp && e.xn) = (s.ctlXp && bitAt l2 (if largePage l2 then 15 else 0)) := pageEntry_xn (k := s.tlbControls)
  have ap : entryAp s.ctlXp e mva = pageAp s.ctlXp l2 mva := entryAp_page (k := s.tlbControls)
  have decided := entryResult_client (p := p) (user := user) (e := e) client attr sb rb (by rw [apx, ap]; exact known)
  rw [apx, ap, xn, pageEntry_page, pageEntry_pa] at decided
  exact ⟨a, decided⟩

end

/-! ## Translations -/

section
variable {s : State} (h : s.Translating) {p : Purpose} {user : Bool} {mva l1 : Word} (miss : tlbLookup s.ctlXp s mva = [])
  (n : fld s.cp15.ttbcr 0 3 = 0#3) (o : s.ordinary (descriptorAddress s mva) 4) (d : s.walkWord (descriptorAddress s mva) = l1)
include h miss n o d

theorem translate_section (kind : fld l1 0 2 = 2#2) :
    (translate p user true mva s).1 = entryResult s p user mva (sectionEntry s.tlbControls s mva l1) :=
  translate_of_walk h miss (walk_section n o d kind)

theorem translate_page (kind : fld l1 0 2 = 1#2) (o2 : s.ordinary (pageDescriptorAddress l1 mva) 4) {l2 : Word}
    (d2 : s.walkWord (pageDescriptorAddress l1 mva) = l2) (present : fld l2 0 2 ≠ 0#2) :
    (translate p user true mva s).1 = entryResult s p user mva (pageEntry s.tlbControls s mva (fld l1 5 4) l2) :=
  translate_of_walk h miss (walk_page n o d kind o2 d2 present)

end

/-- A result that the permissions decide, by whether the access is granted. -/
theorem granted_or_denied {r : Except MmuStop Translated} {c : Bool} {t : MemAttr → Translated} {x : MmuStop}
    (e : ∃ a, r = if c then .ok (t a) else .error x) : (c = false → r = .error x) ∧ (c = true → ∃ a, r = .ok (t a)) := by
  obtain ⟨a, e⟩ := e
  exact ⟨fun h => by rw [e, h]; rfl, fun h => ⟨a, by rw [e, h]; rfl⟩⟩

end Sys2Proof.Machine
end

section
/-! SUPPORT. A line of the data cache, and a store through the store buffer. -/
namespace Sys2Proof.Machine

/-! ## The bytes of a line -/

theorem lineByte_eq (l : Line) {j : Nat} (h : j < 32) : l.bytes.getD j 0 = l.bytes[j] := by simp [Vector.getD, h]

theorem Line.get_succ (l : Line) {k : Nat} (h : k < 32) (n : Nat) : l.get k (n + 1) = l.bytes.getD k 0 :: l.get (k + 1) n := by
  have len : k < l.bytes.toList.length := by simpa using h
  rw [Line.get, List.drop_eq_getElem_cons len, List.take_succ_cons, lineByte_eq l h, Vector.getElem_toList]
  rfl

theorem Line.get_four (l : Line) {k : Nat} (h : k + 4 ≤ 32) :
    l.get k 4 = [l.bytes.getD k 0, l.bytes.getD (k + 1) 0, l.bytes.getD (k + 2) 0, l.bytes.getD (k + 3) 0] := by
  rw [Line.get_succ l (by omega), Line.get_succ l (by omega), Line.get_succ l (by omega), Line.get_succ l (by omega)]
  rfl

@[simp] theorem Line.put_tag : ∀ (bs : List Byte) (l : Line) (k : Nat), (l.put k bs).tag = l.tag
  | [], _, _ => rfl
  | _ :: t, _, k => Line.put_tag t _ (k + 1)

/-- Bytes written to a line, byte by byte. -/
theorem Line.getD_put : ∀ (bs : List Byte) (l : Line) {k j : Nat}, k + bs.length ≤ 32 → j < 32 →
    (l.put k bs).bytes.getD j 0 = if k ≤ j ∧ j < k + bs.length then bs.getD (j - k) 0 else l.bytes.getD j 0
  | [], l, k, j, _, _ => by rw [if_neg (by simp)]; rfl
  | b :: t, l, k, j, fits, hj => by
    have fits : k + 1 + t.length ≤ 32 := by simpa [Nat.add_assoc, Nat.add_comm 1] using fits
    have rest := Line.getD_put t { l with bytes := l.bytes.setIfInBounds k b } fits hj
    have here : ({ l with bytes := l.bytes.setIfInBounds k b } : Line).bytes.getD j 0 = if k = j then b else l.bytes.getD j 0 := by
      rw [lineByte_eq _ hj, lineByte_eq _ hj, Vector.getElem_setIfInBounds]
    rw [Line.put, rest, here, List.length_cons]
    by_cases first : k = j
    · subst first
      rw [if_neg (by omega), if_pos rfl, if_pos (by omega), Nat.sub_self]
      rfl
    · by_cases later : k + 1 ≤ j ∧ j < k + 1 + t.length
      · rw [if_pos later, if_pos (by omega), show j - k = j - (k + 1) + 1 by omega]
        rfl
      · rw [if_neg later, if_neg first, if_neg (by omega)]

/-- Bytes written to a line are read again. -/
theorem Line.get_put (l : Line) {bs : List Byte} (four : bs.length = 4) {k : Nat} (fits : k + 4 ≤ 32) : (l.put k bs).get k 4 = bs := by
  have byte {i : Nat} (h : i < 4) : (l.put k bs).bytes.getD (k + i) 0 = bs.getD i 0 := by
    rw [Line.getD_put bs l (by omega) (by omega), if_pos (by omega), Nat.add_sub_cancel_left]
  have first : (l.put k bs).bytes.getD k 0 = bs.getD 0 0 := byte (i := 0) (by omega)
  rw [Line.get_four _ fits, first, byte (by omega), byte (by omega), byte (by omega)]
  obtain ⟨a, b, c, d, rfl⟩ : ∃ a b c d, bs = [a, b, c, d] := List.length_eq_four.1 four
  rfl

/-- The word of a line at an offset, in an endianness. -/
def lineWord (big : Bool) (l : Line) (k : Nat) : Word :=
  if big then l.bytes.getD (k + 0) 0 ++ l.bytes.getD (k + 1) 0 ++ l.bytes.getD (k + 2) 0 ++ l.bytes.getD (k + 3) 0
  else l.bytes.getD (k + 3) 0 ++ l.bytes.getD (k + 2) 0 ++ l.bytes.getD (k + 1) 0 ++ l.bytes.getD (k + 0) 0

theorem lineWord_eq (big : Bool) (l : Line) {k : Nat} (fits : k + 4 ≤ 32) : lineWord big l k = laneValue big (l.get k 4) := by
  rw [Line.get_four l fits]
  cases big <;> simp [lineWord, laneValue, littleEndian_four]

/-! ## The line in the cache -/

theorem find_setLine {tag : BitVec 27} {l' : Line} (same : l'.tag = tag) : ∀ {c : List Line} {l : Line},
    c.find? (fun x => x.tag == tag) = some l →
      (c.map fun x => if x.tag == l'.tag then l' else x).find? (fun x => x.tag == tag) = some l'
  | x :: c, l, h => by
    by_cases here : x.tag = tag
    · simp [here, same]
    · have later : c.find? (fun x => x.tag == tag) = some l := by simpa [here] using h
      have ih := find_setLine same later
      simpa [here, same] using ih

theorem dline_setLine {s : State} {tag : BitVec 27} {l l' : Line} (h : s.dline tag = some l) (same : l'.tag = tag) :
    (s.setLine l').dline tag = some l' := find_setLine same h

/-- A cached read that hits (20_memory.md R95). -/
theorem cacheRead_hit {s : State} {pa : Word} {l : Line} (h : s.dline (fld pa 5 27) = some l) (n : Nat) :
    cacheRead pa n s = (.ok (l.get (fld pa 0 5).toNat n), s) := by
  have hit : s.dline (lineTag pa) = some l := h
  simp [cacheRead, hit]

/-- A cached write that hits (20_memory.md R95). -/
theorem cacheWrite_hit {s : State} {pa : Word} {l : Line} (h : s.dline (fld pa 5 27) = some l) (bytes : List Byte) :
    cacheWrite pa bytes s = s.setLine { l.put (fld pa 0 5).toNat bytes with dirty := true } := by
  have hit : s.dline (lineTag pa) = some l := h
  simp [cacheWrite, hit]

/-- A word of a line. -/
theorem lineOffset_fits {pa : Word} (h : fld pa 0 2 = 0#2) : (fld pa 0 5 : BitVec 5).toNat + 4 ≤ 32 := by
  have low := congrArg BitVec.toNat h
  rw [toNat_fld_zero] at low
  rw [toNat_fld_zero]
  simp at low
  omega

/-! ## The accesses of cached memory -/

/-- The attributes of cached memory of a page that is not shared (20_memory.md R61, R64). -/
def cachedMemory : MemAttr := ⟨.normal, false, 3, 3⟩

theorem dataCachable_cached {s : State} (c : s.ctlC = true) (m : s.ctlM = true) : dataCachable s cachedMemory = true := by
  simp [dataCachable, c, m, cachableAttr, cachedMemory]

theorem forward_nil : ∀ (l : List Byte) (pa : Word), forward [] pa l = l
  | [], _ => rfl
  | b :: t, pa => by rw [forward, forward_nil t]; rfl

section
variable {s : State} (buffer : s.storeBuffer = []) (c : s.ctlC = true) (m : s.ctlM = true) {t : Translated}
  (attr : t.attr = cachedMemory) (region : inRegion s.cfg t.pa = false)
include buffer c m attr region

theorem readPhys_cached {l : Line} (h : s.dline (fld t.pa 5 27) = some l) (n : Nat) (md : AccessMode)
    (plain : md.locked = false) (mva : Word) :
    readPhys md t mva (n + 1) s = .ok (l.get (fld t.pa 0 5).toNat (n + 1)) s := by
  simp [readPhys, region, attr, dataCachable_cached c m, plain, buffer, cacheRead_hit h, forward_nil]

/-- A cached write waits in the store buffer (20_memory.md R90). -/
theorem writePhys_cached (md : AccessMode) (plain : md.locked = false) (mva : Word) (bytes : List Byte) :
    writePhys md t mva bytes s =
      .ok () { s with storeBuffer := [{ pa := t.pa, bytes := bytes, attr := cachedMemory, cachable := true }] } := by
  have normal : (cachedMemory.ty == .stronglyOrdered) = false := rfl
  simp [writePhys, region, attr, dataCachable_cached c m, plain, buffer, normal, pendingNoncachable, bufferStore, makeRoom]

end

/-- The one write of the store buffer reaches the line in the cache (20_memory.md R90, R95). -/
theorem drainAll_cached {s : State} {pa : Word} {bytes : List Byte} {attr : MemAttr} {l : Line}
    (buffer : s.storeBuffer = [{ pa := pa, bytes := bytes, attr := attr, cachable := true }])
    (region : inRegion s.cfg pa = false) (h : s.dline (fld pa 5 27) = some l) :
    drainAll s = ({ s with storeBuffer := [] } : State).setLine { l.put (fld pa 0 5).toNat bytes with dirty := true } := by
  have hit : ({ s with storeBuffer := [] } : State).dline (fld pa 5 27) = some l := h
  rw [drainAll, buffer, retireAll, retireAll, retire]
  simp only [region, Bool.false_eq_true, if_false, if_true, cacheWrite_hit hit]

end Sys2Proof.Machine
end

section
/-! Translation (O51). -/
namespace Sys2Proof.Machine

/-! ## A load and a store of a word -/

/-- The address of an immediate offset form (47_core_instructions.md R770). -/
def immAddress (s : State) (u : Bool) (rn : RegNum) (off : BitVec 12) : Word := upDown u (s.reg rn) (off.setWidth 32)

theorem goodAddressing (rn rd : RegNum) : badAddressing true false rn rd 0 = false := by simp [badAddressing]

/-- LDR with an offset, of a word that an aligned read gives. -/
theorem gives_ldrImm {s : State} {cc : Cond} {u : Bool} {rn rd : RegNum} {off : BitVec 12} {v : Word} (pass : s.passes cc = true)
    (hrd : rd ≠ 15) (fits : alignAccess .wload false (immAddress s u rn off) s = .ok (immAddress s u rn off) s)
    (read : readAt (loadMode s true false rd) 4 (immAddress s u rn off) s = .ok v s) :
    Gives (.ldrImm cc true u false rn rd off) s fun t => WroteReg s t rd v := by
  refine gives_of_passes pass rfl ⟨(s.setReg rd v).advance, ?_, ?_⟩
  · have x : addressing true u false (s.reg rn) (off.setWidth 32) = ⟨immAddress s u rn off, none⟩ := rfl
    simp only [loadWord, goodAddressing, x, checkPcLoad, hrd, false_and, if_false, Res.bind, loadValue, fits, read, writeLoaded,
      State.writeBase, if_true]
    rfl
  · rw [State.advance_eq, State.setReg_eq]
    exact ⟨bankReg_setReg hrd v rfl, (regsBut_setReg s rd v).of_regs rfl, rfl, rfl, rfl, fun _ => rfl⟩

/-- STR with an offset. -/
theorem exec_strImm {s t : State} {cc : Cond} {u : Bool} {rn rd : RegNum} {off : BitVec 12} (pass : s.passes cc = true)
    (hrd : rd ≠ 15) (fits : alignAccess .wstore true (immAddress s u rn off) s = .ok (immAddress s u rn off) s)
    (write : writeAt (storeMode s true false) 4 (immAddress s u rn off) (s.reg rd) s = .ok () t) :
    exec (.strImm cc true u false rn rd off) s = .next { t with pc := t.past } := by
  have x : addressing true u false (s.reg rn) (off.setWidth 32) = ⟨immAddress s u rn off, none⟩ := rfl
  have run : storeSingle .wstore 4 true u false rn rd 0 (off.setWidth 32) s = .ok () t.advance := by
    simp only [storeSingle, goodAddressing, x, hrd, if_false, storeValue, fits, Res.bind, write, State.writeBase]
    rfl
  change whenPasses cc s (fun s => storeSingle .wstore 4 true u false rn rd 0 (off.setWidth 32) s) = _
  simp only [whenPasses, pass, if_true, run, finish, State.advance_eq]

/-! ## Accesses through an entry of the TLB -/

/-- Data accesses through an entry of the TLB in a manager's domain. -/
structure Mapped (s : State) (va : Word) (e : TlbEntry) (a : MemAttr) : Prop extends s.Translating where
  pid : fld s.cp15.fcsePid 25 7 = 0#7
  watch : ∀ k (_ : k < 2), bitAt s.dbg.wcr[k] 0 = false
  aligned : fld va 0 2 = 0#2
  hit : tlbLookup s.ctlXp s va = [e]
  manager : domainAccess s e.domain = 3
  attr : entryAttr s.tlbControls e = .ok a

section
variable {s : State} {va : Word} {e : TlbEntry} {a : MemAttr} (h : Mapped s va e a)
include h

/-- Where the entry maps the address. -/
theorem Mapped.dataTranslate (write user : Bool) :
    dataTranslate write user true va s = .ok ⟨entryPa e va, a, some e.domain⟩ s := by
  have t (p : Purpose) : translate p user true va s = (.ok ⟨entryPa e va, a, some e.domain⟩, s) := by
    rw [translate_of_hit h.toTranslating h.hit, entryResult_manager h.manager h.attr]
  simp only [Machine.dataTranslate, fcse_zero h.pid, t]

theorem Mapped.readAt {m : AccessMode} {l : List Byte}
    (read : ∀ mva, readPhys m ⟨entryPa e va, a, some e.domain⟩ mva 4 s = .ok l s) : readAt m 4 va s = .ok (laneValue s.eBit l) s := by
  have aligned : naturallyAligned va 4 = true := naturallyAligned_of_fld h.aligned
  simp only [Machine.readAt, watchAccess_off h.watch, aligned, if_true, h.dataTranslate, Res.bind, read]

theorem Mapped.writeAt {m : AccessMode} {v : Word} {t : State}
    (write : ∀ mva, writePhys m ⟨entryPa e va, a, some e.domain⟩ mva (laneBytes s.eBit v 4) s = .ok () t) :
    writeAt m 4 va v s = .ok () t := by
  have aligned : naturallyAligned va 4 = true := naturallyAligned_of_fld h.aligned
  simp only [Machine.writeAt, watchAccess_off h.watch, aligned, if_true, h.dataTranslate, Res.bind, write]

end

/-- The attributes of an entry with type field 0 (20_memory.md R61). -/
theorem entryAttr_plain {s : State} (remap : s.ctlTexRemap = false) {e : TlbEntry} (tex : e.tex = 0) :
    entryAttr s.tlbControls e = plainAttr 0 e.c e.b (s.ctlXp && e.s) := by
  rw [← tex]
  simp [entryAttr, State.tlbControls, remap]

theorem entryAttr_stronglyOrdered {s : State} (remap : s.ctlTexRemap = false) {e : TlbEntry} (tex : e.tex = 0) (c : e.c = false)
    (b : e.b = false) : entryAttr s.tlbControls e = .ok flatMemory := by
  rw [entryAttr_plain remap tex, c, b]
  rfl

theorem entryAttr_cached {s : State} (remap : s.ctlTexRemap = false) {e : TlbEntry} (tex : e.tex = 0) (c : e.c = true)
    (b : e.b = true) (unshared : s.ctlXp = false ∨ e.s = false) : entryAttr s.tlbControls e = .ok cachedMemory := by
  have alone : (s.ctlXp && e.s) = false := by rcases unshared with h | h <;> simp [h]
  rw [entryAttr_plain remap tex, c, b, alone]
  rfl

/-! ## Strongly Ordered and cached words -/

section
variable {s : State} {cc : Cond} {u : Bool} {rn rd : RegNum} {off : BitVec 12} {e : TlbEntry} {a : MemAttr}

theorem Mapped.gives_ldr_direct (h : Mapped s (immAddress s u rn off) e flatMemory) (buffer : s.storeBuffer = [])
    (o : s.ordinary (entryPa e (immAddress s u rn off)) 4) (pass : s.passes cc = true) (hrd : rd ≠ 15)
    (fits : alignAccess .wload false (immAddress s u rn off) s = .ok (immAddress s u rn off) s) :
    Gives (.ldrImm cc true u false rn rd off) s fun t => WroteReg s t rd (s.wordAt (entryPa e (immAddress s u rn off))) := by
  refine gives_ldrImm pass hrd fits ?_
  rw [State.wordAt_eq]
  exact h.readAt fun mva => readPhys_direct (t := ⟨_, flatMemory, some e.domain⟩) buffer rfl o (by omega) _ mva

theorem Mapped.gives_str_direct (h : Mapped s (immAddress s u rn off) e flatMemory) (buffer : s.storeBuffer = [])
    (canonical : s.memCanonical) (o : s.ordinary (entryPa e (immAddress s u rn off)) 4) (pass : s.passes cc = true) (hrd : rd ≠ 15)
    (fits : alignAccess .wstore true (immAddress s u rn off) s = .ok (immAddress s u rn off) s) :
    Gives (.strImm cc true u false rn rd off) s fun t =>
      t.wordAt (entryPa e (immAddress s u rn off)) = s.reg rd ∧ MemBut s t (entryPa e (immAddress s u rn off)) 4 ∧
        t = { s with pc := s.past, mem := t.mem } := by
  have four := length_laneBytes s.eBit (s.reg rd) (le_refl 4)
  have write := h.writeAt (m := storeMode s true false) (v := s.reg rd) fun mva =>
    writePhys_direct (t := ⟨_, flatMemory, some e.domain⟩) buffer rfl (by rwa [four]) (by rw [four]; omega) _ mva
  refine ⟨_, exec_strImm pass hrd fits write, wordAt_written canonical rfl rfl, ?_, rfl⟩
  have kept := memBut_writeBytes (s := s) (t := s.setMem (s.mem.writeBytes (entryPa e (immAddress s u rn off))
    (laneBytes s.eBit (s.reg rd) 4))) canonical rfl
  rw [four] at kept
  exact kept

theorem Mapped.gives_ldr_cached (h : Mapped s (immAddress s u rn off) e cachedMemory) (buffer : s.storeBuffer = [])
    (c : s.ctlC = true) (region : inRegion s.cfg (entryPa e (immAddress s u rn off)) = false)
    (offset : fld (entryPa e (immAddress s u rn off)) 0 2 = 0#2) {l : Line}
    (line : s.dline (fld (entryPa e (immAddress s u rn off)) 5 27) = some l) (pass : s.passes cc = true) (hrd : rd ≠ 15)
    (fits : alignAccess .wload false (immAddress s u rn off) s = .ok (immAddress s u rn off) s) :
    Gives (.ldrImm cc true u false rn rd off) s fun t =>
      WroteReg s t rd (lineWord s.eBit l (fld (entryPa e (immAddress s u rn off)) 0 5 : BitVec 5).toNat) := by
  refine gives_ldrImm pass hrd fits ?_
  rw [lineWord_eq _ _ (lineOffset_fits offset)]
  exact h.readAt fun mva => readPhys_cached (t := ⟨_, cachedMemory, some e.domain⟩) buffer c h.mmu rfl region line 3 _ rfl mva

theorem Mapped.gives_str_cached (h : Mapped s (immAddress s u rn off) e cachedMemory) (buffer : s.storeBuffer = [])
    (c : s.ctlC = true) (region : inRegion s.cfg (entryPa e (immAddress s u rn off)) = false)
    (offset : fld (entryPa e (immAddress s u rn off)) 0 2 = 0#2) {l : Line}
    (line : s.dline (fld (entryPa e (immAddress s u rn off)) 5 27) = some l) (pass : s.passes cc = true) (hrd : rd ≠ 15)
    (fits : alignAccess .wstore true (immAddress s u rn off) s = .ok (immAddress s u rn off) s) :
    let k := (fld (entryPa e (immAddress s u rn off)) 0 5 : BitVec 5).toNat
    Gives (.strImm cc true u false rn rd off) s fun t =>
      t = { s with pc := s.past, storeBuffer := t.storeBuffer } ∧
        ∃ l', (drainAll t).dline (fld (entryPa e (immAddress s u rn off)) 5 27) = some l' ∧ l'.dirty = true ∧
          lineWord s.eBit l' k = s.reg rd ∧ (∀ j < 32, ¬ (k ≤ j ∧ j < k + 4) → l'.bytes.getD j 0 = l.bytes.getD j 0) ∧
          drainAll t = { s with pc := s.past, dcache := (drainAll t).dcache } := by
  intro k
  have room : k + 4 ≤ 32 := lineOffset_fits offset
  have four := length_laneBytes s.eBit (s.reg rd) (le_refl 4)
  have write := h.writeAt (m := storeMode s true false) (v := s.reg rd) fun mva =>
    writePhys_cached (t := ⟨_, cachedMemory, some e.domain⟩) buffer c h.mmu rfl region _ rfl mva _
  let waiting : PendingStore :=
    { pa := entryPa e (immAddress s u rn off), bytes := laneBytes s.eBit (s.reg rd) 4, attr := cachedMemory, cachable := true }
  let t : State := { s with storeBuffer := [waiting], pc := s.past }
  have drained : drainAll t = _ := drainAll_cached rfl region line
  refine ⟨t, exec_strImm pass hrd fits write, rfl, ?_⟩
  rw [drained]
  have tag : l.tag = fld (entryPa e (immAddress s u rn off)) 5 27 := by simpa using List.find?_some line
  refine ⟨_, dline_setLine line ((Line.put_tag ..).trans tag), rfl, ?_, fun j hj apart => ?_, ?_⟩
  · rw [lineWord_eq _ _ room]
    exact (congrArg _ (Line.get_put l four room)).trans (laneValue_laneBytes_word ..)
  · refine (Line.getD_put _ l (by rw [four]; exact room) hj).trans (if_neg ?_)
    rwa [four]
  · rw [← buffer]
    rfl

end

/-- Settles O51: the walk, the entry it gives and the domain decide a translation (`translate_section`, `translate_page`); a load and
a store go where the entry maps them (`Mapped.dataTranslate`). -/
theorem sectionTranslation : Obligations.SectionTranslation := by
  refine ⟨?_, ?_⟩
  · intro s p user mva m miss n older remap forceAp d o l1 domain access r
    have h : s.Translating := ⟨m, older, remap, forceAp⟩
    have sect (kind : fld l1 0 2 = 2#2) : r = entryResult s p user mva (sectionEntry s.tlbControls s mva l1) :=
      translate_section h miss n o rfl kind
    refine ⟨fun neither => translate_of_walk_error h miss (walk_fault n o rfl neither),
      fun kind plain closed => (sect kind).trans (entryResult_section_closed plain closed), fun kind plain manager tex => ?_,
      fun kind super manager tex => ?_, fun kind => ?_, fun kind plain client tex xp sb rb => ?_⟩
    · obtain ⟨a, e⟩ := entryResult_section_manager (p := p) (user := user) (mva := mva) plain h tex manager
      exact ⟨a, (sect kind).trans e⟩
    · obtain ⟨a, e⟩ := entryResult_supersection_manager (p := p) (user := user) (mva := mva) super h tex manager
      exact ⟨a, (sect kind).trans e⟩
    · intro d2 o2 l2 large tex pa subpage ap apx mayRead mayWrite granted
      have page (present : fld l2 0 2 ≠ 0#2) : r = entryResult s p user mva (pageEntry s.tlbControls s mva domain l2) :=
        translate_page h miss n o rfl kind o2 rfl present
      refine ⟨fun absent => translate_of_walk_error h miss (walk_page_fault n o rfl kind o2 rfl absent),
        fun present closed => (page present).trans (entryResult_page_closed closed), fun present manager type => ?_,
        fun present client type sb rb known => ?_⟩
      · obtain ⟨a, e⟩ := entryResult_page_manager (p := p) (user := user) (mva := mva) h present type manager
        exact ⟨a, (page present).trans e⟩
      · obtain ⟨a, e⟩ := entryResult_page_client (p := p) (user := user) (mva := mva) h present type client sb rb known
        have same : granted = clientGranted p (clientMay apx ap user) (s.ctlXp && bitAt l2 (if large then 15 else 0)) := by
          cases p <;> rfl
        rw [same]
        exact granted_or_denied ⟨a, (page present).trans e⟩
    · intro ap mayRead mayWrite known granted
      obtain ⟨a, e⟩ := entryResult_section_client (p := p) (user := user) (mva := mva) plain h tex client xp sb rb known
      have same : granted = clientGranted p (clientMay (bitAt l1 15) ap user) (bitAt l1 4) := by cases p <;> rfl
      rw [same]
      exact granted_or_denied ⟨a, (sect kind).trans e⟩
  · intro s cc u rn rd off e pass hrd m remap older pid buffer watch endian canonical forceAp va aligned hit _ _ manager tex pa region
      offset
    have mapped {a : MemAttr} (attr : entryAttr s.tlbControls e = .ok a) : Mapped s va e a :=
      { mmu := m, older := older, remap := remap, forceAp := forceAp, pid := pid, watch := watch, aligned := aligned, hit := hit,
        manager := manager, attr := attr }
    have loads : alignAccess .wload false va s = .ok va s := alignAccess_direct endian (alignment_word (.inl rfl) aligned ..) _
    have stores : alignAccess .wstore true va s = .ok va s := alignAccess_direct endian (alignment_word (.inr rfl) aligned ..) _
    refine ⟨fun c b o => ?_, fun l ctlC c b unshared line => ?_⟩
    · have h := mapped (entryAttr_stronglyOrdered remap tex c b)
      exact ⟨h.gives_ldr_direct buffer o pass hrd loads, h.gives_str_direct buffer canonical o pass hrd stores⟩
    · have h := mapped (entryAttr_cached remap tex c b unshared)
      exact ⟨h.gives_ldr_cached buffer ctlC region offset line pass hrd loads,
        h.gives_str_cached buffer ctlC region offset line pass hrd stores⟩

end Sys2Proof.Machine
end

section
/-! SUPPORT. The listed accesses of CP15 and CP14, and a word as the union of its fields. -/
namespace Sys2Proof

/-! ## The listed accesses of CP15 and CP14 -/

/-- The row that lists a CP15 access, if one does (30_encoding.md R118). -/
noncomputable def listedCp15 (cond : Cond) (rd : RegNum) (k : CopKey) : Option Instr :=
  if k.1 then decodeCp15Read cond rd k.2.1 k.2.2.1 k.2.2.2.1 k.2.2.2.2
  else decodeCp15Write cond rd k.2.1 k.2.2.1 k.2.2.2.1 k.2.2.2.2

/-- The row that lists a CP14 register access, if one does (46_cp14_debug.md R301). -/
noncomputable def listedCp14 (cond : Cond) (rd : RegNum) (l : Bool) (crm : BitVec 4) (opc2 : BitVec 3) : Option Instr :=
  if l then decodeCp14Read cond rd crm opc2 else decodeCp14Write cond rd crm opc2

/-- A row that lists a CP15 access is well formed by its condition alone, is encoded as that access, and lists no other. -/
theorem listedCp15_eq_some {cond : Cond} {rd : RegNum} {l : Bool} {opc1 : BitVec 3} {crn crm : BitVec 4} {opc2 : BitVec 3}
    {i : Instr} (h : listedCp15 cond rd (l, opc1, crn, crm, opc2) = some i) :
    i.wellFormed = condOk cond ∧ encode i = .arm (encCop cond opc1 l crn rd 15 opc2 crm) ∧
      cp15Listed (l, opc1, crn, crm, opc2) = true := by
  cases l with
  | true =>
    replace h : decodeCp15Read cond rd opc1 crn crm opc2 = some i := h
    unfold decodeCp15Read decodeCp15C0Read decodeCp15C1Read decodeCp15C2Read decodeCp15C3Read decodeCp15C5Read
      decodeCp15C6Read decodeCp15C7Read decodeCp15C9Read decodeCp15C10Read decodeCp15C13Read decodeCp15C15Read at h
    split at h
    case h_12 => cases h
    all_goals split at h <;> cases h <;> exact ⟨rfl, rfl, rfl⟩
  | false =>
    replace h : decodeCp15Write cond rd opc1 crn crm opc2 = some i := h
    unfold decodeCp15Write decodeCp15C1Write decodeCp15C2Write decodeCp15C3Write decodeCp15C5Write decodeCp15C6Write
      decodeCp15C7Write decodeCp15C8Write decodeCp15C9Write decodeCp15C10Write decodeCp15C13Write decodeCp15C15Write at h
    split at h
    case h_1 => cases h; exact ⟨rfl, rfl, rfl⟩
    case h_13 => cases h
    all_goals split at h <;> cases h <;> exact ⟨rfl, rfl, rfl⟩

/-- Every listed CP15 access has a row: the lists are gone through, one for each CRn. -/
theorem listedCp15_isSome {k : CopKey} (h : cp15Listed k = true) (cond : Cond) (rd : RegNum) :
    (listedCp15 cond rd k).isSome = true := by
  have of_list {L : List CopKey} (rows : (L.all fun k => (listedCp15 cond rd k).isSome) = true) (m : L.contains k = true) :
      (listedCp15 cond rd k).isSome = true := List.all_eq_true.1 rows k (List.contains_iff_mem.1 m)
  simp only [cp15Listed, Bool.or_eq_true] at h
  rcases h with ((((((((((((h | h) | h) | h) | h) | h) | h) | h) | h) | h) | h) | h) | h)
  case inl.inl.inl.inl.inl.inl.inl.inl.inl.inl.inl.inl =>
    obtain ⟨l, opc1, crn, crm, opc2⟩ := k
    simp only [Bool.and_eq_true, Bool.not_eq_true', beq_iff_eq] at h
    obtain ⟨⟨rfl, rfl⟩, rfl⟩ := h
    rfl
  all_goals exact of_list (by rfl) h

/-- A CP15 access that no row lists. -/
theorem listedCp15_eq_none {cond : Cond} {rd : RegNum} {k : CopKey} : listedCp15 cond rd k = none ↔ cp15Listed k = false := by
  constructor
  · intro h
    by_contra listed
    simpa [h] using listedCp15_isSome (eq_true_of_ne_false listed) cond rd
  · intro h
    cases e : listedCp15 cond rd k with
    | none => rfl
    | some i => exact absurd (listedCp15_eq_some e).2.2 (by simp [h])

/-- A row that lists a CP14 register access is well formed, is encoded as that access, and lists no other. -/
theorem listedCp14_eq_some {cond : Cond} {rd : RegNum} {l : Bool} {crm : BitVec 4} {opc2 : BitVec 3} {i : Instr}
    (hc : condOk cond = true) (h : listedCp14 cond rd l crm opc2 = some i) :
    i.wellFormed = true ∧ encode i = .arm (encCop cond 0 l 0 rd 14 opc2 crm) ∧
      cp14ListedRegs.contains (l, 0, 0, crm, opc2) = true := by
  cases l with
  | true =>
    replace h : decodeCp14Read cond rd crm opc2 = some i := h
    unfold decodeCp14Read at h
    split at h
    case h_2 =>
      split at h <;> cases h
      · next hr =>
        obtain rfl : rd = 15#4 := by simpa using hr
        exact ⟨hc, rfl, rfl⟩
      · next hr => exact ⟨by simp only [Instr.wellFormed, hc, bne]; simpa using hr, rfl, rfl⟩
    all_goals cases h <;> exact ⟨hc, rfl, rfl⟩
  | false =>
    replace h : decodeCp14Write cond rd crm opc2 = some i := h
    unfold decodeCp14Write at h
    split at h <;> cases h <;> exact ⟨hc, rfl, rfl⟩

/-- Every listed CP14 register access has a row. -/
theorem listedCp14_isSome {l : Bool} {crm : BitVec 4} {opc2 : BitVec 3}
    (h : cp14ListedRegs.contains (l, 0, 0, crm, opc2) = true) (cond : Cond) (rd : RegNum) :
    (listedCp14 cond rd l crm opc2).isSome = true := by
  have rows : (cp14ListedRegs.all fun k => (listedCp14 cond rd k.1 k.2.2.2.1 k.2.2.2.2).isSome) = true := rfl
  exact List.all_eq_true.1 rows _ (List.contains_iff_mem.1 h)

/-! ## Fields of a word -/

/-- Two neighbouring fields as one. -/
theorem fld_join {v : Nat} (w : BitVec v) (k m n : Nat) : fld w k (n + m) = fld w (k + m) n ++ fld w k m := by
  apply BitVec.eq_of_getLsbD_eq
  intro i hi
  simp only [fld, BitVec.getLsbD_extractLsb', BitVec.getLsbD_append, hi]
  by_cases h : i < m
  · simp [h]
  · simp [h, show i - m < n by omega, show k + m + (i - m) = k + i by omega]

/-- A field of a field. -/
theorem fld_fld {m : Nat} (w : BitVec m) {k n a b : Nat} (h : a + b ≤ n) : fld (fld w k n) a b = fld w (k + a) b := by
  apply BitVec.eq_of_getLsbD_eq
  intro i hi
  simp [fld, hi, show a + i < n by omega, Nat.add_assoc]

/-- A bit as a field of one bit. -/
theorem ofBool_bitAt {m : Nat} (w : BitVec m) (k : Nat) : BitVec.ofBool (bitAt w k) = fld w k 1 := by
  have one : ∀ x : BitVec 1, BitVec.ofBool (x == 1#1) = x := by decide
  exact one (fld w k 1)

/-- Two neighbouring fields in their places are one field in its place. -/
theorem put_fld_or (w : Word) {k m n j : Nat} (hj : j = k + m) (h : k + m + n ≤ 32) :
    put (fld w j n) j ||| put (fld w k m) k = put (fld w k (m + n)) k := by
  subst hj
  apply BitVec.eq_of_getLsbD_eq
  intro i hi
  simp only [fld, put, BitVec.getLsbD_extractLsb', BitVec.getLsbD_shiftLeft, BitVec.getLsbD_setWidth, BitVec.getLsbD_or, hi]
  by_cases h1 : i < k
  · simp [h1, show i < k + m by omega]
  · by_cases h2 : i < k + m
    · simp [h1, h2, show i - k < 32 by omega, show i - k < m by omega, show i - k < m + n by omega]
    · by_cases h3 : i < k + m + n
      · simp [h1, h2, show i - k < 32 by omega, show i - (k + m) < 32 by omega, show ¬ i - k < m by omega,
          show i - k < m + n by omega, show i - (k + m) < n by omega, show k + m + (i - (k + m)) = k + (i - k) by omega]
      · simp [h1, h2, show i - k < 32 by omega, show i - (k + m) < 32 by omega, show ¬ i - k < m by omega,
          show ¬ i - k < m + n by omega, show ¬ i - (k + m) < n by omega]

/-- The field of all bits is the word. -/
theorem put_fld_whole (w : Word) {n : Nat} (h : n = 32) : put (fld w 0 n) 0 = w := by
  subst h
  simp [put]

/-- A bit in its place as a field. -/
theorem flag_bitAt (w : Word) (k : Nat) : flag (bitAt w k) k = put (fld w k 1) k := by rw [flag, ofBool_bitAt]

/-- A nibble has one of sixteen values. -/
theorem nibble_cases (x : BitVec 4) : x = 0#4 ∨ x = 1#4 ∨ x = 2#4 ∨ x = 3#4 ∨ x = 4#4 ∨ x = 5#4 ∨ x = 6#4 ∨ x = 7#4 ∨
    x = 8#4 ∨ x = 9#4 ∨ x = 10#4 ∨ x = 11#4 ∨ x = 12#4 ∨ x = 13#4 ∨ x = 14#4 ∨ x = 15#4 := by
  revert x
  decide

end Sys2Proof
end

section
/-! SUPPORT. What the decoder reads from an ARM word is well formed and encoded as that word, space by space. -/
namespace Sys2Proof

/-! ## A word from its own fields -/

section
variable {w : Word}

theorem encCop_fields (h24 : fld w 24 4 = 14#4) (h4 : fld w 4 1 = 1#1) :
    encCop (fld w 28 4) (fld w 21 3) (bitAt w 20) (fld w 16 4) (fld w 12 4) (fld w 8 4) (fld w 5 3) (fld w 0 4) = w := by
  simp only [encCop, ← h24, ← h4, flag_bitAt, put_fld_or, put_fld_whole, Nat.reduceAdd, Nat.reduceLeDiff]

theorem encHint_fields (h25 : fld w 25 3 = 1#3) (h20 : fld w 20 5 = 0x12#5) (h8 : fld w 8 12 = 0xF0#12) :
    encHint (fld w 28 4) (fld w 0 8) = w := by
  simp only [encHint, ← h25, ← h20, ← h8, put_fld_or, put_fld_whole, Nat.reduceAdd, Nat.reduceLeDiff]

theorem encDpImm_fields (h25 : fld w 25 3 = 1#3) :
    encDpImm (fld w 28 4) (fld w 21 4) (bitAt w 20) (fld w 16 4) (fld w 12 4) (fld w 8 4) (fld w 0 8) = w := by
  simp only [encDpImm, ← h25, flag_bitAt, put_fld_or, put_fld_whole, Nat.reduceAdd, Nat.reduceLeDiff]

theorem encDpShiftImm_fields (h25 : fld w 25 3 = 0#3) (h4 : fld w 4 1 = 0#1) :
    encDpShiftImm (fld w 28 4) (fld w 21 4) (bitAt w 20) (fld w 16 4) (fld w 12 4) (fld w 7 5) (fld w 5 2) (fld w 0 4) = w := by
  simp only [encDpShiftImm, ← h25, ← h4, flag_bitAt, put_fld_or, put_fld_whole, Nat.reduceAdd, Nat.reduceLeDiff]

theorem encDpShiftReg_fields (h25 : fld w 25 3 = 0#3) (h7 : fld w 7 1 = 0#1) (h4 : fld w 4 1 = 1#1) :
    encDpShiftReg (fld w 28 4) (fld w 21 4) (bitAt w 20) (fld w 16 4) (fld w 12 4) (fld w 8 4) (fld w 5 2) (fld w 0 4) = w := by
  unfold encDpShiftReg
  rw [← h25, ← h7, ← h4]
  simp only [flag_bitAt, put_fld_or, put_fld_whole, Nat.reduceAdd, Nat.reduceLeDiff]

theorem encMisc_fields (h25 : fld w 25 3 = 0#3) :
    encMisc (fld w 28 4) (fld w 20 5) (fld w 16 4) (fld w 12 4) (fld w 8 4) (fld w 4 4) (fld w 0 4) = w := by
  simp only [encMisc, ← h25, put_fld_or, put_fld_whole, Nat.reduceAdd, Nat.reduceLeDiff]

theorem encLsImm_fields (h25 : fld w 25 3 = 2#3) :
    encLsImm (fld w 28 4) (bitAt w 24) (bitAt w 23) (bitAt w 22) (bitAt w 21) (bitAt w 20) (fld w 16 4) (fld w 12 4)
      (fld w 0 12) = w := by
  simp only [encLsImm, ← h25, flag_bitAt, put_fld_or, put_fld_whole, Nat.reduceAdd, Nat.reduceLeDiff]

theorem encLsReg_fields (h25 : fld w 25 3 = 3#3) (h4 : fld w 4 1 = 0#1) :
    encLsReg (fld w 28 4) (bitAt w 24) (bitAt w 23) (bitAt w 22) (bitAt w 21) (bitAt w 20) (fld w 16 4) (fld w 12 4)
      (fld w 7 5) (fld w 5 2) (fld w 0 4) = w := by
  simp only [encLsReg, ← h25, ← h4, flag_bitAt, put_fld_or, put_fld_whole, Nat.reduceAdd, Nat.reduceLeDiff]

theorem encLsExtra_fields (h25 : fld w 25 3 = 0#3) :
    encLsExtra (fld w 28 4) (bitAt w 24) (bitAt w 23) (bitAt w 22) (bitAt w 21) (bitAt w 20) (fld w 16 4) (fld w 12 4)
      (fld w 8 4) (fld w 4 4) (fld w 0 4) = w := by
  simp only [encLsExtra, ← h25, flag_bitAt, put_fld_or, put_fld_whole, Nat.reduceAdd, Nat.reduceLeDiff]

theorem encBlock_fields (h25 : fld w 25 3 = 4#3) :
    encBlock (fld w 28 4) (bitAt w 24) (bitAt w 23) (bitAt w 22) (bitAt w 21) (bitAt w 20) (fld w 16 4) (fld w 0 16) = w := by
  simp only [encBlock, ← h25, flag_bitAt, put_fld_or, put_fld_whole, Nat.reduceAdd, Nat.reduceLeDiff]

theorem encCopMem_fields (h25 : fld w 25 3 = 6#3) :
    encCopMem (fld w 28 4) (bitAt w 24) (bitAt w 23) (bitAt w 22) (bitAt w 21) (bitAt w 20) (fld w 16 4) (fld w 12 4)
      (fld w 8 4) (fld w 0 8) = w := by
  simp only [encCopMem, ← h25, flag_bitAt, put_fld_or, put_fld_whole, Nat.reduceAdd, Nat.reduceLeDiff]

theorem encCopPair_fields (h25 : fld w 25 3 = 6#3) (h21 : fld w 21 4 = 2#4) (h6 : fld w 6 2 = 0#2) (h4 : fld w 4 1 = 1#1) :
    encCopPair (fld w 28 4) (bitAt w 20) (fld w 16 4) (fld w 12 4) (fld w 8 4) (bitAt w 5) (fld w 0 4) = w := by
  simp only [encCopPair, ← h25, ← h21, ← h6, ← h4, flag_bitAt, put_fld_or, put_fld_whole, Nat.reduceAdd, Nat.reduceLeDiff]

theorem encVfpReg_fields (h24 : fld w 24 4 = 14#4) (h5 : fld w 5 2 = 0#2) (h4 : fld w 4 1 = 1#1) (h0 : fld w 0 4 = 0#4) :
    encVfpReg (fld w 28 4) (fld w 21 3) (bitAt w 20) (fld w 16 4) (fld w 12 4) (fld w 8 4) (bitAt w 7) = w := by
  simp only [encVfpReg, ← h24, ← h5, ← h4, ← h0, flag_bitAt, put_fld_or, put_fld_whole, Nat.reduceAdd, Nat.reduceLeDiff]

/-- A field of zeros in its place. -/
theorem put_zeros (n k : Nat) : put 0#n k = 0#32 := by simp [put]

/-- TST, TEQ, CMP and CMN are the operations whose upper bits are b10. -/
theorem fld_opcode {op : BitVec 4} (h : fld w 21 4 = op) : fld w 23 2 = fld op 2 2 := by rw [← h, fld_fld w (by decide)]

/-- Bits [7:4] of a word of the multiply, swap and exclusive space. -/
theorem fld_lo {b7 b4 : Bool} {x : BitVec 2} (h7 : bitAt w 7 = b7) (h5 : fld w 5 2 = x) (h4 : bitAt w 4 = b4) :
    fld w 4 4 = BitVec.ofBool b7 ++ (x ++ BitVec.ofBool b4) := by
  rw [← h7, ← h5, ← h4, ofBool_bitAt, ofBool_bitAt, ← fld_join w 4 1 2, ← fld_join w 4 3 1]

/-- Bits [24:20] of a word of the spaces that take the place of the comparisons with S = 0. -/
theorem fld_op {b22 b21 b20 : Bool} {x : BitVec 2} (h23 : fld w 23 2 = x) (h22 : bitAt w 22 = b22) (h21 : bitAt w 21 = b21)
    (h20 : bitAt w 20 = b20) : fld w 20 5 = x ++ (BitVec.ofBool b22 ++ (BitVec.ofBool b21 ++ BitVec.ofBool b20)) := by
  rw [← h23, ← h22, ← h21, ← h20, ofBool_bitAt, ofBool_bitAt, ofBool_bitAt, ← fld_join w 20 1 1, ← fld_join w 20 2 1,
    ← fld_join w 20 3 2]

/-! ## Data processing -/

/-- The instruction is well formed, and its encoding is the word. -/
def ReadsAs (w : Word) (i : Instr) : Prop := i.wellFormed = true ∧ encode i = .arm w

variable (hc : condOk (fld w 28 4) = true)
include hc

theorem decodeDpImm_reads (h25 : fld w 25 3 = 1#3) (hs : fld w 23 2 = 2#2 → bitAt w 20 = true) :
    ReadsAs w (decodeDpImm w (bitAt w 20)) := by
  have e := encDpImm_fields h25
  unfold decodeDpImm
  dsimp only
  split
  case' h_9 op | h_10 op | h_11 op | h_12 op => rw [hs (fld_opcode op)] at e
  case' h_16 =>
    have op : fld w 21 4 = 15#4 := by
      have := nibble_cases (fld w 21 4)
      tauto
  all_goals
    rw [‹fld w 21 4 = _›] at e
    exact ⟨hc, congrArg Code.arm e⟩

theorem decodeDpShiftImm_reads (h25 : fld w 25 3 = 0#3) (h4 : fld w 4 1 = 0#1)
    (hs : fld w 23 2 = 2#2 → bitAt w 20 = true) :
    ReadsAs w (decodeDpShiftImm w (bitAt w 20)) := by
  have e := encDpShiftImm_fields h25 h4
  unfold decodeDpShiftImm
  dsimp only
  split
  case' h_9 op | h_10 op | h_11 op | h_12 op => rw [hs (fld_opcode op)] at e
  case' h_16 =>
    have op : fld w 21 4 = 15#4 := by
      have := nibble_cases (fld w 21 4)
      tauto
  all_goals
    rw [‹fld w 21 4 = _›] at e
    exact ⟨hc, congrArg Code.arm e⟩

theorem decodeDpShiftReg_reads (h25 : fld w 25 3 = 0#3) (h7 : fld w 7 1 = 0#1) (h4 : fld w 4 1 = 1#1)
    (hs : fld w 23 2 = 2#2 → bitAt w 20 = true) :
    ReadsAs w (decodeDpShiftReg w (bitAt w 20)) := by
  have e := encDpShiftReg_fields h25 h7 h4
  unfold decodeDpShiftReg
  dsimp only
  split
  case' h_9 op | h_10 op | h_11 op | h_12 op => rw [hs (fld_opcode op)] at e
  case' h_16 =>
    have op : fld w 21 4 = 15#4 := by
      have := nibble_cases (fld w 21 4)
      tauto
  all_goals
    rw [‹fld w 21 4 = _›] at e
    exact ⟨hc, congrArg Code.arm e⟩

/-! ## The rest of the `cond 000` space -/

omit hc in
/-- MUL and MLA have bits [27:21] in one field of their row. -/
theorem encode_mul (c : Cond) (s : Bool) (rd rs rm : RegNum) :
    encode (.mul c s rd rs rm) = .arm (encMisc c (0#4 ++ BitVec.ofBool s) rd 0 rs 9 rm) := by
  have op : put 0#7 21 ||| flag s 20 = put 0#3 25 ||| put (0#4 ++ BitVec.ofBool s) 20 := by revert s; decide
  have e := congrArg (put c 28 ||| ·) op
  simp only [← BitVec.or_assoc] at e
  simp only [encode, encMisc, e]
  rfl

omit hc in
theorem encode_mla (c : Cond) (s : Bool) (rd rn rs rm : RegNum) :
    encode (.mla c s rd rn rs rm) = .arm (encMisc c (1#4 ++ BitVec.ofBool s) rd rn rs 9 rm) := by
  have op : put 1#7 21 ||| flag s 20 = put 0#3 25 ||| put (1#4 ++ BitVec.ofBool s) 20 := by revert s; decide
  have e := congrArg (put c 28 ||| ·) op
  simp only [← BitVec.or_assoc] at e
  simp only [encode, encMisc, e]
  rfl

theorem decodeMulSync_reads {i : Instr} (h25 : fld w 25 3 = 0#3) (h4 : fld w 4 4 = 9#4) (h : decodeMulSync w = .ok i) :
    ReadsAs w i := by
  have e := encMisc_fields h25
  rw [h4] at e
  unfold decodeMulSync at h
  dsimp only at h
  split at h
  case h_15 => cases h
  case h_3 op | h_4 op =>
    cases h
    rw [op] at e
    exact ⟨hc, (encode_mla ..).trans (congrArg Code.arm e)⟩
  all_goals
    split at h <;> cases h
    rename_i op given
    simp only [Bool.and_eq_true, beq_iff_eq] at given
    simp only [op, given] at e
  case' h_1 | h_2 => exact ⟨hc, (encode_mul ..).trans (congrArg Code.arm e)⟩
  all_goals exact ⟨hc, congrArg Code.arm e⟩

theorem decodeLsExtra_reads {i : Instr} (h25 : fld w 25 3 = 0#3) (h : decodeLsExtra w = .ok i) : ReadsAs w i := by
  have e := encLsExtra_fields h25
  unfold decodeLsExtra at h
  dsimp only at h
  split at h
  · next h22 =>
    split at h <;> cases h
    all_goals
      rename_i h20 h4
      rw [h22, h20, h4] at e
      exact ⟨hc, congrArg Code.arm e⟩
  · next h22 =>
    split at h
    · next h8 =>
      split at h <;> cases h
      all_goals
        rename_i h20 h4
        rw [eq_false_of_ne_true h22, h20, h4, eq_of_beq h8] at e
        exact ⟨hc, congrArg Code.arm e⟩
    · cases h

omit hc in
/-- MRS and MSR of a register are written in the fields of the miscellaneous words. -/
theorem encode_mrs (c : Cond) (r : Bool) (rd : RegNum) :
    encode (.mrs c r rd) = .arm (encMisc c (2#2 ++ (BitVec.ofBool r ++ 0#2)) 15#4 rd 0#4 0#4 0#4) := by
  have op : put 2#5 23 ||| flag r 22 ||| put 0xF#6 16 =
      put 0#3 25 ||| put (2#2 ++ (BitVec.ofBool r ++ 0#2)) 20 ||| put 15#4 16 := by revert r; decide
  have e := congrArg (put c 28 ||| ·) op
  simp only [← BitVec.or_assoc] at e
  simp only [encode, encMisc, e, put_zeros, BitVec.or_zero]

omit hc in
theorem encode_msrReg (c : Cond) (r : Bool) (mask : BitVec 4) (rm : RegNum) :
    encode (.msrReg c r mask rm) = .arm (encMisc c (2#2 ++ (BitVec.ofBool r ++ 2#2)) mask 15#4 0#4 0#4 rm) := by
  have op : put 2#5 23 ||| flag r 22 ||| put 2#2 20 = put 0#3 25 ||| put (2#2 ++ (BitVec.ofBool r ++ 2#2)) 20 := by
    revert r
    decide
  have ones : put 0xF00#12 4 = put 15#4 12 := by decide
  have e := congrArg (put c 28 ||| ·) op
  simp only [← BitVec.or_assoc] at e
  simp only [encode, encMisc, e, ones, put_zeros, BitVec.or_zero]

theorem decodePsr_reads {i : Instr} (h25 : fld w 25 3 = 0#3) (h23 : fld w 23 2 = 2#2) (h20 : bitAt w 20 = false)
    (h4 : fld w 4 4 = 0#4) (h : decodePsr w = .ok i) : ReadsAs w i := by
  have e := encMisc_fields h25
  rw [h4] at e
  unfold decodePsr at h
  dsimp only at h
  split at h
  · next h21 =>
    split at h <;> cases h
    next given =>
    simp only [Bool.and_eq_true, beq_iff_eq] at given
    simp only [fld_op h23 rfl h21 h20, given] at e
    exact ⟨hc, (encode_msrReg ..).trans (congrArg Code.arm e)⟩
  · next h21 =>
    split at h <;> cases h
    next given =>
    simp only [Bool.and_eq_true, beq_iff_eq] at given
    have h8 : fld w 8 4 = 0#4 := by rw [← fld_fld w (k := 0) (n := 12) (a := 8) (b := 4) (by decide), given.2]; rfl
    have h0 : fld w 0 4 = 0#4 := by rw [← fld_fld w (k := 0) (n := 12) (a := 0) (b := 4) (by decide), given.2]; rfl
    simp only [fld_op h23 rfl (eq_false_of_ne_true h21) h20, given.1, h8, h0] at e
    exact ⟨hc, (encode_mrs ..).trans (congrArg Code.arm e)⟩

omit hc in
/-- BKPT has the condition AL and bits [27:20] in one field of its row. -/
theorem encode_bkpt_fields (h28 : fld w 28 4 = 14#4) (h25 : fld w 25 3 = 0#3) (h20 : fld w 20 5 = 0x12#5)
    (h4 : fld w 4 4 = 7#4) : encode (.bkpt (fld w 8 12) (fld w 0 4)) = .arm w := by
  have high : fld w 20 12 = 0xE12#12 := by rw [fld_join w 20 8 4, fld_join w 20 5 3, h28, h25, h20]; rfl
  simp only [encode, ← high, ← h4, put_fld_or, put_fld_whole, Nat.reduceAdd, Nat.reduceLeDiff]

theorem decodeBranchReg_reads {i : Instr} (h25 : fld w 25 3 = 0#3) (h23 : fld w 23 2 = 2#2) (h20 : bitAt w 20 = false)
    (h : decodeBranchReg w = .ok i) : ReadsAs w i := by
  have e := encMisc_fields h25
  have op {x : BitVec 2} (h21 : fld w 21 2 = x) : fld w 20 5 = 2#2 ++ (x ++ 0#1) := by
    rw [← h23, ← h21, show (0#1) = BitVec.ofBool (bitAt w 20) by rw [h20]; rfl, ofBool_bitAt, ← fld_join w 20 1 2,
      ← fld_join w 20 3 2]
  have high (h : fld w 8 12 = 0xFFF#12) : fld w 16 4 = 15#4 ∧ fld w 12 4 = 15#4 ∧ fld w 8 4 = 15#4 := by
    refine ⟨?_, ?_, ?_⟩
    · rw [← fld_fld w (k := 8) (n := 12) (a := 8) (b := 4) (by decide), h]; rfl
    · rw [← fld_fld w (k := 8) (n := 12) (a := 4) (b := 4) (by decide), h]; rfl
    · rw [← fld_fld w (k := 8) (n := 12) (a := 0) (b := 4) (by decide), h]; rfl
  unfold decodeBranchReg at h
  dsimp only at h
  split at h
  case h_6 => cases h
  all_goals
    rename_i h21 h4
    rw [op h21, h4] at e
    split at h <;> cases h
    rename_i given
    simp only [Bool.and_eq_true, beq_iff_eq] at given
  case h_4 => exact ⟨rfl, encode_bkpt_fields given h25 (op h21) h4⟩
  case h_5 =>
    rw [given.1, given.2] at e
    exact ⟨hc, congrArg Code.arm e⟩
  all_goals
    obtain ⟨h16, h12, h8⟩ := high given
    rw [h16, h12, h8] at e
    exact ⟨hc, congrArg Code.arm e⟩

theorem decode000_reads {i : Instr} (h25 : fld w 25 3 = 0#3) (h : decode000 w = .ok i) : ReadsAs w i := by
  unfold decode000 at h
  split at h
  · next high =>
    simp only [Bool.and_eq_true] at high
    split at h
    · next h5 => exact decodeMulSync_reads hc h25 (fld_lo high.2 (eq_of_beq h5) high.1) h
    · exact decodeLsExtra_reads hc h25 h
  · next high =>
    split at h
    · next misc =>
      simp only [Bool.and_eq_true, beq_iff_eq, Bool.not_eq_true'] at misc
      split at h
      · next h4 => exact decodePsr_reads hc h25 misc.1 misc.2 (eq_of_beq h4) h
      · exact decodeBranchReg_reads hc h25 misc.1 misc.2 h
    · next misc =>
      have hs (h23 : fld w 23 2 = 2#2) : bitAt w 20 = true := by simpa [h23] using misc
      split at h
      · next h4 =>
        cases h
        have h7 : bitAt w 7 = false := by simpa [h4] using high
        exact decodeDpShiftReg_reads hc h25 (by rw [← ofBool_bitAt, h7]; rfl) (by rw [← ofBool_bitAt, h4]; rfl) hs
      · next h4 =>
        cases h
        exact decodeDpShiftImm_reads hc h25 (by rw [← ofBool_bitAt, eq_false_of_ne_true h4]; rfl) hs

/-! ## The spaces `cond 001` to `cond 101` -/

omit hc in
/-- MSR with an immediate, from the fields of its word. -/
theorem encode_msrImm_fields (h25 : fld w 25 3 = 1#3) (h23 : fld w 23 2 = 2#2) (h21 : bitAt w 21 = true) (h20 : bitAt w 20 = false)
    (h12 : fld w 12 4 = 15#4) :
    encode (.msrImm (fld w 28 4) (bitAt w 22) (fld w 16 4) (fld w 8 4) (fld w 0 8)) = .arm w := by
  have high : fld w 23 5 = 6#5 := by rw [fld_join w 23 2 3, h25, h23]; rfl
  have low : fld w 20 2 = 2#2 := by rw [fld_join w 20 1 1, ← ofBool_bitAt, ← ofBool_bitAt, h21, h20]; rfl
  simp only [encode, ← high, ← low, ← h12, flag_bitAt, put_fld_or, put_fld_whole, Nat.reduceAdd, Nat.reduceLeDiff]

omit hc in
/-- A value that is not the number of a hint. -/
theorem hint_bound : ∀ x : BitVec 8, x ≠ 0#8 → x ≠ 1#8 → x ≠ 2#8 → x ≠ 3#8 → x ≠ 4#8 → ¬ x.toNat < 5 := by decide

theorem decodeMsrImm_reads {i : Instr} (h25 : fld w 25 3 = 1#3) (h23 : fld w 23 2 = 2#2) (h20 : bitAt w 20 = false)
    (h : decodeMsrImm w = .ok i) : ReadsAs w i := by
  unfold decodeMsrImm at h
  dsimp only at h
  split at h
  case isFalse => cases h
  case isTrue mark =>
  simp only [Bool.and_eq_true, beq_iff_eq] at mark
  have e := encode_msrImm_fields h25 h23 mark.1 h20 mark.2
  split at h
  · next hint =>
    simp only [Bool.and_eq_true, beq_iff_eq, Bool.not_eq_true'] at hint
    obtain ⟨⟨h22, h16⟩, h8⟩ := hint
    have op : fld w 20 5 = 0x12#5 := fld_op h23 h22 mark.1 h20
    have row : fld w 8 12 = 0xF0#12 := by rw [fld_join w 8 8 4, fld_join w 8 4 4, h16, mark.2, h8]; rfl
    have hinted := encHint_fields h25 op row
    split at h <;> cases h
    case h_6 h0 h1 h2 h3 h4 =>
      rw [h22, h16, h8] at e
      have plain := hint_bound _ h0 h1 h2 h3 h4
      exact ⟨by simp [Instr.wellFormed, hc, isHint, plain], e⟩
    all_goals
      rw [‹fld w 0 8 = _›] at hinted
      exact ⟨hc, congrArg Code.arm hinted⟩
  · next hint =>
    cases h
    refine ⟨?_, e⟩
    simp only [Bool.and_eq_true, beq_iff_eq, Bool.not_eq_true', not_and] at hint
    simp only [Instr.wellFormed, hc, isHint, Bool.true_and, Bool.not_eq_true', Bool.and_eq_false_imp, Bool.and_eq_true, beq_iff_eq]
    intro zeros
    exact absurd zeros.2 (hint ⟨by simpa using zeros.1.1, zeros.1.2⟩)

theorem decode001_reads {i : Instr} (h25 : fld w 25 3 = 1#3) (h : decode001 w = .ok i) : ReadsAs w i := by
  unfold decode001 at h
  split at h
  · next misc =>
    simp only [Bool.and_eq_true, beq_iff_eq, Bool.not_eq_true'] at misc
    exact decodeMsrImm_reads hc h25 misc.1 misc.2 h
  · next misc =>
    cases h
    exact decodeDpImm_reads hc h25 fun h23 => by simpa [h23] using misc

theorem decode010_reads {i : Instr} (h25 : fld w 25 3 = 2#3) (h : decode010 w = .ok i) : ReadsAs w i := by
  have e := encLsImm_fields h25
  unfold decode010 at h
  dsimp only at h
  split at h <;> cases h
  all_goals
    rename_i h22 h20
    rw [h22, h20] at e
    exact ⟨hc, congrArg Code.arm e⟩

theorem decode011_reads {i : Instr} (h25 : fld w 25 3 = 3#3) (h : decode011 w = .ok i) : ReadsAs w i := by
  unfold decode011 at h
  dsimp only at h
  split at h
  · cases h
  · next h4 =>
    have e := encLsReg_fields h25 (by rw [← ofBool_bitAt, eq_false_of_ne_true h4]; rfl)
    split at h <;> cases h
    all_goals
      rename_i h22 h20
      rw [h22, h20] at e
      exact ⟨hc, congrArg Code.arm e⟩

theorem decode100_reads {i : Instr} (h25 : fld w 25 3 = 4#3) (h : decode100 w = .ok i) : ReadsAs w i := by
  have e := encBlock_fields h25
  unfold decode100 at h
  dsimp only at h
  split at h <;> cases h
  · next h20 =>
    rw [h20] at e
    exact ⟨hc, congrArg Code.arm e⟩
  · next h20 =>
    rw [eq_false_of_ne_true h20] at e
    exact ⟨hc, congrArg Code.arm e⟩

/-- B and BL (47_core_instructions.md R767). -/
theorem branch_reads (h25 : fld w 25 3 = 5#3) :
    ReadsAs w (if bitAt w 24 then .bl (fld w 28 4) (fld w 0 24) else .b (fld w 28 4) (fld w 0 24)) := by
  have op : fld w 24 4 = 5#3 ++ BitVec.ofBool (bitAt w 24) := by rw [fld_join w 24 1 3, h25, ofBool_bitAt]
  have e : put (fld w 28 4) 28 ||| put (fld w 24 4) 24 ||| put (fld w 0 24) 0 = w := by
    simp only [put_fld_or, put_fld_whole, Nat.reduceAdd, Nat.reduceLeDiff]
  rw [op] at e
  split
  · next h24 =>
    rw [h24] at e
    exact ⟨hc, congrArg Code.arm e⟩
  · next h24 =>
    rw [eq_false_of_ne_true h24] at e
    exact ⟨hc, congrArg Code.arm e⟩

/-- SWI (47_core_instructions.md R745). -/
theorem swi_reads (h24 : fld w 24 4 = 15#4) : ReadsAs w (.swi (fld w 28 4) (fld w 0 24)) := by
  refine ⟨hc, ?_⟩
  simp only [encode, ← h24, put_fld_or, put_fld_whole, Nat.reduceAdd, Nat.reduceLeDiff]

/-! ## Coprocessors -/

theorem decodeCp15_reads (h24 : fld w 24 4 = 14#4) (h8 : fld w 8 4 = 15#4) (h4 : fld w 4 1 = 1#1) : ReadsAs w (decodeCp15 w) := by
  have e := encCop_fields h24 h4
  rw [h8] at e
  show ReadsAs w ((listedCp15 (fld w 28 4) (fld w 12 4) (bitAt w 20, fld w 21 3, fld w 16 4, fld w 0 4, fld w 5 3)).getD _)
  cases row : listedCp15 (fld w 28 4) (fld w 12 4) (bitAt w 20, fld w 21 3, fld w 16 4, fld w 0 4, fld w 5 3) with
  | some i =>
    obtain ⟨wf, enc, -⟩ := listedCp15_eq_some row
    exact ⟨wf.trans hc, enc.trans (congrArg Code.arm e)⟩
  | none =>
    have unlisted := listedCp15_eq_none.1 row
    exact ⟨by simp [Instr.wellFormed, hc, unlisted], congrArg Code.arm e⟩

omit hc in
/-- The fields of a coprocessor 14 word as the table of CP14 reads them (46_cp14_debug.md R301). -/
theorem cp14Listed_fields : cp14Listed (fld w 12 14) (fld w 0 8) =
    ((fld w 24 2 == 2#2 && bitAt w 4 && cp14ListedRegs.contains (bitAt w 20, fld w 21 3, fld w 16 4, fld w 0 4, fld w 5 3)) ||
      (!bitAt w 25 && !bitAt w 22 && fld w 12 4 == 5#4)) := by
  simp only [cp14Listed, bitAt_fld, fld_fld w (show 12 + 2 ≤ 14 by decide), fld_fld w (show 9 + 3 ≤ 14 by decide),
    fld_fld w (show 4 + 4 ≤ 14 by decide), fld_fld w (show 0 + 4 ≤ 14 by decide), fld_fld w (show 8 + 1 ≤ 14 by decide),
    fld_fld w (show 10 + 1 ≤ 14 by decide), fld_fld w (show 13 + 1 ≤ 14 by decide), fld_fld w (show 0 + 4 ≤ 8 by decide),
    fld_fld w (show 4 + 1 ≤ 8 by decide), fld_fld w (show 5 + 3 ≤ 8 by decide)]

/-- A coprocessor 14 word that no row lists reads as the catch-all row (47_core_instructions.md R704). -/
theorem decodeCp14Other_reads (h26 : fld w 26 2 = 3#2) (h24 : fld w 24 2 ≠ 3#2) (h8 : fld w 8 4 = 14#4)
    (unlisted : cp14Listed (fld w 12 14) (fld w 0 8) = false) : ReadsAs w (decodeCp14Other w) := by
  refine ⟨?_, ?_⟩
  · have h : fld (fld w 12 14) 12 2 ≠ 3#2 := by rwa [fld_fld w (by decide)]
    simp [decodeCp14Other, Instr.wellFormed, hc, h, unlisted]
  · simp only [decodeCp14Other, encode, ← h26, ← h8, put_fld_or, put_fld_whole, Nat.reduceAdd, Nat.reduceLeDiff]

theorem decodeCp14_reads (h24 : fld w 24 4 = 14#4) (h8 : fld w 8 4 = 14#4) (h4 : bitAt w 4 = true) : ReadsAs w (decodeCp14 w) := by
  have h26 : fld w 26 2 = 3#2 := by rw [← fld_fld w (k := 24) (n := 4) (a := 2) (by decide), h24]; rfl
  have low : fld w 24 2 = 2#2 := by rw [← fld_fld w (k := 24) (n := 4) (a := 0) (by decide), h24]; rfl
  have h25 : bitAt w 25 = true := by rw [bitAt_fld, ← fld_fld w (k := 24) (n := 4) (a := 1) (by decide), h24]; rfl
  have other (out : cp14ListedRegs.contains (bitAt w 20, fld w 21 3, fld w 16 4, fld w 0 4, fld w 5 3) = false) :
      ReadsAs w (decodeCp14Other w) :=
    decodeCp14Other_reads hc h26 (by rw [low]; decide) h8 (by rw [cp14Listed_fields, out, h25]; simp)
  unfold decodeCp14
  dsimp only
  split
  · next key =>
    simp only [Bool.and_eq_true, beq_iff_eq] at key
    have e := encCop_fields h24 (by rw [← ofBool_bitAt, h4]; rfl)
    rw [h8, key.1, key.2] at e
    show ReadsAs w ((listedCp14 (fld w 28 4) (fld w 12 4) (bitAt w 20) (fld w 0 4) (fld w 5 3)).getD _)
    cases row : listedCp14 (fld w 28 4) (fld w 12 4) (bitAt w 20) (fld w 0 4) (fld w 5 3) with
    | some i =>
      obtain ⟨wf, enc, -⟩ := listedCp14_eq_some hc row
      exact ⟨wf, enc.trans (congrArg Code.arm e)⟩
    | none =>
      refine other (eq_false_of_ne_true fun listed => ?_)
      rw [key.1, key.2] at listed
      simpa [row] using listedCp14_isSome listed (fld w 28 4) (fld w 12 4)
  · next key =>
    refine other (eq_false_of_ne_true fun listed => key ?_)
    have rows : (cp14ListedRegs.all fun k => k.2.1 == 0#3 && k.2.2.1 == 0#4) = true := rfl
    exact List.all_eq_true.1 rows _ (List.contains_iff_mem.1 listed)

/-! ## The VFP -/

omit hc in
/-- Opcode_1 and L of a register transfer whose bits [23:20] are known. -/
theorem transfer_bits {v : BitVec 4} (h : fld w 20 4 = v) : fld w 21 3 = fld v 1 3 ∧ bitAt w 20 = bitAt v 0 := by
  rw [← h, fld_fld w (by decide), bitAt_fld (fld w 20 4), fld_fld w (by decide)]
  exact ⟨rfl, rfl⟩

theorem decodeVfpReg10_reads {i : Instr} (h24 : fld w 24 4 = 14#4) (h8 : fld w 8 4 = 10#4) (h4 : fld w 4 1 = 1#1)
    (h : decodeVfpReg10 w = .ok i) : ReadsAs w i := by
  unfold decodeVfpReg10 at h
  dsimp only at h
  split at h
  case isFalse => cases h
  case isTrue zero =>
  simp only [Bool.and_eq_true, beq_iff_eq] at zero
  have e := encVfpReg_fields h24 zero.2 h4 zero.1
  rw [h8] at e
  split at h
  case h_5 => cases h
  all_goals
    obtain ⟨opc1, l⟩ := transfer_bits ‹fld w 20 4 = _›
    rw [opc1, l] at e
  case h_1 | h_2 =>
    cases h
    exact ⟨hc, congrArg Code.arm e⟩
  all_goals
    split at h <;> cases h
    rename_i h7
    rw [eq_false_of_ne_true h7] at e
  case h_3 => exact ⟨hc, congrArg Code.arm e⟩
  case h_4 =>
    split
    · next stat =>
      simp only [Bool.and_eq_true, beq_iff_eq] at stat
      rw [stat.1, stat.2] at e
      exact ⟨hc, congrArg Code.arm e⟩
    · next stat =>
      refine ⟨?_, congrArg Code.arm e⟩
      simp only [Instr.wellFormed, hc, eq_false_of_ne_true stat]
      rfl

theorem decodeVfpReg11_reads {i : Instr} (h24 : fld w 24 4 = 14#4) (h8 : fld w 8 4 = 11#4) (h4 : fld w 4 1 = 1#1)
    (h : decodeVfpReg11 w = .ok i) : ReadsAs w i := by
  unfold decodeVfpReg11 at h
  dsimp only at h
  split at h
  case isFalse => cases h
  case isTrue zero =>
  simp only [Bool.and_eq_true, beq_iff_eq] at zero
  have h5 : fld w 5 2 = 0#2 := by rw [← fld_fld w (k := 5) (n := 3) (a := 0) (by decide), zero.2]; rfl
  have h7 : bitAt w 7 = false := by rw [bitAt_fld, ← fld_fld w (k := 5) (n := 3) (a := 2) (by decide), zero.2]; rfl
  have e := encVfpReg_fields h24 h5 h4 zero.1
  rw [h8, h7] at e
  split at h <;> cases h
  all_goals
    obtain ⟨opc1, l⟩ := transfer_bits ‹fld w 20 4 = _›
    rw [opc1, l] at e
    exact ⟨hc, congrArg Code.arm e⟩

/-- A VFP data-processing word (48_vfp.md R788). -/
theorem vfpData_reads (cp1 : Bool) (h24 : fld w 24 4 = 14#4) (h8 : fld w 8 4 = vfpCp cp1) (h4 : bitAt w 4 = false) :
    ReadsAs w (.vfpData (fld w 28 4) (fld w 20 4) (fld w 16 4) (fld w 12 4) cp1 (fld w 5 3) (fld w 0 4)) := by
  have low : fld w 4 1 = 0#1 := by rw [← ofBool_bitAt, h4]; rfl
  refine ⟨hc, ?_⟩
  simp only [encode, ← h24, ← h8, ← low, put_fld_or, put_fld_whole, Nat.reduceAdd, Nat.reduceLeDiff]

theorem decodeCopReg_reads {i : Instr} (h24 : fld w 24 4 = 14#4) (h : decodeCopReg w = .ok i) : ReadsAs w i := by
  unfold decodeCopReg at h
  dsimp only at h
  split at h
  case h_5 => cases h
  all_goals
    rename_i h8
    have set (h4 : bitAt w 4 = true) : fld w 4 1 = 1#1 := by rw [← ofBool_bitAt, h4]; rfl
  case h_1 =>
    cases h
    split
    · next h4 => exact decodeCp15_reads hc h24 h8 (set h4)
    · next h4 =>
      refine ⟨hc, ?_⟩
      have low : fld w 4 1 = 0#1 := by rw [← ofBool_bitAt, eq_false_of_ne_true h4]; rfl
      simp only [encode, ← h24, ← h8, ← low, put_fld_or, put_fld_whole, Nat.reduceAdd, Nat.reduceLeDiff]
  case h_2 =>
    cases h
    split
    · next h4 => exact decodeCp14_reads hc h24 h8 h4
    · next h4 =>
      have h26 : fld w 26 2 = 3#2 := by rw [← fld_fld w (k := 24) (n := 4) (a := 2) (by decide), h24]; rfl
      have low : fld w 24 2 = 2#2 := by rw [← fld_fld w (k := 24) (n := 4) (a := 0) (by decide), h24]; rfl
      have h25 : bitAt w 25 = true := by rw [bitAt_fld, ← fld_fld w (k := 24) (n := 4) (a := 1) (by decide), h24]; rfl
      exact decodeCp14Other_reads hc h26 (by rw [low]; decide) h8
        (by rw [cp14Listed_fields, eq_false_of_ne_true h4, h25]; simp)
  case h_3 =>
    split at h
    · next h4 => exact decodeVfpReg10_reads hc h24 h8 (set h4) h
    · next h4 =>
      cases h
      exact vfpData_reads hc false h24 h8 (eq_false_of_ne_true h4)
  case h_4 =>
    split at h
    · next h4 => exact decodeVfpReg11_reads hc h24 h8 (set h4) h
    · next h4 =>
      cases h
      exact vfpData_reads hc true h24 h8 (eq_false_of_ne_true h4)

omit hc in
/-- A word of the coprocessor load and store space that is none of the two-register transfers, nor of the single transfers, is a
well-formed multiple (48_vfp.md R786, R787). -/
theorem vfpMultipleOk_fields {cp1 : Bool}
    (pair : ¬ (fld w 21 4 == 2#4 && fld w 6 2 == 0#2 && bitAt w 4 && (!cp1 || !bitAt w 5)) = true)
    (single : ¬ (bitAt w 24 && !bitAt w 21 && !cp1) = true) (double : ¬ (bitAt w 24 && !bitAt w 21 && !bitAt w 22) = true) :
    vfpMultipleOk (bitAt w 24) (bitAt w 23) (bitAt w 22) (bitAt w 21) cp1 (fld w 0 8) = true := by
  have high : fld w 21 4 = BitVec.ofBool (bitAt w 24) ++ (BitVec.ofBool (bitAt w 23) ++
      (BitVec.ofBool (bitAt w 22) ++ BitVec.ofBool (bitAt w 21))) := by
    simp only [ofBool_bitAt]
    rw [← fld_join w 21 1 1, ← fld_join w 21 2 1, ← fld_join w 21 3 1]
  have low : fld w 4 4 = fld w 6 2 ++ (BitVec.ofBool (bitAt w 5) ++ BitVec.ofBool (bitAt w 4)) := by
    rw [ofBool_bitAt, ofBool_bitAt, ← fld_join w 4 1 1, ← fld_join w 4 2 2]
  unfold vfpMultipleOk
  rw [fld_fld w (by decide), fld_fld w (by decide), bitAt_fld (fld w 0 8), fld_fld w (by decide), ← bitAt_fld]
  simp only [Nat.zero_add]
  rw [low]
  rw [high] at pair
  clear high low
  generalize bitAt w 24 = p, bitAt w 23 = u, bitAt w 22 = d, bitAt w 21 = wb, bitAt w 5 = b5, bitAt w 4 = b4,
    fld w 6 2 = b76 at *
  revert p u d wb b5 b4 b76 cp1
  decide

theorem decodeVfpMemOrPair_reads (cp1 : Bool) (h25 : fld w 25 3 = 6#3) (h8 : fld w 8 4 = vfpCp cp1) :
    ReadsAs w (decodeVfpMemOrPair w cp1) := by
  unfold decodeVfpMemOrPair
  dsimp only
  split
  · next pair =>
    simp only [Bool.and_eq_true, beq_iff_eq] at pair
    obtain ⟨⟨⟨h21, h6⟩, h4⟩, h5⟩ := pair
    have e := encCopPair_fields h25 h21 h6 (by rw [← ofBool_bitAt, h4]; rfl)
    rw [h8] at e
    cases cp1 with
    | true =>
      rw [show bitAt w 5 = false by simpa using h5] at e
      split
      case h_1 h20 | h_2 h20 => rw [h20] at e; exact ⟨hc, congrArg Code.arm e⟩
      all_goals contradiction
    | false =>
      split
      case h_3 h20 | h_4 h20 => rw [h20] at e; exact ⟨hc, congrArg Code.arm e⟩
      all_goals contradiction
  · next pair =>
    have e := encCopMem_fields h25
    rw [h8] at e
    have load (h20 : bitAt w 20 = true) := h20 ▸ e
    have store (h20 : ¬ bitAt w 20 = true) := eq_false_of_ne_true h20 ▸ e
    unfold decodeVfpMem
    dsimp only
    split
    · next single =>
      simp only [Bool.and_eq_true, Bool.not_eq_true'] at single
      obtain ⟨⟨h24, h21⟩, rfl⟩ := single
      rw [h24, h21] at load store
      split
      · next h20 => exact ⟨hc, congrArg Code.arm (load h20)⟩
      · next h20 => exact ⟨hc, congrArg Code.arm (store h20)⟩
    · next single =>
      split
      · next double =>
        simp only [Bool.and_eq_true, Bool.not_eq_true'] at double
        obtain ⟨⟨h24, h21⟩, h22⟩ := double
        obtain rfl : cp1 = true := by simpa [h24, h21] using single
        rw [h24, h21, h22] at load store
        split
        · next h20 => exact ⟨hc, congrArg Code.arm (load h20)⟩
        · next h20 => exact ⟨hc, congrArg Code.arm (store h20)⟩
      · next double =>
        have ok := vfpMultipleOk_fields pair single double
        have wf : (condOk (fld w 28 4) && vfpMultipleOk (bitAt w 24) (bitAt w 23) (bitAt w 22) (bitAt w 21) cp1 (fld w 0 8)) = true := by
          rw [hc, ok]; rfl
        split
        · next h20 => exact ⟨wf, congrArg Code.arm (load h20)⟩
        · next h20 => exact ⟨wf, congrArg Code.arm (store h20)⟩

theorem decodeCopMem_reads {i : Instr} (h25 : fld w 25 3 = 6#3) (h : decodeCopMem w = .ok i) : ReadsAs w i := by
  have e := encCopMem_fields h25
  unfold decodeCopMem at h
  dsimp only at h
  split at h
  case h_5 => cases h
  case h_1 h8 =>
    cases h
    rw [h8] at e
    exact ⟨hc, congrArg Code.arm e⟩
  case h_2 h8 =>
    split at h
    · next dtr =>
      simp only [Bool.and_eq_true, beq_iff_eq, Bool.not_eq_true'] at dtr
      rw [h8, dtr.1, dtr.2] at e
      split at h <;> cases h
      · next h20 => rw [h20] at e; exact ⟨hc, congrArg Code.arm e⟩
      · next h20 => rw [eq_false_of_ne_true h20] at e; exact ⟨hc, congrArg Code.arm e⟩
    · next dtr =>
      cases h
      have h26 : fld w 26 2 = 3#2 := by rw [← fld_fld w (k := 25) (n := 3) (a := 1) (by decide), h25]; rfl
      have zero : bitAt w 25 = false := by rw [bitAt_fld, ← fld_fld w (k := 25) (n := 3) (a := 0) (by decide), h25]; rfl
      have low : fld w 24 2 = 0#1 ++ fld w 24 1 := by
        rw [fld_join w 24 1 1, show (0#1) = BitVec.ofBool (bitAt w 25) by rw [zero]; rfl, ofBool_bitAt]
      have apart : ∀ x : BitVec 1, 0#1 ++ x ≠ 3#2 ∧ 0#1 ++ x ≠ 2#2 := by decide
      refine decodeCp14Other_reads hc h26 (by rw [low]; exact (apart _).1) h8 ?_
      rw [cp14Listed_fields, zero, low, beq_false_of_ne (apart _).2]
      rw [Bool.and_comm] at dtr
      simpa using dtr
  case h_3 h8 =>
    cases h
    exact decodeVfpMemOrPair_reads hc false h25 h8
  case h_4 h8 =>
    cases h
    exact decodeVfpMemOrPair_reads hc true h25 h8

end

/-! ## The unconditional words -/

section
variable {w : Word} (h28 : fld w 28 4 = 15#4)
include h28

theorem setend_fields (h25 : fld w 25 3 = 0#3) (h20 : fld w 20 5 = 0x10#5) (h10 : fld w 10 10 = 0x40#10) (h0 : fld w 0 9 = 0#9) :
    ReadsAs w (.setend (bitAt w 9)) := by
  have e : put (fld w 28 4) 28 ||| put (fld w 25 3) 25 ||| put (fld w 20 5) 20 ||| put (fld w 10 10) 10 ||| flag (bitAt w 9) 9 |||
      put (fld w 0 9) 0 = w := by
    simp only [flag_bitAt, put_fld_or, put_fld_whole, Nat.reduceAdd, Nat.reduceLeDiff]
  have high : put 15#4 28 ||| put 0#3 25 ||| put 0x10#5 20 ||| put 0x40#10 10 = put 0xF101#16 16 := by decide
  rw [h28, h25, h20, h10, h0, high, put_zeros, BitVec.or_zero] at e
  exact ⟨rfl, congrArg Code.arm e⟩

theorem cps_fields (h25 : fld w 25 3 = 0#3) (h20 : fld w 20 5 = 0x10#5) (h9 : fld w 9 8 = 0#8) (h5 : fld w 5 1 = 0#1) :
    ReadsAs w (.cps (fld w 18 2) (bitAt w 17) (bitAt w 8) (bitAt w 7) (bitAt w 6) (fld w 0 5)) := by
  have e : put (fld w 28 4) 28 ||| put (fld w 25 3) 25 ||| put (fld w 20 5) 20 ||| put (fld w 18 2) 18 ||| flag (bitAt w 17) 17 |||
      put (fld w 9 8) 9 ||| flag (bitAt w 8) 8 ||| flag (bitAt w 7) 7 ||| flag (bitAt w 6) 6 ||| put (fld w 5 1) 5 |||
      put (fld w 0 5) 0 = w := by
    simp only [flag_bitAt, put_fld_or, put_fld_whole, Nat.reduceAdd, Nat.reduceLeDiff]
  have high : put 15#4 28 ||| put 0#3 25 ||| put 0x10#5 20 = put 0xF10#12 20 := by decide
  rw [h28, h25, h20, h9, h5, high, put_zeros, put_zeros, BitVec.or_zero, BitVec.or_zero] at e
  exact ⟨rfl, congrArg Code.arm e⟩

theorem srs_fields (h25 : fld w 25 3 = 4#3) (h22 : bitAt w 22 = true) (h20 : bitAt w 20 = false) (h16 : fld w 16 4 = 13#4)
    (h5 : fld w 5 11 = 0x28#11) : ReadsAs w (.srs (bitAt w 24) (bitAt w 23) (bitAt w 21) (fld w 0 5)) := by
  have one : fld w 22 1 = 1#1 := by rw [← ofBool_bitAt, h22]; rfl
  have zero : fld w 20 1 = 0#1 := by rw [← ofBool_bitAt, h20]; rfl
  refine ⟨rfl, ?_⟩
  unfold encode
  rw [← h28, ← h25, ← one, ← zero, ← h16, ← h5]
  simp only [flag_bitAt, put_fld_or, put_fld_whole, Nat.reduceAdd, Nat.reduceLeDiff]

theorem rfe_fields (h25 : fld w 25 3 = 4#3) (h22 : bitAt w 22 = false) (h20 : bitAt w 20 = true) (h0 : fld w 0 16 = 0xA00#16) :
    ReadsAs w (.rfe (bitAt w 24) (bitAt w 23) (bitAt w 21) (fld w 16 4)) := by
  have zero : fld w 22 1 = 0#1 := by rw [← ofBool_bitAt, h22]; rfl
  have one : fld w 20 1 = 1#1 := by rw [← ofBool_bitAt, h20]; rfl
  refine ⟨rfl, ?_⟩
  unfold encode
  rw [← h28, ← h25, ← one, ← zero, ← h0]
  simp only [flag_bitAt, put_fld_or, put_fld_whole, Nat.reduceAdd, Nat.reduceLeDiff]

theorem blxImm_fields (h25 : fld w 25 3 = 5#3) : ReadsAs w (.blxImm (bitAt w 24) (fld w 0 24)) := by
  refine ⟨rfl, ?_⟩
  simp only [encode, ← h28, ← h25, flag_bitAt, put_fld_or, put_fld_whole, Nat.reduceAdd, Nat.reduceLeDiff]

theorem decodeUncond_reads {i : Instr} (h : decodeUncond w = .ok i) : ReadsAs w i := by
  unfold decodeUncond at h
  split at h
  case isTrue => cases h
  case isFalse =>
  split at h
  case h_1 h25 =>
    split at h
    case isFalse => cases h
    case isTrue h20 =>
    split at h
    · next row =>
      cases h
      simp only [Bool.and_eq_true, beq_iff_eq] at row
      exact setend_fields h28 h25 (eq_of_beq h20) row.1 row.2
    · split at h <;> cases h
      next row =>
      simp only [Bool.and_eq_true, beq_iff_eq, Bool.not_eq_true'] at row
      exact cps_fields h28 h25 (eq_of_beq h20) row.1 (by rw [← ofBool_bitAt, row.2]; rfl)
  case h_2 =>
    split at h <;> cases h
    next row =>
    obtain rfl : w = 0xF57FF01F#32 := eq_of_beq row
    exact ⟨rfl, rfl⟩
  case h_3 h25 =>
    split at h
    · next row =>
      cases h
      simp only [Bool.and_eq_true, beq_iff_eq, Bool.not_eq_true'] at row
      exact srs_fields h28 h25 row.1.1.1 row.1.1.2 row.1.2 row.2
    · split at h <;> cases h
      next row =>
      simp only [Bool.and_eq_true, beq_iff_eq, Bool.not_eq_true'] at row
      exact rfe_fields h28 h25 row.1.1 row.1.2 row.2
  case h_4 h25 =>
    cases h
    exact blxImm_fields h28 h25
  case h_6 => split at h <;> cases h
  all_goals cases h

end

/-! ## The codes -/

theorem decodeArm_reads {w : Word} {i : Instr} (h : decodeArm w = .ok i) : ReadsAs w i := by
  unfold decodeArm at h
  dsimp only at h
  split at h
  · next always => exact decodeUncond_reads (eq_of_beq always) h
  · next always =>
    have hc : condOk (fld w 28 4) = true := by simpa [condOk] using always
    split at h
    case h_1 h25 => exact decode000_reads hc h25 h
    case h_2 h25 => exact decode001_reads hc h25 h
    case h_3 h25 => exact decode010_reads hc h25 h
    case h_4 h25 => exact decode011_reads hc h25 h
    case h_5 h25 => exact decode100_reads hc h25 h
    case h_6 h25 => cases h; exact branch_reads hc h25
    case h_7 h25 => exact decodeCopMem_reads hc h25 h
    case h_8 =>
      have spaces : ∀ x : BitVec 3, x = 0#3 ∨ x = 1#3 ∨ x = 2#3 ∨ x = 3#3 ∨ x = 4#3 ∨ x = 5#3 ∨ x = 6#3 ∨ x = 7#3 := by
        decide
      have h25 : fld w 25 3 = 7#3 := by
        have := spaces (fld w 25 3)
        tauto
      have h24 : fld w 24 4 = 7#3 ++ BitVec.ofBool (bitAt w 24) := by rw [fld_join w 24 1 3, h25, ofBool_bitAt]
      split at h
      · next set =>
        cases h
        exact swi_reads hc (by rw [h24, set]; rfl)
      · next set => exact decodeCopReg_reads hc (by rw [h24, eq_false_of_ne_true set]; rfl) h

/-- The fields of a halfword are those of the word that extends it. -/
theorem fld_half (h : Half) (k n : Nat) : fld h k n = fld (h.setWidth 32) k n := by
  apply BitVec.eq_of_getLsbD_eq
  intro i hi
  by_cases inside : k + i < 32
  · simp [fld, hi, inside]
  · simp [fld, hi, inside, BitVec.getLsbD_of_ge h (k + i) (by omega)]

theorem bitAt_half (h : Half) (k : Nat) : bitAt h k = bitAt (h.setWidth 32 : Word) k := by rw [bitAt_fld, bitAt_fld, fld_half]

/-- The low half of an extended halfword. -/
theorem put_fld_half (h : Half) {n : Nat} (e : n = 16) : (put (fld (h.setWidth 32 : Word) 0 n) 0).setWidth 16 = h := by
  subst e
  rw [← fld_half, fld_whole]
  simp [put]

theorem decodeThumb_reads {h : Half} {i : Instr} (e : decodeThumb h = .ok i) : i.wellFormed = true ∧ encode i = .thumb h := by
  unfold decodeThumb at e
  simp only [fld_half, bitAt_half] at e
  split at e
  · next row =>
    cases e
    refine ⟨rfl, ?_⟩
    simp only [encode, ← eq_of_beq row, put_fld_or, put_fld_half, Nat.reduceAdd, Nat.reduceLeDiff]
  · split at e
    · next row =>
      cases e
      refine ⟨rfl, ?_⟩
      simp only [encode, ← eq_of_beq row, put_fld_or, put_fld_half, Nat.reduceAdd, Nat.reduceLeDiff]
    · split at e
      · next row =>
        cases e
        simp only [Bool.and_eq_true, beq_iff_eq] at row
        have whole : put (fld (h.setWidth 32 : Word) 4 12) 4 ||| flag (bitAt (h.setWidth 32 : Word) 3) 3 |||
            put (fld (h.setWidth 32 : Word) 0 3) 0 = put (fld (h.setWidth 32 : Word) 0 16) 0 := by
          simp only [flag_bitAt, put_fld_or, Nat.reduceAdd, Nat.reduceLeDiff]
        rw [row.1, row.2, put_zeros, BitVec.or_zero] at whole
        exact ⟨rfl, congrArg Code.thumb ((congrArg (BitVec.setWidth 16) whole).trans (put_fld_half h rfl))⟩
      · split at e <;> cases e
        next row =>
        simp only [Bool.and_eq_true, beq_iff_eq, Bool.not_eq_true'] at row
        have whole : put (fld (h.setWidth 32 : Word) 5 11) 5 ||| flag (bitAt (h.setWidth 32 : Word) 4) 4 |||
            flag (bitAt (h.setWidth 32 : Word) 3) 3 ||| flag (bitAt (h.setWidth 32 : Word) 2) 2 |||
            flag (bitAt (h.setWidth 32 : Word) 1) 1 ||| flag (bitAt (h.setWidth 32 : Word) 0) 0 =
              put (fld (h.setWidth 32 : Word) 0 16) 0 := by
          simp only [flag_bitAt, put_fld_or, Nat.reduceAdd, Nat.reduceLeDiff]
        rw [row.1, row.2, show flag false 3 = 0#32 by decide, BitVec.or_zero] at whole
        exact ⟨rfl, congrArg Code.thumb ((congrArg (BitVec.setWidth 16) whole).trans (put_fld_half h rfl))⟩

/-- Each code of the access port, a used one or not, reads as a well-formed instruction (46_cp14_debug.md R336). -/
theorem decodeDbgtap_wellFormed {c : BitVec 5} {i : Instr} (h : decodeDbgtap c = .ok i) : i.wellFormed = true := by
  unfold decodeDbgtap at h
  split at h <;> cases h <;> rfl

end Sys2Proof
end

section
/-! What the decoder reads keeps every bit (O2). -/
namespace Sys2Proof

/-- Settles O2, by the spaces of the decoder (`decodeArm_reads`): what a row reads are the fields of the word, and the fields put back in
their places are the word. -/
theorem encodeOfDecode : Obligations.EncodeOfDecode := by
  unfold Obligations.EncodeOfDecode
  intro c i h
  cases c with
  | arm w =>
    obtain ⟨wf, enc⟩ := decodeArm_reads h
    exact ⟨wf, fun _ => enc⟩
  | thumb x =>
    obtain ⟨wf, enc⟩ := decodeThumb_reads h
    exact ⟨wf, fun _ => enc⟩
  | dbgtap x => exact ⟨decodeDbgtap_wellFormed h, fun apart => absurd rfl (apart x)⟩

end Sys2Proof
end

section
/-! SUPPORT. The encoding of an instruction decodes to it. -/
namespace Sys2Proof

/-! ## Fields of constants -/

@[simp] theorem fld_ofNat (m v k n : Nat) : fld (BitVec.ofNat m v) k n = BitVec.ofNat n ((v % 2 ^ m) >>> k) := by
  simp [fld, BitVec.extractLsb']

@[simp] theorem bitAt_ofNat (m v k : Nat) : bitAt (BitVec.ofNat m v) k = (BitVec.ofNat 1 ((v % 2 ^ m) >>> k) == 1#1) := by
  rw [bitAt_fld, fld_ofNat]

/-! ## The transfers of two registers among the VFP loads and stores -/

/-- The bits by which a transfer of two registers is told from a load or store (48_vfp.md R786). -/
def PairBits (p u d w cp1 : Bool) (off : BitVec 8) : Prop :=
  BitVec.ofBool p ++ BitVec.ofBool u ++ BitVec.ofBool d ++ BitVec.ofBool w = 2#4 ∧ fld off 6 2 = 0#2 ∧ bitAt off 4 = true ∧
    (cp1 = false ∨ bitAt off 5 = false)

/-- A transfer of two registers has P = 0. -/
theorem not_pairBits_of_pre (u d w cp1 : Bool) (off : BitVec 8) : ¬ PairBits true u d w cp1 off := by
  rintro ⟨lead, -⟩
  revert u d w
  decide

/-- A well-formed multiple is no transfer of two registers. -/
theorem not_pairBits_of_multiple {p u d w cp1 : Bool} {off : BitVec 8} (ok : vfpMultipleOk p u d w cp1 off = true) :
    ¬ PairBits p u d w cp1 off := by
  have low : fld off 4 4 = fld off 6 2 ++ (fld off 5 1 ++ fld off 4 1) := by
    rw [← fld_join off 4 1 1, ← fld_join off 4 2 2]
  unfold vfpMultipleOk at ok
  unfold PairBits
  rw [low, ← ofBool_bitAt off 5, ← ofBool_bitAt off 4] at ok
  clear low
  generalize bitAt off 5 = b5, bitAt off 4 = b4, fld off 6 2 = b76 at *
  revert p u d w b5 b4 b76 cp1
  decide

/-- A well-formed multiple is none of the single transfers. -/
theorem single_of_multiple {p u d w cp1 : Bool} {off : BitVec 8} (ok : vfpMultipleOk p u d w cp1 off = true) :
    (p && !w && !cp1) = false ∧ (p && !w && !d) = false := by
  unfold vfpMultipleOk at ok
  revert ok
  cases p <;> cases w <;> cases d <;> cases cp1 <;> simp

/-! ## Routing: the space of the decoder that an encoded word belongs to -/

section
variable {cond : Cond} (hc : condOk cond = true)
include hc

/-- The decoder's test for an unconditional word fails. -/
theorem condOk_beq : (cond == 15#4) = false := by simpa [condOk] using hc

/-- An access of CP15 that a row lists (30_encoding.md R118). -/
theorem decode_listedCp15 {rd : RegNum} {l : Bool} {opc1 : BitVec 3} {crn crm : BitVec 4} {opc2 : BitVec 3} {i : Instr}
    (row : listedCp15 cond rd (l, opc1, crn, crm, opc2) = some i) :
    decode (.arm (encCop cond opc1 l crn rd 15#4 opc2 crm)) = .ok i := by
  have e : decodeCp15 (encCop cond opc1 l crn rd 15#4 opc2 crm) =
      (listedCp15 cond rd (l, opc1, crn, crm, opc2)).getD (.cp15Unlisted cond opc1 l crn rd opc2 crm) := by
    simp [decodeCp15, listedCp15]
  rw [row] at e
  simpa [decode, decodeArm, condOk_beq hc, decodeCopReg] using e

/-- An access of CP15 that no row lists (30_encoding.md R116). -/
theorem decode_unlistedCp15 {rd : RegNum} {l : Bool} {opc1 : BitVec 3} {crn crm : BitVec 4} {opc2 : BitVec 3}
    (unlisted : cp15Listed (l, opc1, crn, crm, opc2) = false) :
    decode (.arm (encCop cond opc1 l crn rd 15#4 opc2 crm)) = .ok (.cp15Unlisted cond opc1 l crn rd opc2 crm) := by
  have e : decodeCp15 (encCop cond opc1 l crn rd 15#4 opc2 crm) =
      (listedCp15 cond rd (l, opc1, crn, crm, opc2)).getD (.cp15Unlisted cond opc1 l crn rd opc2 crm) := by
    simp [decodeCp15, listedCp15]
  rw [listedCp15_eq_none.2 unlisted] at e
  simpa [decode, decodeArm, condOk_beq hc, decodeCopReg] using e

/-- A register access of CP14 that a row lists (46_cp14_debug.md R301). -/
theorem decode_listedCp14 {rd : RegNum} {l : Bool} {crm : BitVec 4} {opc2 : BitVec 3} {i : Instr}
    (row : listedCp14 cond rd l crm opc2 = some i) : decode (.arm (encCop cond 0#3 l 0#4 rd 14#4 opc2 crm)) = .ok i := by
  have e : decodeCp14 (encCop cond 0#3 l 0#4 rd 14#4 opc2 crm) =
      (listedCp14 cond rd l crm opc2).getD (decodeCp14Other (encCop cond 0#3 l 0#4 rd 14#4 opc2 crm)) := by
    simp [decodeCp14, listedCp14]
  rw [row] at e
  simpa [decode, decodeArm, condOk_beq hc, decodeCopReg] using e

theorem decode_encDpImm {op : BitVec 4} {s : Bool} {rn rd : RegNum} {rot : BitVec 4} {imm : BitVec 8}
    (hs : fld op 2 2 = 2#2 → s = true) :
    decode (.arm (encDpImm cond op s rn rd rot imm)) = .ok (decodeDpImm (encDpImm cond op s rn rd rot imm) s) := by
  have apart : ¬ (fld op 2 2 = 2#2 ∧ s = false) := fun h => by simp [hs h.1] at h
  simp [decode, decodeArm, condOk_beq hc, decode001, apart]

theorem decode_encDpShiftImm {op : BitVec 4} {s : Bool} {rn rd : RegNum} {amount : BitVec 5} {ty : BitVec 2} {rm : RegNum}
    (hs : fld op 2 2 = 2#2 → s = true) :
    decode (.arm (encDpShiftImm cond op s rn rd amount ty rm)) =
      .ok (decodeDpShiftImm (encDpShiftImm cond op s rn rd amount ty rm) s) := by
  have apart : ¬ (fld op 2 2 = 2#2 ∧ s = false) := fun h => by simp [hs h.1] at h
  simp [decode, decodeArm, condOk_beq hc, decode000, apart]

theorem decode_encDpShiftReg {op : BitVec 4} {s : Bool} {rn rd rs : RegNum} {ty : BitVec 2} {rm : RegNum}
    (hs : fld op 2 2 = 2#2 → s = true) :
    decode (.arm (encDpShiftReg cond op s rn rd rs ty rm)) =
      .ok (decodeDpShiftReg (encDpShiftReg cond op s rn rd rs ty rm) s) := by
  have apart : ¬ (fld op 2 2 = 2#2 ∧ s = false) := fun h => by simp [hs h.1] at h
  simp [decode, decodeArm, condOk_beq hc, decode000, apart]

/-- The multiply, swap and exclusive words (47_core_instructions.md R730, R773). -/
theorem decode_encMisc_sync (op : BitVec 5) (a b d : BitVec 4) (rm : RegNum) :
    decode (.arm (encMisc cond op a b d 9#4 rm)) = decodeMulSync (encMisc cond op a b d 9#4 rm) := by
  simp [decode, decodeArm, condOk_beq hc, decode000]

/-- The register branches and CLZ (47_core_instructions.md R768, R769, R774). -/
theorem decode_encMisc_branch {op : BitVec 5} {lo : BitVec 4} (a b d : BitVec 4) (rm : RegNum) (hop : fld op 3 2 = 2#2)
    (h0 : bitAt op 0 = false) (hlo : bitAt lo 3 = false) (nonzero : lo ≠ 0#4) :
    decode (.arm (encMisc cond op a b d lo rm)) = decodeBranchReg (encMisc cond op a b d lo rm) := by
  simp [decode, decodeArm, condOk_beq hc, decode000, hop, h0, hlo, nonzero]

/-- The extra loads and stores (47_core_instructions.md R771). -/
theorem decode_encLsExtra (p u i w l : Bool) (rn rd : RegNum) (hi rm : BitVec 4) {lo : BitVec 4} (h3 : bitAt lo 3 = true)
    (h0 : bitAt lo 0 = true) (h1 : fld lo 1 2 ≠ 0#2) :
    decode (.arm (encLsExtra cond p u i w l rn rd hi lo rm)) = decodeLsExtra (encLsExtra cond p u i w l rn rd hi lo rm) := by
  simp [decode, decodeArm, condOk_beq hc, decode000, h3, h0, h1]

/-- A load or store of CP14 or the VFP, or a transfer of two registers (47_core_instructions.md R704). -/
theorem decode_encCopMem (p u n w l : Bool) (rn : RegNum) (rd cp : BitVec 4) (off : BitVec 8) :
    decode (.arm (encCopMem cond p u n w l rn rd cp off)) = decodeCopMem (encCopMem cond p u n w l rn rd cp off) := by
  simp [decode, decodeArm, condOk_beq hc]

/-- A VFP load or store that is none of the transfers of two registers (48_vfp.md R786, R787). -/
theorem decode_vfpMem {p u d w l cp1 : Bool} {rn : RegNum} {fd : BitVec 4} {off : BitVec 8}
    (apart : ¬ PairBits p u d w cp1 off) :
    decode (.arm (encCopMem cond p u d w l rn fd (vfpCp cp1) off)) =
      .ok (decodeVfpMem (encCopMem cond p u d w l rn fd (vfpCp cp1) off) cp1) := by
  have single : decodeVfpMemOrPair (encCopMem cond p u d w l rn fd (vfpCp cp1) off) cp1 =
      decodeVfpMem (encCopMem cond p u d w l rn fd (vfpCp cp1) off) cp1 := by
    unfold decodeVfpMemOrPair
    exact if_neg (by simpa [PairBits, and_assoc] using apart)
  rw [decode_encCopMem hc]
  cases cp1 <;> simp [decodeCopMem, vfpCp] at single ⊢ <;> exact single

theorem decode_vfpReg10 (opc1 : BitVec 3) (l : Bool) (fn : BitVec 4) (rd : RegNum) (n : Bool) :
    decode (.arm (encVfpReg cond opc1 l fn rd 10#4 n)) = decodeVfpReg10 (encVfpReg cond opc1 l fn rd 10#4 n) := by
  simp [decode, decodeArm, condOk_beq hc, decodeCopReg]

theorem decode_vfpReg11 (opc1 : BitVec 3) (l : Bool) (fn : BitVec 4) (rd : RegNum) (n : Bool) :
    decode (.arm (encVfpReg cond opc1 l fn rd 11#4 n)) = decodeVfpReg11 (encVfpReg cond opc1 l fn rd 11#4 n) := by
  simp [decode, decodeArm, condOk_beq hc, decodeCopReg]

/-- The transfers of two registers (48_vfp.md R786). -/
theorem decode_encCopPair (l : Bool) (rn rd : RegNum) (cp1 m : Bool) (fm : BitVec 4) (hm : cp1 = true → m = false) :
    decode (.arm (encCopPair cond l rn rd (vfpCp cp1) m fm)) =
      .ok (match cp1, l with
        | true, false => .fmdrr cond rn rd fm
        | true, true => .fmrrd cond rn rd fm
        | false, false => .fmsrr cond rn rd m fm
        | false, true => .fmrrs cond rn rd m fm) := by
  cases cp1 <;> cases l <;> simp_all [decode, decodeArm, condOk_beq hc, decodeCopMem, vfpCp, decodeVfpMemOrPair]

/-- A data-processing word of the VFP (48_vfp.md R788). -/
theorem decode_vfpData (opc1 fn fd : BitVec 4) (cp1 : Bool) (opc2 : BitVec 3) (fm : BitVec 4) :
    decode (encode (.vfpData cond opc1 fn fd cp1 opc2 fm)) = .ok (.vfpData cond opc1 fn fd cp1 opc2 fm) := by
  cases cp1 <;> simp [encode, decode, decodeArm, condOk_beq hc, decodeCopReg, vfpCp, bitAt_fld, fld_or, fld_put_in, fld_put_out]

/-- CDP of CP15 (30_encoding.md R115). -/
theorem decode_cdpP15 (opc1 crn : BitVec 4) (rd : RegNum) (opc2 : BitVec 3) (crm : BitVec 4) :
    decode (encode (.cdpP15 cond opc1 crn rd opc2 crm)) = .ok (.cdpP15 cond opc1 crn rd opc2 crm) := by
  simp [encode, decode, decodeArm, condOk_beq hc, decodeCopReg, bitAt_fld, fld_or, fld_put_in, fld_put_out]

/-- An access of CP14 that no row lists (47_core_instructions.md R704). -/
theorem decodeArm_cp14Other {w : Word} (h28 : fld w 28 4 = cond) (h26 : fld w 26 2 = 3#2) (h24 : fld w 24 2 ≠ 3#2)
    (h8 : fld w 8 4 = 14#4) (unlisted : cp14Listed (fld w 12 14) (fld w 0 8) = false) : decodeArm w = .ok (decodeCp14Other w) := by
  have h25 : fld w 25 3 = fld w 26 2 ++ fld w 25 1 := fld_join w 25 1 2
  have h242 : fld w 24 2 = fld w 25 1 ++ fld w 24 1 := fld_join w 24 1 1
  rw [← ofBool_bitAt w 25] at h25 h242
  rw [← ofBool_bitAt w 24] at h242
  rw [h26] at h25
  rw [cp14Listed_fields, Bool.or_eq_false_iff] at unlisted
  obtain ⟨notReg, notMem⟩ := unlisted
  cases b25 : bitAt w 25 with
  | false =>
    rw [b25] at h25 notMem
    have store : (fld w 12 4 == 5#4 && !bitAt w 22) = false := by
      rw [Bool.and_comm]
      simpa using notMem
    simp [decodeArm, h28, condOk_beq hc, h25, decodeCopMem, h8, store]
  | true =>
    rw [b25] at h25 h242
    have b24 : bitAt w 24 = false := eq_false_of_ne_true fun b24 => h24 (by rw [h242, b24]; rfl)
    have route : decodeArm w = .ok (if bitAt w 4 then decodeCp14 w else decodeCp14Other w) := by
      simp [decodeArm, h28, condOk_beq hc, h25, b24, decodeCopReg, h8]
    rw [route]
    split
    · next b4 =>
      rw [h242, b24, b4] at notReg
      unfold decodeCp14
      dsimp only
      split
      · next key =>
        simp only [Bool.and_eq_true, beq_iff_eq] at key
        rw [key.1, key.2] at notReg
        have none : listedCp14 (fld w 28 4) (fld w 12 4) (bitAt w 20) (fld w 0 4) (fld w 5 3) = none := by
          cases row : listedCp14 (fld w 28 4) (fld w 12 4) (bitAt w 20) (fld w 0 4) (fld w 5 3) with
          | none => rfl
          | some i => exact absurd (listedCp14_eq_some (h28 ▸ hc) row).2.2 (by simpa using notReg)
        exact congrArg (fun o => Except.ok (o.getD (decodeCp14Other w))) none
      · rfl
    · rfl

theorem decode_cp14Other {hi : BitVec 14} {lo : BitVec 8} (h24 : fld hi 12 2 ≠ 3#2) (unlisted : cp14Listed hi lo = false) :
    decode (encode (.cp14Other cond hi lo)) = .ok (.cp14Other cond hi lo) := by
  have fields : ∀ w, w = put cond 28 ||| put 3#2 26 ||| put hi 12 ||| put 14#4 8 ||| put lo 0 →
      fld w 28 4 = cond ∧ fld w 26 2 = 3#2 ∧ fld w 12 14 = hi ∧ fld w 8 4 = 14#4 ∧ fld w 0 8 = lo ∧ decode (.arm w) = decodeArm w := by
    rintro w rfl
    simp [fld_or, fld_put_in, fld_put_out, decode]
  obtain ⟨h28, h26, h12, h8, h0, e⟩ := fields _ rfl
  refine e.trans ?_
  rw [decodeArm_cp14Other hc h28 h26 (by rw [← fld_fld _ (k := 12) (n := 14) (a := 12) (by decide), h12]; exact h24) h8
    (by rw [h12, h0]; exact unlisted)]
  rw [decodeCp14Other, h28, h12, h0]

/-- The hints (47_core_instructions.md R703). -/
theorem decode_encHint (hint : BitVec 8) : decode (.arm (encHint cond hint)) = decodeMsrImm (encHint cond hint) := by
  simp [decode, decodeArm, condOk_beq hc, decode001]

/-- MSR with an immediate, before the hints are told apart (47_core_instructions.md R703, R716). -/
theorem decode_msrImm_word (r : Bool) (mask rot : BitVec 4) (imm : BitVec 8) :
    decode (encode (.msrImm cond r mask rot imm)) = if r = false ∧ mask = 0#4 ∧ rot = 0#4 then
      (match imm with
      | 0#8 => .ok (.nop cond)
      | 1#8 => .ok (.yield cond)
      | 2#8 => .ok (.wfe cond)
      | 3#8 => .ok (.wfi cond)
      | 4#8 => .ok (.sev cond)
      | _ => .ok (.msrImm cond false 0#4 0#4 imm))
      else .ok (.msrImm cond r mask rot imm) := by
  simp [encode, decode, decodeArm, condOk_beq hc, decode001, decodeMsrImm, flag, bitAt_fld, fld_or, fld_put_in, fld_put_out,
    and_assoc] <;> rfl

theorem decode_msrImm {r : Bool} {mask rot : BitVec 4} {imm : BitVec 8} (noHint : isHint r mask rot imm = false) :
    decode (encode (.msrImm cond r mask rot imm)) = .ok (.msrImm cond r mask rot imm) := by
  rw [decode_msrImm_word hc]
  split
  · next zero =>
    obtain ⟨rfl, rfl, rfl⟩ := zero
    have big : 5 ≤ imm.toNat := by simpa [isHint] using noHint
    split
    case h_6 => rfl
    all_goals simp at big
  · rfl

theorem decode_mrs (r : Bool) (rd : RegNum) : decode (encode (.mrs cond r rd)) = .ok (.mrs cond r rd) := by
  cases r <;> simp [encode_mrs, decode, decodeArm, condOk_beq hc, decode000, decodePsr]

theorem decode_msrReg (r : Bool) (mask : BitVec 4) (rm : RegNum) :
    decode (encode (.msrReg cond r mask rm)) = .ok (.msrReg cond r mask rm) := by
  cases r <;> simp [encode_msrReg, decode, decodeArm, condOk_beq hc, decode000, decodePsr]

theorem decode_mul (s : Bool) (rd rs rm : RegNum) : decode (encode (.mul cond s rd rs rm)) = .ok (.mul cond s rd rs rm) := by
  refine (congrArg decode (encode_mul ..)).trans ((decode_encMisc_sync hc ..).trans ?_)
  cases s <;> simp [decodeMulSync]

theorem decode_mla (s : Bool) (rd rn rs rm : RegNum) :
    decode (encode (.mla cond s rd rn rs rm)) = .ok (.mla cond s rd rn rs rm) := by
  refine (congrArg decode (encode_mla ..)).trans ((decode_encMisc_sync hc ..).trans ?_)
  cases s <;> simp [decodeMulSync]

/-- The word and byte transfers with an immediate offset (47_core_instructions.md R770). -/
theorem decode_encLsImm (p u b w l : Bool) (rn rd : RegNum) (off : BitVec 12) :
    decode (.arm (encLsImm cond p u b w l rn rd off)) = decode010 (encLsImm cond p u b w l rn rd off) := by
  simp [decode, decodeArm, condOk_beq hc]

/-- The word and byte transfers with a register offset (47_core_instructions.md R770). -/
theorem decode_encLsReg (p u b w l : Bool) (rn rd : RegNum) (amount : BitVec 5) (ty : BitVec 2) (rm : RegNum) :
    decode (.arm (encLsReg cond p u b w l rn rd amount ty rm)) = decode011 (encLsReg cond p u b w l rn rd amount ty rm) := by
  simp [decode, decodeArm, condOk_beq hc]

/-- The load and store multiples (47_core_instructions.md R772). -/
theorem decode_encBlock (p u s w l : Bool) (rn : RegNum) (list : BitVec 16) :
    decode (.arm (encBlock cond p u s w l rn list)) =
      .ok (if l then .ldm cond p u s w rn list else .stm cond p u s w rn list) := by
  cases l <;> simp [decode, decodeArm, condOk_beq hc, decode100]

theorem decode_swi (imm : BitVec 24) : decode (encode (.swi cond imm)) = .ok (.swi cond imm) := by
  simp [encode, decode, decodeArm, condOk_beq hc, bitAt_fld, fld_or, fld_put_in, fld_put_out]

theorem decode_b (imm : BitVec 24) : decode (encode (.b cond imm)) = .ok (.b cond imm) := by
  simp [encode, decode, decodeArm, condOk_beq hc, bitAt_fld, fld_or, fld_put_in, fld_put_out]

theorem decode_bl (imm : BitVec 24) : decode (encode (.bl cond imm)) = .ok (.bl cond imm) := by
  simp [encode, decode, decodeArm, condOk_beq hc, bitAt_fld, fld_or, fld_put_in, fld_put_out]

end

/-! ## Unconditional words, BKPT and the Thumb rows -/

theorem decode_bkpt (imm : BitVec 12) (immL : BitVec 4) : decode (encode (.bkpt imm immL)) = .ok (.bkpt imm immL) := by
  simp [encode, decode, decodeArm, decode000, decodeBranchReg, bitAt_fld, fld_or, fld_put_in, fld_put_out]

/-- Bits [19:10] of a word of the SETEND and CPS space, as the fields of the CPS row. -/
theorem setend_bits (w : Word) : fld w 10 10 = fld w 18 2 ++ (fld w 17 1 ++ (fld w 16 1 ++ fld w 10 6)) := by
  rw [← fld_join w 10 6 1, ← fld_join w 10 7 1, ← fld_join w 10 8 2]

theorem decode_setend (e : Bool) : decode (encode (.setend e)) = .ok (.setend e) := by
  simp [encode, decode, decodeArm, decodeUncond, isPreload, setend_bits, flag, bitAt_fld, fld_or, fld_put_in, fld_put_out]

theorem decode_cps (imod : BitVec 2) (m a i f : Bool) (mode : BitVec 5) :
    decode (encode (.cps imod m a i f mode)) = .ok (.cps imod m a i f mode) := by
  have apart : ∀ (x : BitVec 2) (y : BitVec 1), x ++ (y ++ 0#7) ≠ 64#10 := by decide
  simp [encode, decode, decodeArm, decodeUncond, isPreload, setend_bits, apart, flag, bitAt_fld, fld_or, fld_put_in, fld_put_out]

theorem decode_srs (p u w : Bool) (mode : BitVec 5) : decode (encode (.srs p u w mode)) = .ok (.srs p u w mode) := by
  simp [encode, decode, decodeArm, decodeUncond, isPreload, flag, bitAt_fld, fld_or, fld_put_in, fld_put_out]

theorem decode_rfe (p u w : Bool) (rn : RegNum) : decode (encode (.rfe p u w rn)) = .ok (.rfe p u w rn) := by
  simp [encode, decode, decodeArm, decodeUncond, isPreload, flag, bitAt_fld, fld_or, fld_put_in, fld_put_out]

theorem decode_blxImm (h : Bool) (imm : BitVec 24) : decode (encode (.blxImm h imm)) = .ok (.blxImm h imm) := by
  simp [encode, decode, decodeArm, decodeUncond, isPreload, flag, bitAt_fld, fld_or, fld_put_in, fld_put_out]

/-- The fields of the low half of a word. -/
theorem fld_lowHalf (w : Word) {k n : Nat} (h : k + n ≤ 16) : fld (w.setWidth 16 : Half) k n = fld w k n := by
  apply BitVec.eq_of_getLsbD_eq
  intro i hi
  simp [fld, hi, show k + i < 16 by omega]

theorem decode_setendThumb (e : Bool) : decode (encode (.setendThumb e)) = .ok (.setendThumb e) := by
  simp [-BitVec.setWidth_or, encode, decode, decodeThumb, fld_lowHalf, flag, bitAt_fld, fld_or, fld_put_in, fld_put_out]

theorem decode_cpsThumb (imod a i f : Bool) : decode (encode (.cpsThumb imod a i f)) = .ok (.cpsThumb imod a i f) := by
  have bits (w : Word) : fld w 4 12 = fld w 5 11 ++ fld w 4 1 := fld_join w 4 1 11
  have apart : ∀ x : BitVec 1, 0x5B3#11 ++ x ≠ 0xB65#12 := by decide
  simp [-BitVec.setWidth_or, encode, decode, decodeThumb, bits, apart, fld_lowHalf, flag, bitAt_fld, fld_or, fld_put_in, fld_put_out]

theorem decode_swiThumb (imm : BitVec 8) : decode (encode (.swiThumb imm)) = .ok (.swiThumb imm) := by
  simp [-BitVec.setWidth_or, encode, decode, decodeThumb, fld_lowHalf, fld_or, fld_put_in, fld_put_out]

theorem decode_bkptThumb (imm : BitVec 8) : decode (encode (.bkptThumb imm)) = .ok (.bkptThumb imm) := by
  simp [-BitVec.setWidth_or, encode, decode, decodeThumb, fld_lowHalf, fld_or, fld_put_in, fld_put_out]

/-! ## All rows -/

/-- Settles O1, by the families of rows: an encoded word is routed to the space of its family by fixed fields, and the space reads the
operands back from their fields. -/
theorem decodeOfEncode : Obligations.DecodeOfEncode := by
  intro i h
  cases i
  case mrcMainId | mrcCacheType | mrcTlbType | mrcCpuId | mrcIdPfr0 | mrcIdPfr1 | mrcIdDfr0 | mrcIdReserved13 |
      mrcIdMmfr0 | mrcIdMmfr1 | mrcIdMmfr2 | mrcIdMmfr3 | mrcIdIsar0 | mrcIdIsar1 | mrcIdIsar2 | mrcIdIsar3 |
      mrcIdIsar4 | mrcIdReserved25 | mrcIdReserved26 | mrcIdReserved27 | mrcC0Unlisted2 | mrcC0Unlisted4 |
      mrcC0Unlisted6 | mrcC0Unlisted7 | mcrC0 | mrcControl | mcrControl | mrcAuxControl | mcrAuxControl | mrcCpacr |
      mcrCpacr | mrcTtbr0 | mcrTtbr0 | mrcTtbr1 | mcrTtbr1 | mrcTtbcr | mcrTtbcr | mrcDacr | mcrDacr | mrcDfsr |
      mcrDfsr | mrcIfsr | mcrIfsr | mrcFar | mcrFar | mrcWfar | mcrWfar | mcrWaitForInterrupt | mrcPa |
      mcrInvalidateICache | mcrInvalidateICacheMva | mcrInvalidateICacheIndex | mcrFlushPrefetchBuffer |
      mcrFlushBtac | mcrFlushBtacEntry | mcrInvalidateDCache | mcrInvalidateDCacheMva | mcrInvalidateDCacheIndex |
      mcrInvalidateBothCaches | mcrVaToPaPrivRead | mcrVaToPaPrivWrite | mcrVaToPaUserRead | mcrVaToPaUserWrite |
      mcrCleanDCache | mcrCleanDCacheMva | mcrCleanDCacheIndex | mcrDsb | mcrDmb | mcrCleanInvDCache |
      mcrCleanInvDCacheMva | mcrCleanInvDCacheIndex | mcrInvalidateITlb | mcrInvalidateITlbEntry |
      mcrInvalidateITlbAsid | mcrInvalidateITlbMva | mcrInvalidateDTlb | mcrInvalidateDTlbEntry |
      mcrInvalidateDTlbAsid | mcrInvalidateDTlbMva | mcrInvalidateUTlb | mcrInvalidateUTlbEntry |
      mcrInvalidateUTlbAsid | mcrInvalidateUTlbMva | mrcDCacheLockdown | mcrDCacheLockdown | mrcTlbLockdown |
      mcrTlbLockdown | mrcPrrr | mcrPrrr | mrcNmrr | mcrNmrr | mrcFcsePid | mcrFcsePid | mrcContextId |
      mcrContextId | mrcThreadIdUrw | mcrThreadIdUrw | mrcThreadIdUro | mcrThreadIdUro | mrcThreadIdPrw |
      mcrThreadIdPrw | mrcPmnc | mcrPmnc | mrcCcnt | mcrCcnt | mrcPmn0 | mcrPmn0 | mrcPmn1 | mcrPmn1 |
      mcrTlbLockIndexRead | mcrTlbLockIndexWrite | mrcTlbLockVa | mcrTlbLockVa | mrcTlbLockPa | mcrTlbLockPa |
      mrcTlbLockAttr | mcrTlbLockAttr | mrcTlbDebugControl | mcrTlbDebugControl =>
    exact decode_listedCp15 h rfl
  case cp15Unlisted =>
    simp only [Instr.wellFormed, Bool.and_eq_true, Bool.not_eq_true'] at h
    exact decode_unlistedCp15 h.1 h.2
  case mrcDidr | mcrDscr | mrcDtr | mcrDtr | mrcVcr | mcrVcr | mrcBvr0 | mcrBvr0 | mrcBvr1 | mcrBvr1 | mrcBvr2 |
      mcrBvr2 | mrcBvr3 | mcrBvr3 | mrcBvr4 | mcrBvr4 | mrcBvr5 | mcrBvr5 | mrcBcr0 | mcrBcr0 | mrcBcr1 | mcrBcr1 |
      mrcBcr2 | mcrBcr2 | mrcBcr3 | mcrBcr3 | mrcBcr4 | mcrBcr4 | mrcBcr5 | mcrBcr5 | mrcWvr0 | mcrWvr0 | mrcWvr1 |
      mcrWvr1 | mrcWcr0 | mcrWcr0 | mrcWcr1 | mcrWcr1 | mrcDscrFlags =>
    exact decode_listedCp14 h rfl
  case mrcDscr =>
    simp only [Instr.wellFormed, Bool.and_eq_true, bne_iff_ne] at h
    exact decode_listedCp14 h.1 (by simp [listedCp14, decodeCp14Read, h.2])
  case cdpP15 =>
    exact decode_cdpP15 h ..
  case cp14Other =>
    simp only [Instr.wellFormed, Bool.and_eq_true, Bool.not_eq_true', bne_iff_ne] at h
    exact decode_cp14Other h.1.1 h.1.2 h.2
  case ldcStcP15 | ldcDtr | stcDtr =>
    exact (decode_encCopMem h ..).trans (by simp [decodeCopMem])
  case flds | fsts =>
    exact (decode_vfpMem (cp1 := false) h (not_pairBits_of_pre _ _ _ _ _)).trans (by simp [decodeVfpMem, vfpCp])
  case fldd | fstd =>
    exact (decode_vfpMem (cp1 := true) h (not_pairBits_of_pre _ _ _ _ _)).trans (by simp [decodeVfpMem, vfpCp])
  case fldm | fstm =>
    simp only [Instr.wellFormed, Bool.and_eq_true] at h
    obtain ⟨notSingle, notDouble⟩ := single_of_multiple h.2
    exact (decode_vfpMem h.1 (not_pairBits_of_multiple h.2)).trans (by simp [decodeVfpMem, notSingle, notDouble])
  case nop | yield | wfe | wfi | sev =>
    exact (decode_encHint h _).trans (by simp [decodeMsrImm])
  case msrImm =>
    simp only [Instr.wellFormed, Bool.and_eq_true, Bool.not_eq_true'] at h
    exact decode_msrImm h.1 h.2
  case mrs =>
    exact decode_mrs h ..
  case msrReg =>
    exact decode_msrReg h ..
  case mul =>
    exact decode_mul h ..
  case mla =>
    exact decode_mla h ..
  case swi =>
    exact decode_swi h ..
  case b =>
    exact decode_b h ..
  case bl =>
    exact decode_bl h ..
  case vfpData =>
    exact decode_vfpData h ..
  case bkpt =>
    exact decode_bkpt ..
  case setend =>
    exact decode_setend ..
  case cps =>
    exact decode_cps ..
  case srs =>
    exact decode_srs ..
  case rfe =>
    exact decode_rfe ..
  case blxImm =>
    exact decode_blxImm ..
  case setendThumb =>
    exact decode_setendThumb ..
  case cpsThumb =>
    exact decode_cpsThumb ..
  case swiThumb =>
    exact decode_swiThumb ..
  case bkptThumb =>
    exact decode_bkptThumb ..
  case clrex =>
    rfl
  case ldrex | strex | ldrexd | strexd | ldrexb | strexb | ldrexh | strexh | swp | swpb =>
    exact (decode_encMisc_sync h ..).trans (by simp [decodeMulSync])
  case bx | blxReg | bxj | clz =>
    exact (decode_encMisc_branch h _ _ _ _ rfl rfl rfl (by decide)).trans (by simp [decodeBranchReg])
  case andImm | eorImm | subImm | rsbImm | addImm | adcImm | sbcImm | rscImm | orrImm | movImm | bicImm | mvnImm =>
    exact (decode_encDpImm h fun b10 => absurd b10 (by decide)).trans (by simp [decodeDpImm])
  case tstImm | teqImm | cmpImm | cmnImm =>
    exact (decode_encDpImm h fun _ => rfl).trans (by simp [decodeDpImm])
  case andShiftImm | eorShiftImm | subShiftImm | rsbShiftImm | addShiftImm | adcShiftImm | sbcShiftImm |
      rscShiftImm | orrShiftImm | movShiftImm | bicShiftImm | mvnShiftImm =>
    exact (decode_encDpShiftImm h fun b10 => absurd b10 (by decide)).trans (by simp [decodeDpShiftImm])
  case tstShiftImm | teqShiftImm | cmpShiftImm | cmnShiftImm =>
    exact (decode_encDpShiftImm h fun _ => rfl).trans (by simp [decodeDpShiftImm])
  case andShiftReg | eorShiftReg | subShiftReg | rsbShiftReg | addShiftReg | adcShiftReg | sbcShiftReg |
      rscShiftReg | orrShiftReg | movShiftReg | bicShiftReg | mvnShiftReg =>
    exact (decode_encDpShiftReg h fun b10 => absurd b10 (by decide)).trans (by simp [decodeDpShiftReg])
  case tstShiftReg | teqShiftReg | cmpShiftReg | cmnShiftReg =>
    exact (decode_encDpShiftReg h fun _ => rfl).trans (by simp [decodeDpShiftReg])
  case ldrImm | strImm | ldrbImm | strbImm =>
    exact (decode_encLsImm h ..).trans (by simp [decode010])
  case ldrReg | strReg | ldrbReg | strbReg =>
    exact (decode_encLsReg h ..).trans (by simp [decode011])
  case strhImm | strhReg | ldrhImm | ldrhReg | ldrsbImm | ldrsbReg | ldrshImm | ldrshReg | ldrdImm | ldrdReg |
      strdImm | strdReg =>
    exact (decode_encLsExtra h _ _ _ _ _ _ _ _ _ rfl rfl (by decide)).trans (by simp [decodeLsExtra])
  case ldm | stm =>
    exact decode_encBlock h ..
  case fmsr | fmrs | fmxr | fmstat =>
    exact (decode_vfpReg10 h ..).trans (by simp [decodeVfpReg10])
  case fmdlr | fmdhr | fmrdl | fmrdh =>
    exact (decode_vfpReg11 h ..).trans (by simp [decodeVfpReg11])
  case fmrx =>
    simp only [Instr.wellFormed, Bool.and_eq_true, Bool.not_eq_true'] at h
    exact (decode_vfpReg10 h.1 ..).trans (by simp [decodeVfpReg10, h.2])
  case fmdrr | fmrrd =>
    exact decode_encCopPair h _ _ _ true _ _ fun _ => rfl
  case fmsrr | fmrrs =>
    exact decode_encCopPair h _ _ _ false _ _ nofun
  case dbgtapExtest | dbgtapScanN | dbgtapRestart | dbgtapHalt | dbgtapIntest | dbgtapItrsel | dbgtapIdcode |
      dbgtapBypass =>
    rfl

end Sys2Proof
end

section
/-! SUPPORT. What an instruction in User mode leaves alone: the relation, its rules for the operations of the state, and results. -/
namespace Sys2Proof.Machine

/-! ## The relation -/

/-- A register of the file that User mode names by no number: r8_fiq to r12_fiq and the r13 and r14 of the exception modes
(10_state.md R22). -/
def OtherBank (k : Nat) : Prop := 13 ≤ k ∧ k ≠ 18 ∧ k ≠ 19

/-- In User mode, and so it was before: the CP15 registers but the user read/write Thread ID Register, the VFP enable and the
registers of the other banks are as before (30_encoding.md R114). -/
structure Confined (s t : State) : Prop where
  mode : t.mode = modeUser
  halted : t.halted = false
  cp15 : t.cp15 = { s.cp15 with threadUrw := t.cp15.threadUrw }
  enable : bitAt t.vfp.fpexc 30 = bitAt s.vfp.fpexc 30
  regs : ∀ k (_ : k < 30), OtherBank k → t.regs[k] = s.regs[k]

/-- The registers that User mode names. -/
theorem not_otherBank_usr (n : RegNum) : n ≠ 15 → ¬ OtherBank (physIndex .usr n) := by
  unfold OtherBank
  revert n
  decide

theorem Confined.refl {s : State} (mode : s.mode = modeUser) (halted : s.halted = false) : Confined s s :=
  ⟨mode, halted, rfl, rfl, fun _ _ _ => rfl⟩

theorem Confined.ite {s t u : State} {c : Prop} [Decidable c] (h : Confined s t) (k : Confined s u) :
    Confined s (if c then t else u) := by
  split
  · exact h
  · exact k

section
variable {s t : State} (h : Confined s t)
include h

theorem Confined.bank : t.bank = .usr := by rw [State.bank, h.mode]; rfl
theorem Confined.unprivileged : t.privileged = false := by rw [State.privileged, h.halted, h.mode]; rfl
theorem Confined.spsr : t.spsr = none := by rw [State.spsr, h.bank]; rfl

/-- A change of none of the parts that the relation speaks of. -/
theorem Confined.same {u : State} (cpsr : u.cpsr = t.cpsr) (halted : u.halted = t.halted) (cp15 : u.cp15 = t.cp15)
    (enable : bitAt u.vfp.fpexc 30 = bitAt t.vfp.fpexc 30) (regs : u.regs = t.regs) : Confined s u where
  mode := by rw [State.mode, cpsr]; exact h.mode
  halted := halted.trans h.halted
  cp15 := by rw [cp15]; exact h.cp15
  enable := enable.trans h.enable
  regs k hk other := by simp only [regs]; exact h.regs k hk other

/-- A change of the memory system. -/
theorem Confined.memory {u : State} (m : MemoryOnly t u) : Confined s u :=
  h.same m.cpsr m.halted m.cp15 (by rw [m.vfp]) m.regs

/-! ## Operations of the state -/

theorem Confined.setBankReg (n : RegNum) (v : Word) : Confined s (t.setBankReg .usr n v) := by
  unfold State.setBankReg
  split
  · exact h
  · next hn =>
    exact
      { mode := h.mode
        halted := h.halted
        cp15 := h.cp15
        enable := h.enable
        regs := fun k hk other => by
          have apart : physIndex .usr n ≠ k := fun e => not_otherBank_usr n hn (e ▸ other)
          exact (Vector.getElem_set_ne (physIndex_lt _ _) hk apart).trans (h.regs k hk other) }

theorem Confined.setReg (n : RegNum) (v : Word) : Confined s (t.setReg n v) := by
  rw [State.setReg, h.bank]
  exact h.setBankReg n v

theorem Confined.setLink : Confined s t.setLink := h.setReg _ _
theorem Confined.setPc (v : Word) : Confined s (t.setPc v) := h.same rfl rfl rfl rfl rfl

theorem Confined.advance : Confined s t.advance := by
  unfold State.advance
  exact .ite h (h.setPc _)

theorem Confined.markWritten : Confined s t.markWritten := by
  unfold State.markWritten
  exact .ite (h.same rfl rfl rfl rfl rfl) h

theorem Confined.writePc (v : Word) : Confined s (t.writePc v) := (h.setPc v).markWritten
theorem Confined.noteStatus (b : Bool) : Confined s (t.noteStatus b) := h.same rfl rfl rfl rfl rfl

theorem Confined.writeBase (n : RegNum) : ∀ v, Confined s (t.writeBase n v)
  | none => h
  | some v => h.setReg n v

theorem Confined.returnWritePc (v : Word) : Confined s (returnWritePc t v) := by
  unfold Machine.returnWritePc
  exact .ite (h.writePc _) (.ite (h.writePc _) (h.writePc _))

theorem Confined.draw (n : Nat) : Confined s { t with freeCtr := n } := h.same rfl rfl rfl rfl rfl
theorem Confined.drawWord : Confined s t.drawWord.2 := h.draw _
theorem Confined.drawBool : Confined s t.drawBool.2 := h.draw _

/-- VFP registers changed, the enable bit not. -/
theorem Confined.setVfp {v : Vfp} (hv : bitAt v.fpexc 30 = bitAt t.vfp.fpexc 30) : Confined s { t with vfp := v } :=
  h.same rfl rfl rfl hv rfl

theorem Confined.setSreg (n : BitVec 5) (v : Word) : Confined s (t.setSreg n v) := h.setVfp rfl
theorem Confined.setDreg (n : BitVec 4) (v : BitVec 64) : Confined s (t.setDreg n v) := (h.setSreg _ _).setSreg _ _

/-- Bits of the CPSR other than the mode written. -/
theorem Confined.setCpsr {v : Word} (hv : (fld v 0 5 : BitVec 5) = fld t.cpsr 0 5) : Confined s (t.setCpsr v) where
  mode := Eq.trans hv h.mode
  halted := h.halted
  cp15 := h.cp15
  enable := h.enable
  regs := h.regs

theorem Confined.setCpsrBit (b : Bool) {k : Nat} (hk : 5 ≤ k) : Confined s (t.setCpsr (setBit t.cpsr k b)) :=
  h.setCpsr (mode_setBit _ b hk)

theorem Confined.setNzcv (n z c v : Bool) : Confined s (t.setNzcv n z c v) :=
  h.setCpsr <| by
    rw [mode_setBit _ _ (by omega), mode_setBit _ _ (by omega), mode_setBit _ _ (by omega), mode_setBit _ _ (by omega)]

/-- A write of the CPSR that keeps the mode. -/
theorem Confined.writeCpsr {v : Word} (hm : (t.writeCpsr v).mode = t.mode) : Confined s (t.writeCpsr v) := by
  have e : t.writeCpsr v =
      { t.setCpsr (cpsrWritten t v) with stuck := t.stuck || !legalMode (fld (cpsrWritten t v) 0 5) } := by
    unfold State.writeCpsr
    rw [h.halted]
    rfl
  rw [e] at hm ⊢
  exact ⟨hm.trans h.mode, h.halted, h.cp15, h.enable, h.regs⟩

/-- The DSCR written, but not its halted bit. -/
theorem Confined.setDscr {v : Word} (hv : bitAt v 0 = bitAt t.dbg.dscr 0) : Confined s (t.setDscr v) :=
  h.same rfl hv rfl rfl rfl

/-- The user read/write Thread ID Register written (45_cp15_c13_c15.md R252). -/
theorem Confined.setThreadUrw (v : Word) : Confined s (t.setCp15 { t.cp15 with threadUrw := v }) where
  mode := h.mode
  halted := h.halted
  cp15 := by
    have e := h.cp15
    simp only [State.setCp15_cp15]
    rw [e]
  enable := h.enable
  regs := h.regs

end

/-! ## Results -/

/-- The states in which a result leaves the machine are confined. -/
def Res.Confined {α : Type} (s : State) (r : Res α) : Prop :=
  match r with
  | .ok _ t => Machine.Confined s t
  | .exc _ t => Machine.Confined s t
  | .fault _ => True
  | .refused _ => True

theorem Res.Confined.ite {α : Type} {s : State} {c : Prop} [Decidable c] {x y : Res α} (hx : x.Confined s) (hy : y.Confined s) :
    (if c then x else y).Confined s := by
  split
  · exact hx
  · exact hy

theorem Res.Confined.bind {α β : Type} {s : State} {r : Res α} {f : α → State → Res β} (h : r.Confined s)
    (k : ∀ a t, Machine.Confined s t → (f a t).Confined s) : (r.bind f).Confined s := by
  cases r with
  | ok a t => exact k a t h
  | exc x t => exact h
  | fault e => trivial
  | refused e => trivial

/-- A part that works on the memory system alone. -/
theorem Confined.run {α : Type} {s t : State} {r : Res α} (h : Confined s t) (m : r.MemoryOnly t) : r.Confined s := by
  cases r with
  | ok a u => exact h.memory m
  | exc x u => exact h.memory m
  | fault e => trivial
  | refused e => trivial

/-! ## The end of an instruction -/

/-- What an instruction of User mode may have done where it ends: an abort records its status and address, and an entry writes the
r14 of its mode (30_encoding.md R114, 60_exceptions.md R550). -/
structure UserEnd (s t : State) : Prop where
  cp15 : t.cp15 = { s.cp15 with
    threadUrw := t.cp15.threadUrw, dfsr := t.cp15.dfsr, ifsr := t.cp15.ifsr, far := t.cp15.far, wfar := t.cp15.wfar }
  faults : t.mode ≠ modeAbt → t.cp15.dfsr = s.cp15.dfsr ∧ t.cp15.ifsr = s.cp15.ifsr ∧ t.cp15.far = s.cp15.far ∧
    t.cp15.wfar = s.cp15.wfar
  enable : bitAt t.vfp.fpexc 30 = bitAt s.vfp.fpexc 30
  regs : ∀ k (_ : k < 30), OtherBank k → k ≠ physIndex t.bank 14 → t.regs[k] = s.regs[k]

theorem UserEnd.ite {s t u : State} {c : Prop} [Decidable c] (h : UserEnd s t) (k : UserEnd s u) :
    UserEnd s (if c then t else u) := by
  split
  · exact h
  · exact k

/-- A confined state is such an end. -/
theorem Confined.userEnd {s t : State} (h : Confined s t) : UserEnd s t where
  cp15 := by rw [h.cp15]
  faults _ := by rw [h.cp15]; exact ⟨rfl, rfl, rfl, rfl⟩
  enable := h.enable
  regs k hk other _ := h.regs k hk other

/-- From a confined state the status of a fault has been recorded. -/
structure FaultRecorded (s t : State) : Prop where
  cp15 : t.cp15 = { s.cp15 with
    threadUrw := t.cp15.threadUrw, dfsr := t.cp15.dfsr, ifsr := t.cp15.ifsr, far := t.cp15.far, wfar := t.cp15.wfar }
  enable : bitAt t.vfp.fpexc 30 = bitAt s.vfp.fpexc 30
  regs : ∀ k (_ : k < 30), OtherBank k → t.regs[k] = s.regs[k]

theorem Confined.faultRecorded {s t : State} (h : Confined s t) : FaultRecorded s t :=
  ⟨h.userEnd.cp15, h.enable, h.regs⟩

section
variable {s t : State} (h : FaultRecorded s t)
include h

/-- A change that leaves all of this alone. -/
theorem FaultRecorded.same {u : State} (cp15 : u.cp15 = t.cp15) (vfp : u.vfp = t.vfp) (regs : u.regs = t.regs) :
    FaultRecorded s u := ⟨cp15 ▸ h.cp15, vfp ▸ h.enable, fun k hk other => by simp only [regs]; exact h.regs k hk other⟩

theorem FaultRecorded.drawWord : FaultRecorded s t.drawWord.2 := h.same rfl rfl rfl
theorem FaultRecorded.setDscr (v : Word) : FaultRecorded s (t.setDscr v) := h.same rfl rfl rfl
theorem FaultRecorded.setIfsr (v : Word) : FaultRecorded s (t.setIfsr v) := by
  obtain ⟨cp15, enable, regs⟩ := h
  exact ⟨by rw [State.setIfsr_cp15, cp15], enable, regs⟩
theorem FaultRecorded.setDfsr (v : Word) : FaultRecorded s (t.setDfsr v) := by
  obtain ⟨cp15, enable, regs⟩ := h
  exact ⟨by rw [State.setDfsr_cp15, cp15], enable, regs⟩
theorem FaultRecorded.setFar (v : Word) : FaultRecorded s (t.setFar v) := by
  obtain ⟨cp15, enable, regs⟩ := h
  exact ⟨by rw [State.setFar_cp15, cp15], enable, regs⟩
theorem FaultRecorded.setWfar (v : Word) : FaultRecorded s (t.setWfar v) := by
  obtain ⟨cp15, enable, regs⟩ := h
  exact ⟨by rw [State.setWfar_cp15, cp15], enable, regs⟩
theorem FaultRecorded.openWfar : FaultRecorded s (openWfar t) :=
  ((h.same (u := t.drawBool.2) rfl rfl rfl).drawWord.setWfar _)

omit h in
theorem FaultRecorded.ite {u : State} {c : Prop} [Decidable c] (h : FaultRecorded s t) (k : FaultRecorded s u) :
    FaultRecorded s (if c then t else u) := by
  split
  · exact h
  · exact k

/-- The register of the exception mode that its entry writes is the one that `UserEnd` leaves out. -/
theorem FaultRecorded.enter {mode : BitVec 5} {offset link : Word} {a f : Bool} 
    (faults : mode ≠ modeAbt → t.cp15.dfsr = s.cp15.dfsr ∧ t.cp15.ifsr = s.cp15.ifsr ∧ t.cp15.far = s.cp15.far ∧
      t.cp15.wfar = s.cp15.wfar) : UserEnd s (t.enter mode offset link a f) := by
  have hmode : (t.enter mode offset link a f).mode = mode := by unfold State.mode; rw [enter_cpsr, entryCpsr_mode]
  have hregs : (t.enter mode offset link a f).regs = t.regs.set (physIndex (bankOf mode) 14) link (physIndex_lt _ _) := by
    simp [State.enter, State.setBankReg]
  exact
    { cp15 := by rw [enter_cp15]; exact h.cp15
      faults := fun hm => by rw [enter_cp15]; exact faults (hmode ▸ hm)
      enable := by
        have e : (t.enter mode offset link a f).vfp = t.vfp := by simp [State.enter]
        rw [e]; exact h.enable
      regs := fun k hk other apart => by
        rw [State.bank, hmode] at apart
        simp only [hregs]
        exact (Vector.getElem_set_ne _ hk (Ne.symm apart)).trans (h.regs k hk other) }

end

section
variable {s t : State} (h : Confined s t)
include h

/-- An exception that is no abort. -/
theorem Confined.enter {mode : BitVec 5} {offset link : Word} {a f : Bool} : UserEnd s (t.enter mode offset link a f) :=
  h.faultRecorded.enter fun _ => h.userEnd.faults (by rw [h.mode]; decide)

theorem Confined.takeUndefined : UserEnd s (takeUndefined t) := by
  unfold Machine.takeUndefined
  split
  · exact h.drawWord.enter
  · exact h.enter

theorem Confined.takePrefetchAbort (f : FetchFault) : UserEnd s (takePrefetchAbort f t) :=
  (h.faultRecorded.openWfar.drawWord.setIfsr _).enter (absurd rfl)

theorem Confined.takeDataAbort (f : DataFault) : UserEnd s (takeDataAbort f t) := by
  have drawn : FaultRecorded s t.clearWatch.drawWord.2.drawWord.2.drawWord.2 :=
    (h.faultRecorded.same (u := t.clearWatch) rfl rfl rfl).drawWord.drawWord.drawWord
  have recorded := ((drawn.setDfsr (dfsrValue f.status f.domain f.sd f.write t.clearWatch.drawWord.1)).setFar f.mva).setWfar
    t.clearWatch.drawWord.2.drawWord.1
  exact .ite (((FaultRecorded.ite (recorded.drawWord.setIfsr _) recorded).setDscr _).enter (absurd rfl))
    ((FaultRecorded.ite (recorded.drawWord.setIfsr _) recorded).enter (absurd rfl))

omit h in
theorem FaultRecorded.debugPrefetchAbort {u : State} (hu : FaultRecorded s u) (cause : BitVec 4) :
    UserEnd s (debugPrefetchAbort u cause) :=
  ((hu.drawWord.setDscr _).setIfsr _).enter (absurd rfl)

theorem Confined.takeBkpt : UserEnd s (takeBkpt t) := by
  unfold Machine.takeBkpt
  rw [if_neg (by simp [h.halted])]
  split
  · have e := h.userEnd
    exact ⟨e.cp15, e.faults, e.enable, e.regs⟩
  · exact h.faultRecorded.debugPrefetchAbort _
  · exact h.faultRecorded.openWfar.debugPrefetchAbort _

theorem Confined.takeException (x : Exc) : UserEnd s (takeException x t) := by
  cases x with
  | undefined => exact h.takeUndefined
  | swi => exact h.enter
  | prefetchAbort f => exact h.takePrefetchAbort f
  | dataAbort f => exact h.takeDataAbort f
  | bkpt => exact h.takeBkpt

end

/-- An outcome whose next state, if there is one, an instruction of User mode may give. -/
structure EndsConfined (s : State) (o : Host.Outcome State Fault Refusal) : Prop where
  next : ∀ t, o = .next t → UserEnd s t

theorem endsConfined_next {s t : State} (h : UserEnd s t) : EndsConfined s (.next t) := ⟨fun _ e => by cases e; exact h⟩

theorem endsConfined_finish {s : State} {r : Res Unit} (h : r.Confined s) : EndsConfined s (finish r) := by
  cases r with
  | ok a u => exact endsConfined_next (Confined.userEnd h)
  | exc x u =>
    unfold finish
    dsimp only
    split
    · exact ⟨fun _ => nofun⟩
    · exact endsConfined_next (Confined.takeException h x)
  | fault e => exact ⟨fun _ => nofun⟩
  | refused e => exact ⟨fun _ => nofun⟩

section
variable {s : State} (h : Confined s s)
include h

theorem endsConfined_whenPasses {cond : Cond} {m : State → Res Unit} (k : (m s).Confined s) :
    EndsConfined s (whenPasses cond s m) := by
  unfold whenPasses
  split
  · exact endsConfined_finish k
  · exact endsConfined_next h.advance.userEnd

theorem endsConfined_whenBranches {cond : Cond} {m : State → Res Unit} (k : (m s).Confined s) :
    EndsConfined s (whenBranches cond s m) := by
  unfold whenBranches
  split
  · exact endsConfined_finish k
  · split
    · exact endsConfined_next (h.drawWord.writePc _).userEnd
    · exact endsConfined_next h.advance.userEnd

end

end Sys2Proof.Machine
end

section
/-! SUPPORT. What the instructions of User mode leave alone: branches, data processing, status, CP14 and CP15. -/
namespace Sys2Proof.Machine

section
variable {s t : State} (h : Confined s t)
include h

/-! ## Branches, data processing and moves -/

theorem Confined.bxWritePc (v : Word) : (bxWritePc t v).Confined s :=
  .ite ((h.setCpsrBit true (by omega)).writePc _) (.ite trivial ((h.setCpsrBit false (by omega)).writePc _))

theorem Confined.aluWritePc (v : Word) : (aluWritePc t v).Confined s :=
  .ite (h.writePc _) (.ite (h.writePc _) (.ite (h.writePc _) trivial))

theorem Confined.loadWritePc (v : Word) : (loadWritePc t v).Confined s := .ite (h.writePc _) (h.bxWritePc v)

/-- User mode has no SPSR to return through (60_exceptions.md R512). -/
theorem Confined.returnFromSpsr (v : Word) : (returnFromSpsr t v).Confined s := by
  unfold Machine.returnFromSpsr
  rw [h.spsr]
  trivial

theorem Confined.moveToCore (rd : RegNum) (v : Word) : (moveToCore rd v t).Confined s :=
  .ite (h.setNzcv ..).advance (h.setReg rd v).advance

theorem Confined.flagsThenReg {flags : State → State} (hf : Confined s (flags t)) (sb : Bool) (rd : RegNum) (v : Word) :
    Confined s ((if sb then flags t else t).setReg rd v).advance := ((hf.ite h).setReg rd v).advance

theorem Confined.writeResult {flags : State → State} (hf : Confined s (flags t)) (sb : Bool) (rd : RegNum) (v : Word) :
    (writeResult t sb rd v flags).Confined s :=
  .ite (.ite (h.returnFromSpsr v) (h.aluWritePc v)) (h.flagsThenReg hf sb rd v)

theorem Confined.writeLogic (sb : Bool) (rd : RegNum) (c : Bool) (v : Word) : (writeLogic t sb rd c v).Confined s :=
  h.writeResult (h.setNzcv ..) sb rd v

theorem Confined.writeArith (sb : Bool) (rd : RegNum) (x : Sum) : (writeArith t sb rd x).Confined s :=
  h.writeResult (h.setNzcv ..) sb rd x.result

theorem Confined.testLogic (c : Bool) (v : Word) : (testLogic t c v).Confined s := (h.setNzcv ..).advance
theorem Confined.testArith (x : Sum) : (testArith t x).Confined s := (h.setNzcv ..).advance

omit h in
theorem Res.Confined.noPc {r : Res Unit} (k : r.Confined s) (l : List RegNum) : (noPc l r).Confined s := .ite trivial k

theorem Confined.writeStatus (rd : RegNum) (v : Word) : (writeStatus t rd v).Confined s :=
  .ite (h.aluWritePc v) (h.setReg rd v).advance

/-- MSR: no SPSR in User mode, and of the CPSR not the mode (10_state.md R34). -/
theorem Confined.moveToStatus (r : Bool) (mask : BitVec 4) (v : Word) : (moveToStatus r mask v t).Confined s := by
  have kept := unescalated_moveToStatus r mask v t
  unfold Machine.moveToStatus at kept ⊢
  dsimp only at kept ⊢
  split
  · rw [h.spsr]
    trivial
  · next hr =>
    rw [if_neg hr] at kept
    have mode := (kept.user h.unprivileged).mode
    exact (h.writeCpsr ((SameStatus.refl _).advance.mode.symm.trans mode)).advance

end

/-! ## CP14 and CP15 -/

section
variable {s : State} (h : Confined s s)
include h

theorem endsConfined_cp14Run {cond : Cond} {k : Cp14Kind} {m : State → Res Unit} (hm : (m s).Confined s) :
    EndsConfined s (cp14Run cond k s m) := endsConfined_whenPasses h (.ite hm h)

theorem endsConfined_cp14Transfer {cond : Cond} {k : Cp14Kind} {rd : RegNum} {m : State → Res Unit} (hm : (m s).Confined s) :
    EndsConfined s (cp14Transfer cond k rd s m) := endsConfined_cp14Run h (.ite h hm)

theorem endsConfined_cp14Read (cond : Cond) (k : Cp14Kind) (rd : RegNum) (v : State → Word) :
    EndsConfined s (cp14Read cond k rd s v) := endsConfined_cp14Transfer h (h.setReg rd _).advance

theorem endsConfined_cp14Write {cond : Cond} {k : Cp14Kind} {rd : RegNum} {f : Word → State → State}
    (hf : ∀ v, Confined s (f v s)) : EndsConfined s (cp14Write cond k rd s f) := endsConfined_cp14Transfer h (hf _).advance

theorem endsConfined_mrcDscrFlags (cond : Cond) : EndsConfined s (execMrcDscrFlags cond s) :=
  endsConfined_cp14Run h (h.drawBool.drawBool.setNzcv ..).advance

omit h in
theorem Confined.wdtrWrite {t : State} (k : Confined s t) (v : Word) : Confined s (wdtrWrite v t) :=
  k.same rfl (bitAt_setFld_zero t.dbg.dscr 29 _ (by omega)) rfl rfl rfl

omit h in
theorem Confined.rdtrRead {t : State} (k : Confined s t) : Confined s (rdtrRead t).2 :=
  k.setDscr (bitAt_setFld_zero _ 30 _ (by omega))

omit h in
/-- The core writes no status bit of the DSCR, the halted bit least of all (46_cp14_debug.md R304). -/
theorem Confined.dscrWrite {t : State} (k : Confined s t) (v : Word) : Confined s (dscrWrite v t) :=
  k.setDscr (by simp [bitAt_eq_getLsbD])

theorem endsConfined_ldcDtr (cond : Cond) (p u w : Bool) (rn : RegNum) (off : BitVec 8) :
    EndsConfined s (execLdcDtr cond p u w rn off s) :=
  endsConfined_cp14Run h <| .ite trivial <| (h.run (memoryOnly_loadMany ..)).bind fun _ _ k =>
    ((k.wdtrWrite _).writeBase _ _).advance

theorem endsConfined_stcDtr (cond : Cond) (p u w : Bool) (rn : RegNum) (off : BitVec 8) :
    EndsConfined s (execStcDtr cond p u w rn off s) :=
  endsConfined_cp14Run h <| .ite trivial <| (h.run (memoryOnly_storeMany ..)).bind fun _ _ k =>
    (k.rdtrRead.writeBase _ _).advance

/-- A privileged operation of CP15 is Undefined in User mode, whatever it does (30_encoding.md R114). -/
theorem endsConfined_cp15Run (cond : Cond) (rd : RegNum) (m : State → Res Unit) : EndsConfined s (cp15Run cond rd s m) := by
  refine endsConfined_whenPasses h ?_
  rw [h.unprivileged]
  exact h

theorem endsConfined_cp15Read (cond : Cond) (rd : RegNum) (v : State → Word) : EndsConfined s (cp15Read cond rd s v) :=
  endsConfined_cp15Run h ..

theorem endsConfined_cp15ReadWith (cond : Cond) (rd : RegNum) (v : State → Word × State) :
    EndsConfined s (cp15ReadWith cond rd s v) := endsConfined_cp15Run h ..

theorem endsConfined_cp15Write (cond : Cond) (rd : RegNum) (f : Word → State → State) : EndsConfined s (cp15Write cond rd s f) :=
  endsConfined_cp15Run h ..

theorem endsConfined_cp15RunUser {cond : Cond} {rd : RegNum} {m : State → Res Unit} (hm : (m s).Confined s) :
    EndsConfined s (cp15RunUser cond rd s m) := endsConfined_whenPasses h (.ite trivial hm)

/-! ## Status -/

theorem endsConfined_mrs (cond : Cond) (r : Bool) (rd : RegNum) : EndsConfined s (execMrs cond r rd s) := by
  refine endsConfined_whenPasses h (.ite ?_ (h.writeStatus rd _))
  split
  · trivial
  · exact h.writeStatus rd _

theorem endsConfined_srs (p u w : Bool) (mode : BitVec 5) : EndsConfined s (execSrs p u w mode s) := by
  unfold execSrs
  rw [h.spsr]
  exact endsConfined_finish (.ite trivial trivial)

theorem endsConfined_rfe (p u w : Bool) (rn : RegNum) : EndsConfined s (execRfe p u w rn s) := by
  unfold execRfe
  rw [h.unprivileged]
  exact endsConfined_finish trivial

omit h in
theorem Confined.waitForInterrupt {t : State} (k : Confined s t) : Confined s (waitForInterrupt t) := by
  have d := k.memory (memoryOnly_dsb t)
  unfold Machine.waitForInterrupt
  exact .ite d (d.same rfl rfl rfl rfl rfl)

/-- MUL and MLA (47_core_instructions.md R773). -/
theorem endsConfined_multiply (cond : Cond) (sb : Bool) (rd : RegNum) (bad : State → Bool) (v : State → Word) :
    EndsConfined s (whenPasses cond s fun s =>
      if bad s then .refused .unpredictableForm else .ok () ((if sb then s.setNz (v s) else s).setReg rd (v s)).advance) :=
  endsConfined_whenPasses h <| .ite trivial (h.flagsThenReg (flags := fun s => s.setNz (v s)) (h.setNzcv ..) sb rd _)

/-- CPS does nothing in User mode (47_core_instructions.md R722). -/
theorem Confined.cps (written : State) : Confined s (if s.privileged then written else s).advance := by
  rw [h.unprivileged]
  exact h.advance

end

end Sys2Proof.Machine
end

section
/-! SUPPORT. What the instructions of User mode leave alone: loads, stores and the VFP. -/
namespace Sys2Proof.Machine

/-! ## Lists of transfers -/

theorem confined_loadList {s : State} (m : AccessMode) : ∀ (l : List (RegNum × Word)) {t : State}, Confined s t →
    (loadList m l t).Confined s
  | [], _, h => h
  | _ :: l, _, h => (h.run (memoryOnly_readAt ..)).bind fun _ _ k => (confined_loadList m l k).bind fun _ _ k => k

theorem confined_storeList {s : State} (m : AccessMode) (value : RegNum → Word) : ∀ (l : List (RegNum × Word)) {t : State},
    Confined s t → (storeList m value l t).Confined s
  | [], _, h => h
  | _ :: l, _, h => (h.run (memoryOnly_writeAt ..)).bind fun _ _ k => confined_storeList m value l k

theorem Confined.writeList {s : State} : ∀ (l : List (RegNum × Word)) {t : State}, Confined s t →
    Confined s (writeList .usr l t)
  | [], _, h => h
  | x :: l, _, h => Confined.writeList l (h.setBankReg x.1 x.2)

theorem Confined.shuffle {s t : State} (h : Confined s t) {α : Type} : ∀ l : List α, Confined s (shuffle l t).2
  | [] => h
  | _ :: l => (h.shuffle l).drawWord

theorem Confined.foldl {s : State} {α : Type} {f : State → α → State} (hf : ∀ t a, Confined s t → Confined s (f t a)) :
    ∀ (l : List α) {t : State}, Confined s t → Confined s (l.foldl f t)
  | [], _, h => h
  | a :: l, t, h => Confined.foldl hf l (hf t a h)

theorem confined_onAbort {s : State} {f : State → State} (hf : ∀ t, Confined s t → Confined s (f t)) {r : Res Unit}
    (k : r.Confined s) : (onAbort f r).Confined s := by
  cases r with
  | ok a t => exact k
  | exc x t => exact hf t k
  | fault e => trivial
  | refused e => trivial

section
variable {s t : State} (h : Confined s t)
include h

theorem Confined.transferOrder (m : AccessMode) (write : Bool) (l : List (RegNum × Word)) :
    Confined s (transferOrder m write l t).2 := by
  unfold Machine.transferOrder
  split
  · exact h.shuffle l
  · exact h

theorem Confined.partialStore {r : Res Unit} (k : r.Confined s) : (partialStore t r).Confined s := by
  cases r with
  | ok a u => exact k
  | exc x u => exact Machine.Confined.ite (Machine.Confined.drawBool k) (h.draw _)
  | fault e => trivial
  | refused e => trivial

theorem Confined.multipleWriteBack (w unknown : Bool) (rn : RegNum) (v : Word) :
    Confined s (multipleWriteBack w unknown rn v t) := .ite (.ite (h.drawWord.setReg _ _) (h.setReg _ _)) h

omit h in
theorem confined_scrambleList (rn : RegNum) (list : BitVec 16) (t : State) (h : Confined s t) :
    Confined s (scrambleList .usr rn list t) :=
  .foldl (fun _ _ k => .ite k (k.drawWord.setBankReg _ _)) _ h

/-! ## Loads and stores -/

theorem Confined.checkPcLoad (rd : RegNum) (a : Word) : (checkPcLoad rd a t).Confined s := .ite (.ite h trivial) h

theorem Confined.writeLoaded (rn rd : RegNum) (x : Addressed) (v : Word) : (writeLoaded rn rd x v t).Confined s :=
  have based := h.writeBase rn x.writeback
  .ite (based.loadWritePc v) (based.setReg rd v).advance

theorem Confined.loadWord (p u w : Bool) (rn rd rm : RegNum) (off : Word) : (loadWord p u w rn rd rm off t).Confined s :=
  .ite trivial <| (h.checkPcLoad _ _).bind fun _ _ k =>
    (k.run (memoryOnly_loadValue ..)).bind fun v _ k => k.writeLoaded rn rd _ v

theorem Confined.loadPart (ty : AccessType) (n : Nat) (ext : Word → Word) (p u w : Bool) (rn rd rm : RegNum) (off : Word) :
    (loadPart ty n ext p u w rn rd rm off t).Confined s :=
  .ite trivial <| (h.run (memoryOnly_loadValue ..)).bind fun v _ k => k.writeLoaded rn rd _ (ext v)

theorem Confined.storeSingle (ty : AccessType) (n : Nat) (p u w : Bool) (rn rd rm : RegNum) (off : Word) :
    (storeSingle ty n p u w rn rd rm off t).Confined s :=
  .ite trivial <| ((Machine.Confined.ite h.drawWord h).run (memoryOnly_storeValue ..)).bind fun _ _ k =>
    (k.writeBase _ _).advance

omit h in
theorem Res.Confined.extraForm {r : Res Unit} (k : r.Confined s) (p w : Bool) : (extraForm p w r).Confined s := .ite trivial k

theorem Confined.loadDouble (p u w : Bool) (rn rd rm : RegNum) (off : Word) : (loadDouble p u w rn rd rm off t).Confined s :=
  .ite trivial <| (h.run (memoryOnly_loadMany ..)).bind fun _ _ k => (((k.writeBase _ _).setReg _ _).setReg _ _).advance

theorem Confined.storeDouble (p u w : Bool) (rn rd rm : RegNum) (off : Word) :
    (storeDouble p u w rn rd rm off t).Confined s :=
  .ite trivial <| (h.run (memoryOnly_storeMany ..)).bind fun _ _ k => (k.writeBase _ _).advance

/-- LDM: the User mode registers are those of the bank in use, with S or without (47_core_instructions.md R772). -/
theorem Confined.loadMultiple (p u sb w : Bool) (rn : RegNum) (list : BitVec 16) :
    (loadMultiple p u sb w rn list t).Confined s := by
  unfold Machine.loadMultiple
  dsimp only
  rw [h.bank, ite_self]
  refine .ite trivial (.ite trivial ?_)
  refine confined_onAbort (confined_scrambleList rn list) ?_
  refine (h.run (memoryOnly_alignAccess ..)).bind fun a v k => ?_
  refine (confined_loadList _ _ (k.transferOrder ..)).bind fun l v k => ?_
  have loaded := (k.writeList l).multipleWriteBack w (bitAt list rn.toNat) rn (multipleBase u (t.reg rn) (listCount list))
  split
  · exact loaded.advance
  · exact .ite (loaded.returnFromSpsr _) (loaded.loadWritePc _)

theorem Confined.storeMultiple (p u sb w : Bool) (rn : RegNum) (list : BitVec 16) :
    (storeMultiple p u sb w rn list t).Confined s := by
  refine .ite trivial ?_
  refine ((Machine.Confined.ite h.drawWord.drawWord h).run (memoryOnly_alignAccess ..)).bind fun a v k => ?_
  have ordered := k.transferOrder (plainMode t true) true (transfers list a)
  exact (ordered.partialStore (confined_storeList _ _ _ ordered)).bind fun _ _ k => (k.multipleWriteBack ..).advance

/-! ## Exclusive accesses and swaps -/

omit h in
theorem Confined.writeExclusive {s t : State} (h : Confined s t) (rd : RegNum) : ∀ l, Confined s (writeExclusive rd l t)
  | [] => h
  | [_] => h.setReg _ _
  | _ :: _ :: _ => (h.setReg _ _).setReg _ _

theorem Confined.exclusiveLoad (ty : AccessType) (n : Nat) (rn rd : RegNum) : (exclusiveLoad ty n rn rd t).Confined s :=
  .ite trivial <| (h.run (memoryOnly_loadExclusive ..)).bind fun l _ k => (k.writeExclusive rd l).advance

theorem Confined.exclusiveStore (ty : AccessType) (n : Nat) (rn rd rm : RegNum) :
    (exclusiveStore ty n rn rd rm t).Confined s :=
  .ite trivial <| ((Machine.Confined.ite h.drawWord h).run (memoryOnly_storeExclusive ..)).bind fun _ _ k =>
    (k.setReg _ _).advance

theorem Confined.swap (lty sty : AccessType) (n : Nat) (rn rd rm : RegNum) : (swap lty sty n rn rd rm t).Confined s :=
  .ite trivial <| ((Machine.Confined.ite h.drawWord h).run (memoryOnly_loadValue ..)).bind fun _ _ k =>
    (k.run (memoryOnly_storeValue ..)).bind fun _ _ k => (k.setReg _ _).advance

/-! ## VFP -/

/-- A bounce keeps the VFP enable (notes/assumptions/34.md). -/
theorem Confined.raiseBounce : (raiseBounce t).Confined s :=
  h.drawWord.drawWord.drawWord.setVfp <| by
    rw [bitAt_eq_getLsbD, getLsbD_setBit _ _ _ _ (by omega), if_pos rfl]

theorem Confined.cpacrInForce : Confined s (cpacrInForce t).2 := by
  unfold Machine.cpacrInForce
  split
  · exact h
  · exact h.drawBool

theorem Confined.vfpCheck (sys : Option (BitVec 4)) : (vfpCheck sys t).Confined s := by
  have c := h.cpacrInForce
  refine .ite h ?_
  dsimp only
  split
  · trivial
  · exact c
  · exact .ite c <| .ite c <| .ite (.ite c.raiseBounce <| .ite c.drawBool.raiseBounce c.drawBool) c

omit h in
/-- The check passes with no privileged VFP system register in User mode (48_vfp.md R786). -/
theorem vfpCheck_ok_unprivileged {sys : Option (BitVec 4)} {u : State} (hp : (cpacrInForce t).2.privileged = false)
    (e : Machine.vfpCheck sys t = .ok () u) : privilegedSystem sys = false := by
  by_contra hs
  unfold Machine.vfpCheck at e
  simp only [Bool.not_eq_false] at hs
  dsimp only at e
  rw [hp, hs] at e
  split at e
  · cases e
  · split at e
    · cases e
    · cases e
    · split at e
      · cases e
      · cases e

end

section
variable {s : State} (h : Confined s s)
include h

theorem endsConfined_vfpRun {cond : Cond} {sys : Option (BitVec 4)} {m : State → Res Unit}
    (hm : ∀ t, Confined s t → (m t).Confined s) : EndsConfined s (vfpRun cond sys s m) :=
  endsConfined_whenPasses h ((h.vfpCheck sys).bind fun _ t k => hm t k)

/-- FMXR writes no register that holds the enable: the FPEXC is privileged (48_vfp.md R786). -/
theorem endsConfined_fmxr (cond : Cond) (reg : BitVec 4) (rd : RegNum) : EndsConfined s (execFmxr cond reg rd s) := by
  unfold execFmxr vfpRun
  refine endsConfined_whenPasses h ?_
  have checked := h.vfpCheck (some reg)
  cases e : Machine.vfpCheck (some reg) s with
  | exc x t => rw [e] at checked; exact checked
  | fault f => trivial
  | refused r => trivial
  | ok a t =>
    rw [e] at checked
    have k : Confined s t := checked
    have unprivileged := vfpCheck_ok_unprivileged h.cpacrInForce.unprivileged e
    have notFpexc : reg ≠ vfpFpexc := by
      rintro rfl
      cases unprivileged
    have written : ∀ u, vfpSystemWrite t reg (t.reg rd) = some u → Confined s u := by
      intro u hu
      unfold vfpSystemWrite at hu
      rw [if_neg (c := reg = vfpFpexc) notFpexc] at hu
      split_ifs at hu
      all_goals cases hu
      · exact k
      all_goals exact k.setVfp rfl
    show Res.Confined s (match vfpSystemWrite t reg (t.reg rd) with
      | some s => Res.ok () s.advance
      | none => .refused .vfpUnlisted)
    split
    · next u hu => exact (written u hu).advance
    · trivial

theorem endsConfined_fmrx (cond : Cond) (reg : BitVec 4) (rd : RegNum) : EndsConfined s (execFmrx cond reg rd s) := by
  refine endsConfined_vfpRun h fun t k => ?_
  split
  · exact k.moveToCore rd _
  · trivial

end

section
variable {s t : State} (h : Confined s t)
include h

theorem Confined.moveFromVfp (rd : RegNum) (v : Word) : (moveFromVfp rd v t).Confined s :=
  .ite ((h.drawBool.noteStatus _).moveToCore 15 _) (h.setReg rd v).advance

theorem Confined.moveTwoToCore (rd rn : RegNum) (low high : Word) : (moveTwoToCore rd rn low high t).Confined s :=
  .ite (.ite (h.drawWord.returnWritePc _) (h.drawWord.setReg _ _).advance) <|
    .ite ((h.setReg _ _).aluWritePc _) <| .ite ((h.setReg _ _).aluWritePc _) ((h.setReg _ _).setReg _ _).advance

omit h in
theorem Confined.writeSregs : ∀ (l : List (BitVec 5 × Word)) {t : State}, Confined s t → Confined s (writeSregs l t)
  | [], _, h => h
  | x :: l, _, h => Confined.writeSregs l (h.setSreg x.1 x.2)

omit h in
theorem Confined.scrambleSregs : ∀ (l : List (BitVec 5)) {t : State}, Confined s t → Confined s (scrambleSregs l t)
  | [], _, h => h
  | n :: l, _, h => Confined.scrambleSregs l (h.drawWord.setSreg n _)

theorem Confined.vfpLoad (double : Bool) (first : BitVec 5) (n : Nat) (rn : RegNum) (x : Addressed) :
    (vfpLoad double first n rn x t).Confined s := by
  refine .ite trivial (.ite trivial ?_)
  have m := h.run (memoryOnly_loadMany (plainMode t false) .multi x.address n t)
  dsimp only
  split
  · next e => rw [e] at m; exact ((Confined.writeSregs _ m).writeBase _ _).advance
  · next e => rw [e] at m; exact Confined.ite m (Confined.scrambleSregs _ m)
  · trivial
  · trivial

theorem Confined.vfpStore (double : Bool) (first : BitVec 5) (n : Nat) (rn : RegNum) (x : Addressed) :
    (vfpStore double first n rn x t).Confined s :=
  .ite trivial <| .ite trivial <| (h.run (memoryOnly_storeMany ..)).bind fun _ _ k => (k.writeBase _ _).advance

theorem Confined.vfpSet (double : Bool) (n : Nat) (v : BitVec 64) : Confined s (vfpSet double n v t) :=
  .ite (h.setDreg _ _) (h.setSreg _ _)

theorem Confined.accumulate (flags : Word) : Confined s (accumulate flags t) := h.setVfp rfl

omit h in
theorem Confined.vfpOperate (double : Bool) (f : BitVec 64 → BitVec 64 → BitVec 64 → Option VfpResult) :
    ∀ (l : List VfpTriple) {t u : State}, Confined s t → vfpOperate double f l t = some u → Confined s u
  | [], _, _, h, e => by cases e; exact h
  | x :: l, _, _, h, e => by
    unfold Machine.vfpOperate at e
    split at e
    · cases e
    · exact Confined.vfpOperate double f l ((h.vfpSet _ _ _).accumulate _) e

theorem Confined.vfpConvert {op : VfpArith} {toZero double dd dm : Bool} {d m : Nat} {u : State}
    (e : vfpConvert op toZero double dd dm d m t = some u) : Confined s u := by
  obtain ⟨r, -, rfl⟩ := Option.map_eq_some_iff.1 e
  exact (h.vfpSet _ _ _).accumulate _

theorem Confined.vfpCompare {nanInvalid zero double : Bool} {d m : Nat} {u : State}
    (e : vfpCompare nanInvalid zero double d m t = some u) : Confined s u := by
  obtain ⟨r, -, rfl⟩ := Option.map_eq_some_iff.1 e
  exact (h.accumulate _).setVfp rfl

theorem Confined.vfpCompute {opc1 fn fd : BitVec 4} {cp1 : Bool} {opc2 : BitVec 3} {fm : BitVec 4} {u : State}
    (e : vfpCompute opc1 fn fd cp1 opc2 fm t = some u) : Confined s u := by
  unfold Machine.vfpCompute at e
  dsimp only at e
  split at e
  · cases e
  · split at e
    · exact Confined.vfpOperate _ _ _ h e
    · split at e
      · exact Confined.vfpOperate _ _ _ h e
      · exact Confined.vfpOperate _ _ _ h e
      · exact Confined.vfpOperate _ _ _ h e
      · exact Confined.vfpOperate _ _ _ h e
      · exact h.vfpCompare e
      all_goals exact h.vfpConvert e

end

theorem endsConfined_vfpData {s : State} (h : Confined s s) (cond : Cond) (opc1 fn fd : BitVec 4) (cp1 : Bool) (opc2 : BitVec 3)
    (fm : BitVec 4) : EndsConfined s (execVfpData cond opc1 fn fd cp1 opc2 fm s) := by
  refine endsConfined_vfpRun h fun t k => .ite trivial ?_
  split
  · next u e => exact (k.vfpCompute e).advance
  · exact .ite k.drawBool.raiseBounce (k.drawBool.setVfp (v := { t.drawBool.2.vfp with bounce := true }) rfl).advance

end Sys2Proof.Machine
end

section
/-! SUPPORT. What every instruction of User mode leaves alone. -/
namespace Sys2Proof.Machine

theorem Confined.setTap {s t : State} (h : Confined s t) {x : Tap} : Confined s (t.setTap x) := h.same rfl rfl rfl rfl rfl

theorem endsConfined_blxImm {s : State} (h : Confined s s) (x : Bool) (imm : BitVec 24) :
    EndsConfined s (execBlxImm x imm s) :=
  endsConfined_finish ((h.setLink.setCpsrBit true (by omega)).writePc _)

/-- Every instruction of User mode. The cases stand by the operation that the instructions share. -/
theorem endsConfined_exec (i : Instr) {s : State} (h : Confined s s) : EndsConfined s (exec i s) := by
  cases i
  all_goals dsimp only [exec]
  case mrcMainId | mrcCacheType | mrcTlbType | mrcCpuId | mrcIdPfr0 | mrcIdPfr1 | mrcIdDfr0 | mrcIdReserved13 |
      mrcIdMmfr0 | mrcIdMmfr1 | mrcIdMmfr2 | mrcIdMmfr3 | mrcIdIsar0 | mrcIdIsar1 | mrcIdIsar2 | mrcIdIsar3 |
      mrcIdIsar4 | mrcIdReserved25 | mrcIdReserved26 | mrcIdReserved27 | mrcC0Unlisted2 | mrcC0Unlisted4 |
      mrcC0Unlisted6 | mrcC0Unlisted7 | mrcControl | mrcAuxControl | mrcCpacr | mrcTtbr0 | mrcTtbr1 | mrcTtbcr |
      mrcDacr | mrcDfsr | mrcIfsr | mrcFar | mrcWfar | mrcPa | mrcDCacheLockdown | mrcTlbLockdown | mrcPrrr |
      mrcFcsePid | mrcContextId | mrcThreadIdPrw | mrcTlbDebugControl =>
    exact endsConfined_cp15Read h ..
  case mrcNmrr | mrcPmnc | mrcCcnt | mrcPmn0 | mrcPmn1 =>
    exact endsConfined_cp15ReadWith h ..
  case mcrControl | mcrCpacr | mcrPrrr | mcrNmrr | mcrPmnc | mcrCcnt | mcrPmn0 | mcrPmn1 | mcrWaitForInterrupt |
      mcrInvalidateDCache | mcrInvalidateBothCaches | mcrCleanDCache | mcrCleanInvDCache | mcrInvalidateDCacheIndex |
      mcrCleanDCacheIndex | mcrCleanInvDCacheIndex | mcrInvalidateITlb | mcrInvalidateDTlb | mcrInvalidateUTlb |
      mcrTlbLockIndexRead | mcrAuxControl | mcrTtbr0 | mcrTtbr1 | mcrTtbcr | mcrDacr | mcrDfsr | mcrIfsr | mcrFar |
      mcrWfar | mcrInvalidateICache | mcrInvalidateICacheIndex | mcrFlushBtac | mcrFlushBtacEntry |
      mcrInvalidateITlbEntry | mcrInvalidateITlbAsid | mcrInvalidateITlbMva | mcrInvalidateDTlbEntry |
      mcrInvalidateDTlbAsid | mcrInvalidateDTlbMva | mcrInvalidateUTlbEntry | mcrInvalidateUTlbAsid |
      mcrInvalidateUTlbMva | mcrDCacheLockdown | mcrTlbLockdown | mcrFcsePid | mcrThreadIdUro | mcrThreadIdPrw |
      mcrTlbLockIndexWrite =>
    exact endsConfined_cp15Write h ..
  case mcrInvalidateDCacheMva | mcrCleanDCacheMva | mcrCleanInvDCacheMva | mcrInvalidateICacheMva |
      mcrVaToPaPrivRead | mcrVaToPaPrivWrite | mcrVaToPaUserRead | mcrVaToPaUserWrite | mcrContextId |
      mcrTlbDebugControl | mrcTlbLockVa | mrcTlbLockPa | mrcTlbLockAttr | mcrTlbLockVa | mcrTlbLockAttr |
      mcrTlbLockPa =>
    exact endsConfined_cp15Run h ..
  case mcrC0 | cp15Unlisted =>
    exact endsConfined_whenPasses h (.ite trivial h)
  case cdpP15 | ldcStcP15 | cp14Other =>
    exact endsConfined_whenPasses h h
  case mcrFlushPrefetchBuffer =>
    exact endsConfined_cp15RunUser h (h.same (u := s.flushPrefetch) rfl rfl rfl rfl rfl).advance
  case mcrDsb =>
    exact endsConfined_cp15RunUser h (h.memory (memoryOnly_dsb s)).advance
  case mcrDmb =>
    exact endsConfined_cp15RunUser h (h.memory (memoryOnly_dmb s)).advance
  case mrcThreadIdUrw | mrcThreadIdUro =>
    exact endsConfined_cp15RunUser h (h.setReg _ _).advance
  case mcrThreadIdUrw =>
    exact endsConfined_cp15RunUser h (h.setThreadUrw _).advance
  case mrcDidr | mrcDscr | mrcVcr | mrcBvr0 | mrcBvr1 | mrcBvr2 | mrcBvr3 | mrcBvr4 | mrcBvr5 | mrcBcr0 | mrcBcr1 |
      mrcBcr2 | mrcBcr3 | mrcBcr4 | mrcBcr5 | mrcWvr0 | mrcWvr1 | mrcWcr0 | mrcWcr1 =>
    exact endsConfined_cp14Read h ..
  case mcrDscr =>
    exact endsConfined_cp14Write h fun v => h.dscrWrite v
  case mrcDtr =>
    exact endsConfined_cp14Transfer h (h.rdtrRead.setReg _ _).advance
  case mcrDtr =>
    exact endsConfined_cp14Write h fun v => h.wdtrWrite v
  case mcrVcr | mcrBvr0 | mcrBvr1 | mcrBvr2 | mcrBvr3 | mcrBvr4 | mcrBvr5 | mcrBcr0 | mcrBcr1 | mcrBcr2 | mcrBcr3 |
      mcrBcr4 | mcrBcr5 | mcrWvr0 | mcrWvr1 | mcrWcr0 | mcrWcr1 =>
    exact endsConfined_cp14Write h fun _ => h.same rfl rfl rfl rfl rfl
  case mrcDscrFlags =>
    exact endsConfined_mrcDscrFlags h ..
  case ldcDtr =>
    exact endsConfined_ldcDtr h ..
  case stcDtr =>
    exact endsConfined_stcDtr h ..
  case nop | yield | wfe | sev =>
    exact endsConfined_whenPasses h h.advance
  case wfi =>
    exact endsConfined_whenPasses h (Confined.ite h.waitForInterrupt h).advance
  case setend | setendThumb =>
    exact endsConfined_finish (h.setCpsrBit _ (by omega)).advance
  case mrs =>
    exact endsConfined_mrs h ..
  case msrReg | msrImm =>
    exact endsConfined_whenPasses h (h.moveToStatus ..)
  case srs =>
    exact endsConfined_srs h ..
  case rfe =>
    exact endsConfined_rfe h ..
  case cps | cpsThumb =>
    exact endsConfined_finish (h.cps _)
  case ldrex | ldrexd | ldrexb | ldrexh =>
    exact endsConfined_whenPasses h (h.exclusiveLoad ..)
  case strex | strexd | strexb | strexh =>
    exact endsConfined_whenPasses h (h.exclusiveStore ..)
  case clrex =>
    exact endsConfined_finish (h.memory (memoryOnly_setMonitor s _)).advance
  case swp =>
    exact endsConfined_whenPasses h (.ite (h.swap ..) (h.swap ..))
  case swpb =>
    exact endsConfined_whenPasses h (h.swap ..)
  case swi =>
    exact endsConfined_whenPasses h h
  case swiThumb | bkpt | bkptThumb =>
    exact endsConfined_finish h
  case andImm | andShiftImm | eorImm | eorShiftImm | orrImm | orrShiftImm | movImm | movShiftImm | bicImm |
      bicShiftImm | mvnImm | mvnShiftImm =>
    exact endsConfined_whenPasses h (h.writeLogic ..)
  case andShiftReg | eorShiftReg | orrShiftReg | movShiftReg | bicShiftReg | mvnShiftReg =>
    exact endsConfined_whenPasses h ((h.writeLogic ..).noPc ..)
  case subImm | subShiftImm | rsbImm | rsbShiftImm | addImm | addShiftImm | adcImm | adcShiftImm | sbcImm |
      sbcShiftImm | rscImm | rscShiftImm =>
    exact endsConfined_whenPasses h (h.writeArith ..)
  case subShiftReg | rsbShiftReg | addShiftReg | adcShiftReg | sbcShiftReg | rscShiftReg =>
    exact endsConfined_whenPasses h ((h.writeArith ..).noPc ..)
  case tstImm | tstShiftImm | teqImm | teqShiftImm =>
    exact endsConfined_whenPasses h (h.testLogic ..)
  case tstShiftReg | teqShiftReg =>
    exact endsConfined_whenPasses h ((h.testLogic ..).noPc ..)
  case cmpImm | cmpShiftImm | cmnImm | cmnShiftImm =>
    exact endsConfined_whenPasses h (h.testArith ..)
  case cmpShiftReg | cmnShiftReg =>
    exact endsConfined_whenPasses h ((h.testArith ..).noPc ..)
  case b =>
    exact endsConfined_whenBranches h (h.writePc _)
  case bl =>
    exact endsConfined_whenBranches h (h.setLink.writePc _)
  case bx | bxj =>
    exact endsConfined_whenBranches h (.ite trivial (h.bxWritePc _))
  case blxReg =>
    exact endsConfined_whenBranches h (.ite trivial (h.setLink.bxWritePc _))
  case blxImm =>
    exact endsConfined_blxImm h ..
  case ldrImm | ldrReg =>
    exact endsConfined_whenPasses h (h.loadWord ..)
  case ldrbImm | ldrbReg =>
    exact endsConfined_whenPasses h (h.loadPart ..)
  case strImm | strReg | strbImm | strbReg =>
    exact endsConfined_whenPasses h (h.storeSingle ..)
  case ldrhImm | ldrhReg | ldrsbImm | ldrsbReg | ldrshImm | ldrshReg =>
    exact endsConfined_whenPasses h ((h.loadPart ..).extraForm ..)
  case strhImm | strhReg =>
    exact endsConfined_whenPasses h ((h.storeSingle ..).extraForm ..)
  case ldrdImm | ldrdReg =>
    exact endsConfined_whenPasses h ((h.loadDouble ..).extraForm ..)
  case strdImm | strdReg =>
    exact endsConfined_whenPasses h ((h.storeDouble ..).extraForm ..)
  case ldm =>
    exact endsConfined_whenPasses h (h.loadMultiple ..)
  case stm =>
    exact endsConfined_whenPasses h (h.storeMultiple ..)
  case mul | mla =>
    exact endsConfined_multiply h ..
  case clz =>
    exact endsConfined_whenPasses h (.ite trivial (h.setReg _ _).advance)
  case fmsr | fmdlr | fmdhr =>
    exact endsConfined_vfpRun h fun _ k => (k.setSreg _ _).advance
  case fmrs | fmrdl | fmrdh =>
    exact endsConfined_vfpRun h fun _ k => k.moveFromVfp ..
  case fmxr =>
    exact endsConfined_fmxr h ..
  case fmrx =>
    exact endsConfined_fmrx h ..
  case fmstat =>
    exact endsConfined_vfpRun h fun _ k => k.moveToCore ..
  case fmdrr =>
    exact endsConfined_vfpRun h fun _ k => (k.setDreg _ _).advance
  case fmrrd =>
    exact endsConfined_vfpRun h fun _ k => k.moveTwoToCore ..
  case fmsrr =>
    exact endsConfined_vfpRun h fun _ k => .ite trivial ((k.setSreg _ _).setSreg _ _).advance
  case fmrrs =>
    exact endsConfined_vfpRun h fun _ k => .ite trivial (k.moveTwoToCore ..)
  case flds | fldd =>
    exact endsConfined_vfpRun h fun _ k => k.vfpLoad ..
  case fsts | fstd =>
    exact endsConfined_vfpRun h fun _ k => k.vfpStore ..
  case fldm =>
    exact endsConfined_vfpRun h fun _ k => .ite trivial (k.vfpLoad ..)
  case fstm =>
    exact endsConfined_vfpRun h fun _ k => .ite trivial (k.vfpStore ..)
  case vfpData =>
    exact endsConfined_vfpData h ..
  case dbgtapRestart =>
    exact endsConfined_next (h.setDscr (bitAt_setFld_zero _ 1 _ (by omega))).setTap.userEnd
  case dbgtapExtest | dbgtapScanN | dbgtapHalt | dbgtapIntest | dbgtapItrsel | dbgtapIdcode | dbgtapBypass =>
    exact endsConfined_next h.setTap.userEnd

end Sys2Proof.Machine

namespace Sys2Proof
open Machine

/-- Settles O14, by the families of instructions (`endsConfined_exec`): what keeps the relation `Confined` up to its end leaves the
system registers and the other banks alone, and an exception that ends it records a fault and enters its own bank. -/
theorem userModeKeepsSystemRegisters : Obligations.UserModeKeepsSystemRegisters := by
  intro i s t halted mode e
  obtain ⟨cp15, faults, enable, regs⟩ := (endsConfined_exec i (.refl mode halted)).next t e
  exact ⟨cp15, faults, enable, fun k hk h13 h18 h19 apart => regs k hk ⟨h13, h18, h19⟩ (apart _ rfl)⟩

end Sys2Proof
end

section
/-! SUPPORT. Which coprocessor instructions take the Undefined Instruction exception (30_encoding.md R113 to R116): what the entry
of an exception gives, and the guard that the privileged rows of CP15 share. -/

namespace Sys2Proof.Machine

/-- The bits of the CPSR after an entry: the mode, the T, F, I, A and E bits and J; the others stay (60_exceptions.md R510). -/
theorem getLsbD_entryCpsr (old : Word) (mode : BitVec 5) (a f ee : Bool) {i : Nat} (hi : i < 32) :
    (entryCpsr old mode a f ee).getLsbD i =
      if i = 9 then ee else if i = 6 ∧ f then true else if i = 8 ∧ a then true else if i = 7 then true
      else if i = 24 then false else if i = 5 then false else if i < 5 then mode.getLsbD i else old.getLsbD i := by
  unfold entryCpsr
  cases a <;> cases f <;>
    simp only [getLsbD_setBit _ _ _ _ hi, getLsbD_setFld _ _ _ _ hi, Nat.zero_le, Nat.zero_add, Nat.sub_zero, true_and, and_true,
      and_false, if_true, if_false, Bool.false_eq_true]

/-- The condition flags, the Q bit and the GE bits stay. -/
theorem entryCpsr_and_flags (old : Word) (mode : BitVec 5) (a f ee : Bool) :
    entryCpsr old mode a f ee &&& 0xF80F0000 = old &&& 0xF80F0000 := by
  have outside : ∀ i < 32, i < 10 ∨ i = 24 → (0xF80F0000#32).getLsbD i = false := by decide
  apply BitVec.eq_of_getLsbD_eq
  intro i hi
  rw [BitVec.getLsbD_and, BitVec.getLsbD_and]
  by_cases hk : i < 10 ∨ i = 24
  · simp [outside i hi hk]
  · have kept : (entryCpsr old mode a f ee).getLsbD i = old.getLsbD i := by
      rw [getLsbD_entryCpsr _ _ _ _ _ hi]
      repeat rw [if_neg (by omega)]
    rw [kept]

theorem enter_regs (s : State) (mode : BitVec 5) (offset link : Word) (a f : Bool) :
    (s.enter mode offset link a f).regs = s.regs.set (physIndex (bankOf mode) 14) link (physIndex_lt _ _) := by
  simp [State.enter, State.setBankReg]

/-- What the entry of an exception mode leaves (60_exceptions.md R510). -/
theorem entered_enter {s : State} {mode : BitVec 5} {offset link : Word} {a f : Bool} (hb : bankOf mode ≠ .usr) :
    Entered s (s.enter mode offset link a f) mode offset link a f := by
  have cpsr := enter_cpsr s mode offset link a f
  have bit {k : Nat} (hk : k < 32) : bitAt (s.enter mode offset link a f).cpsr k = _ :=
    (bitAt_eq_getLsbD _ k).trans (cpsr ▸ getLsbD_entryCpsr s.cpsr mode a f s.ctlEe hk)
  refine ⟨?_, ?_, ?_, ?_, ?_, ?_, ?_, ?_, ?_, ?_, enter_pc .., fun k hk apart => ?_, fun b other => ?_, fun _ => ?_, ?_⟩
  · rw [State.mode, cpsr, entryCpsr_mode]
  · simp only [State.bankReg, enter_regs, Vector.getElem_set_self]
  · rw [enter_psrs, Psrs.spsr_setSpsr, if_pos ⟨rfl, hb⟩]
  · rw [State.tBit, bit (by omega)]; simp
  · rw [State.jBit, bit (by omega)]; simp
  · rw [State.iBit, bit (by omega)]; simp
  · rw [State.aBit, bit (by omega), State.aBit, bitAt_eq_getLsbD]; cases a <;> simp
  · rw [State.fBit, bit (by omega), State.fBit, bitAt_eq_getLsbD]; cases f <;> simp
  · rw [State.eBit, bit (by omega), if_pos rfl]
  · rw [cpsr, entryCpsr_and_flags]
  · simp only [enter_regs]
    exact Vector.getElem_set_ne _ hk (Ne.symm apart)
  · rw [enter_psrs, Psrs.spsr_setSpsr, if_neg (fun h => other h.1)]
    cases b <;> rfl
  · rw [State.enter_mem]
  · simp [State.enter]

theorem markWritten_of_running {s : State} (hh : s.halted = false) : s.markWritten = s := by simp [State.markWritten, hh]

theorem entryOnly_enter {s : State} (mode : BitVec 5) (offset link : Word) (a f : Bool) (hh : s.halted = false) :
    EntryOnly s (s.enter mode offset link a f) := by
  unfold EntryOnly State.enter
  dsimp only
  rw [markWritten_of_running (by simpa [State.halted] using hh)]
  rfl

/-- Outside debug state and Jazelle state the Undefined Instruction exception is entered from the next instruction. -/
theorem enteredUndefined_takeUndefined {s : State} (hh : s.halted = false) (hj : s.jBit = false) :
    EnteredUndefined s (takeUndefined s) := by
  have link : s.pc + (if s.jBit then 4 else s.instrLength) = s.past := by
    simp [hj, State.past, hh, State.instrLength, apply_ite (s.pc + ·)]
  have e : takeUndefined s = s.enter modeUnd 0x04 s.past false false := by
    simp only [takeUndefined, hh, link, Bool.false_eq_true, if_false]
  rw [e]
  exact ⟨entered_enter (by decide), entryOnly_enter _ _ _ _ _ hh⟩

theorem gives_undefined {i : Instr} {s : State} (e : exec i s = finish (.exc .undefined s)) (hh : s.halted = false)
    (hj : s.jBit = false) : Gives i s (EnteredUndefined s) :=
  ⟨_, by simp [e, finish, hh, takeException], enteredUndefined_takeUndefined hh hj⟩

theorem whenPasses_passed {cond : Cond} {s : State} (m : State → Res Unit) (hp : s.passes cond = true) :
    whenPasses cond s m = finish (m s) := by simp [whenPasses, hp]

/-- A privileged access of CP15, by the four shapes that its rows have (30_encoding.md R113, R114). -/
inductive Cp15Privileged (cond : Cond) (rd : RegNum) (s : State) : Host.Outcome State Fault Refusal → Prop where
  | read (v : State → Word) : Cp15Privileged cond rd s (cp15Read cond rd s v)
  | readWith (v : State → Word × State) : Cp15Privileged cond rd s (cp15ReadWith cond rd s v)
  | write (f : Word → State → State) : Cp15Privileged cond rd s (cp15Write cond rd s f)
  | run (m : State → Res Unit) : Cp15Privileged cond rd s (cp15Run cond rd s m)

open Cp15Privileged in
/-- The rows of CP15 in the order of the table: runs of one shape, and registers that have a read row and then a write row. -/
theorem cp15Privileged_rows (cond : Cond) (rd : RegNum) (s : State) :
    ∀ f ∈ cp15PrivilegedRows, Cp15Privileged cond rd s (exec (f cond rd) s) := by
  unfold cp15PrivilegedRows
  repeat' refine List.forall_mem_cons.2 ⟨?_, ?_⟩
  on_goal -1 => exact List.forall_mem_nil _
  all_goals dsimp only [exec]
  -- the identification registers
  iterate 24 exact read ..
  -- the control and fault registers, each with its read and its write
  iterate 11 exact read ..; exact write ..
  -- the wait for an interrupt, the PA Register and the operations on the caches
  · exact write ..
  · exact read ..
  · exact write ..
  · exact run ..
  iterate 4 exact write ..
  · exact run ..
  iterate 2 exact write ..
  iterate 4 exact run ..
  · exact write ..
  · exact run ..
  iterate 2 exact write ..
  · exact run ..
  · exact write ..
  -- the operations on the TLBs
  iterate 12 exact write ..
  -- lockdown, memory remap and the FCSE PID
  iterate 3 exact read ..; exact write ..
  · exact readWith ..
  · exact write ..
  · exact read ..
  · exact write ..
  -- Context ID and the Thread ID Registers
  · exact read ..
  · exact run ..
  · exact write ..
  · exact read ..
  · exact write ..
  -- the performance counters
  iterate 4 exact readWith ..; exact write ..
  -- TLB lockdown and the TLB Debug Control Register
  iterate 2 exact write ..
  iterate 6 exact run ..
  · exact read ..
  · exact run ..

theorem Cp15Privileged.eq_run {cond : Cond} {rd : RegNum} {s : State} {o : Host.Outcome State Fault Refusal}
    (h : Cp15Privileged cond rd s o) : ∃ m, o = cp15Run cond rd s m := by
  cases h with
  | read v => exact ⟨_, rfl⟩
  | readWith v => exact ⟨_, rfl⟩
  | write f => exact ⟨_, rfl⟩
  | run m => exact ⟨_, rfl⟩

theorem unprivileged_of_user {s : State} (hh : s.halted = false) (hm : s.mode = modeUser) : s.privileged = false := by
  simp [State.privileged, hh, hm]

theorem privileged_of_not_user {s : State} (hm : s.mode ≠ modeUser) : s.privileged = true := by
  simp [State.privileged, hm]

/-- In User mode a privileged access of CP15 is Undefined. -/
theorem Cp15Privileged.undefined {cond : Cond} {rd : RegNum} {s : State} {o : Host.Outcome State Fault Refusal}
    (h : Cp15Privileged cond rd s o) (hp : s.passes cond = true) (hu : s.privileged = false) : o = finish (.exc .undefined s) := by
  obtain ⟨m, rfl⟩ := h.eq_run
  simp [cp15Run, whenPasses_passed _ hp, hu]

/-- In a privileged mode a privileged access of CP15 does not take r15. -/
theorem Cp15Privileged.refused {cond : Cond} {s : State} {o : Host.Outcome State Fault Refusal}
    (h : Cp15Privileged cond 15 s o) (hp : s.passes cond = true) (hu : s.privileged = true) : o = .refused .cp15R15 := by
  obtain ⟨m, rfl⟩ := h.eq_run
  simp [cp15Run, whenPasses_passed _ hp, hu, finish]

end Sys2Proof.Machine

namespace Sys2Proof
open Machine

/-- Settles O16, by the guard of each family: the rows that are Undefined in every mode raise the exception, and the privileged
rows of CP15 all run behind one guard (`cp15Privileged_rows`). -/
theorem undefinedInstructions : Obligations.UndefinedInstructions := by
  intro s cc crn crm opc rn rd opc1 opc2 p u n w l off lo hi hp
  refine ⟨fun hh hj => ?_, fun hh hj hm => ?_, fun hm => ?_⟩
  · have undefined {i : Instr} (e : exec i s = whenPasses cc s fun s => .exc .undefined s) : Gives i s (EnteredUndefined s) :=
      gives_undefined (e.trans (whenPasses_passed _ hp)) hh hj
    exact ⟨undefined rfl, undefined rfl, undefined rfl⟩
  · have hu := unprivileged_of_user hh hm
    refine ⟨fun f hf => gives_undefined ((cp15Privileged_rows cc rd s f hf).undefined hp hu) hh hj, ?_, ?_⟩
    · exact gives_undefined (by simp [exec, execMcrC0, whenPasses_passed _ hp, hu]) hh hj
    · exact gives_undefined (by simp [exec, execCp15Unlisted, whenPasses_passed _ hp, hu]) hh hj
  · have hu := privileged_of_not_user hm
    refine ⟨?_, ?_, fun f hf => (cp15Privileged_rows cc 15 s f hf).refused hp hu⟩
    · simp [exec, execMcrC0, whenPasses_passed _ hp, hu, finish]
    · simp [exec, execCp15Unlisted, whenPasses_passed _ hp, hu, finish]

end Sys2Proof
end

section
/-! SUPPORT. A failed condition: every conditional instruction but a branch is `whenPasses` of its meaning, a branch is
`whenBranches` (30_encoding.md R111, 46_cp14_debug.md R333). -/
namespace Sys2Proof.Machine

theorem whenPasses_failed {cond : Cond} {s : State} (m : State → Res Unit) (hp : s.passes cond = false) :
    whenPasses cond s m = .next s.advance := by simp [whenPasses, hp]

/-- The branches that have a condition. -/
def IsBranch (cond : Cond) (i : Instr) : Prop :=
  (∃ imm, i = .b cond imm ∨ i = .bl cond imm) ∨ ∃ rm, i = .bx cond rm ∨ i = .blxReg cond rm ∨ i = .bxj cond rm

theorem isBranch_whenBranches {cond : Cond} {i : Instr} (h : IsBranch cond i) (s : State) :
    ∃ m, exec i s = whenBranches cond s m := by
  obtain ⟨imm, rfl | rfl⟩ | ⟨rm, rfl | rfl | rfl⟩ := h
  all_goals dsimp only [exec]
  all_goals exact ⟨_, rfl⟩

/-- An outcome that, if there is a condition and it fails, is to move on. -/
structure Skips (s : State) (c : Option Cond) (o : Host.Outcome State Fault Refusal) : Prop where
  next : ∀ cond, c = some cond → s.passes cond = false → o = .next s.advance

theorem skips_none (s : State) (o : Host.Outcome State Fault Refusal) : Skips s none o := ⟨fun _ e => nomatch e⟩

section
variable (cond : Cond) (rd : RegNum) (s : State)

theorem skips_whenPasses (m : State → Res Unit) : Skips s (some cond) (whenPasses cond s m) :=
  ⟨fun _ e hp => by cases e; exact whenPasses_failed m hp⟩

theorem skips_cp15Run (m : State → Res Unit) : Skips s (some cond) (cp15Run cond rd s m) := skips_whenPasses ..
theorem skips_cp15RunUser (m : State → Res Unit) : Skips s (some cond) (cp15RunUser cond rd s m) := skips_whenPasses ..
theorem skips_cp15Read (v : State → Word) : Skips s (some cond) (cp15Read cond rd s v) := skips_cp15Run ..
theorem skips_cp15ReadWith (v : State → Word × State) : Skips s (some cond) (cp15ReadWith cond rd s v) := skips_cp15Run ..
theorem skips_cp15Write (f : Word → State → State) : Skips s (some cond) (cp15Write cond rd s f) := skips_cp15Run ..
theorem skips_cp14Run (k : Cp14Kind) (m : State → Res Unit) : Skips s (some cond) (cp14Run cond k s m) := skips_whenPasses ..
theorem skips_cp14Transfer (k : Cp14Kind) (m : State → Res Unit) : Skips s (some cond) (cp14Transfer cond k rd s m) :=
  skips_cp14Run ..
theorem skips_cp14Read (k : Cp14Kind) (v : State → Word) : Skips s (some cond) (cp14Read cond k rd s v) := skips_cp14Transfer ..
theorem skips_cp14Write (k : Cp14Kind) (f : Word → State → State) : Skips s (some cond) (cp14Write cond k rd s f) :=
  skips_cp14Transfer ..
theorem skips_vfpRun (sys : Option (BitVec 4)) (m : State → Res Unit) : Skips s (some cond) (vfpRun cond sys s m) :=
  skips_whenPasses ..

end

/-- An instruction that is no branch moves on if its condition fails. The cases stand by the operation that the instructions
share. -/
theorem skips_exec (i : Instr) (s : State) (nb : ∀ cond, ¬ IsBranch cond i) : Skips s i.condition (exec i s) := by
  cases i
  all_goals dsimp only [exec, Instr.condition]
  case mrcMainId | mrcCacheType | mrcTlbType | mrcCpuId | mrcIdPfr0 | mrcIdPfr1 | mrcIdDfr0 | mrcIdReserved13 |
      mrcIdMmfr0 | mrcIdMmfr1 | mrcIdMmfr2 | mrcIdMmfr3 | mrcIdIsar0 | mrcIdIsar1 | mrcIdIsar2 | mrcIdIsar3 |
      mrcIdIsar4 | mrcIdReserved25 | mrcIdReserved26 | mrcIdReserved27 | mrcC0Unlisted2 | mrcC0Unlisted4 |
      mrcC0Unlisted6 | mrcC0Unlisted7 | mrcControl | mrcAuxControl | mrcCpacr | mrcTtbr0 | mrcTtbr1 | mrcTtbcr |
      mrcDacr | mrcDfsr | mrcIfsr | mrcFar | mrcWfar | mrcPa | mrcDCacheLockdown | mrcTlbLockdown | mrcPrrr |
      mrcFcsePid | mrcContextId | mrcThreadIdPrw | mrcTlbDebugControl =>
    exact skips_cp15Read ..
  case mrcNmrr | mrcPmnc | mrcCcnt | mrcPmn0 | mrcPmn1 =>
    exact skips_cp15ReadWith ..
  case mcrControl | mcrCpacr | mcrPrrr | mcrNmrr | mcrPmnc | mcrCcnt | mcrPmn0 | mcrPmn1 | mcrWaitForInterrupt |
      mcrInvalidateDCache | mcrInvalidateBothCaches | mcrCleanDCache | mcrCleanInvDCache | mcrInvalidateDCacheIndex |
      mcrCleanDCacheIndex | mcrCleanInvDCacheIndex | mcrInvalidateITlb | mcrInvalidateDTlb | mcrInvalidateUTlb |
      mcrTlbLockIndexRead | mcrAuxControl | mcrTtbr0 | mcrTtbr1 | mcrTtbcr | mcrDacr | mcrDfsr | mcrIfsr | mcrFar |
      mcrWfar | mcrInvalidateICache | mcrInvalidateICacheIndex | mcrFlushBtac | mcrFlushBtacEntry |
      mcrInvalidateITlbEntry | mcrInvalidateITlbAsid | mcrInvalidateITlbMva | mcrInvalidateDTlbEntry |
      mcrInvalidateDTlbAsid | mcrInvalidateDTlbMva | mcrInvalidateUTlbEntry | mcrInvalidateUTlbAsid |
      mcrInvalidateUTlbMva | mcrDCacheLockdown | mcrTlbLockdown | mcrFcsePid | mcrThreadIdUro | mcrThreadIdPrw |
      mcrTlbLockIndexWrite =>
    exact skips_cp15Write ..
  case mcrInvalidateDCacheMva | mcrCleanDCacheMva | mcrCleanInvDCacheMva | mcrInvalidateICacheMva |
      mcrVaToPaPrivRead | mcrVaToPaPrivWrite | mcrVaToPaUserRead | mcrVaToPaUserWrite | mcrContextId |
      mcrTlbDebugControl | mrcTlbLockVa | mrcTlbLockPa | mrcTlbLockAttr | mcrTlbLockVa | mcrTlbLockAttr |
      mcrTlbLockPa =>
    exact skips_cp15Run ..
  case mcrFlushPrefetchBuffer | mcrDsb | mcrDmb | mrcThreadIdUrw | mrcThreadIdUro | mcrThreadIdUrw =>
    exact skips_cp15RunUser ..
  case mrcDidr | mrcDscr | mrcVcr | mrcBvr0 | mrcBvr1 | mrcBvr2 | mrcBvr3 | mrcBvr4 | mrcBvr5 | mrcBcr0 | mrcBcr1 |
      mrcBcr2 | mrcBcr3 | mrcBcr4 | mrcBcr5 | mrcWvr0 | mrcWvr1 | mrcWcr0 | mrcWcr1 =>
    exact skips_cp14Read ..
  case mcrDscr | mcrDtr | mcrVcr | mcrBvr0 | mcrBvr1 | mcrBvr2 | mcrBvr3 | mcrBvr4 | mcrBvr5 | mcrBcr0 | mcrBcr1 |
      mcrBcr2 | mcrBcr3 | mcrBcr4 | mcrBcr5 | mcrWvr0 | mcrWvr1 | mcrWcr0 | mcrWcr1 =>
    exact skips_cp14Write ..
  case mrcDtr =>
    exact skips_cp14Transfer ..
  case mrcDscrFlags | ldcDtr | stcDtr =>
    exact skips_cp14Run ..
  case fmsr | fmdlr | fmdhr | fmrs | fmrdl | fmrdh | fmxr | fmrx | fmstat | fmdrr | fmrrd | fmsrr | fmrrs | flds |
      fldd | fsts | fstd | fldm | fstm | vfpData =>
    exact skips_vfpRun ..
  case b =>
    exact absurd (.inl ⟨_, .inl rfl⟩) (nb _)
  case bl =>
    exact absurd (.inl ⟨_, .inr rfl⟩) (nb _)
  case bx =>
    exact absurd (.inr ⟨_, .inl rfl⟩) (nb _)
  case blxReg =>
    exact absurd (.inr ⟨_, .inr (.inl rfl)⟩) (nb _)
  case bxj =>
    exact absurd (.inr ⟨_, .inr (.inr rfl)⟩) (nb _)
  case setend | setendThumb | srs | rfe | cps | cpsThumb | clrex | swiThumb | bkpt | bkptThumb | blxImm |
      dbgtapExtest | dbgtapScanN | dbgtapRestart | dbgtapHalt | dbgtapIntest | dbgtapItrsel | dbgtapIdcode | dbgtapBypass =>
    exact skips_none ..
  -- what is left are the core instructions, each `whenPasses` of its meaning
  all_goals exact skips_whenPasses ..

theorem IsBranch.condition {cond : Cond} {i : Instr} (h : IsBranch cond i) : i.condition = some cond := by
  obtain ⟨imm, rfl | rfl⟩ | ⟨rm, rfl | rfl | rfl⟩ := h
  all_goals rfl

theorem exec_failed {i : Instr} {cond : Cond} {s : State} (hc : i.condition = some cond) (hp : s.passes cond = false)
    (nb : ¬ IsBranch cond i) : exec i s = .next s.advance := by
  refine (skips_exec i s fun c h => ?_).next cond hc hp
  obtain rfl : c = cond := Option.some.inj (h.condition.symm.trans hc)
  exact nb h

/-- Outside debug state a branch too moves on if its condition fails. -/
theorem exec_branch_failed {i : Instr} {cond : Cond} {s : State} (h : IsBranch cond i) (hp : s.passes cond = false)
    (hh : s.halted = false) : exec i s = .next s.advance := by
  obtain ⟨m, e⟩ := isBranch_whenBranches h s
  simp [e, whenBranches, hp, hh]

theorem writePc_of_halted {s : State} (v : Word) (hh : s.halted = true) :
    s.writePc v = { s with pc := v, dbg := { s.dbg with pcWritten := true, touched := true } } := by
  have halted : (s.setPc v).halted = true := hh
  rw [State.writePc, State.markWritten, if_pos halted]
  rfl

/-- In debug state it writes an open value to the PC (46_cp14_debug.md R333). -/
theorem exec_branch_failed_halted {i : Instr} {cond : Cond} {s : State} (h : IsBranch cond i) (hp : s.passes cond = false)
    (hh : s.halted = true) :
    exec i s = .next { s with
      pc := s.drawWord.1, freeCtr := s.drawWord.2.freeCtr, dbg := { s.dbg with pcWritten := true, touched := true } } := by
  obtain ⟨m, e⟩ := isBranch_whenBranches h s
  have halted : s.drawWord.2.halted = true := hh
  simp only [e, whenBranches, hp, hh, withWord, writePc_of_halted _ halted, Bool.false_eq_true, if_false, if_true]
  rfl

/-! ## Words that are no instruction -/

/-- Each of the three raises what it raises behind its condition (30_encoding.md R110, 47_core_instructions.md R702). -/
theorem rejected_failed {cond : Cond} {s : State} (hp : s.passes cond = false) :
    ∀ r ∈ [Reject.absentCoprocessor cond, .vfpUnlisted cond, .outsideSubset cond], rejected r s = .next s.advance := by
  simp [rejected, whenPasses_failed _ hp]

theorem runCode_of_error {c : Code} {r : Reject} {s : State} (h : decode c = .error r) : runCode c s = rejected r s := by
  rw [runCode, h]

/-- The presumed encoding of PLD (notes/assumptions/86.md). -/
theorem decode_preload {w : Word} (h26 : fld w 26 6 = 0x3D#6) (h24 : bitAt w 24 = true) (h20 : fld w 20 3 = 5#3)
    (h12 : fld w 12 4 = 0xF#4) (reg : bitAt w 25 = false ∨ bitAt w 4 = false) : decode (.arm w) = .error .preload := by
  have top {a b : Nat} (h : a + b ≤ 6) : fld w (26 + a) b = fld (0x3D#6) a b := by rw [← h26, fld_fld w h]
  have cond : fld w 28 4 = 15#4 := (top (by decide : 2 + 4 ≤ 6)).trans rfl
  have single : fld w 26 2 = 1#2 := (top (by decide : 0 + 2 ≤ 6)).trans rfl
  have pld : isPreload w = true := by
    obtain h | h := reg <;> simp [isPreload, cond, single, h24, h20, h12, h]
  simp [decode, decodeArm, decodeUncond, cond, pld]

end Sys2Proof.Machine

namespace Sys2Proof
open Machine

/-- Settles O6, by the guard that the conditional instructions share (`skips_exec`), the branches apart; the words that are no
instruction by what they are rejected for. -/
theorem failedConditionAdvances : Obligations.FailedConditionAdvances := by
  refine ⟨fun i cc s hc hp => ⟨fun h => ?_, fun hh hb => ?_⟩, fun c cc s hp r hr hd => ?_, fun w s h26 h24 h20 h12 reg => ?_⟩
  · rw [← State.advance_eq]
    by_cases hb : IsBranch cc i
    · exact exec_branch_failed hb hp (h.resolve_right fun nb => nb hb)
    · exact exec_failed hc hp hb
  · exact ⟨_, exec_branch_failed_halted hb hp hh, rfl⟩
  · rw [← State.advance_eq, runCode_of_error hd, rejected_failed hp r hr]
  · rw [← State.advance_eq, runCode_of_error (decode_preload h26 h24 h20 h12 reg)]
    rfl

end Sys2Proof
end

section
/-! The example words of the specification (O3). -/
namespace Sys2Proof

/-- A code that a well-formed instruction is encoded as is read as that instruction. -/
theorem decode_of_encode_eq {i : Instr} {c : Code} (wf : i.wellFormed = true) (e : encode i = c) : decode c = .ok i :=
  e ▸ decodeOfEncode i wf

/-- Settles O3, from O1: each word is the encoding of the well-formed instruction beside it. -/
theorem exampleWordsDecode : Obligations.ExampleWordsDecode := by
  unfold Obligations.ExampleWordsDecode
  and_intros
  all_goals exact decode_of_encode_eq (by decide) (by decide)

end Sys2Proof
end

section
/-! Reads of the registers of CP15 (O40). -/
namespace Sys2Proof.Machine

/-! ## A read of CP15 in a privileged mode -/

/-- The state after a value has been moved to a register and the PC has moved on. -/
theorem wroteReg_setReg_advance (s : State) {rd : RegNum} (hrd : rd ≠ 15) (v : Word) :
    WroteReg s (s.setReg rd v).advance rd v := by
  rw [State.advance_eq, State.setReg_eq]
  exact ⟨bankReg_setReg hrd v rfl, (regsBut_setReg s rd v).of_regs rfl, rfl, rfl, rfl, fun _ => rfl⟩

section
variable {s : State} {cond : Cond} {rd : RegNum} {i : Instr}

/-- Past the guard of the privileged accesses (30_encoding.md R113, R114). -/
theorem cp15Run_privileged (pass : s.passes cond = true) (priv : s.privileged = true) (hrd : rd ≠ 15) (m : State → Res Unit) :
    cp15Run cond rd s m = finish (m s) := by
  rw [cp15Run, whenPasses_passed _ pass, priv, if_neg hrd]
  rfl

/-- A register read moves its value to Rd and does nothing else. -/
theorem gives_cp15Read {v : State → Word} (pass : s.passes cond = true) (priv : s.privileged = true) (hrd : rd ≠ 15)
    (e : exec i s = cp15Read cond rd s v) : Gives i s fun t => WroteReg s t rd (v s) :=
  ⟨_, e.trans (cp15Run_privileged pass priv hrd _), wroteReg_setReg_advance s hrd (v s)⟩

/-- The reads of a list of registers, from the value that each row reads. -/
theorem gives_cp15Reads {l : List ((Cond → RegNum → Instr) × Word)} (pass : s.passes cond = true) (priv : s.privileged = true)
    (hrd : rd ≠ 15) (rows : l.Forall fun x => exec (x.1 cond rd) s = cp15Read cond rd s fun _ => x.2) :
    ∀ x ∈ l, Gives (x.1 cond rd) s fun t => WroteReg s t rd x.2 := fun x hx =>
  gives_cp15Read (v := fun _ => x.2) pass priv hrd (List.forall_iff_forall_mem.1 rows x hx)

/-- A read that changes the state before its value is moved to Rd. -/
theorem gives_cp15ReadWith {v : State → Word × State} (pass : s.passes cond = true) (priv : s.privileged = true) (hrd : rd ≠ 15)
    (e : exec i s = cp15ReadWith cond rd s v) : Gives i s (· = ((v s).2.setReg rd (v s).1).advance) :=
  ⟨_, e.trans (cp15Run_privileged pass priv hrd _), rfl⟩

end

/-! ## The values read -/

/-- The Cache Type Register: the fields of the data cache and of the instruction cache have one layout, at bits 12 and 0
(40_cp15_c0_id.md R121). -/
theorem cacheType_eq (c : Config) :
    cacheType c = 0x1D000000 ||| ((cacheTypeSize (dsize c)).setWidth 32 <<< 6 ||| 0b010010) <<< 12 |||
      ((if c.icache = .kb16 then 0 else 0x800) ||| (cacheTypeSize c.icache).setWidth 32 <<< 6 ||| 0b010010) := by
  unfold cacheType
  cases dsize c <;> cases c.icache <;> rfl

/-- An open value put in bits [29:28] leaves the other bits. -/
theorem or_free_and_defined (x free : Word) : (x ||| free &&& 0x30000000) &&& 0xCFFFFFFF = x &&& 0xCFFFFFFF := by
  have apart : (0x30000000 : Word) &&& 0xCFFFFFFF = 0#32 := rfl
  rw [BitVec.and_or_distrib_right, BitVec.and_assoc, apart, BitVec.and_zero, BitVec.or_zero]

/-- The NMRR read: the implementation defined bits are all that may be open, and only the counter of free values moves
(44_cp15_c8_c10_tlb.md R238). -/
theorem nmrrRead_spec (s : State) : ∃ v n, nmrrRead s = (v, { s with freeCtr := n }) ∧
    v &&& 0xCFFFFFFF = s.cp15.nmrr &&& 0xCFFFFFFF ∧ (s.nmrrImplDefined = false → v = s.cp15.nmrr) := by
  unfold nmrrRead
  split
  · next written =>
    exact ⟨_, _, rfl, or_free_and_defined .., fun h => absurd (written.symm.trans h) (by decide)⟩
  · exact ⟨_, _, rfl, rfl, fun _ => rfl⟩

/-- The value read comes first, and is moved to Rd in the state that it leaves. -/
theorem gives_mrcNmrr {s : State} {cond : Cond} {rd : RegNum} (pass : s.passes cond = true) (priv : s.privileged = true)
    (hrd : rd ≠ 15) : Gives (.mrcNmrr cond rd) s fun t => ∃ v, v &&& 0xCFFFFFFF = s.cp15.nmrr &&& 0xCFFFFFFF ∧
      (s.nmrrImplDefined = false → v = s.cp15.nmrr) ∧ WroteReg { s with freeCtr := t.freeCtr } t rd v := by
  obtain ⟨v, n, e, defined, kept⟩ := nmrrRead_spec s
  obtain ⟨t, next, rfl⟩ := gives_cp15ReadWith (v := nmrrRead) pass priv hrd (i := .mrcNmrr cond rd) rfl
  refine ⟨_, next, v, defined, kept, ?_⟩
  simp only [e, State.advance_freeCtr, State.setReg_freeCtr]
  exact wroteReg_setReg_advance { s with freeCtr := n } hrd v

end Sys2Proof.Machine

namespace Sys2Proof
open Machine

/-- Settles O40, by the shape of the rows: each is a read behind the guard of the privileged accesses (`gives_cp15Read`), and what is
left of it is that the row reads the value stated. The NMRR has its own row (`gives_mrcNmrr`). -/
theorem registerReads : Obligations.RegisterReads := by
  intro s cc rd pass priv hrd
  refine ⟨gives_cp15Reads pass priv hrd ?_, ?_, ?_, gives_cp15Reads pass priv hrd ?_, gives_mrcNmrr pass priv hrd⟩
  · and_intros
    all_goals rfl
  · intro code d i
    have size (z : CacheSize) : code z = (cacheTypeSize z).setWidth 32 := by cases z <;> rfl
    have value : 0x1D000000 ||| d <<< 12 ||| i = cacheType s.cfg := by
      simp only [d, i, size]
      exact (cacheType_eq s.cfg).symm
    rw [value]
    exact gives_cp15Read (v := fun s => cacheType s.cfg) pass priv hrd rfl
  · intro n
    have number : n = put (cpuNumber s.cfg.cpu) 0 := by
      unfold n
      cases s.cfg.cpu <;> rfl
    rw [number]
    exact gives_cp15Read (v := fun s => cpuIdRegister s.cfg) pass priv hrd rfl
  · and_intros
    all_goals rfl

end Sys2Proof
end

section
/-! Writes of the registers of CP15 (O41). -/
namespace Sys2Proof.Machine

/-! ## A write of CP15 in a privileged mode -/

/-- CP15 registers replaced, and the PC moved on. -/
theorem State.advance_setCp15 (s : State) (c : Cp15) : (s.setCp15 c).advance = { s with cp15 := c, pc := s.past } := by
  rw [State.advance_eq]
  rfl

/-- The same, where a fetch may see the old registers (41_cp15_c1_control.md R156). -/
theorem State.advance_setFetchCp15 (s : State) (c : Cp15) :
    (s.setFetchCp15 c).advance = { s with cp15 := c, pc := s.past, fetchOld := s.fetchView :: s.fetchOld } := by
  rw [State.advance_eq]
  rfl

section
variable {s : State} {cond : Cond} {rd : RegNum} {i : Instr}

/-- Past the guard of the privileged accesses a write is all that an instruction does. -/
theorem exec_cp15Write {f : Word → State → State} (pass : s.passes cond = true) (priv : s.privileged = true) (hrd : rd ≠ 15)
    (e : exec i s = cp15Write cond rd s f) : exec i s = .next (f (s.reg rd) s).advance :=
  e.trans (cp15Run_privileged pass priv hrd _)

/-- The writes of a list of registers, from what each row leaves in CP15. -/
theorem exec_cp15Writes {l : List ((Cond → RegNum → Instr) × Cp15)} (pass : s.passes cond = true)
    (priv : s.privileged = true) (hrd : rd ≠ 15)
    (rows : l.Forall fun x => exec (x.1 cond rd) s = cp15Write cond rd s fun _ s => s.setCp15 x.2) :
    ∀ x ∈ l, exec (x.1 cond rd) s = .next { s with cp15 := x.2, pc := s.past } := fun x hx => by
  rw [exec_cp15Write pass priv hrd (List.forall_iff_forall_mem.1 rows x hx), State.advance_setCp15]

/-- The same for the registers that fetches depend on. -/
theorem exec_cp15FetchWrites {l : List ((Cond → RegNum → Instr) × Cp15)} (pass : s.passes cond = true)
    (priv : s.privileged = true) (hrd : rd ≠ 15)
    (rows : l.Forall fun x => exec (x.1 cond rd) s = cp15Write cond rd s fun _ s => s.setFetchCp15 x.2) :
    ∀ x ∈ l, exec (x.1 cond rd) s =
      .next { s with cp15 := x.2, pc := s.past, fetchOld := s.fetchView :: s.fetchOld } := fun x hx => by
  rw [exec_cp15Write pass priv hrd (List.forall_iff_forall_mem.1 rows x hx), State.advance_setFetchCp15]

end

/-! ## Remap changes -/

/-- Only the list of older controls depends on whether the controls have changed. -/
theorem noteRemap_eq (old new : State) : noteRemap old new = { new with
    remapOld := if old.tlbControls = new.tlbControls then new.remapOld
      else ⟨old.tlbControls, false, false⟩ :: old.remapOld } := by
  unfold noteRemap
  split <;> rfl

theorem advance_noteRemap (old new : State) : (noteRemap old new).advance = noteRemap old new.advance := by
  simp only [State.advance_eq, noteRemap_eq]
  rfl

/-- From `s` CP15 has been left as `c`: the older controls that may still be used have grown by those that the write changes, and
nothing else has changed but the note of a nonzero implementation defined field and what a fetch may see
(20_memory.md R56, R60, 44_cp15_c8_c10_tlb.md R239). -/
def Remapped (s t : State) (c : Cp15) : Prop :=
  (t.tlbControls = s.tlbControls → t.remapOld = s.remapOld) ∧
    (t.tlbControls ≠ s.tlbControls → t.remapOld = ⟨s.tlbControls, false, false⟩ :: s.remapOld) ∧
    t = { s with cp15 := c, pc := s.past, remapOld := t.remapOld, nmrrImplDefined := t.nmrrImplDefined,
                 fetchOld := t.fetchOld }

/-- What an instruction has done that ends by comparing the remap controls with those before it. -/
theorem gives_noteRemap {s : State} {i : Instr} {c : Cp15} {written : Bool} {views : List FetchView}
    (e : exec i s =
      .next (noteRemap s { s with cp15 := c, pc := s.past, nmrrImplDefined := written, fetchOld := views })) :
    Gives i s fun t => t.cp15 = c ∧ t.nmrrImplDefined = written ∧ t.fetchOld = views ∧ Remapped s t c := by
  rw [noteRemap_eq] at e
  exact ⟨_, e, rfl, rfl, rfl, fun same => if_pos same.symm, fun changed => if_neg (Ne.symm changed), rfl⟩

/-- The Control Register written, and the PC moved on. -/
theorem advance_controlWrite (s : State) (v : Word) : (controlWrite v s).advance = noteRemap s { s with
    cp15 := { s.cp15 with control := controlValue s.cfg v }, pc := s.past, fetchOld := s.fetchView :: s.fetchOld } := by
  rw [controlWrite, advance_noteRemap, State.advance_setFetchCp15]

/-- The NMRR written, and the PC moved on: the note of its implementation defined field is no part of the controls. -/
theorem advance_nmrrWrite (s : State) (v : Word) : (nmrrWrite v s).advance = noteRemap s { s with
    cp15 := { s.cp15 with nmrr := v &&& 0xCFFFCFFF }, pc := s.past
    nmrrImplDefined := s.nmrrImplDefined || fld v 28 2 != 0#2 } := by
  simp only [nmrrWrite, noteRemap_eq, State.advance_eq]
  rfl

section
variable {s : State} {cond : Cond} {rd : RegNum} (pass : s.passes cond = true) (priv : s.privileged = true) (hrd : rd ≠ 15)
include pass priv hrd

theorem gives_mcrControl : Gives (.mcrControl cond rd) s fun t => t.cp15.control = controlValue s.cfg (s.reg rd) ∧
    t.nmrrImplDefined = s.nmrrImplDefined ∧ t.fetchOld = s.fetchView :: s.fetchOld ∧
    Remapped s t { s.cp15 with control := t.cp15.control } := by
  have next := exec_cp15Write (i := .mcrControl cond rd) (f := controlWrite) pass priv hrd rfl
  rw [advance_controlWrite] at next
  obtain ⟨t, next, regs, written, views, remapped⟩ := gives_noteRemap next
  have control : t.cp15.control = controlValue s.cfg (s.reg rd) := by rw [regs]
  exact ⟨t, next, control, written, views, by rwa [control]⟩

theorem gives_mcrPrrr : Gives (.mcrPrrr cond rd) s fun t => t.nmrrImplDefined = s.nmrrImplDefined ∧
    t.fetchOld = s.fetchOld ∧ Remapped s t { s.cp15 with prrr := s.reg rd &&& 0x000FCFFF } := by
  have next := exec_cp15Write (i := .mcrPrrr cond rd)
    (f := fun v s => noteRemap s (s.setCp15 { s.cp15 with prrr := v &&& 0x000FCFFF })) pass priv hrd rfl
  rw [advance_noteRemap, State.advance_setCp15] at next
  obtain ⟨t, next, -, rest⟩ := gives_noteRemap next
  exact ⟨t, next, rest⟩

theorem gives_mcrNmrr : Gives (.mcrNmrr cond rd) s fun t =>
    t.nmrrImplDefined = (s.nmrrImplDefined || fld (s.reg rd) 28 2 != 0#2) ∧
      t.fetchOld = s.fetchOld ∧ Remapped s t { s.cp15 with nmrr := s.reg rd &&& 0xCFFFCFFF } := by
  have next := exec_cp15Write (i := .mcrNmrr cond rd) (f := nmrrWrite) pass priv hrd rfl
  rw [advance_nmrrWrite] at next
  obtain ⟨t, next, -, rest⟩ := gives_noteRemap next
  exact ⟨t, next, rest⟩

end

/-! ## The CPACR -/

/-- Only the fields of a VFP that exists are written. The older rights that stay open are those before this write, unless some
were open already: then one of the two (41_cp15_c1_control.md R161, R162). -/
theorem cpacrWrite_spec (s : State) (v : Word) : ∃ old n, cpacrWrite v s = { s with
      cp15 := { s.cp15 with cpacr := if s.cfg.hasVfp then v &&& 0x00F00000 else 0 }, cpacrOld := some old, freeCtr := n } ∧
    (s.cpacrOld = none → old = s.cp15.cpacr ∧ n = s.freeCtr) := by
  have fields : v &&& (if s.cfg.hasVfp then 0x00F00000 else 0) = if s.cfg.hasVfp then v &&& 0x00F00000 else 0 := by
    split
    · rfl
    · exact BitVec.and_zero
  rw [← fields]
  unfold cpacrWrite
  split
  · exact ⟨_, _, rfl, fun _ => ⟨rfl, rfl⟩⟩
  · next pending => exact ⟨_, _, rfl, fun closed => absurd (pending.symm.trans closed) (by simp)⟩

theorem gives_mcrCpacr {s : State} {cond : Cond} {rd : RegNum} (pass : s.passes cond = true) (priv : s.privileged = true)
    (hrd : rd ≠ 15) : Gives (.mcrCpacr cond rd) s fun t =>
      t = { s with
        cp15 := { s.cp15 with cpacr := if s.cfg.hasVfp then s.reg rd &&& 0x00F00000 else 0 }
        pc := s.past
        cpacrOld := t.cpacrOld
        freeCtr := t.freeCtr } ∧
      (s.cpacrOld = none → t.cpacrOld = some s.cp15.cpacr ∧ t.freeCtr = s.freeCtr) := by
  have next := exec_cp15Write (i := .mcrCpacr cond rd) (f := cpacrWrite) pass priv hrd rfl
  obtain ⟨old, n, e, opened⟩ := cpacrWrite_spec s (s.reg rd)
  rw [e, State.advance_eq] at next
  exact ⟨_, next, rfl, fun closed => (opened closed).imp_left (congrArg some)⟩

/-! ## Writes that may be refused -/

section
variable {s : State} {cond : Cond} {rd : RegNum} (pass : s.passes cond = true) (priv : s.privileged = true) (hrd : rd ≠ 15)
include pass priv hrd

/-- A Data Synchronization Barrier has to come first (45_cp15_c13_c15.md R251). -/
theorem exec_mcrContextId : exec (.mcrContextId cond rd) s =
    if s.storeBuffer = [] then
      .next { s with cp15 := { s.cp15 with contextId := s.reg rd }, pc := s.past, fetchOld := s.fetchView :: s.fetchOld }
    else .refused .contextIdWithoutDsb := by
  change execMcrContextId cond rd s = _
  rw [execMcrContextId, cp15Run_privileged pass priv hrd]
  simp only [List.isEmpty_iff, State.advance_setFetchCp15]
  split <;> rfl

/-- IML and DML have to agree (45_cp15_c13_c15.md R261). -/
theorem exec_mcrTlbDebugControl : exec (.mcrTlbDebugControl cond rd) s =
    if bitAt (s.reg rd) 5 = bitAt (s.reg rd) 4 then
      .next { s with cp15 := { s.cp15 with tlbDebugControl := s.reg rd &&& 0x00000030 }, pc := s.past }
    else .refused .tlbDebugMismatch := by
  change execMcrTlbDebugControl cond rd s = _
  rw [execMcrTlbDebugControl, cp15Run_privileged pass priv hrd]
  simp only [bne_iff_ne, ite_not, State.advance_setCp15]
  split <;> rfl

end

end Sys2Proof.Machine

namespace Sys2Proof
open Machine

/-- Settles O41, by the shape of the rows: each is a write behind the guard of the privileged accesses, of registers that fetches
depend on (`exec_cp15FetchWrites`) or of others (`exec_cp15Writes`). Those that may leave older settings open or may be refused
have rows of their own. -/
theorem registerWrites : Obligations.RegisterWrites := by
  intro s cc rd pass priv hrd
  have contextId := exec_mcrContextId pass priv hrd
  have tlbDebug := exec_mcrTlbDebugControl pass priv hrd
  refine ⟨exec_cp15Writes pass priv hrd ?_, exec_cp15FetchWrites pass priv hrd ?_, gives_mcrControl pass priv hrd,
    gives_mcrPrrr pass priv hrd, gives_mcrNmrr pass priv hrd, gives_mcrCpacr pass priv hrd,
    fun drained => contextId.trans (if_pos drained), fun outstanding => contextId.trans (if_neg outstanding),
    fun agree => tlbDebug.trans (if_pos agree), fun apart => tlbDebug.trans (if_neg apart)⟩
  · and_intros
    all_goals rfl
  · and_intros
    all_goals rfl

end Sys2Proof
end

section
/-! SUPPORT. Memory after a write that does not run past its end, and where no region answers with errors. -/
namespace Sys2Proof.Machine

/-- The byte that a run of bytes from `base` up puts at an address, if it reaches there. -/
def storedByte (base : Nat) (l : List Byte) (a : Nat) : Option Byte := if base ≤ a then l[a - base]? else none

theorem storedByte_nil (base a : Nat) : storedByte base [] a = none := by simp [storedByte]

theorem storedByte_cons (base : Nat) (b : Byte) (t : List Byte) (a : Nat) :
    storedByte base (b :: t) a = if a = base then some b else storedByte (base + 1) t a := by
  unfold storedByte
  rcases Nat.lt_trichotomy a base with below | rfl | above
  · rw [if_neg (by omega), if_neg (by omega), if_neg (by omega)]
  · simp
  · rw [if_pos (by omega), if_neg (by omega), if_pos (by omega), show a - base = a - (base + 1) + 1 by omega]
    rfl

theorem storedByte_inside {l : List Byte} {k : Nat} (h : k < l.length) (base : Nat) : storedByte base l (base + k) = some l[k] := by
  simp [storedByte, h]

theorem storedByte_outside {base : Nat} {l : List Byte} {a : Nat} (h : ∀ k < l.length, a ≠ base + k) : storedByte base l a = none := by
  unfold storedByte
  split
  · next above =>
    refine List.getElem?_eq_none (Nat.le_of_not_lt fun within => ?_)
    exact h _ within (by omega)
  · rfl

/-- A read of memory after a write whose addresses do not wrap (20_memory.md R42). -/
theorem Mem.read_writeBytes : ∀ (l : List Byte) {m : Mem} (pa : Word), m.wf = true → pa.toNat + l.length ≤ 2 ^ 32 → ∀ a,
    (m.writeBytes pa l).read a = (storedByte pa.toNat l a).getD (m.read a)
  | [], _, _, _, _, _ => by rw [storedByte_nil]; rfl
  | [b], m, pa, wf, _, a => by
    rw [storedByte_cons, storedByte_nil, Mem.writeBytes, Mem.writeBytes, Mem.read_write wf]
    split <;> rfl
  | b :: c :: t, m, pa, wf, fits, a => by
    have next : (pa + 1).toNat = pa.toNat + 1 := by simp at fits; simp; omega
    have rest := Mem.read_writeBytes (c :: t) (pa + 1) (Mem.wf_write (v := b) pa.isLt wf)
      (by rw [next]; simp at fits ⊢; omega) a
    rw [Mem.writeBytes, rest, next, storedByte_cons pa.toNat, Mem.read_write wf]
    split
    · next here => rw [storedByte_outside (by intro k _; omega)]; rfl
    · rfl

theorem busErrorIn_none {c : Config} (h : c.errorRegions = []) : ∀ (n : Nat) (pa : Word), busErrorIn c pa n = none
  | 0, _ => rfl
  | n + 1, pa => by
    have here : busError c pa = none := by simp [busError, h]
    rw [busErrorIn, here]
    exact busErrorIn_none h n (pa + 1)

theorem busWrite_written {s : State} (h : s.cfg.errorRegions = []) (pa : Word) (bytes : List Byte) :
    busWrite pa bytes s = s.setMem (s.mem.writeBytes pa bytes) := by
  rw [busWrite, busErrorIn_none h]

end Sys2Proof.Machine
end

section
/-! The barriers and the store buffer (O43). -/
namespace Sys2Proof.Machine

/-! ## Frames -/

/-- The end of an instruction, after a change that only the memory system has seen. -/
theorem SameOutsideMemory.advance {s t : State} (h : SameOutsideMemory s t) :
    SameOutsideMemory { s with pc := s.past } t.advance := by
  have past : t.outsideMemory.past = s.outsideMemory.past := congrArg State.past h
  have past : t.past = s.past := past
  have moved := congrArg (fun x : State => { x with pc := s.past }) h
  rw [State.advance_eq, past]
  exact moved

/-- Past the guard of the accesses of every mode an operation is all that an instruction does. -/
theorem exec_cp15RunUser {s : State} {cond : Cond} {rd : RegNum} {i : Instr} {f : State → State} (pass : s.passes cond = true)
    (hrd : rd ≠ 15) (e : exec i s = cp15RunUser cond rd s fun s => .ok () (f s).advance) : exec i s = .next (f s).advance := by
  rw [e, cp15RunUser, whenPasses_passed _ pass, if_neg hrd]
  rfl

/-! ## The barriers -/

theorem busResponse_spec (s : State) : (busResponse s).inFlight = none ∧ (busResponse s).storeBuffer = s.storeBuffer ∧
    (busResponse s).mem = s.mem := by
  unfold busResponse
  split
  · next none => exact ⟨none, rfl, rfl⟩
  · exact ⟨rfl, rfl, rfl⟩

theorem dsb_inFlight (s : State) : (dsb s).inFlight = none := (busResponse_spec (drainAll s)).1

theorem dsb_storeBuffer (s : State) : (dsb s).storeBuffer = [] :=
  (busResponse_spec (drainAll s)).2.1.trans (drainAll_storeBuffer s)

theorem dsb_mem (s : State) : (dsb s).mem = (drainAll s).mem := (busResponse_spec (drainAll s)).2.2

/-- An older setting is gone once the TLB has been invalidated and the prefetch buffer flushed: a flush ends those that the TLB has
been invalidated for (44_cp15_c8_c10_tlb.md R239). -/
theorem advance_flushPrefetch (s : State) : s.flushPrefetch.advance = { s with
    prefetched := [], fetchOld := [], cpacrOld := none, pc := s.past
    remapOld := (s.remapOld.filter fun o => !o.invalidated).map fun o => { o with flushed := true } } := by
  have ended : (s.remapOld.map fun o => { o with flushed := true }).filter (fun o => !(o.invalidated && o.flushed)) =
      (s.remapOld.filter fun o => !o.invalidated).map fun o => { o with flushed := true } := by
    rw [List.filter_map]
    congr 2
    funext o
    simp
  rw [State.advance_eq, State.flushPrefetch, State.noteOlder]
  simp only [State.flushPipeline, ended]
  rfl

section
variable {s : State} {cond : Cond} {rd : RegNum} (pass : s.passes cond = true) (hrd : rd ≠ 15)
include pass hrd

theorem exec_mcrDsb : exec (.mcrDsb cond rd) s = .next (dsb s).advance := exec_cp15RunUser (f := dsb) pass hrd rfl

theorem exec_mcrDmb : exec (.mcrDmb cond rd) s = .next (drainAll s).advance := exec_cp15RunUser (f := dmb) pass hrd rfl

/-- Wait For Interrupt drains as the Data Synchronization Barrier does (43_cp15_c7_cache_ops.md R201). -/
theorem gives_mcrWaitForInterrupt (running : s.halted = false) (priv : s.privileged = true) :
    Gives (.mcrWaitForInterrupt cond rd) s fun t => t.standby = true ∧ t.storeBuffer = [] ∧ t.inFlight = none ∧
      SameOutsideMemory { s with pc := s.past, standby := true } t := by
  have next := exec_cp15Write (i := .mcrWaitForInterrupt cond rd) (f := fun _ s => waitForInterrupt s) pass priv hrd rfl
  have waits : waitForInterrupt s = { dsb s with standby := true } := by rw [waitForInterrupt, running]; rfl
  have waiting := congrArg (fun x : State => { x with standby := true }) (memoryOnly_dsb s).1
  have frame : SameOutsideMemory { s with standby := true } { dsb s with standby := true } := waiting
  rw [waits] at next
  refine ⟨_, next, ?_, ?_, ?_, frame.advance⟩
  · simp
  · simpa using dsb_storeBuffer s
  · simpa using dsb_inFlight s

end

/-! ## What drains into memory -/

theorem bufferedByte_eq (l : List PendingStore) (a : Word) :
    bufferedByte l a = l.foldl (fun r e => (storedByte e.pa.toNat e.bytes a.toNat).or r) none := by
  unfold bufferedByte
  congr 1
  funext r e
  by_cases above : e.pa.toNat ≤ a.toNat
  · by_cases within : a.toNat - e.pa.toNat < e.bytes.length
    · simp [storedByte, above, within]
    · simp [storedByte, above, within]
  · simp [storedByte, above]

/-- A buffered store that a drain writes to memory: noncachable, outside the private memory region, its addresses not wrapping. -/
def PendingStore.Plain (c : Config) (e : PendingStore) : Prop :=
  e.cachable = false ∧ inRegion c e.pa = false ∧ e.pa.toNat + e.bytes.length ≤ 2 ^ 32

theorem retire_plain {s : State} {e : PendingStore} (plain : e.Plain s.cfg) (h : s.cfg.errorRegions = []) :
    retire e s = s.setMem (s.mem.writeBytes e.pa e.bytes) := by
  obtain ⟨noncachable, region, -⟩ := plain
  simp [retire, noncachable, region, busWrite_written h]

/-- Each store that drains lays its bytes over those of the stores before it (20_memory.md R90). -/
theorem read_retireAll (a : Nat) (x : Byte) : ∀ (l : List PendingStore) {s : State} {r : Option Byte}, s.memCanonical →
    s.cfg.errorRegions = [] → (∀ e ∈ l, e.Plain s.cfg) → s.mem.read a = r.getD x →
      (retireAll l s).mem.read a = (l.foldl (fun r e => (storedByte e.pa.toNat e.bytes a).or r) r).getD x
  | [], _, _, _, _, _, start => start
  | e :: l, s, r, canonical, noErrors, plain, start => by
    have first := plain e (by simp)
    rw [retireAll, retire_plain first noErrors, List.foldl_cons]
    refine read_retireAll a x l (Mem.wf_writeBytes e.bytes e.pa canonical) noErrors (fun e' h => plain e' (by simp [h])) ?_
    rw [State.setMem_mem, Mem.read_writeBytes e.bytes e.pa canonical first.2.2, start, Option.getD_or]

/-- A byte of memory after a drain is that of the newest store of it (20_memory.md R90, R93). -/
theorem read_drainAll {s : State} (canonical : s.memCanonical) (noErrors : s.cfg.errorRegions = [])
    (plain : ∀ e ∈ s.storeBuffer, e.Plain s.cfg) (a : Word) :
    (drainAll s).mem.read a.toNat = (bufferedByte s.storeBuffer a).getD (s.mem.read a.toNat) := by
  rw [bufferedByte_eq]
  exact read_retireAll a.toNat (s.mem.read a.toNat) s.storeBuffer (s := { s with storeBuffer := [] }) canonical noErrors plain rfl

/-! ## What a buffered store answers -/

/-- The newest store is the last of the buffer. -/
theorem bufferedByte_bufferStore (s : State) {e : PendingStore} {k : Nat} (h : k < e.bytes.length)
    (fits : e.pa.toNat + e.bytes.length ≤ 2 ^ 32) :
    bufferedByte (bufferStore e s).storeBuffer (e.pa + BitVec.ofNat 32 k) = some e.bytes[k] := by
  have address : (e.pa + BitVec.ofNat 32 k).toNat = e.pa.toNat + k := by
    rw [BitVec.toNat_add, BitVec.toNat_ofNat]
    omega
  rw [bufferedByte_eq, address]
  simp only [bufferStore, List.foldl_append, List.foldl_cons, List.foldl_nil, storedByte_inside h, Option.some_or]

/-- A read of bytes that one store holds all of is answered by it. -/
theorem bufferHit_bufferStore (s : State) (e : PendingStore) (fits : e.pa.toNat + e.bytes.length ≤ 2 ^ 32) : ∀ (n k : Nat),
    k + n ≤ e.bytes.length →
      bufferHit (bufferStore e s).storeBuffer (e.pa + BitVec.ofNat 32 k) n = some ((e.bytes.drop k).take n)
  | 0, _, _ => rfl
  | n + 1, k, within => by
    have first := bufferedByte_bufferStore s (k := k) (by omega) fits
    have rest := bufferHit_bufferStore s e fits n (k + 1) (by omega)
    have after : e.pa + BitVec.ofNat 32 (k + 1) = e.pa + BitVec.ofNat 32 k + 1 := by rw [BitVec.ofNat_add, ← BitVec.add_assoc]; rfl
    rw [after] at rest
    rw [bufferHit, first, rest, List.drop_eq_getElem_cons (show k < e.bytes.length by omega)]
    rfl

/-- Settles O43: the barriers drain the buffer (`exec_mcrDsb`, `exec_mcrDmb`), a drain lays each store over those before it
(`read_drainAll`), and until then the newest store of the buffer answers (`bufferedByte_bufferStore`). -/
theorem barriersAndStoreBuffer : Obligations.BarriersAndStoreBuffer := by
  refine ⟨fun s cc rd pass hrd => ⟨?_, ?_, ?_, fun running priv => gives_mcrWaitForInterrupt pass hrd running priv⟩, ?_, ?_,
    fun s e k n within fits => bufferHit_bufferStore s e fits n k within⟩
  · refine ⟨_, exec_mcrDsb pass hrd, ?_, ?_, SameOutsideMemory.advance (memoryOnly_dsb s).1⟩
    · simpa using dsb_storeBuffer s
    · simpa using dsb_inFlight s
  · refine ⟨_, exec_mcrDmb pass hrd, ?_, SameOutsideMemory.advance (memoryOnly_drainAll s).1⟩
    simpa using drainAll_storeBuffer s
  · rw [exec_cp15RunUser (i := .mcrFlushPrefetchBuffer cc rd) (f := State.flushPrefetch) pass hrd rfl, advance_flushPrefetch]
  · intro s cc rd pass hrd canonical noErrors plain i hi
    have drained := read_drainAll canonical noErrors plain
    obtain rfl | rfl : i = .mcrDsb cc rd ∨ i = .mcrDmb cc rd := by simpa using hi
    · refine ⟨_, exec_mcrDsb pass hrd, fun a => ?_⟩
      rw [State.advance_mem, dsb_mem, drained]
    · refine ⟨_, exec_mcrDmb pass hrd, fun a => ?_⟩
      rw [State.advance_mem, drained]
  · intro s e k within l fits
    rw [forward, bufferedByte_bufferStore s within fits]
    rfl

end Sys2Proof.Machine
end

section
/-! The operations on the instruction cache and the branch target cache (O44). -/
namespace Sys2Proof.Machine

/-! ## Operations of CP15 that may fail -/

/-- Past the guard of the privileged accesses an operation that succeeds is all that an instruction does. -/
theorem exec_cp15Run {s t : State} {cond : Cond} {rd : RegNum} {i : Instr} {m : State → Res Unit} (pass : s.passes cond = true)
    (priv : s.privileged = true) (hrd : rd ≠ 15)
    (e : exec i s = cp15Run cond rd s fun s => (m s).bind fun _ s => .ok () s.advance) (run : m s = .ok () t) :
    exec i s = .next t.advance := by
  rw [e, cp15Run_privileged pass priv hrd, run]
  rfl

/-! ## Operands -/

/-- The sets of a cache (43_cp15_c7_cache_ops.md R220). -/
def setsOf : CacheSize → Nat
  | .kb16 => 128
  | .kb32 => 256
  | .kb64 => 512

/-- An operand names the same set by Set/Way as by address (43_cp15_c7_cache_ops.md R220, R221). -/
theorem operandSet_eq (z : CacheSize) (v : Word) : operandSet z v = v.toNat / 32 % setsOf z := by cases z <;> rfl
theorem setOf_eq (z : CacheSize) (v : Word) : setOf z v = v.toNat / 32 % setsOf z := by cases z <;> rfl

/-- With the MMU off an operand names its own line (43_cp15_c7_cache_ops.md R221). -/
theorem maintTranslate_flat {s : State} (off : s.ctlM = false) (iside : Bool) (v : Word) :
    maintTranslate iside v s = .ok (clearLow v 5) s := by
  simp [maintTranslate, translateMaintenance, off]

theorem lineTag_clearLow (v : Word) : lineTag (clearLow v 5) = fld v 5 27 :=
  fld_congr fun i hi => by rw [getLsbD_clearLow v 5 (by omega)]; simp

/-! ## The operations -/

section
variable {s : State} {cc : Cond} {rd : RegNum} (pass : s.passes cc = true) (priv : s.privileged = true) (hrd : rd ≠ 15)
include pass priv hrd

theorem exec_mcrInvalidateICacheIndex : exec (.mcrInvalidateICacheIndex cc rd) s = .next { s with
    icache := s.icache.filter fun l => !(l.way == fld (s.reg rd) 30 2 && l.set == (s.reg rd).toNat / 32 % setsOf s.cfg.icache)
    pc := s.past } := by
  rw [exec_cp15Write (f := fun v s => dropInstrLines (fun l => l.way == operandWay v && l.set == operandSet s.cfg.icache v) s)
    pass priv hrd rfl, State.advance_eq]
  simp only [dropInstrLines, operandSet_eq]
  rfl

theorem exec_mcrInvalidateICacheMva (off : s.ctlM = false) : exec (.mcrInvalidateICacheMva cc rd) s = .next { s with
    icache := s.icache.filter fun l => !(l.set == (s.reg rd).toNat / 32 % setsOf s.cfg.icache && l.tag == fld (s.reg rd) 5 27)
    pc := s.past } := by
  have run : instrLineByMva (s.reg rd) s = .ok () (dropInstrLines (fun l =>
      l.set == (s.reg rd).toNat / 32 % setsOf s.cfg.icache && l.tag == fld (s.reg rd) 5 27) s) := by
    simp only [instrLineByMva, maintTranslate_flat off, Res.bind, setOf_eq, lineTag_clearLow]
  rw [exec_cp15Run (m := fun s => instrLineByMva (s.reg rd) s) pass priv hrd rfl run, State.advance_eq]
  rfl

end

/-- Settles O44: each row is a write behind the guard (`exec_cp15Write`), or by address an operation that with the MMU off cannot
fail (`maintTranslate_flat`); what is left is which lines it names. -/
theorem instructionCacheOperations : Obligations.InstructionCacheOperations := by
  intro s cc rd pass priv hrd v sets
  have same : sets = setsOf s.cfg.icache := by unfold sets; cases s.cfg.icache <;> rfl
  rw [same]
  refine ⟨?_, ?_, ?_, exec_mcrInvalidateICacheIndex pass priv hrd, exec_mcrInvalidateICacheMva pass priv hrd⟩
  · rw [exec_cp15Write (f := fun _ s => invalidateIcache s) pass priv hrd rfl, State.advance_eq]
    rfl
  · rw [exec_cp15Write (f := fun _ s => { s with btac := [] }) pass priv hrd rfl, State.advance_eq]
    rfl
  · rw [exec_cp15Write (f := flushBtacEntry) pass priv hrd rfl, State.advance_eq]
    rfl

end Sys2Proof.Machine
end

section
/-! SUPPORT. Cleaning and dropping lines of the data cache. -/
namespace Sys2Proof.Machine

/-! ## The bytes of a line in memory -/

theorem toNat_tagAddr (tag : BitVec 27) : (tagAddr tag).toNat = 32 * tag.toNat := by
  have := tag.isLt
  rw [tagAddr, put, BitVec.toNat_shiftLeft, BitVec.toNat_setWidth, Nat.shiftLeft_eq]
  omega

/-- The bytes of two lines stand apart. -/
theorem tagAddr_apart {x y : BitVec 27} (ne : x ≠ y) {j k : Nat} (hj : j < 32) (hk : k < 32) :
    (tagAddr x).toNat + j ≠ (tagAddr y).toNat + k := by
  have apart : x.toNat ≠ y.toNat := fun h => ne (BitVec.eq_of_toNat_eq h)
  rw [toNat_tagAddr, toNat_tagAddr]
  omega

/-- Memory after a clean of a line (43_cp15_c7_cache_ops.md R212). -/
def cleanedMem (m : Mem) (l : Line) : Mem := if l.dirty then m.writeBytes (tagAddr l.tag) l.bytes.toList else m

theorem wf_cleanedMem {m : Mem} (wf : m.wf = true) (l : Line) : (cleanedMem m l).wf = true := by
  unfold cleanedMem
  split
  · exact Mem.wf_writeBytes _ _ wf
  · exact wf

theorem read_cleanedMem {m : Mem} (wf : m.wf = true) {l : Line} (dirty : l.dirty = true) (a : Nat) :
    (cleanedMem m l).read a = (storedByte (tagAddr l.tag).toNat l.bytes.toList a).getD (m.read a) := by
  have fits : (tagAddr l.tag).toNat + l.bytes.toList.length ≤ 2 ^ 32 := by
    have := l.tag.isLt
    rw [toNat_tagAddr, Vector.length_toList]
    omega
  rw [cleanedMem, if_pos dirty, Mem.read_writeBytes _ _ wf fits]

/-- A dirty line reaches memory. -/
theorem read_cleanedMem_line {m : Mem} (wf : m.wf = true) {l : Line} (dirty : l.dirty = true) {k : Nat} (hk : k < 32) :
    (cleanedMem m l).read ((tagAddr l.tag).toNat + k) = l.bytes[k] := by
  rw [read_cleanedMem wf dirty, storedByte_inside (by simpa using hk)]
  simp

/-- A clean changes no byte of memory but those of a dirty line. -/
theorem read_cleanedMem_other {m : Mem} (wf : m.wf = true) {l : Line} {a : Nat}
    (apart : l.dirty = true → ∀ k < 32, a ≠ (tagAddr l.tag).toNat + k) : (cleanedMem m l).read a = m.read a := by
  by_cases dirty : l.dirty = true
  · rw [read_cleanedMem wf dirty, storedByte_outside (by simpa using apart dirty)]
    rfl
  · rw [cleanedMem, if_neg dirty]

theorem read_cleanedMems_other {a : Nat} : ∀ (ls : List Line) {m : Mem}, m.wf = true →
    (∀ l ∈ ls, l.dirty = true → ∀ k < 32, a ≠ (tagAddr l.tag).toNat + k) → (ls.foldl cleanedMem m).read a = m.read a
  | [], _, _, _ => rfl
  | l :: ls, m, wf, apart => by
    rw [List.foldl_cons, read_cleanedMems_other ls (wf_cleanedMem wf l) fun l' h => apart l' (by simp [h])]
    exact read_cleanedMem_other wf (apart l (by simp))

/-- Every dirty line reaches memory, and no line after it lies over it. -/
theorem read_cleanedMems_line : ∀ (ls : List Line) {m : Mem}, m.wf = true → (ls.map (·.tag)).Nodup → ∀ l ∈ ls,
    l.dirty = true → ∀ k (_ : k < 32), (ls.foldl cleanedMem m).read ((tagAddr l.tag).toNat + k) = l.bytes[k]
  | first :: ls, m, wf, nodup, l, hl, dirty, k, hk => by
    obtain ⟨fresh, nodup⟩ := List.nodup_cons.1 nodup
    rw [List.foldl_cons]
    rcases List.mem_cons.1 hl with rfl | hl
    · have apart : ∀ l' ∈ ls, l'.dirty = true → ∀ j < 32, (tagAddr l.tag).toNat + k ≠ (tagAddr l'.tag).toNat + j :=
        fun l' h _ j hj => tagAddr_apart (fun e => fresh (List.mem_map.2 ⟨l', h, e.symm⟩)) hk hj
      rw [read_cleanedMems_other ls (wf_cleanedMem wf l) apart, read_cleanedMem_line wf dirty hk]
    · exact read_cleanedMems_line ls (wf_cleanedMem wf first) nodup l hl dirty k hk

/-! ## Cleaning -/

/-- A line, clean where its tag is listed. -/
def Line.cleanIn (tags : List (BitVec 27)) (k : Line) : Line := if k.tag ∈ tags then { k with dirty := false } else k

theorem Line.cleanIn_cleanIn (t : BitVec 27) (tags : List (BitVec 27)) (k : Line) :
    (k.cleanIn [t]).cleanIn tags = k.cleanIn (t :: tags) := by
  by_cases here : k.tag = t
  · by_cases later : t ∈ tags <;> simp [cleanIn, here, later]
  · simp [cleanIn, here]

theorem Line.cleanIn_of_clean {k : Line} (clean : k.dirty = false) (tags : List (BitVec 27)) : k.cleanIn tags = k := by
  unfold cleanIn
  split
  · rw [← clean]
  · rfl

/-- Where a line is the only one of its tag, it is the one that a clean of its tag replaces. -/
theorem map_cleanIn_of_only {c : List Line} {l : Line} (only : ∀ k ∈ c, k.tag = l.tag → k = l) :
    c.map (Line.cleanIn [l.tag]) = c.map fun k => if k.tag = l.tag then { l with dirty := false } else k :=
  List.map_congr_left fun k hk => by
    by_cases here : k.tag = l.tag
    · rw [only k hk here]
      simp [Line.cleanIn]
    · simp [Line.cleanIn, here]

/-- A clean of a line that is the only one of its tag in the cache. -/
theorem cleanLine_eq {s : State} (noErrors : s.cfg.errorRegions = []) {l : Line} (only : ∀ k ∈ s.dcache, k.tag = l.tag → k = l) :
    cleanLine l s = { s with mem := cleanedMem s.mem l, dcache := s.dcache.map (Line.cleanIn [l.tag]) } := by
  unfold cleanLine cleanedMem
  split
  · rw [busWrite_written noErrors, map_cleanIn_of_only only]
    simp only [State.setLine, State.setMem, beq_iff_eq]
  · next clean =>
    have kept : ∀ k ∈ s.dcache, k.cleanIn [l.tag] = k := fun k hk => by
      by_cases here : k.tag = l.tag
      · rw [only k hk here, Line.cleanIn_of_clean (by simpa using clean)]
      · simp [Line.cleanIn, here]
    rw [List.map_congr_left kept, List.map_id']

/-- Lines cleaned one after the other, each the only one of its tag. -/
theorem foldl_cleanLine : ∀ (ls : List Line) {s : State}, s.cfg.errorRegions = [] → (ls.map (·.tag)).Nodup →
    (∀ l ∈ ls, ∀ k ∈ s.dcache, k.tag = l.tag → k = l) → ls.foldl (fun s l => cleanLine l s) s =
      { s with mem := ls.foldl cleanedMem s.mem, dcache := s.dcache.map (Line.cleanIn (ls.map (·.tag))) }
  | [], s, _, _, _ => by
    have kept : Line.cleanIn [] = id := funext fun k => by simp [Line.cleanIn]
    rw [List.map_nil, kept, List.map_id]
    rfl
  | l :: ls, s, noErrors, nodup, only => by
    obtain ⟨fresh, nodup⟩ := List.nodup_cons.1 nodup
    have later : ∀ l' ∈ ls, ∀ k ∈ s.dcache.map (Line.cleanIn [l.tag]), k.tag = l'.tag → k = l' := by
      intro l' hl' k' found same
      obtain ⟨k, hk, rfl⟩ := List.mem_map.1 found
      have tag : (k.cleanIn [l.tag]).tag = k.tag := by unfold Line.cleanIn; split <;> rfl
      rw [tag] at same
      have apart : k.tag ≠ l.tag := fun e => fresh (List.mem_map.2 ⟨l', hl', same.symm.trans e⟩)
      obtain rfl := only l' (by simp [hl']) k hk same
      simp [Line.cleanIn, apart]
    rw [List.foldl_cons, cleanLine_eq noErrors (only l (by simp)),
      foldl_cleanLine ls (s := { s with mem := cleanedMem s.mem l, dcache := s.dcache.map (Line.cleanIn [l.tag]) }) noErrors nodup
        later]
    simp only [List.map_map, Function.comp_def, Line.cleanIn_cleanIn, List.map_cons, List.foldl_cons]

/-! ## Dropping -/

/-- An operation by which a line leaves the cache: memory is left as `written` says, and the exclusive monitor may open. -/
def DropsLine (op : Line → State → State) (written : Mem → Line → Mem) : Prop :=
  ∀ (l : Line) (s : State), s.cfg.errorRegions = [] → ∃ m, op l s = { s with
    dcache := s.dcache.filter fun k => k.tag != l.tag, monitor := m, mem := written s.mem l }

theorem openMonitorAt_eq (tag : BitVec 27) (s : State) : ∃ m, openMonitorAt tag s = { s with monitor := m } := by
  unfold openMonitorAt
  split
  · exact ⟨_, rfl⟩
  · split
    · exact ⟨_, rfl⟩
    · exact ⟨_, rfl⟩

theorem dropsLine_invalidateLine : DropsLine invalidateLine fun m _ => m := fun l s _ => by
  obtain ⟨m, e⟩ := openMonitorAt_eq l.tag s
  exact ⟨m, by rw [invalidateLine, e]; rfl⟩

/-- The line that a clean replaces is the one that leaves. -/
theorem filter_setLine (l : Line) (c : List Line) :
    ((c.map fun k => if k.tag == l.tag then l else k).filter fun k => k.tag != l.tag) = c.filter fun k => k.tag != l.tag := by
  induction c with
  | nil => rfl
  | cons k c ih =>
    by_cases here : k.tag = l.tag
    · simpa [here] using ih
    · simpa [here] using ih

theorem dropsLine_evictLine : DropsLine evictLine cleanedMem := fun l s noErrors => by
  obtain ⟨m, e⟩ := dropsLine_invalidateLine l (cleanLine l s) (by rwa [(memoryOnly_cleanLine l s).cfg])
  refine ⟨m, ?_⟩
  rw [evictLine, e]
  unfold cleanLine cleanedMem
  split
  · have rest := filter_setLine { l with dirty := false } s.dcache
    rw [busWrite_written noErrors, ← rest]
    rfl
  · rfl

/-- Lines dropped one after the other. -/
theorem DropsLine.foldl {op : Line → State → State} {written : Mem → Line → Mem} (h : DropsLine op written) :
    ∀ (ls : List Line) {s : State}, s.cfg.errorRegions = [] → ∃ m, ls.foldl (fun s l => op l s) s = { s with
      dcache := s.dcache.filter fun k => k.tag ∉ ls.map (·.tag), monitor := m, mem := ls.foldl written s.mem }
  | [], s, _ => ⟨s.monitor, by simp⟩
  | l :: ls, s, noErrors => by
    obtain ⟨m, first⟩ := h l s noErrors
    obtain ⟨n, rest⟩ := h.foldl ls (s := op l s) (by rwa [first])
    refine ⟨n, ?_⟩
    rw [List.foldl_cons, rest, first]
    simp only [List.filter_filter, List.map_cons, List.foldl_cons]
    congr 2
    funext k
    by_cases here : k.tag = l.tag <;> simp [here]

end Sys2Proof.Machine
end

section
/-! The operations on the whole data cache (O45). -/
namespace Sys2Proof.Machine

/-- The dirty lines of a cache have been written to memory, and no other byte has changed (43_cp15_c7_cache_ops.md R212). -/
def LinesWritten (s t : State) : Prop :=
  (∀ l ∈ s.dcache, l.dirty = true → ∀ k (_ : k < 32), t.mem.read ((tagAddr l.tag).toNat + k) = l.bytes[k]) ∧
    ∀ a, (∀ l ∈ s.dcache, l.dirty = true → ∀ k < 32, a ≠ (tagAddr l.tag).toNat + k) → t.mem.read a = s.mem.read a

section
variable {s : State} (buffer : s.storeBuffer = []) (noErrors : s.cfg.errorRegions = [])
include buffer

theorem everyDataLine_eq (op : Line → State → State) : everyDataLine op s = s.dcache.foldl (fun s l => op l s) s := by
  simp only [everyDataLine, drainAll_empty buffer]

include noErrors

theorem DropsLine.everyDataLine {op : Line → State → State} {written : Mem → Line → Mem} (h : DropsLine op written) :
    ∃ m, everyDataLine op s = { s with dcache := [], monitor := m, mem := s.dcache.foldl written s.mem } := by
  obtain ⟨m, e⟩ := h.foldl s.dcache noErrors
  have none : s.dcache.filter (fun k => k.tag ∉ s.dcache.map (·.tag)) = [] :=
    List.filter_eq_nil_iff.2 fun k hk => by simpa using ⟨k, hk, rfl⟩
  exact ⟨m, by rw [everyDataLine_eq buffer, e, none]⟩

theorem everyDataLine_cleanLine (nodup : (s.dcache.map (·.tag)).Nodup) : everyDataLine cleanLine s =
    { s with mem := s.dcache.foldl cleanedMem s.mem, dcache := s.dcache.map fun l => { l with dirty := false } } := by
  have only : ∀ l ∈ s.dcache, ∀ k ∈ s.dcache, k.tag = l.tag → k = l := fun l hl k hk => List.inj_on_of_nodup_map nodup hk hl
  have all : s.dcache.map (Line.cleanIn (s.dcache.map (·.tag))) = s.dcache.map fun l => { l with dirty := false } :=
    List.map_congr_left fun k hk => if_pos (List.mem_map_of_mem hk)
  rw [everyDataLine_eq buffer, foldl_cleanLine s.dcache noErrors nodup only, all]

end

theorem linesWritten_of_mem {s t : State} (canonical : s.memCanonical) (nodup : (s.dcache.map (·.tag)).Nodup)
    (e : t.mem = s.dcache.foldl cleanedMem s.mem) : LinesWritten s t := by
  unfold LinesWritten
  rw [e]
  exact ⟨read_cleanedMems_line s.dcache canonical nodup, fun a => read_cleanedMems_other s.dcache canonical⟩

/-- Settles O45: an operation on every line is a fold over the cache, by which every line leaves (`DropsLine.everyDataLine`) or is
cleaned (`everyDataLine_cleanLine`), and memory is what the cleaned lines leave (`linesWritten_of_mem`). -/
theorem dataCacheOperations : Obligations.DataCacheOperations := by
  intro s cc rd pass priv hrd buffer noErrors nodup canonical written
  have kept : s.dcache.foldl (fun m _ => m) s.mem = s.mem := List.foldl_fixed ..
  refine ⟨⟨_, exec_cp15Write (f := fun _ s => everyDataLine invalidateLine s) pass priv hrd rfl, ?_⟩,
    ⟨_, exec_cp15Write (f := fun _ s => everyDataLine invalidateLine (invalidateIcache s)) pass priv hrd rfl, ?_⟩,
    ⟨_, exec_cp15Write (f := fun _ s => everyDataLine cleanLine s) pass priv hrd rfl, ?_⟩,
    ⟨_, exec_cp15Write (f := fun _ s => everyDataLine evictLine s) pass priv hrd rfl, ?_⟩⟩
  · obtain ⟨m, e⟩ := dropsLine_invalidateLine.everyDataLine buffer noErrors
    rw [e, kept, State.advance_eq]
    rfl
  · obtain ⟨m, e⟩ := dropsLine_invalidateLine.everyDataLine (s := invalidateIcache s) buffer noErrors
    rw [e, State.advance_eq]
    simp only [invalidateIcache, kept]
    rfl
  · rw [everyDataLine_cleanLine buffer noErrors nodup, State.advance_eq]
    exact ⟨linesWritten_of_mem canonical nodup rfl, rfl⟩
  · obtain ⟨m, e⟩ := dropsLine_evictLine.everyDataLine buffer noErrors
    rw [e, State.advance_eq]
    exact ⟨linesWritten_of_mem canonical nodup rfl, rfl⟩

end Sys2Proof.Machine
end

section
/-! The operations on one line of the data cache (O46). -/
namespace Sys2Proof.Machine

/-- The one member of a list that meets a condition is found. -/
theorem find?_eq_some_of_only {α : Type} {c : List α} {p : α → Bool} {l : α} (mem : l ∈ c) (meets : p l = true)
    (only : ∀ k ∈ c, p k = true → k = l) : c.find? p = some l := by
  cases found : c.find? p with
  | none => exact absurd meets (List.find?_eq_none.1 found l mem)
  | some k => rw [only k (List.mem_of_find?_eq_some found) (List.find?_some found)]

/-- An operand names a line of the data cache, by address with the MMU off or by set and way (43_cp15_c7_cache_ops.md R220,
R221). -/
def NamesLine (s : State) (v : Word) (l : Line) (byMva : Bool) : Prop :=
  if byMva then s.ctlM = false ∧ l.tag = fld v 5 27 else l.way = fld v 30 2 ∧ l.set = v.toNat / 32 % setsOf (dsize s.cfg)

section
variable {s : State} {v : Word} {l : Line} (buffer : s.storeBuffer = []) (hl : l ∈ s.dcache)
include buffer hl

/-- The line that a Set/Way operand names. -/
theorem dataLineAt_named (nodup : (s.dcache.map fun k => (k.way, k.set)).Nodup) (named : NamesLine s v l false)
    (op : Line → State → State) : dataLineAt op v s = op l s := by
  obtain ⟨way, set⟩ : l.way = fld v 30 2 ∧ l.set = v.toNat / 32 % setsOf (dsize s.cfg) := named
  have found : s.dcache.find? (fun k => k.way == operandWay v && k.set == operandSet (dsize s.cfg) v) = some l := by
    refine find?_eq_some_of_only hl (by simp [way, set, operandWay, operandSet_eq]) fun k hk meets => ?_
    have same : k.way = l.way ∧ k.set = l.set := by simpa [way, set, operandWay, operandSet_eq] using meets
    exact List.inj_on_of_nodup_map nodup hk hl (Prod.ext same.1 same.2)
  simp only [dataLineAt, drainAll_empty buffer, found]

/-- The line that an address names. -/
theorem dataLineByMva_named (nodup : (s.dcache.map (·.tag)).Nodup) (named : NamesLine s v l true) (op : Line → State → State) :
    dataLineByMva op v s = .ok () (op l s) := by
  obtain ⟨off, tag⟩ : s.ctlM = false ∧ l.tag = fld v 5 27 := named
  have found : s.dline (fld v 5 27) = some l := by
    refine find?_eq_some_of_only hl (by simp [tag]) fun k hk meets => ?_
    have same : k.tag = l.tag := by simpa [tag] using meets
    exact List.inj_on_of_nodup_map nodup hk hl same
  simp only [dataLineByMva, drainAll_empty buffer, maintTranslate_flat off, Res.bind, lineTag_clearLow, found]

end

/-- The two forms of an operation do the same to the line they name. -/
theorem exec_dataLine {s : State} {cc : Cond} {rd : RegNum} {l : Line} {byIndex byAddress : Instr} {op : Line → State → State}
    (pass : s.passes cc = true) (priv : s.privileged = true) (hrd : rd ≠ 15) (buffer : s.storeBuffer = [])
    (tags : (s.dcache.map (·.tag)).Nodup) (places : (s.dcache.map fun k => (k.way, k.set)).Nodup) (hl : l ∈ s.dcache)
    (index : exec byIndex s = cp15Write cc rd s fun v s => dataLineAt op v s)
    (address : exec byAddress s = cp15Run cc rd s fun s => (dataLineByMva op (s.reg rd) s).bind fun _ s => .ok () s.advance) :
    ∀ x ∈ [(false, byIndex), (true, byAddress)], NamesLine s (s.reg rd) l x.1 → exec x.2 s = .next (op l s).advance := by
  intro x hx named
  obtain rfl | rfl : x = (false, byIndex) ∨ x = (true, byAddress) := by simpa using hx
  · rw [exec_cp15Write pass priv hrd index, dataLineAt_named buffer hl places named]
  · exact exec_cp15Run pass priv hrd address (dataLineByMva_named buffer hl tags named op)

/-- Only a dirty line has been written to memory. -/
theorem lineWritten_of_mem {s t : State} (canonical : s.memCanonical) {l : Line} (e : t.mem = cleanedMem s.mem l) :
    (l.dirty = false → t.mem = s.mem) ∧
      (l.dirty = true → (∀ k (_ : k < 32), t.mem.read ((tagAddr l.tag).toNat + k) = l.bytes[k]) ∧
        ∀ a, (∀ k < 32, a ≠ (tagAddr l.tag).toNat + k) → t.mem.read a = s.mem.read a) := by
  rw [e]
  refine ⟨fun clean => if_neg (by simp [clean]), fun dirty => ⟨fun k hk => read_cleanedMem_line canonical dirty hk, fun a apart => ?_⟩⟩
  exact read_cleanedMem_other canonical fun _ => apart

/-- Settles O46: both forms do their operation to the line that they name (`exec_dataLine`), by which it leaves the cache
(`DropsLine`) or is cleaned in it (`cleanLine_eq`). -/
theorem dataCacheLineOperations : Obligations.DataCacheLineOperations := by
  intro s cc rd l pass priv hrd buffer noErrors tags places canonical hl v sets named mem gone
  have same : sets = setsOf (dsize s.cfg) := by unfold sets dsize; cases s.cfg.dcache.get s.cfg.cpu <;> rfl
  have names (b : Bool) : named b → NamesLine s (s.reg rd) l b := by unfold named; rw [same]; exact id
  have run {i j : Instr} {op : Line → State → State} := exec_dataLine (byIndex := i) (byAddress := j) (op := op) pass priv hrd buffer
    tags places hl
  refine ⟨fun x hx nx => ⟨_, run (op := invalidateLine) rfl rfl x hx (names _ nx), ?_⟩,
    fun x hx nx => ⟨_, run (op := cleanLine) rfl rfl x hx (names _ nx), ?_⟩,
    fun x hx nx => ⟨_, run (op := evictLine) rfl rfl x hx (names _ nx), ?_⟩⟩
  · obtain ⟨m, e⟩ := dropsLine_invalidateLine l s noErrors
    rw [e, State.advance_eq]
    rfl
  · have only : ∀ k ∈ s.dcache, k.tag = l.tag → k = l := fun k hk => List.inj_on_of_nodup_map tags hk hl
    rw [cleanLine_eq noErrors only, map_cleanIn_of_only only, State.advance_eq]
    exact ⟨lineWritten_of_mem canonical rfl, rfl⟩
  · obtain ⟨m, e⟩ := dropsLine_evictLine l s noErrors
    rw [e, State.advance_eq]
    exact ⟨lineWritten_of_mem canonical rfl, rfl⟩

end Sys2Proof.Machine
end

section
/-! SUPPORT. Translations that take no abort: what a walk leaves in the TLB, and what an open section grants. -/
namespace Sys2Proof.Machine

theorem tlbFill_eq (e : TlbEntry) (s : State) : ∃ l k, tlbFill e s = { s with tlb := l, lockSlots := k } := by
  unfold tlbFill
  split
  · exact ⟨_, _, rfl⟩
  · split
    · exact ⟨_, _, rfl⟩
    · exact ⟨_, _, rfl⟩

/-- A translation by a walk that finds an entry fills the TLB with it. -/
theorem translate_of_walk_fill {s : State} (h : s.Translating) {p : Purpose} {user : Bool} {mva : Word} {e : TlbEntry}
    (miss : tlbLookup s.ctlXp s mva = []) (found : walk s.tlbControls mva s = (.ok e, s)) :
    translate p user true mva s = (entryResult s p user mva e, tlbFill e s) := by
  have miss : tlbLookup s.tlbControls.xp s mva = [] := miss
  refine translate_of_entry h ?_ (tlbFill_cp15 e s)
  simp only [tlbEntryFor, miss, found, accessBitClear_false h, Bool.false_eq_true, if_false]

/-- A walk that faults ends a translation, whatever controls the later checks use. -/
theorem translate_of_walk_fault {s : State} (on : s.ctlM = true) (older : s.remapOld = []) {p : Purpose} {user : Bool} {mva : Word}
    {x : MmuStop} (miss : tlbLookup s.ctlXp s mva = []) (found : walk s.tlbControls mva s = (.error x, s)) :
    translate p user true mva s = (.error x, s) := by
  have miss : tlbLookup s.tlbControls.xp s mva = [] := miss
  have entry : tlbEntryFor s.tlbControls mva s = (.error x, s) := by simp only [tlbEntryFor, miss, found]
  simp only [translate, on, drawControls_settled older, entry, if_true]

/-- Permission bits 11 open a section to every access but a fetch, whatever S and R say (20_memory.md R55). -/
theorem permission_open (sBit rBit user : Bool) : permission sBit rBit false 3#2 user = some (true, true) := rfl

/-- An entry is open to every load and store: its domain's manager, or a client whom the permission bits refuse nothing
(20_memory.md R54, R55). -/
theorem entryResult_open {s : State} {p : Purpose} {user : Bool} {mva : Word} {e : TlbEntry} {a : MemAttr} (data : p ≠ .fetch)
    (attr : entryAttr s.tlbControls e = .ok a)
    (access : domainAccess s e.domain = 3#2 ∨
      (domainAccess s e.domain = 1#2 ∧ entryAp s.ctlXp e mva = 3#2 ∧ (s.ctlXp && e.apx) = false)) :
    entryResult s p user mva e = .ok ⟨entryPa e mva, a, some e.domain⟩ := by
  rcases access with manager | ⟨client, ap, apx⟩
  · exact entryResult_manager manager attr
  · have checked : bitAt (1#2) 0 = true := rfl
    simp only [entryResult, client, checked, attr, checkEntry, ap, apx, permission_open, Bool.not_true, Bool.and_false,
      Bool.false_eq_true, if_false, BEq.rfl, if_true]
    cases p with
    | read => rfl
    | write => rfl
    | fetch => exact absurd rfl data

end Sys2Proof.Machine
end

section
/-! The VA to PA translation operations (O47). -/
namespace Sys2Proof.Machine

/-! ## The operand -/

theorem clearLow_ten (v : Word) : clearLow v 10 = v &&& 0xFFFFFC00 := clearLow_eq_and v 10

/-- The operand's lowest bits do not reach the index of the first-level descriptor (20_memory.md R71). -/
theorem descriptorAddress_clearLow (s : State) (v : Word) :
    descriptorAddress s (clearLow v 10) = (s.cp15.ttbr0 &&& 0xFFFFC000) ||| (v >>> 20) <<< 2 := by
  have index : clearLow v 10 >>> 20 = v >>> 20 := by
    refine BitVec.eq_of_getLsbD_eq fun i hi => ?_
    rw [BitVec.getLsbD_ushiftRight, BitVec.getLsbD_ushiftRight]
    by_cases within : 20 + i < 32
    · rw [getLsbD_clearLow v 10 within]
      simp [show 10 ≤ 20 + i by omega]
    · rw [BitVec.getLsbD_of_ge _ _ (by omega), BitVec.getLsbD_of_ge _ _ (by omega)]
  rw [descriptorAddress, index]

/-! ## The PA Register -/

/-- The fields of the PA Register that hold the attributes (43_cp15_c7_cache_ops.md R224). -/
def paAttributes (a : MemAttr) : Word :=
  flag a.shared 8 ||| (put (paType a.ty) 6 ||| (put (if a.ty == .normal then a.inner else 0) 4 |||
    put (if a.ty == .normal then a.outer else 0) 2))

theorem paSuccess_eq (t : Translated) : paSuccess t = (t.pa &&& 0xFFFFF000) ||| paAttributes t.attr := by
  simp only [paSuccess, paAttributes, BitVec.or_assoc]

/-- What those fields hold for memory of type field 0 (20_memory.md R61). -/
def paKind (c b shared : Bool) : Word :=
  match c, b with
  | false, false => 0x100
  | false, true => 0x140
  | true, false => 0x0A8 ||| flag shared 8
  | true, true => 0x0BC ||| flag shared 8

theorem plainAttr_zero (c b shared : Bool) : ∃ a, plainAttr 0 c b shared = .ok a ∧ paAttributes a = paKind c b shared := by
  cases c <;> cases b <;> cases shared <;> exact ⟨_, rfl, rfl⟩

/-- The page of an address in a section, from the descriptor and the operand (20_memory.md R76). -/
theorem sectionPage (l1 v : Word) : ((l1 &&& 0xFFF00000) ||| (v &&& 0xFFFFFC00 &&& 0x000FFFFF)) &&& 0xFFFFF000 =
    (l1 &&& 0xFFF00000) ||| (v &&& 0x000FF000) := by
  rw [BitVec.and_or_distrib_right]
  simp only [BitVec.and_assoc]
  rfl

/-! ## The answers -/

section
variable {s : State} (pid : fld s.cp15.fcsePid 25 7 = 0#7) (older : s.remapOld = []) {p : Purpose} (user : Bool) (v : Word)
include pid older

/-- With the MMU off the answer is the address itself, Strongly Ordered (20_memory.md R52). -/
theorem vaToPa_off (off : s.ctlM = false) (remap : s.ctlTexRemap = false) (data : p ≠ .fetch) :
    vaToPa p user v s = .ok () (s.setPa ((v &&& 0xFFFFF000) ||| 0x100)) := by
  have uncached : (p == .fetch && s.ctlI) = false := by simp [data]
  have mask : (0xFFFFFC00 : Word) &&& 0xFFFFF000 = 0xFFFFF000 := rfl
  have fields : paAttributes flatMemory = 0x100 := rfl
  have page : paSuccess ⟨clearLow v 10, flatMemory, none⟩ = (v &&& 0xFFFFF000) ||| 0x100 := by
    rw [paSuccess_eq, clearLow_ten, BitVec.and_assoc, mask, fields]
  simp only [vaToPa, fcse_zero pid, translate_flat off remap older uncached (.inl rfl), page]

section
variable (on : s.ctlM = true) (miss : tlbLookup s.ctlXp s (clearLow v 10) = []) (n : fld s.cp15.ttbcr 0 3 = 0#3)
  (o : s.ordinary (descriptorAddress s (clearLow v 10)) 4) {l1 : Word}
  (d : s.walkWord (descriptorAddress s (clearLow v 10)) = l1)
include on miss n o d

/-- A translation fault is answered too, with an open SD bit (43_cp15_c7_cache_ops.md R224). -/
theorem vaToPa_fault (neither : fld l1 0 2 = 0#2 ∨ fld l1 0 2 = 3#2) :
    ∃ x c, vaToPa p user v s = .ok () (({ s with freeCtr := c } : State).setPa x) ∧ x &&& 0xFFFFFFBF = 0b001011 := by
  have faults := translate_of_walk_fault (p := p) (user := user) on older miss (walk_fault n o d neither)
  refine ⟨paFailure ⟨0b00101, none, none⟩ s.drawBool.1, s.freeCtr + 1, ?_, ?_⟩
  · simp only [vaToPa, fcse_zero pid, faults]
    rfl
  · cases s.drawBool.1 <;> rfl

/-- An open section is answered with its page and the attributes of its descriptor (43_cp15_c7_cache_ops.md R223, R224). -/
theorem vaToPa_section (remap : s.ctlTexRemap = false) (forceAp : s.ctlXp = false ∨ s.ctlForceAp = false) (data : p ≠ .fetch)
    (kind : fld l1 0 2 = 2#2) (plain : bitAt l1 18 = false) (tex : fld l1 12 3 = 0#3)
    (access : domainAccess s (fld l1 5 4) = 3#2 ∨
      (domainAccess s (fld l1 5 4) = 1#2 ∧ fld l1 10 2 = 3#2 ∧ bitAt l1 15 = false)) :
    ∃ l k, vaToPa p user v s = .ok () (({ s with tlb := l, lockSlots := k } : State).setPa
      ((l1 &&& 0xFFF00000) ||| (v &&& 0x000FF000) ||| paKind (bitAt l1 3) (bitAt l1 2) (s.ctlXp && bitAt l1 16))) := by
  let e := sectionEntry s.tlbControls s (clearLow v 10) l1
  have h : s.Translating := ⟨on, older, remap, forceAp⟩
  obtain ⟨dom, -, pa⟩ := sectionEntry_plain (k := s.tlbControls) (s := s) (mva := clearLow v 10) plain
  obtain ⟨a, attr, fields⟩ := plainAttr_zero (bitAt l1 3) (bitAt l1 2) (s.ctlXp && bitAt l1 16)
  have shared : (s.ctlXp && e.s) = (s.ctlXp && bitAt l1 16) := by simp [e, sectionEntry, State.tlbControls]
  have found : entryAttr s.tlbControls e = .ok a := by
    rw [entryAttr_plain remap tex, shared]
    exact attr
  have granted : entryResult s p user (clearLow v 10) e = .ok ⟨entryPa e (clearLow v 10), a, some e.domain⟩ := by
    refine entryResult_open data found ?_
    rw [dom, entryAp_section]
    exact access.imp_right fun ⟨client, ap, apx⟩ => ⟨client, ap, by simp [e, sectionEntry, apx]⟩
  have page : paSuccess ⟨entryPa e (clearLow v 10), a, some e.domain⟩ =
      (l1 &&& 0xFFF00000) ||| (v &&& 0x000FF000) ||| paKind (bitAt l1 3) (bitAt l1 2) (s.ctlXp && bitAt l1 16) := by
    rw [paSuccess_eq, fields, pa, clearLow_ten, sectionPage]
  have result := translate_of_walk_fill (p := p) (user := user) h miss (walk_section n o d kind)
  obtain ⟨l, k, filled⟩ := tlbFill_eq e s
  rw [granted, filled] at result
  refine ⟨l, k, ?_⟩
  simp only [vaToPa, fcse_zero pid, result, page]

end

end

/-- Each of the four rows is a translation for a load or a store. -/
theorem exec_vaToPa {cc : Cond} {rd : RegNum} {i : Instr} (hi : i ∈ [Instr.mcrVaToPaPrivRead cc rd, Instr.mcrVaToPaPrivWrite cc rd,
    Instr.mcrVaToPaUserRead cc rd, Instr.mcrVaToPaUserWrite cc rd]) (s : State) : ∃ p user, p ≠ Purpose.fetch ∧
      exec i s = cp15Run cc rd s fun s => (vaToPa p user (s.reg rd) s).bind fun _ s => .ok () s.advance := by
  simp only [List.mem_cons, List.not_mem_nil, or_false] at hi
  rcases hi with rfl | rfl | rfl | rfl
  · exact ⟨.read, false, by decide, rfl⟩
  · exact ⟨.write, false, by decide, rfl⟩
  · exact ⟨.read, true, by decide, rfl⟩
  · exact ⟨.write, true, by decide, rfl⟩

/-- Settles O47: the four rows are one operation (`exec_vaToPa`), and its answers are those of a flat map (`vaToPa_off`), of a walk
that faults (`vaToPa_fault`) and of an open section (`vaToPa_section`). -/
theorem vaToPaTranslation : Obligations.VaToPaTranslation := by
  intro s cc rd pass priv hrd pid older v i hi
  obtain ⟨p, user, data, row⟩ := exec_vaToPa hi s
  have next {t : State} (run : vaToPa p user v s = .ok () t) : exec i s = .next t.advance :=
    exec_cp15Run (m := fun s => vaToPa p user (s.reg rd) s) pass priv hrd row run
  rw [← clearLow_ten]
  refine ⟨?_, ?_, ?_⟩
  · intro off remap
    rw [next (vaToPa_off pid older user v off remap data), State.advance_eq]
    rfl
  · intro on miss n d o neither
    have address : descriptorAddress s (clearLow v 10) = d := descriptorAddress_clearLow s v
    obtain ⟨x, c, run, defined⟩ := vaToPa_fault pid older user v on miss n (address ▸ o) (congrArg s.walkWord address) neither
    refine ⟨_, next run, ?_, ?_⟩
    · simpa using defined
    · rw [State.advance_eq]
      rfl
  · intro on miss n remap forceAp d o l1 access kind plain tex granted shared pa
    have address : descriptorAddress s (clearLow v 10) = d := descriptorAddress_clearLow s v
    obtain ⟨l, k, run⟩ := vaToPa_section pid older user v on miss n (address ▸ o) (congrArg s.walkWord address) remap forceAp data kind
      plain tex granted
    have same : pa = paKind (bitAt l1 3) (bitAt l1 2) (s.ctlXp && bitAt l1 16) := by
      unfold pa
      cases bitAt l1 3 <;> cases bitAt l1 2 <;> rfl
    refine ⟨_, next run, ?_⟩
    rw [same, State.advance_eq]
    rfl

end Sys2Proof.Machine
end

section
/-! The operations on the TLB (O48). -/
namespace Sys2Proof.Machine

/-! ## Entries dropped -/

/-- What leaves the set-associative part and the lockdown entries, what a fetch may still see of it, and the PC moved on
(44_cp15_c8_c10_tlb.md R230). -/
theorem advance_dropTlb (locked : Bool) (q : TlbEntry → Bool) (s : State) : (dropTlb locked q s).advance = { s with
    tlb := s.tlb.filter fun e => !q e
    lockSlots := (dropTlb locked q s).lockSlots
    fetchOld := s.fetchView :: s.fetchOld
    pc := s.past } := by
  rw [State.advance_eq]
  rfl

theorem lockSlots_dropTlb (locked : Bool) (q : TlbEntry → Bool) (s : State) {k : Nat} (hk : k < 8) :
    (dropTlb locked q s).lockSlots[k] =
      if s.lockSlots[k].translation.any q && (locked || !s.lockSlots[k].locked) then LockSlot.empty else s.lockSlots[k] :=
  Vector.getElem_map ..

theorem LockSlot.translation_empty : LockSlot.empty.translation = none := rfl

/-! ## Operations by address and by ASID -/

/-- The operations by address and by ASID leave the TLB of `s` without the entries of which `p` holds, locked ones too, and
everything else as it was, but that a fetch may still use them (44_cp15_c8_c10_tlb.md R230, R232 to R234). -/
def TlbWithout (s t : State) (p : TlbEntry → Prop) : Prop :=
  (∀ e, e ∈ t.tlb ↔ e ∈ s.tlb ∧ ¬ p e) ∧
    (∀ k (_ : k < 8), (∀ e, s.lockSlots[k].translation = some e → p e → t.lockSlots[k].translation = none) ∧
      ((∀ e, s.lockSlots[k].translation = some e → ¬ p e) → t.lockSlots[k] = s.lockSlots[k])) ∧
    t = { s with tlb := t.tlb, lockSlots := t.lockSlots, fetchOld := s.fetchView :: s.fetchOld, pc := s.past }

theorem tlbWithout_dropTlb {q : TlbEntry → Bool} {p : TlbEntry → Prop} (same : ∀ e, q e = true ↔ p e) (s : State) :
    TlbWithout s (dropTlb true q s).advance p := by
  rw [advance_dropTlb]
  refine ⟨fun e => ?_, fun k hk => ⟨fun e holds named => ?_, fun unnamed => ?_⟩, rfl⟩
  · simp [← same]
  · have named : s.lockSlots[k].translation.any q = true := by simpa [holds] using (same e).2 named
    simp only [lockSlots_dropTlb true q s hk, named, Bool.true_or, Bool.and_true, if_true, LockSlot.translation_empty]
  · have unnamed : s.lockSlots[k].translation.any q = false :=
      (Option.any_eq_false_iff_get ..).2 fun h => by simpa [← same] using unnamed _ (Option.some_get h).symm
    simp only [lockSlots_dropTlb true q s hk, unnamed, Bool.false_and, Bool.false_eq_true, if_false]

theorem tlbCovers_iff (v : Word) (e : TlbEntry) :
    tlbCovers v e = true ↔ (v &&& 0xFFFFFC00) >>> e.log2Size = e.mvaBase >>> e.log2Size := by
  rw [tlbCovers, clearLow_ten, beq_iff_eq]

/-! ## Invalidate TLB -/

theorem tlb_invalidateTlb (s : State) : (invalidateTlb s).tlb = [] := List.filter_eq_nil_iff.2 fun _ _ => by simp

/-- A locked lockdown entry stays as it is; of the others none translates any more (44_cp15_c8_c10_tlb.md R231, R236). -/
theorem lockSlots_invalidateTlb (s : State) {k : Nat} (hk : k < 8) :
    (s.lockSlots[k].locked = true → (invalidateTlb s).lockSlots[k] = s.lockSlots[k]) ∧
      (s.lockSlots[k].locked = false → (invalidateTlb s).lockSlots[k].translation = none) := by
  have slot : (invalidateTlb s).lockSlots[k] = _ := lockSlots_dropTlb false (fun _ => true) s hk
  rw [slot]
  refine ⟨fun locked => by simp [locked], fun unlocked => ?_⟩
  cases holds : s.lockSlots[k].translation with
  | none => simpa using holds
  | some e => simp [unlocked, LockSlot.translation_empty]

/-- An older setting is gone once the TLB has been invalidated and the prefetch buffer flushed: an invalidation ends those that the
prefetch buffer has been flushed for (44_cp15_c8_c10_tlb.md R239). -/
theorem remapOld_invalidateTlb (s : State) : (invalidateTlb s).remapOld =
    (s.remapOld.filter fun o => !o.flushed).map fun o => { o with invalidated := true } := by
  rw [invalidateTlb, State.noteOlder_remapOld, List.filter_map]
  rfl

theorem advance_invalidateTlb (s : State) : (invalidateTlb s).advance = { s with
    tlb := []
    lockSlots := (invalidateTlb s).lockSlots
    fetchOld := s.fetchView :: s.fetchOld
    remapOld := (invalidateTlb s).remapOld
    pc := s.past } := by
  rw [State.advance_eq, ← tlb_invalidateTlb s]
  rfl

/-! ## The rows -/

section
variable {s : State} {cc : Cond} {rd : RegNum} (pass : s.passes cc = true) (priv : s.privileged = true) (hrd : rd ≠ 15)
include pass priv hrd

/-- The forms of an operation all do what the operation does (44_cp15_c8_c10_tlb.md R230). -/
theorem gives_cp15Writes {f : Word → State → State} {P : State → Prop} {l : List Instr}
    (rows : l.Forall fun i => exec i s = cp15Write cc rd s f) (done : P (f (s.reg rd) s).advance) : ∀ i ∈ l, Gives i s P :=
  fun i hi => ⟨_, exec_cp15Write pass priv hrd (List.forall_iff_forall_mem.1 rows i hi), done⟩

/-- The forms of an operation that drops the entries of which `p` holds. -/
theorem gives_tlbWithout {q : Word → TlbEntry → Bool} {p : TlbEntry → Prop} {l : List Instr}
    (rows : l.Forall fun i => exec i s = cp15Write cc rd s fun v s => dropTlb true (q v) s)
    (same : ∀ e, q (s.reg rd) e = true ↔ p e) : ∀ i ∈ l, Gives i s fun t => TlbWithout s t p :=
  gives_cp15Writes pass priv hrd rows (tlbWithout_dropTlb same s)

end

/-- Settles O48: the three forms of an operation are one write behind the guard (`gives_cp15Writes`). Invalidate TLB is described
by what it leaves of each part (`tlb_invalidateTlb`, `lockSlots_invalidateTlb`, `remapOld_invalidateTlb`); the others drop what
they name (`gives_tlbWithout`), and what is left is that the model's test of an entry says what the statement does. -/
theorem tlbOperations : Obligations.TlbOperations := by
  intro s cc rd pass priv hrd v covers asid noted removes
  refine ⟨?_, ?_, ?_, ?_⟩
  · refine gives_cp15Writes pass priv hrd (f := fun _ s => invalidateTlb s) ⟨rfl, rfl, rfl⟩ ?_
    rw [advance_invalidateTlb]
    exact ⟨rfl, fun k hk => lockSlots_invalidateTlb s hk, remapOld_invalidateTlb s, rfl⟩
  · refine gives_tlbWithout pass priv hrd (q := fun v e => tlbCovers v e && (e.globalMap || e.asid == fld v 0 8))
      ⟨rfl, rfl, rfl⟩ fun e => ?_
    rw [Bool.and_eq_true, Bool.or_eq_true, tlbCovers_iff, beq_iff_eq]
  · refine gives_tlbWithout pass priv hrd (q := fun v e => !e.globalMap && e.asid == fld v 0 8) ⟨rfl, rfl, rfl⟩ fun e => ?_
    rw [Bool.and_eq_true, Bool.not_eq_true', beq_iff_eq]
  · exact gives_tlbWithout pass priv hrd (q := tlbCovers) ⟨rfl, rfl, rfl⟩ (tlbCovers_iff v)

end Sys2Proof.Machine
end

section
/-! The Thread ID registers (O42). -/
namespace Sys2Proof.Machine

section
variable {s : State} {cond : Cond} {rd : RegNum} {i : Instr}

/-- A read that every mode may make moves its value to Rd and does nothing else (30_encoding.md R114). -/
theorem gives_userRead {v : State → Word} (pass : s.passes cond = true) (hrd : rd ≠ 15)
    (e : exec i s = cp15RunUser cond rd s fun s => .ok () (s.setReg rd (v s)).advance) :
    Gives i s fun t => WroteReg s t rd (v s) :=
  ⟨_, exec_cp15RunUser (f := fun s => s.setReg rd (v s)) pass hrd e, wroteReg_setReg_advance s hrd (v s)⟩

/-- A write that every mode may make of CP15 registers. -/
theorem exec_userWrite {c : State → Cp15} (pass : s.passes cond = true) (hrd : rd ≠ 15)
    (e : exec i s = cp15RunUser cond rd s fun s => .ok () (s.setCp15 (c s)).advance) :
    exec i s = .next { s with cp15 := c s, pc := s.past } := by
  rw [exec_cp15RunUser (f := fun s => s.setCp15 (c s)) pass hrd e, State.advance_setCp15]

/-- A write that privileged modes may make of CP15 registers. -/
theorem exec_privilegedWrite {c : Word → State → Cp15} (pass : s.passes cond = true) (priv : s.privileged = true)
    (hrd : rd ≠ 15) (e : exec i s = cp15Write cond rd s fun v s => s.setCp15 (c v s)) :
    exec i s = .next { s with cp15 := c (s.reg rd) s, pc := s.past } := by
  rw [exec_cp15Write pass priv hrd e, State.advance_setCp15]

/-- A privileged access of CP15 in User mode (30_encoding.md R114). -/
theorem Cp15Privileged.gives_undefined (h : Cp15Privileged cond rd s (exec i s)) (pass : s.passes cond = true)
    (running : s.halted = false) (noJazelle : s.jBit = false) (user : s.mode = modeUser) : Gives i s (EnteredUndefined s) :=
  Machine.gives_undefined (h.undefined pass (unprivileged_of_user running user)) running noJazelle

end

/-- Settles O42: the words are the encodings of the rows (`decode_of_encode_eq`); each row is a read or a write, those of user
accesses behind the guard of every mode and the others behind that of the privileged modes, which User mode does not pass
(`Cp15Privileged.gives_undefined`). -/
theorem threadIdRegisters : Obligations.ThreadIdRegisters := by
  refine ⟨?_, ?_, ?_, ?_, ?_, ?_, rfl, rfl, rfl, fun s cc rd pass hrd => ?_⟩
  iterate 6 exact decode_of_encode_eq (by decide) (by decide)
  refine ⟨?_, ?_, ?_, fun priv => ⟨?_, ?_, ?_⟩, fun running noJazelle user => ⟨?_, ?_, ?_⟩⟩
  · exact gives_userRead (v := fun s => s.cp15.threadUrw) pass hrd rfl
  · exact exec_userWrite (c := fun s => { s.cp15 with threadUrw := s.reg rd }) pass hrd rfl
  · exact gives_userRead (v := fun s => s.cp15.threadUro) pass hrd rfl
  · exact exec_privilegedWrite (c := fun v s => { s.cp15 with threadUro := v }) pass priv hrd rfl
  · exact gives_cp15Read (v := fun s => s.cp15.threadPrw) pass priv hrd rfl
  · exact exec_privilegedWrite (c := fun v s => { s.cp15 with threadPrw := v }) pass priv hrd rfl
  all_goals refine Cp15Privileged.gives_undefined (rd := rd) ?_ pass running noJazelle user
  all_goals dsimp only [exec]
  · exact .write ..
  · exact .read ..
  · exact .write ..

end Sys2Proof.Machine
end

section
/-! The performance monitor (O50). -/
namespace Sys2Proof.Machine

/-! ## What an access of the monitor may change -/

/-- The state with other values in the registers of the monitor, after some free values have been drawn. -/
def State.monitored (s : State) (n : Nat) (ccnt pmn0 pmn1 pmnc : Word) : State :=
  { s with freeCtr := n, cp15 := { s.cp15 with ccnt := ccnt, pmn0 := pmn0, pmn1 := pmn1, pmnc := pmnc } }

/-- Nothing else has changed. -/
def MonitorOnly (s t : State) : Prop := ∃ n ccnt pmn0 pmn1 pmnc, t = s.monitored n ccnt pmn0 pmn1 pmnc

theorem MonitorOnly.refl (s : State) : MonitorOnly s s := ⟨_, _, _, _, _, rfl⟩

theorem MonitorOnly.drawWord {s t : State} (h : MonitorOnly s t) : MonitorOnly s t.drawWord.2 := by
  obtain ⟨n, ccnt, pmn0, pmn1, pmnc, rfl⟩ := h
  exact ⟨_, _, _, _, _, rfl⟩

theorem MonitorOnly.setCounters {s t : State} (h : MonitorOnly s t) (ccnt pmn0 pmn1 pmnc : Word) :
    MonitorOnly s (t.setCp15 { t.cp15 with ccnt := ccnt, pmn0 := pmn0, pmn1 := pmn1, pmnc := pmnc }) := by
  obtain ⟨n, c, x, y, p, rfl⟩ := h
  exact ⟨_, _, _, _, _, rfl⟩

/-- The frame of a transfer: besides the monitor the general registers and the PC may have changed. -/
def MonitorAccessed (s t : State) : Prop :=
  t = { s with
    regs := t.regs
    pc := s.past
    freeCtr := t.freeCtr
    cp15 := { s.cp15 with ccnt := t.cp15.ccnt, pmn0 := t.cp15.pmn0, pmn1 := t.cp15.pmn1, pmnc := t.cp15.pmnc } }

theorem MonitorOnly.accessed {s t : State} (h : MonitorOnly s t) : MonitorAccessed s t.advance := by
  obtain ⟨n, ccnt, pmn0, pmn1, pmnc, rfl⟩ := h
  rw [State.advance_eq]
  rfl

theorem MonitorOnly.accessed_setReg {s t : State} (h : MonitorOnly s t) (rd : RegNum) (v : Word) :
    MonitorAccessed s (t.setReg rd v).advance := by
  obtain ⟨n, ccnt, pmn0, pmn1, pmnc, rfl⟩ := h
  rw [State.advance_eq, State.setReg_eq]
  rfl

theorem MonitorOnly.regsBut_setReg {s t : State} (h : MonitorOnly s t) (rd : RegNum) (v : Word) :
    RegsBut s (t.setReg rd v).advance [rd] := by
  obtain ⟨n, ccnt, pmn0, pmn1, pmnc, rfl⟩ := h
  exact (((regsBut_nil s).of_regs (u := s.monitored n ccnt pmn0 pmn1 pmnc) rfl).setReg rfl rd v).of_regs (State.advance_regs _)

theorem MonitorOnly.regs_advance {s t : State} (h : MonitorOnly s t) : t.advance.regs = s.regs := by
  obtain ⟨n, ccnt, pmn0, pmn1, pmnc, rfl⟩ := h
  exact State.advance_regs _

/-! ## The counters -/

/-- Counters that are disabled stand still (45_cp15_c13_c15.md R255). -/
theorem pmuAdvance_off {s : State} (off : bitAt s.cp15.pmnc 0 = false) : pmuAdvance s = s := by simp [pmuAdvance, off]

theorem monitorOnly_pmuAdvance (s : State) : MonitorOnly s (pmuAdvance s) := by
  unfold pmuAdvance
  split
  · exact (MonitorOnly.refl s).drawWord.drawWord.drawWord.drawWord.setCounters ..
  · exact .refl s

/-- An open value under a mask leaves the bits outside the mask. -/
theorem or_free_and_of_apart (x free : Word) {m k : Word} (apart : m &&& k = 0) : (x ||| free &&& m) &&& k = x &&& k := by
  rw [BitVec.and_or_distrib_right, BitVec.and_assoc, apart]
  simp

/-! ## Reads and writes -/

section
variable {s : State} {cond : Cond} {rd : RegNum} {i : Instr} (pass : s.passes cond = true) (priv : s.privileged = true)
  (hrd : rd ≠ 15)
include pass priv hrd

/-- A read of the monitor: what is moved to Rd, and what the counters do, is known while they are disabled. -/
theorem gives_monitorRead {v : State → Word × State} {x : Word → Prop} (e : exec i s = cp15ReadWith cond rd s v)
    (only : MonitorOnly s (v s).2) (value : bitAt s.cp15.pmnc 0 = false → x (v s).1 ∧ (v s).2.cp15 = s.cp15) :
    Gives i s fun t => MonitorAccessed s t ∧ RegsBut s t [rd] ∧
      (bitAt s.cp15.pmnc 0 = false → x (t.bankReg s.bank rd) ∧ t.cp15 = s.cp15) := by
  obtain ⟨t, next, rfl⟩ := gives_cp15ReadWith pass priv hrd e
  refine ⟨_, next, only.accessed_setReg _ _, only.regsBut_setReg _ _, fun off => ?_⟩
  have bank : (v s).2.bank = s.bank := by
    obtain ⟨n, ccnt, pmn0, pmn1, pmnc, only⟩ := only
    rw [only]
    rfl
  rw [bankReg_advance, bankReg_setReg hrd _ bank, State.advance_cp15, State.setReg_cp15]
  exact value off

/-- A read of a register of the monitor as the counters have left it. -/
theorem gives_counterRead {r : Cp15 → Word}
    (e : exec i s = cp15ReadWith cond rd s fun s => (r (pmuAdvance s).cp15, pmuAdvance s)) :
    Gives i s fun t => MonitorAccessed s t ∧ RegsBut s t [rd] ∧
      (bitAt s.cp15.pmnc 0 = false → t.bankReg s.bank rd = r s.cp15 ∧ t.cp15 = s.cp15) :=
  gives_monitorRead (x := (· = r s.cp15)) pass priv hrd e (monitorOnly_pmuAdvance s) fun off => by
    rw [pmuAdvance_off off]
    exact ⟨rfl, rfl⟩

/-- A write of the monitor, from what it makes of the registers as the counters have left them. -/
theorem gives_monitorWrite {w : Word → Cp15 → Cp15}
    (e : exec i s = cp15Write cond rd s fun v s => (pmuAdvance s).setCp15 (w v (pmuAdvance s).cp15))
    (counters : ∀ v c, w v c =
      { c with ccnt := (w v c).ccnt, pmn0 := (w v c).pmn0, pmn1 := (w v c).pmn1, pmnc := (w v c).pmnc }) :
    Gives i s fun t => MonitorAccessed s t ∧ t.regs = s.regs ∧
      (bitAt s.cp15.pmnc 0 = false → t.cp15 = w (s.reg rd) s.cp15) := by
  have only : MonitorOnly s ((pmuAdvance s).setCp15 (w (s.reg rd) (pmuAdvance s).cp15)) := by
    rw [counters]
    exact (monitorOnly_pmuAdvance s).setCounters ..
  refine ⟨_, exec_cp15Write pass priv hrd e, only.accessed, only.regs_advance, fun off => ?_⟩
  rw [State.advance_cp15, pmuAdvance_off off]
  rfl

end

/-- Settles O50, by the shape of the rows: each lets the counters advance (`monitorOnly_pmuAdvance`), which they do not while they
are disabled (`pmuAdvance_off`), and then reads or writes one register of the monitor. The PMNC read draws its two open bits. -/
theorem performanceMonitor : Obligations.PerformanceMonitor := by
  intro s cc rd pass priv hrd v c off only reads writes
  refine ⟨?_, ?_, ?_, ?_, ?_, ?_, ?_, ?_⟩
  · refine gives_monitorRead (i := .mrcPmnc cc rd) (v := pmncRead) (x := fun x => x &&& 0xFFFFFFF9 = c.pmnc &&& 0xFFFFFFF9)
      pass priv hrd rfl (monitorOnly_pmuAdvance s).drawWord fun h => ?_
    rw [pmncRead, pmuAdvance_off h]
    exact ⟨or_free_and_of_apart _ _ rfl, rfl⟩
  · exact gives_counterRead (i := .mrcCcnt cc rd) (r := (·.ccnt)) pass priv hrd rfl
  · exact gives_counterRead (i := .mrcPmn0 cc rd) (r := (·.pmn0)) pass priv hrd rfl
  · exact gives_counterRead (i := .mrcPmn1 cc rd) (r := (·.pmn1)) pass priv hrd rfl
  · exact gives_monitorWrite (w := fun v c => { c with ccnt := v }) pass priv hrd rfl fun _ _ => rfl
  · exact gives_monitorWrite (w := fun v c => { c with pmn0 := v }) pass priv hrd rfl fun _ _ => rfl
  · exact gives_monitorWrite (w := fun v c => { c with pmn1 := v }) pass priv hrd rfl fun _ _ => rfl
  · exact gives_monitorWrite (w := fun v c => { c with
      pmnc := (v &&& 0x0FFFF079) ||| (c.pmnc &&& 0x00000700 &&& ~~~ v)
      ccnt := if bitAt v 2 then 0 else c.ccnt
      pmn0 := if bitAt v 1 then 0 else c.pmn0
      pmn1 := if bitAt v 1 then 0 else c.pmn1 }) pass priv hrd rfl fun _ _ => rfl

end Sys2Proof.Machine
end

section
/-! The TLB lockdown entries (O49). -/
namespace Sys2Proof.Machine

/-! ## Masked operands -/

theorem fld_and (v m : Word) (k n : Nat) : fld (v &&& m) k n = fld v k n &&& fld m k n := BitVec.extractLsb'_and

/-- A field within the bits that a register keeps. -/
theorem fld_and_of_kept (v : Word) {m : Word} {k n : Nat} (kept : fld m k n = BitVec.allOnes n) :
    fld (v &&& m) k n = fld v k n := by
  rw [fld_and, kept, BitVec.and_allOnes]

theorem bitAt_and_of_kept (v : Word) {m : Word} {k : Nat} (kept : bitAt m k = true) : bitAt (v &&& m) k = bitAt v k := by
  rw [bitAt_eq_getLsbD] at kept ⊢
  rw [bitAt_eq_getLsbD, BitVec.getLsbD_and, kept, Bool.and_true]

theorem clearLow_and_of_kept (v : Word) {m : Word} {n : Nat} (kept : ∀ i < 32, n ≤ i → m.getLsbD i = true) :
    clearLow (v &&& m) n = clearLow v n := by
  refine BitVec.eq_of_getLsbD_eq fun i hi => ?_
  rw [getLsbD_clearLow _ n hi, getLsbD_clearLow _ n hi, BitVec.getLsbD_and]
  by_cases high : n ≤ i
  · rw [kept i hi high, Bool.and_true]
  · simp [high]

theorem twelve_le_codeSize (sz : BitVec 2) : 12 ≤ codeSize sz := by
  revert sz
  decide

/-- An entry from the operands of the three writes: the bits that the registers do not keep are none of its fields
(45_cp15_c13_c15.md R264 to R266). -/
theorem lockEntry_kept (va pa attr : Word) (sBit rBit : Bool) :
    lockEntry (va &&& 0xFFFFF3FF) (pa &&& 0xFFFFF0CF) (attr &&& 0xFE0007FF) sBit rBit = lockEntry va pa attr sBit rBit := by
  have upper (v : Word) {m : Word} (kept : ∀ i < 32, 12 ≤ i → m.getLsbD i = true) (sz : BitVec 2) :
      clearLow (v &&& m) (codeSize sz) = clearLow v (codeSize sz) :=
    clearLow_and_of_kept v fun i hi high => kept i hi ((twelve_le_codeSize sz).trans high)
  have field (v : Word) {m : Word} {k n : Nat} := fld_and_of_kept v (m := m) (k := k) (n := n)
  have bit (v : Word) {m : Word} {k : Nat} := bitAt_and_of_kept v (m := m) (k := k)
  simp only [lockEntry, TlbEntry.mk.injEq]
  rw [field pa (k := 6) rfl]
  exact ⟨upper va (by decide) _, rfl, bit va rfl, field va rfl, upper pa (by decide) _, bit pa rfl, field pa rfl, bit attr rfl,
    field attr rfl, field attr rfl, field attr rfl, field attr rfl, bit attr rfl, field attr rfl, bit attr rfl, bit attr rfl,
    bit attr rfl, trivial, trivial⟩

/-! ## The images of an entry -/

section
variable {k : LockSlot} {e : TlbEntry} (held : k.entry = some e)
include held

theorem slotVa_of_entry (free : Word) :
    slotVa k free = (e.mvaBase &&& 0xFFFFF000) ||| (if e.globalMap then 0x200 else put e.asid 0) := by simp only [slotVa, held]

theorem slotAttr_of_entry (free : Word) :
    slotAttr k free = put e.ap3 30 ||| put e.ap2 28 ||| put e.ap1 26 ||| flag e.spv 25 ||| put e.domain 7 ||| flag e.xn 6 |||
      put e.tex 3 ||| flag e.c 2 ||| flag e.b 1 ||| flag e.s 0 := by simp only [slotAttr, held]

/-- The low bits of the PA image: V, AP0 and APX. -/
theorem slotPa_of_entry (free : Word) :
    bitAt (slotPa k free) 0 = k.locked ∧ bitAt (slotPa k free) 3 = e.apx ∧ fld (slotPa k free) 1 2 = e.ap0 := by
  have base (v : Word) {j n : Nat} (low : fld (0xFFFFF000 : Word) j n = 0#n) : fld (v &&& 0xFFFFF000) j n = 0#n := by
    rw [fld_and, low, BitVec.and_zero]
  simp only [slotPa, held, bitAt_fld, fld_or, flag]
  refine ⟨?_, ?_, ?_⟩
  · rw [base _ rfl, fld_and _ _ 0 1, base _ rfl, fld_put_out _ (by omega), fld_put_out _ (by omega), fld_put_out _ (by omega),
      fld_put_in _ (by omega) (by omega) (by omega)]
    simp
  · rw [base _ rfl, fld_and _ _ 3 1, base _ rfl, fld_put_out _ (by omega), fld_put_in _ (by omega) (by omega) (by omega),
      fld_put_out _ (by omega), fld_put_out _ (by omega)]
    simp
  · rw [base _ rfl, fld_and _ _ 1 2, base _ rfl, fld_put_out _ (by omega), fld_put_out _ (by omega),
      fld_put_in _ (by omega) (by omega) (by omega), fld_put_out _ (by omega)]
    simp

end

/-! ## Transfers of a sequence -/

theorem passes_always (s : State) : s.passes 14 = true := rfl

/-- A general register does not depend on what else an instruction has changed. -/
theorem reg_congr {s t : State} (regs : t.regs = s.regs) (bank : t.bank = s.bank) {r : RegNum} (hr : r ≠ 15) :
    t.reg r = s.reg r := by
  simp only [State.reg, if_neg hr, State.bankReg, regs, bank]

/-- Past the guard of the privileged accesses a transfer gives the result of its meaning. -/
theorem exec_lockTransfer {s : State} {rd : RegNum} {i : Instr} {m : State → Res Unit} (priv : s.privileged = true)
    (hrd : rd ≠ 15) (e : exec i s = cp15Run 14 rd s m) : exec i s = finish (m s) :=
  e.trans (cp15Run_privileged (passes_always s) priv hrd m)

/-- A write of a sequence, whose operand is what the register held before the sequence. -/
theorem exec_lockWrite {start s t : State} {rd : RegNum} {i : Instr} {f : Word → State → Res Unit} (priv : s.privileged = true)
    (hrd : rd ≠ 15) (regs : s.regs = start.regs) (bank : s.bank = start.bank)
    (e : exec i s = cp15Run 14 rd s fun s => f (s.reg rd) s) (run : f (start.reg rd) s = .ok () t) : exec i s = .next t := by
  rw [exec_lockTransfer priv hrd e, reg_congr regs bank hrd, run]
  rfl

/-- A transfer that is out of its place (45_cp15_c13_c15.md R268). -/
theorem exec_lockTransfer_refused {s : State} {rd : RegNum} {i : Instr} {m : State → Res Unit} (priv : s.privileged = true)
    (hrd : rd ≠ 15) (e : exec i s = cp15Run 14 rd s m) (run : m s = .refused .lockdownOrder) :
    exec i s = .refused .lockdownOrder := by
  rw [exec_lockTransfer priv hrd e, run]
  rfl

/-! ## A write sequence -/

theorem lockWriteVa_writing {s : State} {k : BitVec 3} {va attr : Bool} (v : Word) (access : s.lockAccess = .writing k va attr) :
    lockWriteVa v s = .ok () { s with
      cp15 := { s.cp15 with tlbLockVa := v &&& 0xFFFFF3FF }, lockAccess := .writing k true attr, pc := s.past } := by
  simp only [lockWriteVa, access, State.advance_eq]
  rfl

theorem lockWriteAttr_writing {s : State} {k : BitVec 3} {va attr : Bool} (v : Word) (access : s.lockAccess = .writing k va attr) :
    lockWriteAttr v s = .ok () { s with
      cp15 := { s.cp15 with tlbLockAttr := v &&& 0xFE0007FF }, lockAccess := .writing k va true, pc := s.past } := by
  simp only [lockWriteAttr, access, State.advance_eq]
  rfl

/-- The last write commits the entry that the three registers describe (45_cp15_c13_c15.md R263, R265). -/
theorem lockWritePa_writing {s : State} {k : BitVec 3} {va attr : Word} (v : Word) (access : s.lockAccess = .writing k true true)
    (hva : s.cp15.tlbLockVa = va &&& 0xFFFFF3FF) (hattr : s.cp15.tlbLockAttr = attr &&& 0xFE0007FF) :
    lockWritePa v s = .ok () { s with
      cp15 := { s.cp15 with tlbLockPa := v &&& 0xFFFFF0CF }
      lockAccess := .none
      lockSlots := s.lockSlots.set k.toNat
        { entry := some (lockEntry va v attr s.ctlS s.ctlR), locked := bitAt v 0, valid := bitAt v 0 } k.isLt
      fetchOld := s.fetchView :: s.fetchOld
      pc := s.past } := by
  have entry : lockEntry s.cp15.tlbLockVa (v &&& 0xFFFFF0CF) s.cp15.tlbLockAttr s.ctlS s.ctlR =
      lockEntry va v attr s.ctlS s.ctlR := by
    rw [hva, hattr, lockEntry_kept]
  simp only [lockWritePa, access, State.advance_eq, entry]
  rfl

theorem exec_selectLockWrite {s : State} {rd : RegNum} (priv : s.privileged = true) (hrd : rd ≠ 15) :
    exec (.mcrTlbLockIndexWrite 14 rd) s = .next { s with
      cp15 := { s.cp15 with tlbLockIndexWrite := put (fld (s.reg rd) 0 3) 0 }
      lockAccess := .writing (fld (s.reg rd) 0 3) false false
      pc := s.past } := by
  rw [exec_cp15Write (f := selectLockWrite) (passes_always s) priv hrd rfl, State.advance_eq]
  rfl

/-- The four transfers of a write sequence. -/
theorem gives_lockWrites {s : State} {ri rv ra rp : RegNum} (priv : s.privileged = true) (hi : ri ≠ 15) (hv : rv ≠ 15)
    (ha : ra ≠ 15) (hp : rp ≠ 15) :
    let k : BitVec 3 := fld (s.reg ri) 0 3
    Gives (.mcrTlbLockIndexWrite 14 ri) s fun s1 => Gives (.mcrTlbLockVa 14 rv) s1 fun s2 =>
      Gives (.mcrTlbLockAttr 14 ra) s2 fun s3 => Gives (.mcrTlbLockPa 14 rp) s3 fun t =>
        t.lockSlots[k.toNat]'k.isLt =
          { entry := some (lockEntry (s.reg rv) (s.reg rp) (s.reg ra) s.ctlS s.ctlR)
            locked := bitAt (s.reg rp) 0
            valid := bitAt (s.reg rp) 0 } ∧
        (∀ j (_ : j < 8), j ≠ k.toNat → t.lockSlots[j] = s.lockSlots[j]) ∧
        t.lockAccess = .none ∧ t.regs = s.regs ∧ t.psrs = s.psrs ∧ t.mem = s.mem ∧ t.tlb = s.tlb := by
  refine ⟨_, exec_selectLockWrite priv hi, ?_⟩
  refine ⟨_, exec_lockWrite (start := s) (f := lockWriteVa) priv hv rfl rfl rfl (lockWriteVa_writing _ rfl), ?_⟩
  refine ⟨_, exec_lockWrite (start := s) (f := lockWriteAttr) priv ha rfl rfl rfl (lockWriteAttr_writing _ rfl), ?_⟩
  refine ⟨_, exec_lockWrite (start := s) (f := lockWritePa) priv hp rfl rfl rfl (lockWritePa_writing _ rfl rfl rfl), ?_⟩
  exact ⟨Vector.getElem_set_self _, fun j hj other => Vector.getElem_set_ne (BitVec.isLt _) hj (Ne.symm other),
    rfl, rfl, rfl, rfl, rfl⟩

/-! ## A read sequence -/

/-- The state after a select has made its draws: the three registers hold the entry (45_cp15_c13_c15.md R262). -/
def State.lockSelected (s : State) (k : BitVec 3) (x y z : Word) : State :=
  { s.setCp15 { s.cp15 with
      tlbLockIndexRead := put k 0
      tlbLockVa := slotVa (s.lockSlots[k.toNat]'k.isLt) x
      tlbLockPa := slotPa (s.lockSlots[k.toNat]'k.isLt) z
      tlbLockAttr := slotAttr (s.lockSlots[k.toNat]'k.isLt) y } with lockAccess := .reading false false }

theorem selectLockRead_eq (v : Word) (s : State) : ∃ x y z n,
    selectLockRead v s = ({ s with freeCtr := n } : State).lockSelected (fld v 0 3) x y z :=
  ⟨s.drawWord.1, s.drawWord.2.drawWord.2.drawWord.1, s.drawWord.2.drawWord.1, s.freeCtr + 1 + 1 + 1, rfl⟩

/-- A select begins a read sequence; the bits of the three registers that are open are drawn. -/
theorem gives_selectLockRead {s : State} {rd : RegNum} (priv : s.privileged = true) (hrd : rd ≠ 15) :
    let slot := s.lockSlots[(fld (s.reg rd) 0 3 : BitVec 3).toNat]'(BitVec.isLt _)
    Gives (.mcrTlbLockIndexRead 14 rd) s fun t => ∃ x y z,
      (∃ c n pc, t = { s with cp15 := c, lockAccess := .reading false false, freeCtr := n, pc := pc }) ∧
        t.cp15.tlbLockVa = slotVa slot x ∧ t.cp15.tlbLockAttr = slotAttr slot y ∧ t.cp15.tlbLockPa = slotPa slot z := by
  obtain ⟨x, y, z, n, selected⟩ := selectLockRead_eq (s.reg rd) s
  refine ⟨_, exec_cp15Write (f := selectLockRead) (passes_always s) priv hrd rfl, x, y, z, ?_⟩
  rw [selected, State.advance_eq]
  exact ⟨⟨_, _, _, rfl⟩, rfl, rfl, rfl⟩

/-- What a read leaves of a sequence (45_cp15_c13_c15.md R268). -/
def afterLockRead : LockRegister → Bool → Bool → LockAccess
  | .va, _, attr => .reading true attr
  | .attr, va, _ => .reading va true
  | .pa, _, _ => .none

/-- A read in its place in a read sequence. -/
theorem lockRead_reading {s : State} {va attr : Bool} (access : s.lockAccess = .reading va attr) (k : LockRegister)
    (last : k = .pa → (va || attr) = true) (rd : RegNum) (v : Word) :
    lockRead k rd v s = .ok () (({ s with lockAccess := afterLockRead k va attr } : State).setReg rd v).advance := by
  cases k with
  | va => simp only [lockRead, access, afterLockRead]
  | attr => simp only [lockRead, access, afterLockRead]
  | pa => simp only [lockRead, access, afterLockRead, last rfl, if_true]

/-- It moves its register to Rd. -/
theorem gives_lockRead {s : State} {rd : RegNum} {i : Instr} {v : State → Word} {va attr : Bool} (k : LockRegister)
    (priv : s.privileged = true) (hrd : rd ≠ 15) (e : exec i s = cp15Run 14 rd s fun s => lockRead k rd (v s) s)
    (access : s.lockAccess = .reading va attr) (last : k = .pa → (va || attr) = true) :
    Gives i s fun t => (∃ regs pc, t = { s with lockAccess := afterLockRead k va attr, regs := regs, pc := pc }) ∧
      t.bankReg s.bank rd = v s ∧ RegsBut s t [rd] := by
  refine ⟨_, (exec_lockTransfer priv hrd e).trans (congrArg finish (lockRead_reading access k last rd (v s))), ?_, ?_, ?_⟩
  · rw [State.advance_eq, State.setReg_eq]
    exact ⟨_, _, rfl⟩
  · exact (bankReg_advance ..).trans (bankReg_setReg hrd _ rfl)
  · refine (regsBut_setReg s rd (v s)).of_regs ((State.advance_regs _).trans ?_)
    apply regs_setReg_congr <;> rfl

theorem lockRead_none {s : State} (none : s.lockAccess = .none) (k : LockRegister) (rd : RegNum) (v : Word) :
    lockRead k rd v s = .refused .lockdownOrder := by
  simp only [lockRead, none]

theorem RegsBut.trans {s t u : State} {l m : List RegNum} (h : RegsBut s t l) (bank : t.bank = s.bank) (k : RegsBut t u m) :
    RegsBut s u (l ++ m) := fun j hj apart => by
  have first := h j hj fun n hn => apart n (List.mem_append_left _ hn)
  have second := k j hj fun n hn => bank ▸ apart n (List.mem_append_right _ hn)
  exact second.trans first

/-- The four transfers of a read sequence move the three registers, as the select has left them. -/
theorem gives_lockReads {s : State} {ri rv ra rp : RegNum} (priv : s.privileged = true) (hi : ri ≠ 15) (hv : rv ≠ 15)
    (ha : ra ≠ 15) (hp : rp ≠ 15) :
    let slot := s.lockSlots[(fld (s.reg ri) 0 3 : BitVec 3).toNat]'(BitVec.isLt _)
    Gives (.mcrTlbLockIndexRead 14 ri) s fun s1 => Gives (.mrcTlbLockVa 14 rv) s1 fun s2 =>
      Gives (.mrcTlbLockAttr 14 ra) s2 fun s3 => Gives (.mrcTlbLockPa 14 rp) s3 fun t =>
        (t.lockAccess = .none ∧ t.lockSlots = s.lockSlots ∧ RegsBut s t [rv, ra, rp] ∧ t.psrs = s.psrs ∧ t.mem = s.mem) ∧
        ∃ x y z, s2.bankReg s.bank rv = slotVa slot x ∧ s3.bankReg s.bank ra = slotAttr slot y ∧
          t.bankReg s.bank rp = slotPa slot z := by
  intro slot
  obtain ⟨_, e1, x, y, z, ⟨c, n, pc, rfl⟩, hva, hattr, hpa⟩ := gives_selectLockRead priv hi
  obtain ⟨_, e2, ⟨r2, pc2, rfl⟩, value2, regs2⟩ := gives_lockRead (i := .mrcTlbLockVa 14 rv)
    (s := { s with cp15 := c, lockAccess := .reading false false, freeCtr := n, pc := pc }) (v := fun s => s.cp15.tlbLockVa)
    .va priv hv rfl rfl nofun
  obtain ⟨_, e3, ⟨r3, pc3, rfl⟩, value3, regs3⟩ := gives_lockRead (i := .mrcTlbLockAttr 14 ra)
    (s := { s with cp15 := c, lockAccess := .reading true false, freeCtr := n, regs := r2, pc := pc2 })
    (v := fun s => s.cp15.tlbLockAttr) .attr priv ha rfl rfl nofun
  obtain ⟨_, e4, ⟨r4, pc4, rfl⟩, value4, regs4⟩ := gives_lockRead (i := .mrcTlbLockPa 14 rp)
    (s := { s with cp15 := c, lockAccess := .reading true true, freeCtr := n, regs := r3, pc := pc3 })
    (v := fun s => s.cp15.tlbLockPa) .pa priv hp rfl rfl fun _ => rfl
  refine ⟨_, e1, _, e2, _, e3, _, e4, ⟨rfl, rfl, (regs2.trans rfl regs3).trans rfl regs4, rfl, rfl⟩, x, y, z, ?_⟩
  exact ⟨value2.trans hva, value3.trans hattr, value4.trans hpa⟩

/-- Settles O49: the write sequence commits the entry that the operands describe (`gives_lockWrites`), the read sequence moves the
images of the entry selected (`gives_lockReads`), and without a select none of the transfers is in its place. -/
theorem lockdownEntries : Obligations.LockdownEntries := by
  intro s ri rv ra rp priv apart i va at' pa n
  obtain ⟨hi, hv, ha, hp⟩ : ri ≠ 15 ∧ rv ≠ 15 ∧ ra ≠ 15 ∧ rp ≠ 15 := by simpa [eq_comm] using apart
  refine ⟨?_, ?_, fun none => ?_⟩
  · obtain ⟨s1, e1, s2, e2, s3, e3, t, e4, slot, others, kept⟩ := gives_lockWrites priv hi hv ha hp
    refine ⟨s1, s2, s3, t, e1, e2, e3, e4, ?_⟩
    rw [slot]
    refine ⟨rfl, rfl, ?_, others, kept⟩
    exact ⟨_, rfl, rfl, rfl, rfl, rfl, rfl, rfl, rfl, rfl, rfl, rfl, rfl, rfl, rfl, rfl, rfl, rfl, rfl⟩
  · obtain ⟨s1, e1, s2, e2, s3, e3, t, e4, ⟨access, slots, regs, psrs, mem⟩, x, y, z, hva, hattr, hpa⟩ :=
      gives_lockReads priv hi hv ha hp
    refine ⟨s1, s2, s3, t, e1, e2, e3, e4, access, slots, regs, psrs, mem, fun e held aligned => ?_⟩
    rw [hva, hattr, hpa]
    exact ⟨slotVa_of_entry held x, slotAttr_of_entry held y, slotPa_of_entry held z⟩
  · have read {x : Instr} {v : State → Word} (k : LockRegister)
        (e : exec x s = cp15Run 14 rv s fun s => lockRead k rv (v s) s) :=
      exec_lockTransfer_refused priv hv e (lockRead_none none k rv (v s))
    refine List.forall_iff_forall_mem.1 ⟨?_, ?_, ?_, ?_, ?_, ?_⟩
    · exact read (v := fun s => s.cp15.tlbLockVa) .va rfl
    · exact read (v := fun s => s.cp15.tlbLockAttr) .attr rfl
    · exact read (v := fun s => s.cp15.tlbLockPa) .pa rfl
    · exact exec_lockTransfer_refused (m := fun s => lockWriteVa (s.reg rv) s) priv hv rfl (by simp only [lockWriteVa, none])
    · exact exec_lockTransfer_refused (m := fun s => lockWriteAttr (s.reg rv) s) priv hv rfl (by simp only [lockWriteAttr, none])
    · exact exec_lockTransfer_refused (m := fun s => lockWritePa (s.reg rv) s) priv hv rfl (by simp only [lockWritePa, none])

end Sys2Proof.Machine
end

section
/-! SUPPORT. Bits of the DSCR set and cleared, what moving on leaves of a change of the debug unit, and the DBGTAP instructions. -/
namespace Sys2Proof.Machine

/-! ## Bits of the DSCR -/

/-- A bit cleared. -/
theorem setBit_false (w : Word) (k : Nat) : setBit w k false = w &&& ~~~ put 1#1 k := by
  simp [setBit, setFld, put]

/-- A bit set. -/
theorem setBit_true (w : Word) (k : Nat) : setBit w k true = w ||| put 1#1 k := by
  refine BitVec.eq_of_getLsbD_eq fun i hi => ?_
  simp only [setBit, setFld, BitVec.getLsbD_or, BitVec.getLsbD_and, BitVec.getLsbD_not, hi]
  cases w.getLsbD i <;> simp [hi]

theorem State.past_congr {s t : State} (halted : t.halted = s.halted) (tBit : t.tBit = s.tBit) (pc : t.pc = s.pc) :
    t.past = s.past := by
  rw [State.past, State.past, State.thumb, State.thumb, halted, tBit, pc]

/-- A change of the debug unit that leaves the halted bit leaves the CPU in its state (46_cp14_debug.md R329). -/
theorem advance_debug {s : State} {d : Debug} (halted : bitAt d.dscr 0 = s.halted) :
    ({ s with dbg := d } : State).advance = { s with dbg := d, pc := s.past } := by
  have past : ({ s with dbg := d } : State).past = s.past := State.past_congr (t := { s with dbg := d }) halted rfl rfl
  rw [State.advance_eq, past]

/-- The halted bit is not among those that a mask clears. -/
theorem bitAt_zero_and {w m : Word} (kept : m.getLsbD 0 = true) : bitAt (w &&& m) 0 = bitAt w 0 := by
  simp only [bitAt_eq_getLsbD, BitVec.getLsbD_and, kept, Bool.and_true]

theorem bitAt_zero_or {w x : Word} (clear : x.getLsbD 0 = false) : bitAt (w ||| x) 0 = bitAt w 0 := by
  simp only [bitAt_eq_getLsbD, BitVec.getLsbD_or, clear, Bool.or_false]

/-! ## DBGTAP -/

/-- Settles O54: each instruction loads its code, and Restart clears DSCR[1] first. -/
theorem dbgtapInstructions : Obligations.DbgtapInstructions := by
  intro s loaded
  refine ⟨List.forall_iff_forall_mem.1 ⟨rfl, rfl, rfl, rfl, rfl, rfl, rfl⟩, ?_⟩
  have restart : exec .dbgtapRestart s = .next (loaded 0b00100 (setBit s.dbg.dscr 1 false)) := rfl
  rw [restart, setBit_false]
  rfl

end Sys2Proof.Machine
end

section
/-! Reads and writes of the CP14 debug registers (O52). -/
namespace Sys2Proof.Machine

/-! ## Who may use CP14 -/

section
variable {s : State} {cond : Cond} {k : Cp14Kind} {rd : RegNum} {i : Instr}

/-- Past the access table (46_cp14_debug.md R317). -/
theorem cp14Run_allowed (pass : s.passes cond = true) (allowed : cp14Allowed s k = true) (m : State → Res Unit) :
    cp14Run cond k s m = finish (m s) := by
  rw [cp14Run, whenPasses_passed _ pass, if_pos allowed]

theorem exec_cp14Transfer {m : State → Res Unit} (pass : s.passes cond = true) (allowed : cp14Allowed s k = true)
    (hrd : rd ≠ 15) (e : exec i s = cp14Transfer cond k rd s m) : exec i s = finish (m s) := by
  rw [e, cp14Transfer, cp14Run_allowed pass allowed, if_neg hrd]

/-- What the table does not allow is Undefined. -/
theorem cp14Run_denied (pass : s.passes cond = true) (denied : cp14Allowed s k = false) (m : State → Res Unit) :
    cp14Run cond k s m = finish (.exc .undefined s) := by
  rw [cp14Run, whenPasses_passed _ pass, denied]
  rfl

theorem allowed_of_mayUseComms (h : s.mayUseComms) : cp14Allowed s .comms = true := by
  unfold cp14Allowed State.privileged
  rcases h with h | h | h <;> simp [h]

theorem allowed_of_privileged (h : s.halted = true ∨ s.mode ≠ modeUser) : cp14Allowed s .dscrWrite = true := by
  unfold cp14Allowed State.privileged
  rcases h with h | h <;> simp [h]

theorem allowed_of_mayUseDebug (h : s.mayUseDebug) : cp14Allowed s .other = true := by
  unfold cp14Allowed State.privileged
  rcases h with h | ⟨mode, monitor⟩
  · simp [h]
  · simp [mode, monitor]

/-! ## Reads and writes -/

/-- A register read moves its value to Rd and does nothing else. -/
theorem gives_cp14Read {v : State → Word} (pass : s.passes cond = true) (allowed : cp14Allowed s k = true) (hrd : rd ≠ 15)
    (e : exec i s = cp14Read cond k rd s v) : Gives i s fun t => WroteReg s t rd (v s) :=
  ⟨_, exec_cp14Transfer pass allowed hrd e, wroteReg_setReg_advance s hrd (v s)⟩

/-- A register write is all that an instruction does. -/
theorem exec_cp14Write {f : Word → State → State} (pass : s.passes cond = true) (allowed : cp14Allowed s k = true)
    (hrd : rd ≠ 15) (e : exec i s = cp14Write cond k rd s f) : exec i s = .next (f (s.reg rd) s).advance :=
  exec_cp14Transfer pass allowed hrd e

/-- The reads of a list of registers, from the value that each row reads. -/
theorem gives_cp14Reads {l : List ((Cond → RegNum → Instr) × Word)} (pass : s.passes cond = true)
    (allowed : cp14Allowed s k = true) (hrd : rd ≠ 15)
    (rows : l.Forall fun x => ∃ v, exec (x.1 cond rd) s = cp14Read cond k rd s v ∧ v s = x.2) :
    ∀ x ∈ l, Gives (x.1 cond rd) s fun t => WroteReg s t rd x.2 := fun x hx => by
  obtain ⟨v, row, value⟩ := List.forall_iff_forall_mem.1 rows x hx
  rw [← value]
  exact gives_cp14Read pass allowed hrd row

/-- The writes of a list of registers, from what each row leaves in the debug unit. -/
theorem exec_cp14Writes {after : Debug → State} {l : List ((Cond → RegNum → Instr) × Debug)} (pass : s.passes cond = true)
    (allowed : cp14Allowed s k = true) (hrd : rd ≠ 15)
    (rows : l.Forall fun x => ∃ f, exec (x.1 cond rd) s = cp14Write cond k rd s f ∧ (f (s.reg rd) s).advance = after x.2) :
    ∀ x ∈ l, exec (x.1 cond rd) s = .next (after x.2) := fun x hx => by
  obtain ⟨f, row, left⟩ := List.forall_iff_forall_mem.1 rows x hx
  rw [exec_cp14Write pass allowed hrd row, left]

/-! ## The shapes of the rows -/

/-- A transfer of a CP14 register, by the three shapes that the rows have (46_cp14_debug.md R301, R317). -/
inductive Cp14Access (cond : Cond) (k : Cp14Kind) (rd : RegNum) (s : State) : Host.Outcome State Fault Refusal → Prop where
  | read (v : State → Word) : Cp14Access cond k rd s (cp14Read cond k rd s v)
  | write (f : Word → State → State) : Cp14Access cond k rd s (cp14Write cond k rd s f)
  | transfer (m : State → Res Unit) : Cp14Access cond k rd s (cp14Transfer cond k rd s m)

theorem Cp14Access.eq_transfer {o : Host.Outcome State Fault Refusal} (h : Cp14Access cond k rd s o) :
    ∃ m, o = cp14Transfer cond k rd s m := by
  cases h with
  | read v => exact ⟨_, rfl⟩
  | write f => exact ⟨_, rfl⟩
  | transfer m => exact ⟨_, rfl⟩

/-- With r15 a transfer is Undefined, whoever makes it (46_cp14_debug.md R301). -/
theorem Cp14Access.undefined_r15 {o : Host.Outcome State Fault Refusal} (h : Cp14Access cond k 15 s o)
    (pass : s.passes cond = true) : o = finish (.exc .undefined s) := by
  obtain ⟨m, rfl⟩ := h.eq_transfer
  rw [cp14Transfer, cp14Run, whenPasses_passed _ pass, if_pos rfl, ite_self]

/-- A transfer that the access table does not allow is Undefined (46_cp14_debug.md R317). -/
theorem Cp14Access.undefined_denied {o : Host.Outcome State Fault Refusal} (h : Cp14Access cond k rd s o)
    (pass : s.passes cond = true) (denied : cp14Allowed s k = false) : o = finish (.exc .undefined s) := by
  obtain ⟨m, rfl⟩ := h.eq_transfer
  exact cp14Run_denied pass denied _

/-- The debug communications channel: the reads of the DIDR, the DSCR and the rDTR, and the write of the wDTR
(46_cp14_debug.md R302, R304, R306). -/
theorem cp14Access_comms (cond : Cond) (rd : RegNum) (s : State) :
    Cp14Access cond .comms rd s (exec (.mrcDidr cond rd) s) ∧ Cp14Access cond .comms rd s (exec (.mrcDscr cond rd) s) ∧
      Cp14Access cond .comms rd s (exec (.mrcDtr cond rd) s) ∧ Cp14Access cond .comms rd s (exec (.mcrDtr cond rd) s) :=
  ⟨.read fun _ => didr, .read dscrRead, (.transfer _ : Cp14Access cond .comms rd s (execMrcDtr cond rd s)), .write wdtrWrite⟩

theorem cp14Access_mcrDscr (cond : Cond) (rd : RegNum) (s : State) :
    Cp14Access cond .dscrWrite rd s (exec (.mcrDscr cond rd) s) := .write dscrWrite

open Cp14Access in
/-- Beyond the debug communications channel each register has its read and then its write (46_cp14_debug.md R307 to R312). -/
theorem cp14Access_rows (cond : Cond) (rd : RegNum) (s : State) :
    ∀ f ∈ cp14DebugRows, Cp14Access cond .other rd s (exec (f cond rd) s) := by
  unfold cp14DebugRows
  repeat' refine List.forall_mem_cons.2 ⟨?_, ?_⟩
  on_goal -1 => exact List.forall_mem_nil _
  all_goals dsimp only [exec]
  iterate 17 exact read ..; exact write ..

end

/-! ## What the writes leave -/

/-- A write or a read of a register group at an index that it has. -/
theorem vector_setIfInBounds {α : Type} {n : Nat} (x : Vector α n) {y : Nat} (hy : y < n) (v : α) :
    x.setIfInBounds y v = x.set y v := by
  ext i hi
  rw [Vector.getElem_setIfInBounds hi, Vector.getElem_set]

theorem vector_getD {α : Type} {n : Nat} (x : Vector α n) {y : Nat} (hy : y < n) (d : α) : x.getD y d = x[y] := by
  simp [Vector.getD, hy]

/-- A register that fetches are compared with has changed, and the PC has moved on: until a flush the old value may be seen
(46_cp14_debug.md R307 to R309). -/
def comparedChange (s : State) (d : Debug) : State :=
  { s with dbg := d, pc := s.past, fetchOld := s.fetchView :: s.fetchOld }

section
variable (s : State) {y : Nat} (v : Word)

theorem advance_noteFetch {d : Debug} (halted : bitAt d.dscr 0 = s.halted) :
    (s.noteFetch { s with dbg := d }).advance = comparedChange s d :=
  advance_debug (s := { s with fetchOld := s.fetchView :: s.fetchOld }) halted

theorem advance_vcrWrite : (vcrWrite v s).advance = comparedChange s { s.dbg with vcr := v &&& 0x000000DF } :=
  advance_noteFetch s rfl

theorem advance_bvrWrite (hy : y < 6) :
    (bvrWrite y v s).advance = comparedChange s { s.dbg with bvr := s.dbg.bvr.set y (v &&& bvrMask y) } := by
  rw [← vector_setIfInBounds _ hy]
  exact advance_noteFetch s rfl

theorem advance_bcrWrite (hy : y < 6) :
    (bcrWrite y v s).advance = comparedChange s { s.dbg with bcr := s.dbg.bcr.set y (v &&& bcrMask y) } := by
  rw [← vector_setIfInBounds _ hy]
  exact advance_noteFetch s rfl

theorem advance_wvrWrite (hy : y < 2) : (wvrWrite y v s).advance =
    { s with dbg := { s.dbg with wvr := s.dbg.wvr.set y (v &&& 0xFFFFFFFC) }, pc := s.past } := by
  rw [← vector_setIfInBounds _ hy]
  exact advance_debug (s := s) rfl

theorem advance_wcrWrite (hy : y < 2) : (wcrWrite y v s).advance =
    { s with dbg := { s.dbg with wcr := s.dbg.wcr.set y (v &&& 0x001F01FF) }, pc := s.past } := by
  rw [← vector_setIfInBounds _ hy]
  exact advance_debug (s := s) rfl

/-- The core's write of the DSCR reaches the bits it may write (46_cp14_debug.md R304). -/
theorem advance_dscrWrite : (dscrWrite v s).advance =
    { s with dbg := { s.dbg with dscr := (s.dbg.dscr &&& 0xFFFF6FC3) ||| (v &&& 0x0000903C) }, pc := s.past } := by
  refine advance_debug (d := { s.dbg with dscr := (s.dbg.dscr &&& 0xFFFF6FC3) ||| (v &&& 0x0000903C) }) ?_
  exact (bitAt_zero_or (by simp)).trans (bitAt_zero_and rfl)

/-- The write of the wDTR fills it: DSCR[29] (46_cp14_debug.md R306). -/
theorem wdtrWrite_eq : wdtrWrite v s = { s with dbg := { s.dbg with wdtr := v, dscr := s.dbg.dscr ||| 0x20000000 } } := by
  rw [wdtrWrite, setBit_true]
  rfl

/-- The read of the rDTR empties it: DSCR[30] (46_cp14_debug.md R306). -/
theorem rdtrRead_eq : rdtrRead s = (s.dbg.rdtr, { s with dbg := { s.dbg with dscr := s.dbg.dscr &&& 0xBFFFFFFF } }) := by
  rw [rdtrRead, setBit_false]
  rfl

end

/-! ## The DSCR read -/

/-- Which bits the DSCR shows follows DBGEN (46_cp14_debug.md R303, R304). -/
theorem dscrRead_eq (s : State) : dscrRead s = s.dbg.dscr &&& (if s.cfg.dbgen then 0x6000FEFF else 0x60003EFF) := by
  unfold dscrRead
  split
  · rfl
  · exact BitVec.and_assoc ..

/-- The bits of the CPSR with the condition flags replaced (10_state.md R28). -/
theorem getLsbD_setNzcv (s : State) (n z c v : Bool) {i : Nat} (hi : i < 32) : (s.setNzcv n z c v).cpsr.getLsbD i =
    if i = 28 then v else if i = 29 then c else if i = 30 then z else if i = 31 then n else s.cpsr.getLsbD i := by
  simp only [State.setNzcv, State.setCpsr, State.cpsr, getLsbD_setBit _ _ _ _ hi]

theorem flagsAre_setNzcv (s : State) (n z c v : Bool) : FlagsAre (s.setNzcv n z c v) n z c v := by
  have bit {k : Nat} (hk : k < 32) : bitAt (s.setNzcv n z c v).cpsr k = _ :=
    (bitAt_eq_getLsbD _ k).trans (getLsbD_setNzcv s n z c v hk)
  exact ⟨bit (k := 31) (by omega), bit (k := 30) (by omega), bit (k := 29) (by omega), bit (k := 28) (by omega)⟩

theorem onlyFlags_setNzcv (s : State) (n z c v : Bool) : OnlyFlags s (s.setNzcv n z c v) := by
  refine ⟨rfl, BitVec.eq_of_getLsbD_eq fun i hi => ?_⟩
  rw [BitVec.getLsbD_and, BitVec.getLsbD_and, getLsbD_setNzcv s n z c v hi]
  by_cases flag : 28 ≤ i
  · have mask : (0x0FFFFFFF : Word).getLsbD i = false := by interval_cases i <;> rfl
    rw [mask, Bool.and_false, Bool.and_false]
  · rw [if_neg (by omega), if_neg (by omega), if_neg (by omega), if_neg (by omega)]

theorem tBit_setNzcv (s : State) (n z c v : Bool) : (s.setNzcv n z c v).tBit = s.tBit := by
  rw [State.tBit, State.tBit, bitAt_eq_getLsbD, bitAt_eq_getLsbD, getLsbD_setNzcv s n z c v (by omega)]
  rfl

/-- The PC has moved on past an instruction that replaces the condition flags. -/
theorem advance_setNzcv (s : State) (n z c v : Bool) :
    (s.setNzcv n z c v).advance = { s with psrs := (s.setNzcv n z c v).psrs, pc := s.past } := by
  have past : (s.setNzcv n z c v).past = s.past := State.past_congr rfl (tBit_setNzcv ..) rfl
  rw [State.advance_eq, past]
  rfl

/-- The read of the DSCR with r15: two of its bits to Z and C, open values to N and V (46_cp14_debug.md R314). -/
theorem gives_mrcDscrFlags {s : State} {cond : Cond} (pass : s.passes cond = true) (allowed : cp14Allowed s .comms = true) :
    Gives (.mrcDscrFlags cond) s fun t => t.flagZ = bitAt s.dbg.dscr 30 ∧ t.flagC = bitAt s.dbg.dscr 29 ∧ OnlyFlags s t ∧
      t = { s with psrs := t.psrs, pc := s.past, freeCtr := t.freeCtr } := by
  let drawn := s.drawBool.2.drawBool.2
  let n := s.drawBool.1
  let v := s.drawBool.2.drawBool.1
  have next : execMrcDscrFlags cond s =
      .next (drawn.setNzcv n (bitAt s.dbg.dscr 30) (bitAt s.dbg.dscr 29) v).advance := cp14Run_allowed pass allowed _
  rw [advance_setNzcv] at next
  obtain ⟨-, z, c, -⟩ := flagsAre_setNzcv drawn n (bitAt s.dbg.dscr 30) (bitAt s.dbg.dscr 29) v
  exact ⟨_, next, z, c, onlyFlags_setNzcv drawn n (bitAt s.dbg.dscr 30) (bitAt s.dbg.dscr 29) v, rfl⟩

end Sys2Proof.Machine

namespace Sys2Proof
open Machine

/-- Settles O52, by the shape of the rows: each is a read or a write behind the access table of CP14 (`gives_cp14Reads`,
`exec_cp14Writes`), which takes r15 from nobody (`Cp14Access.undefined_r15`). What is left of a row is the value read or the change
of the debug unit. -/
theorem debugRegisters : Obligations.DebugRegisters := by
  intro s cc rd pass v noted
  refine ⟨fun running noJazelle => ?_, fun comms hrd => ?_, fun priv hrd => ?_, fun debug hrd => ?_⟩
  · have undefined {i : Instr} {k : Cp14Kind} (h : Cp14Access cc k 15 s (exec i s)) : Gives i s (EnteredUndefined s) :=
      gives_undefined (h.undefined_r15 pass) running noJazelle
    obtain ⟨didr, -, rdtr, wdtr⟩ := cp14Access_comms cc 15 s
    exact ⟨fun f hf => undefined (cp14Access_rows cc 15 s f hf), List.forall_iff_forall_mem.1
      ⟨undefined didr, undefined (cp14Access_mcrDscr cc 15 s), undefined rdtr, undefined wdtr⟩⟩
  · have allowed := allowed_of_mayUseComms comms
    refine ⟨gives_cp14Read (v := fun _ => didr) pass allowed hrd rfl, ?_, gives_mrcDscrFlags pass allowed, ?_, ?_⟩
    · obtain ⟨t, next, wrote⟩ := gives_cp14Read (i := .mrcDscr cc rd) (v := dscrRead) pass allowed hrd rfl
      rw [dscrRead_eq] at wrote
      exact ⟨t, next, _, rfl, fun _ => rfl, wrote⟩
    · have next := exec_cp14Transfer (i := .mrcDtr cc rd) pass allowed hrd (rfl : execMrcDtr cc rd s = _)
      rw [rdtrRead_eq] at next
      refine ⟨_, next, ?_⟩
      exact wroteReg_setReg_advance { s with dbg := { s.dbg with dscr := s.dbg.dscr &&& 0xBFFFFFFF } } hrd _
    · rw [exec_cp14Write (f := wdtrWrite) pass allowed hrd rfl, wdtrWrite_eq]
      exact congrArg _ (advance_debug (bitAt_zero_or (by simp)))
  · rw [exec_cp14Write (f := dscrWrite) pass (allowed_of_privileged priv) hrd rfl, advance_dscrWrite]
  · have allowed := allowed_of_mayUseDebug debug
    refine ⟨gives_cp14Reads pass allowed hrd ?_, exec_cp14Writes (after := comparedChange s) pass allowed hrd ?_,
      exec_cp14Writes (after := fun d => { s with dbg := d, pc := s.past }) pass allowed hrd ?_⟩
    · and_intros
      · exact ⟨_, rfl, rfl⟩
      all_goals exact ⟨_, rfl, vector_getD _ (by decide) _⟩
    · and_intros
      · exact ⟨_, rfl, advance_vcrWrite ..⟩
      iterate 6 exact ⟨_, rfl, advance_bvrWrite _ _ (by decide)⟩
      iterate 6 exact ⟨_, rfl, advance_bcrWrite _ _ (by decide)⟩
    · and_intros
      iterate 2 exact ⟨_, rfl, advance_wvrWrite _ _ (by decide)⟩
      iterate 2 exact ⟨_, rfl, advance_wcrWrite _ _ (by decide)⟩

end Sys2Proof
end

section
/-! Transfers between memory and the data transfer registers of CP14, and who may use CP14 (O53). -/
namespace Sys2Proof.Machine

/-! ## A transfer of one word -/

/-- A Multi-word access is made at the aligned address below (20_memory.md R45). -/
theorem State.Flat.alignAccess_multi {s : State} (f : s.Flat) {a : Word} (fits : s.wordFits a) (write : Bool) :
    Machine.alignAccess .multi write a s = .ok (lowest 4 a) s := by
  by_cases aligned : fld a 0 2 = 0#2
  · rw [lowest_of_aligned aligned]
    exact f.alignAccess (by simp [alignment, bitAt_fld_zero, bitAt_of_fld aligned]) write
  · obtain ⟨u, al⟩ := fits.resolve_left aligned
    refine f.alignAccess_forced ?_ write
    rw [u, al]
    exact alignment_forced (ty := .wload) (.inl rfl) aligned

section
variable {s : State} (f : s.Flat) {a : Word} (fits : s.wordFits a) (o : s.ordinary (lowest 4 a) 4) (m : AccessMode)
include f fits o

theorem State.Flat.loadMany_one : loadMany m .multi a 1 s = .ok [s.wordAt (lowest 4 a)] s := by
  have read := f.readAt o (by omega) (naturallyAligned_of_fld (fld_lowest a)) m
  rw [← State.wordAt_eq] at read
  simp only [loadMany, f.alignAccess_multi fits, loadWords, read, Res.bind]

theorem State.Flat.storeMany_one (v : Word) : storeMany m .multi a [v] s =
    .ok () (s.setMem (s.mem.writeBytes (lowest 4 a) (laneBytes s.eBit v 4))) := by
  have write := f.writeAt o (by omega) (by omega) (naturallyAligned_of_fld (fld_lowest a)) m v
  simp only [storeMany, f.alignAccess_multi fits, storeWords, write, Res.bind, partialStore]

end

/-! ## The base written back -/

/-- The end of a transfer that has changed memory and the debug unit: the base written back where the form says so, and the PC
moved on. -/
def transferEnd (s : State) (x : Mem) (d : Debug) (w : Bool) (rn : RegNum) (v : Word) : State :=
  (({ s with mem := x, dbg := d } : State).writeBase rn (if w then some v else none)).advance

theorem transferEnd_spec {s : State} {d : Debug} (halted : bitAt d.dscr 0 = s.halted) (x : Mem) {w : Bool} {rn : RegNum}
    (notPc : w = true → rn ≠ 15) (v : Word) :
    let t := transferEnd s x d w rn v
    ((w = true → t.bankReg s.bank rn = v) ∧ RegsBut s t (if w then [rn] else []) ∧ t.psrs = s.psrs ∧ t.pc = s.past) ∧
      t = { s with regs := t.regs, pc := t.pc, mem := x, dbg := d } := by
  let u : State := { s with mem := x, dbg := d }
  have past : u.past = s.past := State.past_congr (t := u) halted rfl rfl
  cases w with
  | false =>
    have e : transferEnd s x d false rn v = { u with pc := s.past } := past ▸ u.advance_eq
    rw [e]
    exact ⟨⟨nofun, (regsBut_nil s).of_regs rfl, rfl, rfl⟩, rfl⟩
  | true =>
    have setReg := State.setReg_eq u rn v
    have moved : (u.setReg rn v).past = s.past := by
      rw [setReg]
      exact past
    have e : transferEnd s x d true rn v = { u with regs := (u.setReg rn v).regs, pc := s.past } := by
      change (u.setReg rn v).advance = _
      rw [State.advance_eq, moved]
      exact congrArg (fun t : State => { t with pc := s.past }) setReg
    rw [e]
    exact ⟨⟨fun _ => bankReg_setReg (s := u) (notPc rfl) v rfl, (regsBut_setReg u rn v).of_regs rfl, rfl, rfl⟩, rfl⟩

/-- A form that writes the PC back has no meaning (46_cp14_debug.md R315). -/
theorem cp14BadBase_false {w : Bool} {rn : RegNum} (notPc : w = true → rn ≠ 15) : cp14BadBase w rn = false := by
  cases w with
  | false => rfl
  | true => simpa [cp14BadBase] using notPc rfl

/-- A CP14 instruction that the access table allows and that raises no exception. -/
theorem gives_cp14Run {s : State} {cond : Cond} {k : Cp14Kind} {m : State → Res Unit} {i : Instr} {P : State → Prop}
    (pass : s.passes cond = true) (allowed : cp14Allowed s k = true) (e : exec i s = cp14Run cond k s m)
    (h : ∃ t, m s = .ok () t ∧ P t) : Gives i s P := by
  obtain ⟨t, run, holds⟩ := h
  exact ⟨t, by rw [e, cp14Run_allowed pass allowed, run, finish], holds⟩

/-! ## Who may not use CP14 -/

section
variable {s : State} (running : s.halted = false)
include running

theorem denied_comms (user : s.mode = modeUser) (closed : bitAt s.dbg.dscr 12 = true) : cp14Allowed s .comms = false := by
  simp [cp14Allowed, running, unprivileged_of_user running user, closed]

theorem denied_dscrWrite (user : s.mode = modeUser) : cp14Allowed s .dscrWrite = false := by
  simp [cp14Allowed, running, unprivileged_of_user running user]

theorem denied_other (h : s.mode = modeUser ∨ s.debugMode ≠ .monitor) : cp14Allowed s .other = false := by
  rcases h with user | mode
  · simp [cp14Allowed, running, unprivileged_of_user running user]
  · simp [cp14Allowed, running, mode]

end

end Sys2Proof.Machine

namespace Sys2Proof
open Machine

/-- Settles O53: the accesses are those of one word of flat memory (`State.Flat.loadMany_one`, `State.Flat.storeMany_one`), and what
follows them is the write of the base (`transferEnd_spec`). Whom the access table does not allow takes the Undefined Instruction
exception (`Cp14Access.undefined_denied`). -/
theorem debugTransfers : Obligations.DebugTransfers := by
  intro s cc p u w rn rd off pass
  refine ⟨fun comms flat notPc => ?_, fun running noJazelle user closed => ?_, fun running noJazelle user => ?_,
    fun running noJazelle who f hf => ?_⟩
  · intro o a base fits ord
    have f := (State.flat_iff s).1 flat
    have allowed := allowed_of_mayUseComms comms
    have form := cp14BadBase_false notPc
    have address : copAddressing p u w (s.reg rn) (put off 2) = ⟨a, if w then some (upDown u (s.reg rn) o) else none⟩ := rfl
    let filled : Debug := { s.dbg with wdtr := s.wordAt (lowest 4 a), dscr := s.dbg.dscr ||| 0x20000000 }
    let emptied : Debug := { s.dbg with dscr := s.dbg.dscr &&& 0xBFFFFFFF }
    let stored := s.mem.writeBytes (lowest 4 a) (laneBytes s.eBit s.dbg.rdtr 4)
    constructor
    · refine gives_cp14Run pass allowed (rfl : execLdcDtr cc p u w rn off s = _)
        ⟨transferEnd s s.mem filled w rn (upDown u (s.reg rn) o), ?_, ?_⟩
      · simp only [form, address, f.loadMany_one fits ord, Res.bind, wdtrWrite_eq]
        rfl
      · exact transferEnd_spec (bitAt_zero_or (by simp)) s.mem notPc (upDown u (s.reg rn) o)
    · refine gives_cp14Run pass allowed (rfl : execStcDtr cc p u w rn off s = _)
        ⟨transferEnd s stored emptied w rn (upDown u (s.reg rn) o), ?_, ?_⟩
      · simp only [form, address, f.storeMany_one fits ord, Res.bind, rdtrRead_eq]
        rfl
      · obtain ⟨⟨base, kept, psrs, pc⟩, e⟩ := transferEnd_spec (d := emptied) (bitAt_zero_and rfl) stored notPc
          (upDown u (s.reg rn) o)
        have mem := congrArg State.mem e
        have but := memBut_writeBytes f.canonical mem
        rw [length_laneBytes _ _ (by omega)] at but
        refine ⟨⟨base, kept, psrs, pc⟩, wordAt_written f.canonical psrs mem, but, ?_⟩
        rw [mem]
        exact e
  · have denied := denied_comms running user closed
    have undefined {i : Instr} (e : exec i s = finish (.exc .undefined s)) : Gives i s (EnteredUndefined s) :=
      gives_undefined e running noJazelle
    have transfer {i : Instr} (h : Cp14Access cc .comms rd s (exec i s)) : Gives i s (EnteredUndefined s) :=
      undefined (h.undefined_denied pass denied)
    obtain ⟨didr, dscr, rdtr, wdtr⟩ := cp14Access_comms cc rd s
    refine List.forall_iff_forall_mem.1 ?_
    exact ⟨transfer didr, transfer dscr,
      undefined (cp14Run_denied pass denied _ : execMrcDscrFlags cc s = _), transfer rdtr, transfer wdtr,
      undefined (cp14Run_denied pass denied _ : execLdcDtr cc p u w rn off s = _),
      undefined (cp14Run_denied pass denied _ : execStcDtr cc p u w rn off s = _)⟩
  · exact gives_undefined ((cp14Access_mcrDscr cc rd s).undefined_denied pass (denied_dscrWrite running user)) running noJazelle
  · exact gives_undefined ((cp14Access_rows cc rd s f hf).undefined_denied pass (denied_other running who)) running noJazelle

end Sys2Proof
end

section
/-! SUPPORT. Entries to debug state and the Debug exceptions: the method of entry, the fault status and what is left alone. -/
namespace Sys2Proof.Machine

/-! ## Debug state -/

/-- The entry to debug state notes its method and the value that reads of the PC return (46_cp14_debug.md R304, R329, R333). -/
theorem enteredDebug_enterDebugState (s : State) (cause : BitVec 4) : EnteredDebug s (enterDebugState s cause) cause := by
  rw [EnteredDebug, enterDebugState, setBit_true]
  rfl

/-- DBGACK is HIGH in debug state (46_cp14_debug.md R329). -/
theorem EnteredDebug.dbgack {s t : State} {cause : BitVec 4} (h : EnteredDebug s t cause) : t.dbgack = true := by
  have dscr : t.dbg.dscr = (s.dbg.dscr &&& 0xFFFFFFC3) ||| put cause 2 ||| 1 := congrArg (·.dbg.dscr) h
  have halted : t.halted = true := by
    rw [State.halted, dscr, bitAt_eq_getLsbD, BitVec.getLsbD_or]
    simp
  rw [State.dbgack, halted, Bool.true_or]

/-- Leaving debug state: the halted bit clear and the Core restarted bit set, at the PC that was written (46_cp14_debug.md R333,
R334). -/
theorem leaveDebugState_eq (s : State) : ∃ pc n, leaveDebugState s = { s with
      pc := pc
      prefetched := []
      fetchOld := []
      freeCtr := n
      dbg := { s.dbg with dscr := (s.dbg.dscr &&& 0xFFFFFFFE) ||| 2, pcWritten := false, touched := false } } ∧
    (s.dbg.pcWritten = true → pc = s.pc) := by
  have dscr : setBit (setBit s.dbg.dscr 0 false) 1 true = (s.dbg.dscr &&& 0xFFFFFFFE) ||| 2 := by
    rw [setBit_true, setBit_false]
    rfl
  rw [← dscr]
  by_cases written : s.dbg.pcWritten = true
  · refine ⟨s.pc, s.freeCtr + 1, ?_, fun _ => rfl⟩
    simp only [leaveDebugState, withWord, State.drawWord, written, if_true]
    rfl
  · refine ⟨alignPc s.drawWord.2 s.drawWord.1, s.freeCtr + 1, ?_, fun h => absurd h written⟩
    simp only [leaveDebugState, withWord, State.drawWord, written]
    rfl

/-! ## Fault status -/

/-- The status bits [10, 3:0] of the DFSR after a fault are those of its status (42_cp15_c2_c6_mmu.md R175). -/
theorem dfsrValue_and_status (status : BitVec 5) (domain : Option (BitVec 4)) (sd write : Option Bool) (free : Word) :
    dfsrValue status domain sd write free &&& 0x0000040F = faultBits status := by
  have sdBit (b : Bool) : flag b 12 &&& 0x0000040F = 0#32 := by cases b <;> rfl
  have writeBit (b : Bool) : flag b 11 &&& 0x0000040F = 0#32 := by cases b <;> rfl
  have domainField : ∀ x : BitVec 4, put x 4 &&& 0x0000040F = 0#32 := by decide
  have high (b : Bool) : flag b 10 &&& 0x0000040F = flag b 10 := by cases b <;> rfl
  have low : ∀ x : BitVec 4, put x 0 &&& 0x0000040F = put x 0 := by decide
  simp only [dfsrValue, BitVec.and_or_distrib_right, sdBit, writeBit, domainField, high, low, BitVec.zero_or, BitVec.or_zero,
    faultBits]

/-- So are those of the IFSR (42_cp15_c2_c6_mmu.md R176). -/
theorem ifsrValue_and_status (status : BitVec 5) (sd : Option Bool) (free : Word) :
    ifsrValue status sd free &&& 0x0000040F = faultBits status := by
  have read : ifsrValue status sd free = dfsrValue status none sd (some false) free := by
    have noWrite : flag false 11 = 0#32 := rfl
    simp [ifsrValue, dfsrValue, noWrite]
  rw [read, dfsrValue_and_status]

/-! ## The Debug exceptions -/

/-- What an entry saves and sets depends on the registers, the status registers, the Control Register and memory. -/
theorem Entered.congr {s u t : State} {mode : BitVec 5} {offset link : Word} {a f : Bool} (h : Entered u t mode offset link a f)
    (regs : u.regs = s.regs) (psrs : u.psrs = s.psrs) (control : u.cp15.control = s.cp15.control) (mem : u.mem = s.mem) :
    Entered s t mode offset link a f := by
  unfold Entered MemSame State.aBit State.fBit State.cpsr State.ctlEe State.ctlV at h ⊢
  rwa [psrs, control, mem, regs] at h

/-- The entry of an abort from a state whose fault registers have been written. -/
theorem abortOnly_enter {s : State} (running : s.halted = false) (dfsr ifsr far wfar : Word) (n : Nat) (offset link : Word) :
    AbortOnly s (({ s with
      cp15 := { s.cp15 with dfsr := dfsr, ifsr := ifsr, far := far, wfar := wfar }, freeCtr := n } : State).enter
        modeAbt offset link true false) := by
  unfold AbortOnly State.enter
  dsimp only
  rw [markWritten_of_running (by simpa [State.halted] using running)]
  rfl

/-- The state with a method of entry in DSCR[5:2] (46_cp14_debug.md R304). -/
def withEntry (s : State) (cause : BitVec 4) : State :=
  { s with dbg := { s.dbg with dscr := (s.dbg.dscr &&& 0xFFFFFFC3) ||| put cause 2 } }

theorem setEntry_eq (s : State) (cause : BitVec 4) : s.setEntry cause = withEntry s cause := rfl

theorem halted_withEntry (s : State) (cause : BitVec 4) : (withEntry s cause).halted = s.halted :=
  bitAt_setFld_zero s.dbg.dscr 2 cause (by omega)

/-- A Debug exception through the Prefetch Abort vector, the WFAR being what it is (46_cp14_debug.md R327). -/
theorem debugAborted_debugPrefetchAbort {s : State} (running : s.halted = false) (cause : BitVec 4) (wfar : Word) (n : Nat) :
    let t := debugPrefetchAbort { s with cp15 := { s.cp15 with wfar := wfar }, freeCtr := n } cause
    DebugAborted s t cause ∧ t.cp15.wfar = wfar := by
  have status := ifsrValue_and_status statusDebug none (Config.freeWord n)
  let u : State := { withEntry s cause with
    cp15 := { s.cp15 with ifsr := ifsrValue statusDebug none (Config.freeWord n), wfar := wfar }, freeCtr := n + 1 }
  have e : debugPrefetchAbort { s with cp15 := { s.cp15 with wfar := wfar }, freeCtr := n } cause =
    u.enter modeAbt 0x0C (s.pc + 4) true false := rfl
  have entered : Entered u (u.enter modeAbt 0x0C (s.pc + 4) true false) modeAbt 0x0C (s.pc + 4) true false :=
    entered_enter (by decide)
  have cp15 := enter_cp15 u modeAbt 0x0C (s.pc + 4) true false
  have only := abortOnly_enter ((halted_withEntry s cause).trans running) s.cp15.dfsr u.cp15.ifsr s.cp15.far wfar (n + 1) 0x0C
    (s.pc + 4)
  rw [e]
  refine ⟨⟨⟨entered.congr rfl rfl rfl rfl, ?_, ?_, ?_⟩, only⟩, ?_⟩
  all_goals rw [cp15]
  exact status

/-- What the Debug exception of a watchpoint writes before its entry. -/
theorem debugDataAbort_eq (s : State) (wfar : Word) : debugDataAbort s wfar =
    ({ withEntry s entryWatchpoint with
      cp15 := { s.cp15 with
        dfsr := dfsrValue statusDebug none none none (Config.freeWord s.freeCtr)
        far := Config.freeWord (s.freeCtr + 1)
        wfar := wfar }
      freeCtr := s.freeCtr + 1 + 1 } : State).enter modeAbt 0x10 (s.pc + 8) true false := by
  have faults (d : State) (dfsr far : Word) : (((withEntry d entryWatchpoint).setDfsr dfsr).setFar far).setWfar wfar =
      { withEntry d entryWatchpoint with cp15 := { d.cp15 with dfsr := dfsr, far := far, wfar := wfar } } := rfl
  have drawn : s.drawWord.2.drawWord.2 = { s with freeCtr := s.freeCtr + 1 + 1 } := rfl
  simp only [debugDataAbort, withWord, setEntry_eq, faults, drawn]
  rfl

/-- The Debug exception of a watchpoint, through the Data Abort vector (46_cp14_debug.md R318, R327). -/
theorem watchAborted_debugDataAbort {s : State} (running : s.halted = false) (wfar : Word) :
    let t := debugDataAbort s wfar
    Entered s t modeAbt 0x10 (s.pc + 8) true false ∧ t.cp15.dfsr &&& 0x0000040F = 0b00010 ∧ t.cp15.wfar = wfar ∧
      t.cp15.ifsr = s.cp15.ifsr ∧ AbortOnly (withEntry { s with cp15 := { s.cp15 with wfar := wfar } } entryWatchpoint) t := by
  let dfsr := dfsrValue statusDebug none none none (Config.freeWord s.freeCtr)
  let far := Config.freeWord (s.freeCtr + 1)
  let u : State := { withEntry s entryWatchpoint with
    cp15 := { s.cp15 with dfsr := dfsr, far := far, wfar := wfar }, freeCtr := s.freeCtr + 1 + 1 }
  have e : debugDataAbort s wfar = u.enter modeAbt 0x10 (s.pc + 8) true false := debugDataAbort_eq s wfar
  have entered : Entered u (u.enter modeAbt 0x10 (s.pc + 8) true false) modeAbt 0x10 (s.pc + 8) true false :=
    entered_enter (by decide)
  have cp15 := enter_cp15 u modeAbt 0x10 (s.pc + 8) true false
  have only := abortOnly_enter (s := withEntry { s with cp15 := { s.cp15 with wfar := wfar } } entryWatchpoint)
    ((halted_withEntry s entryWatchpoint).trans running) dfsr s.cp15.ifsr far wfar (s.freeCtr + 1 + 1) 0x10 (s.pc + 8)
  rw [e]
  refine ⟨entered.congr rfl rfl rfl rfl, ?_, ?_, ?_, only⟩
  all_goals rw [cp15]
  exact dfsrValue_and_status ..

end Sys2Proof.Machine
end

section
/-! SUPPORT. What breakpoints, vector catches and watchpoints match. -/
namespace Sys2Proof.Machine

/-! ## Comparisons that find something -/

/-- A condition that fails decides a conjunction. -/
theorem allOf_false : ∀ {l : List (Option Bool)}, some false ∈ l → allOf l = some false
  | x :: t, h => by
    rcases List.mem_cons.1 h with rfl | h
    · rfl
    · have rest := allOf_false h
      rcases x with _ | _ | _ <;> simp only [allOf, rest]

/-- A condition that holds decides a disjunction. -/
theorem anyOf_true {l : List (Option Bool)} (h : some true ∈ l) : anyOf l = some true := by
  have fails : some false ∈ l.map fun x => x.map not := List.mem_map.2 ⟨_, h, rfl⟩
  rw [anyOf, allOf_false fails]
  rfl

/-- One of the registers compared matches. -/
theorem anyOf_range {f : Nat → Option Bool} {k n : Nat} (hk : k < n) (h : f k = some true) :
    anyOf ((List.range n).map f) = some true :=
  anyOf_true (List.mem_map.2 ⟨k, List.mem_range.2 hk, h⟩)

/-- A draw moves the counter of free values at most. -/
theorem resolve_frame (x : Option Bool) (s : State) : ∃ n, (resolve x s).2 = { s with freeCtr := n } := by
  cases x with
  | none => exact ⟨_, rfl⟩
  | some b => exact ⟨_, rfl⟩

/-- With every byte selected an access matches in the word of its first byte (46_cp14_debug.md R320). -/
theorem addrMatch_word {value a : Word} {size : Nat} (pos : 0 < size) (h : fld a 2 30 = fld value 2 30) :
    addrMatch value 0xF a size = true := by
  have selected : ∀ x : BitVec 2, bitAt (0xF : BitVec 4) x.toNat = true := by decide
  refine List.any_eq_true.2 ⟨0, List.mem_range.2 pos, ?_⟩
  have first : a + BitVec.ofNat 32 0 = a := BitVec.add_zero a
  simp only [first, h, selected, beq_self_eq_true, Bool.and_self]

section
variable {s : State} {k : Nat}

/-- A breakpoint on an address, in every mode (46_cp14_debug.md R309, R320). -/
theorem brpAddrHit_word (hk : k < 6) (control : s.dbg.bcr[k] = 0x000001E7) {a : Word} {size : Nat} (pos : 0 < size)
    (h : fld a 2 30 = fld s.dbg.bvr[k] 2 30) (priv : Bool) : brpAddrHit s k a size priv = some true := by
  unfold brpAddrHit
  rw [Vector.getElem?_eq_getElem hk, Vector.getElem?_eq_getElem hk, control]
  change allOf [some true, some (addrMatch s.dbg.bvr[k] 0xF a size)] = some true
  rw [addrMatch_word pos h]
  rfl

/-- A breakpoint on the Context ID, in every mode (46_cp14_debug.md R309, R320). -/
theorem brpContextHit_equal (hk : k < 6) (control : s.dbg.bcr[k] = 0x002001E7) (h : s.dbg.bvr[k] = s.cp15.contextId)
    (priv : Bool) : brpContextHit s k priv = some true := by
  unfold brpContextHit
  rw [Vector.getElem?_eq_getElem hk, Vector.getElem?_eq_getElem hk, control, h]
  change allOf [some true, some (s.cp15.contextId == s.cp15.contextId), some true] = some true
  rw [beq_self_eq_true]
  rfl

/-- A watchpoint on an address, for loads and stores in every mode (46_cp14_debug.md R312, R321). -/
theorem wrpHit_word (hk : k < 2) (control : s.dbg.wcr[k] = 0x000001FF) {a : Word} {size : Nat} (pos : 0 < size)
    (h : fld a 2 30 = fld s.dbg.wvr[k] 2 30) (load store priv : Bool) : wrpHit s k a size load store priv = some true := by
  unfold wrpHit
  rw [Vector.getElem?_eq_getElem hk, Vector.getElem?_eq_getElem hk, control]
  change allOf [some (addrMatch s.dbg.wvr[k] 0xF a size), some true, some true] = some true
  rw [addrMatch_word pos h]
  rfl

end

/-! ## The debug events of a fetch -/

section
variable (s : State) (a : Word) (size : Nat) (priv : Bool)

/-- The vectors caught do not depend on the draws of the breakpoints. -/
theorem fetchHits_vectors :
    (fetchHits a size priv s).1.vcatch = [0, 1, 2, 3, 4, 6, 7].any (vectorHit s a) ∧
      (fetchHits a size priv s).1.abortCatch = [3, 4].any (vectorHit s a) := by
  obtain ⟨m, hm⟩ := resolve_frame (anyOf ((List.range 6).map fun y => brpAddrHit s y a size priv)) s
  simp only [fetchHits, hm]
  obtain ⟨n, hn⟩ := resolve_frame
    (anyOf ((List.range 6).map fun y => brpContextHit { s with freeCtr := m } y priv)) { s with freeCtr := m }
  rw [hn]
  exact ⟨rfl, rfl⟩

variable {s a size priv}

/-- The address of an enabled vector is that of no other (46_cp14_debug.md R307, R323). -/
theorem vectorHit_at {k j : Nat} (enabled : bitAt s.dbg.vcr k = true) (hk : k < 8) (hj : j < 8)
    (h : a = s.vectorBase + BitVec.ofNat 32 (4 * k)) : vectorHit s a j = (k == j) := by
  have offset : a = s.vectorBase + BitVec.ofNat 32 (4 * j) ↔ k = j := by
    rw [h, BitVec.add_right_inj]
    constructor
    · intro e
      have := congrArg BitVec.toNat e
      simp only [BitVec.toNat_ofNat] at this
      omega
    · rintro rfl
      rfl
  by_cases same : k = j
  · subst same
    simp [vectorHit, enabled, h]
  · rw [vectorHit, beq_false_of_ne (mt offset.1 same), beq_false_of_ne same, Bool.and_false]

/-- With nothing enabled a fetch finds nothing. -/
theorem fetchHits_quiet (off : s.noBreakpoint) (vcr : s.dbg.vcr &&& 0xDF = 0) :
    fetchHits a size priv s = (⟨false, false, false, false⟩, s) := by
  have clear : ∀ k, bitAt (0xDF : Word) k = true → vectorHit s a k = false := fun k kept => by
    have bit := bitAt_and_of_kept s.dbg.vcr kept
    rw [vcr] at bit
    have zero : bitAt s.dbg.vcr k = false := by
      rw [← bit, bitAt_eq_getLsbD]
      simp
    rw [vectorHit, zero, Bool.false_and]
  have addr := anyOf_false (l := (List.range 6).map fun y => brpAddrHit s y a size priv) (by simp [brpAddrHit_off off])
  have context := anyOf_false (l := (List.range 6).map fun y => brpContextHit s y priv) (by simp [brpContextHit_off off])
  have catches : (fetchHits a size priv s).1.vcatch = false ∧ (fetchHits a size priv s).1.abortCatch = false := by
    obtain ⟨vcatch, abortCatch⟩ := fetchHits_vectors s a size priv
    rw [vcatch, abortCatch, List.any_eq_false, List.any_eq_false]
    have vectors : ∀ k ∈ [0, 1, 2, 3, 4, 6, 7], bitAt (0xDF : Word) k = true := by decide
    have aborts : ∀ k ∈ [3, 4], bitAt (0xDF : Word) k = true := by decide
    exact ⟨fun k hk => by simp [clear k (vectors k hk)], fun k hk => by simp [clear k (aborts k hk)]⟩
  obtain ⟨vcatch, abortCatch⟩ := catches
  simp only [fetchHits, addr, context, resolve] at vcatch abortCatch ⊢
  rw [vcatch, abortCatch]

/-- A vector that the VCR names, and whether it is that of an abort. -/
theorem fetchHits_catch {k : Nat} (hk : k ∈ [0, 1, 2, 3, 4, 6, 7]) (enabled : bitAt s.dbg.vcr k = true)
    (h : a = s.vectorBase + BitVec.ofNat 32 (4 * k)) :
    (fetchHits a size priv s).1.vcatch = true ∧ (fetchHits a size priv s).1.abortCatch = (k == 3 || k == 4) := by
  have small : k < 8 := (by decide : ∀ k ∈ [0, 1, 2, 3, 4, 6, 7], k < 8) k hk
  have hit {j : Nat} (hj : j < 8) : vectorHit s a j = (k == j) := vectorHit_at enabled small hj h
  obtain ⟨vcatch, abortCatch⟩ := fetchHits_vectors s a size priv
  rw [vcatch, abortCatch]
  refine ⟨List.any_eq_true.2 ⟨k, hk, by rw [hit small, beq_self_eq_true]⟩, ?_⟩
  rw [List.any_cons, List.any_cons, List.any_nil, hit (by omega), hit (by omega), Bool.or_false]

theorem fetchHits_bkpt {k : Nat} (hk : k < 6) (h : brpAddrHit s k a size priv = some true) :
    (fetchHits a size priv s).1.bkpt = true := by
  simp only [fetchHits, anyOf_range (f := fun y => brpAddrHit s y a size priv) hk h, resolve]

theorem fetchHits_context {k : Nat} (hk : k < 6) (control : s.dbg.bcr[k] = 0x002001E7) (h : s.dbg.bvr[k] = s.cp15.contextId) :
    (fetchHits a size priv s).1.context = true := by
  obtain ⟨n, e⟩ := resolve_frame (anyOf ((List.range 6).map fun y => brpAddrHit s y a size priv)) s
  have hit : brpContextHit { s with freeCtr := n } k priv = some true := brpContextHit_equal hk control h priv
  simp only [fetchHits, e, anyOf_range (f := fun y => brpContextHit { s with freeCtr := n } y priv) hk hit]
  rfl

end

theorem watchAccess_hit {s : State} {k : Nat} (hk : k < 2) {a : Word} {size : Nat} {load store priv : Bool}
    (running : s.halted = false) (h : wrpHit s k a size load store priv = some true) :
    (watchAccess a size load store priv s).dbg.watchHit = true := by
  simp [watchAccess, running, anyOf_range (f := fun y => wrpHit s y a size load store priv) hk h, resolve]

end Sys2Proof.Machine
end

section
/-! The debug events (O20). -/
namespace Sys2Proof.Machine

/-! ## Events at commitment -/

section
variable {t : State} {h : DebugHits}

theorem commitEvent_halting_breakpoint (mode : t.debugMode = .halting) (found : (h.bkpt || h.context) = true)
    (quiet : h.vcatch = false) : commitEvent h t = some (enterDebugState t entryBreakpoint) := by
  simp only [commitEvent, mode, found, quiet]

theorem commitEvent_halting_catch (mode : t.debugMode = .halting) (quiet : (h.bkpt || h.context) = false)
    (found : h.vcatch = true) : commitEvent h t = some (enterDebugState t entryVectorCatch) := by
  simp only [commitEvent, mode, found, quiet]

/-- Whether a breakpoint is taken in Monitor debug-mode (46_cp14_debug.md R326, R328). -/
def monitorBreak (h : DebugHits) (t : State) : Bool := h.bkpt || (h.context && !t.privileged)

/-- Whether a vector catch is taken in Monitor debug-mode (46_cp14_debug.md R328). -/
def monitorCatch (h : DebugHits) : Bool := h.vcatch && !h.abortCatch

theorem commitEvent_monitor_breakpoint (mode : t.debugMode = .monitor) (found : monitorBreak h t = true)
    (quiet : monitorCatch h = false) : commitEvent h t = some (debugPrefetchAbort t entryBreakpoint) := by
  unfold monitorBreak at found
  unfold monitorCatch at quiet
  simp only [commitEvent, mode, found, quiet]

theorem commitEvent_monitor_catch (mode : t.debugMode = .monitor) (quiet : monitorBreak h t = false)
    (found : monitorCatch h = true) : commitEvent h t = some (debugPrefetchAbort t entryVectorCatch) := by
  unfold monitorBreak at quiet
  unfold monitorCatch at found
  simp only [commitEvent, mode, found, quiet]

theorem commitEvent_monitor_none (mode : t.debugMode = .monitor) (noBreak : monitorBreak h t = false)
    (noCatch : monitorCatch h = false) : commitEvent h t = none := by
  unfold monitorBreak at noBreak
  unfold monitorCatch at noCatch
  simp only [commitEvent, mode, noBreak, noCatch]

theorem monitorBreak_iff (running : t.halted = false) :
    monitorBreak h t = true ↔ h.bkpt = true ∨ (h.context = true ∧ t.mode = modeUser) := by
  simp [monitorBreak, State.privileged, running]

theorem monitorBreak_false (running : t.halted = false) (noBkpt : h.bkpt = false)
    (other : h.context = false ∨ t.mode ≠ modeUser) : monitorBreak h t = false := by
  rw [Bool.eq_false_iff, Ne, monitorBreak_iff running]
  rintro (b | ⟨c, user⟩)
  · exact absurd (noBkpt.symm.trans b) (by decide)
  · exact other.elim (fun no => absurd (no.symm.trans c) (by decide)) (fun priv => priv user)

theorem monitorCatch_false (quiet : h.vcatch = false ∨ h.abortCatch = true) : monitorCatch h = false := by
  rcases quiet with e | e <;> simp [monitorCatch, e]

/-- An event that stands on the instruction fetched is what the step does (46_cp14_debug.md R326). -/
theorem step_of_event {s u : State} {w : Word} (undisturbed : s.undisturbed) (noJazelle : s.jBit = false)
    (fetched : fetchNext s.clearWatch = (.ok (.bits w, h), t)) (event : commitEvent h t = some u) : step s = .next u := by
  rw [step_of_undisturbed undisturbed, instruction_fetched noJazelle fetched, commit, event]

/-- A Debug exception of a state whose fault registers have not been touched. -/
theorem debugAborted_of_running (running : t.halted = false) (cause : BitVec 4) :
    DebugAborted t (debugPrefetchAbort t cause) cause :=
  (debugAborted_debugPrefetchAbort running cause t.cp15.wfar t.freeCtr).1

end

/-! ## BKPT -/

/-- BKPT outside Halting debug-mode (46_cp14_debug.md R322, 60_exceptions.md R524). -/
theorem debugAborted_takeBkpt {s : State} (running : s.halted = false) (mode : s.debugMode ≠ .halting) :
    DebugAborted s (takeBkpt s) entryBkpt ∧ (s.debugMode = .monitor → (takeBkpt s).cp15.wfar = s.cp15.wfar) := by
  unfold takeBkpt
  rw [if_neg (by simp [running])]
  cases e : s.debugMode with
  | halting => exact absurd e mode
  | monitor =>
    obtain ⟨aborted, wfar⟩ := debugAborted_debugPrefetchAbort running entryBkpt s.cp15.wfar s.freeCtr
    exact ⟨aborted, fun _ => wfar⟩
  | disabled =>
    obtain ⟨w, opened⟩ := openWfar_spec s
    dsimp only
    rw [opened]
    exact ⟨(debugAborted_debugPrefetchAbort running entryBkpt w (s.freeCtr + 2)).1, nofun⟩

theorem gives_bkpt {s : State} {i : Instr} {P : State → Prop} (running : s.halted = false) (e : exec i s = finish (.exc .bkpt s))
    (h : P (takeBkpt s)) : Gives i s P :=
  ⟨_, by simp [e, finish, running, takeException], h⟩

/-! ## Watchpoints -/

section
variable {s : State} (hit : s.dbg.watchHit = true) (wfar : Word)
include hit

theorem watchEvent_disabled (mode : s.debugMode = .disabled) : watchEvent wfar s = s.clearWatch := by
  have cleared : s.clearWatch.debugMode = .disabled := mode
  simp only [watchEvent, hit, if_true, cleared]

theorem watchEvent_halting (mode : s.debugMode = .halting) :
    watchEvent wfar s = enterDebugState (s.clearWatch.setWfar wfar) entryWatchpoint := by
  have cleared : s.clearWatch.debugMode = .halting := mode
  simp only [watchEvent, hit, if_true, cleared]

theorem watchEvent_monitor (mode : s.debugMode = .monitor) : watchEvent wfar s = debugDataAbort s.clearWatch wfar := by
  have cleared : s.clearWatch.debugMode = .monitor := mode
  simp only [watchEvent, hit, if_true, cleared]

end

/-! ## Requests -/

/-- A debug request with nothing of higher priority due (46_cp14_debug.md R324, 60_exceptions.md R540). -/
theorem step_of_request {s : State} (env : s.env = []) (queue : s.dbg.tap.queue = []) (power : s.power = .run)
    (stuck : s.stuck = false) (running : s.halted = false) (awake : s.standby = false) (due : dueException s = none)
    (request : haltRequest s = true) : step s = .next (enterOnRequest s) := by
  simp [step, cycle, environment, cpuStep, boundary, queue, env, power, stuck, running, awake, due, request]

/-! ## Restart -/

/-- Restart of a CPU in debug state (46_cp14_debug.md R334, R336). -/
theorem enterIdle_restart {s : State} (restart : s.dbg.tap.ir = 0b00100) (halted : s.halted = true) :
    enterIdle s = leaveDebugState s := by
  have noHalt : s.dbg.tap.ir ≠ tapHalt := by
    rw [restart]
    decide
  have isRestart : s.dbg.tap.ir = tapRestart := restart
  simp only [enterIdle, if_neg noHalt, if_pos isRestart, halted, if_true]

/-- A restarted CPU is out of debug state, and DBGACK is what DSCR[10] makes it (46_cp14_debug.md R304, R334). -/
theorem running_of_restarted {s t : State} (h : t.dbg.dscr = (s.dbg.dscr &&& 0xFFFFFFFE) ||| 2) :
    t.halted = false ∧ t.dbgack = bitAt s.dbg.dscr 10 := by
  have halted : t.halted = false := by
    rw [State.halted, h, bitAt_eq_getLsbD, BitVec.getLsbD_or, BitVec.getLsbD_and]
    simp
  have ten : bitAt t.dbg.dscr 10 = bitAt s.dbg.dscr 10 := by
    rw [h, bitAt_eq_getLsbD, bitAt_eq_getLsbD, BitVec.getLsbD_or, BitVec.getLsbD_and]
    simp
  rw [State.dbgack, halted, ten]
  exact ⟨rfl, rfl⟩

end Sys2Proof.Machine

namespace Sys2Proof
open Machine

/-- Settles O20, clause by clause: BKPT (`debugAborted_takeBkpt`); the event that stands on the instruction fetched
(`step_of_event`), by debug mode; what a fetch and an access match (`fetchHits_catch`, `watchAccess_hit`); the watchpoint hit, by
debug mode (`watchAborted_debugDataAbort`); the requests (`step_of_request`); and Restart (`leaveDebugState_eq`). -/
theorem debugEvents : Obligations.DebugEvents := by
  refine ⟨?_, ?_, ?_, ?_, ?_, ?_, ?_⟩
  · intro s imm immL imm8 running i hi
    have e : exec i s = finish (.exc .bkpt s) := by
      revert i
      exact List.forall_iff_forall_mem.1 ⟨rfl, rfl⟩
    refine ⟨fun mode => gives_bkpt running e (debugAborted_takeBkpt running mode), fun mode => gives_bkpt running e ?_⟩
    simp only [takeBkpt, running, mode]
    exact enteredDebug_enterDebugState s entryBkpt
  · intro s t w h undisturbed noJazelle running fetched
    have taken {u : State} (event : commitEvent h t = some u) : step s = .next u :=
      step_of_event undisturbed noJazelle fetched event
    refine ⟨fun mode found quiet => ?_, fun mode noBkpt noContext found => ?_, fun mode found quiet => ?_,
      fun mode noBkpt other found apart => ?_, fun mode noBkpt other quiet => ?_, fun mode => commitEvent_disabled mode h⟩
    · exact ⟨_, taken (commitEvent_halting_breakpoint mode (by simpa using found) quiet), enteredDebug_enterDebugState ..⟩
    · exact ⟨_, taken (commitEvent_halting_catch mode (by simp [noBkpt, noContext]) found), enteredDebug_enterDebugState ..⟩
    · exact ⟨_, taken (commitEvent_monitor_breakpoint mode ((monitorBreak_iff running).2 found) (monitorCatch_false quiet)),
        debugAborted_of_running running _⟩
    · exact ⟨_, taken (commitEvent_monitor_catch mode (monitorBreak_false running noBkpt other)
        (by simp [monitorCatch, found, apart])), debugAborted_of_running running _⟩
    · exact commitEvent_monitor_none mode (monitorBreak_false running noBkpt other) (monitorCatch_false quiet)
  · intro s a size priv hits
    refine ⟨fun off vcr => fetchHits_quiet off vcr, fun k hk control pos same => ?_, fun k hk control same => ?_,
      fun k hk bit at' => ?_⟩
    · exact fetchHits_bkpt hk (brpAddrHit_word hk control pos same priv)
    · exact fetchHits_context hk control same
    · exact fetchHits_catch hk bit at'
  · intro s a size load store priv running clear
    exact ⟨fun off => watchAccess_off off .., fun k hk control pos same =>
      watchAccess_hit hk running (wrpHit_word hk control pos same ..)⟩
  · intro s wfar running u
    refine ⟨fun none => if_neg (by simp [none]), fun hit mode => watchEvent_disabled hit wfar mode, fun hit mode => ?_,
      fun hit mode => ?_⟩
    · rw [watchEvent_halting hit wfar mode]
      exact enteredDebug_enterDebugState ..
    · rw [watchEvent_monitor hit wfar mode]
      obtain ⟨entered, rest⟩ := watchAborted_debugDataAbort (s := s.clearWatch) running wfar
      exact ⟨entered.congr rfl rfl rfl rfl, rest⟩
  · intro s env queue power stuck running awake dbgen fiq irq imprecise
    have due := (dueException_none s).2 ⟨fiq, irq, imprecise⟩
    have taken (request : haltRequest s = true) : step s = .next (enterOnRequest s) :=
      step_of_request env queue power stuck running awake due request
    refine ⟨fun halt => ?_, fun noHalt edbgrq => ?_⟩
    · have entered := enteredDebug_enterDebugState (s.setTap { s.dbg.tap with haltRequested := false }) entryHalt
      refine ⟨_, taken (by simp [haltRequest, dbgen, halt]), ?_⟩
      rw [enterOnRequest, if_pos halt]
      exact ⟨entered.dbgack, entered⟩
    · have entered := enteredDebug_enterDebugState s entryEdbgrq
      refine ⟨_, taken (by simp [haltRequest, dbgen, edbgrq]), ?_⟩
      rw [enterOnRequest, if_neg (by simp [noHalt])]
      exact ⟨entered.dbgack, entered⟩
  · intro s halted restart t
    have left : t = leaveDebugState s := enterIdle_restart restart halted
    obtain ⟨pc, n, e, written⟩ := leaveDebugState_eq s
    have restarted := left.trans e
    obtain ⟨running, ack⟩ := running_of_restarted (s := s) (t := t) (by rw [restarted])
    refine ⟨running, ack, fun h => ?_, ?_⟩
    · rw [restarted]
      exact written h
    · rw [restarted]

end Sys2Proof
end

section
/-! The GE flags of the parallel additions and subtractions (O59). -/
namespace Sys2Proof.Machine

/-- The GE flag of a lane (47_core_instructions.md R740). -/
theorem lane_flag {w : Nat} (signed add : Bool) (a b : BitVec w) : (lane signed add a b).2 = true ↔
    match signed, add with
    | true, true => 0 ≤ a.toInt + b.toInt
    | true, false => 0 ≤ a.toInt - b.toInt
    | false, true => (2 ^ w : Int) ≤ (a.toNat : Int) + b.toNat
    | false, false => 0 ≤ (a.toNat : Int) - b.toNat := by
  cases signed <;> cases add <;> simp only [lane, decide_eq_true_eq]
  · omega
  · exact_mod_cast Iff.rfl

theorem getLsbD_four_flags : ∀ a b c d : Bool,
    let g := BitVec.ofBool a ++ BitVec.ofBool b ++ BitVec.ofBool c ++ BitVec.ofBool d
    g.getLsbD 3 = a ∧ g.getLsbD 2 = b ∧ g.getLsbD 1 = c ∧ g.getLsbD 0 = d := by decide

/-- A halfword lane has the flags of both its bytes. -/
theorem lanes16_flags (signed addHigh addLow cross : Bool) (rn rm : Word) :
    let h := (lane signed addHigh (fld rn 16 16 : Half) (if cross then fld rm 0 16 else fld rm 16 16)).2
    let l := (lane signed addLow (fld rn 0 16 : Half) (if cross then fld rm 16 16 else fld rm 0 16)).2
    let g := (lanes16 signed addHigh addLow cross rn rm).2
    g.getLsbD 3 = h ∧ g.getLsbD 2 = h ∧ g.getLsbD 1 = l ∧ g.getLsbD 0 = l :=
  getLsbD_four_flags ..

theorem lanes8_flags (signed add : Bool) (rn rm : Word) {k : Nat} (hk : k < 4) :
    (lanes8 signed add rn rm).2.getLsbD k = (lane signed add (fld rn (8 * k) 8 : Byte) (fld rm (8 * k) 8)).2 := by
  obtain ⟨b3, b2, b1, b0⟩ := getLsbD_four_flags (lane signed add (fld rn 24 8 : Byte) (fld rm 24 8)).2
    (lane signed add (fld rn 16 8 : Byte) (fld rm 16 8)).2 (lane signed add (fld rn 8 8 : Byte) (fld rm 8 8)).2
    (lane signed add (fld rn 0 8 : Byte) (fld rm 0 8)).2
  interval_cases k
  · exact b0
  · exact b1
  · exact b2
  · exact b3

end Sys2Proof.Machine

namespace Sys2Proof
open Machine

/-- Settles O59: the flags of an operation are those of its lanes (`lanes16_flags`, `lanes8_flags`). -/
theorem greaterOrEqualFlags : Obligations.GreaterOrEqualFlags := by
  intro rn rm u i bits
  have halves (signed addHigh addLow cross : Bool) {h l : Prop}
      (high : (lane signed addHigh (fld rn 16 16 : Half) (if cross then fld rm 0 16 else fld rm 16 16)).2 = true ↔ h)
      (low : (lane signed addLow (fld rn 0 16 : Half) (if cross then fld rm 16 16 else fld rm 0 16)).2 = true ↔ l) :
      bits h l (lanes16 signed addHigh addLow cross rn rm).2 := by
    obtain ⟨g3, g2, g1, g0⟩ := lanes16_flags signed addHigh addLow cross rn rm
    exact ⟨g3 ▸ high, g2 ▸ high, g1 ▸ low, g0 ▸ low⟩
  refine ⟨halves true true true false ?_ ?_, halves true false false false ?_ ?_, halves true true false true ?_ ?_,
    halves true false true true ?_ ?_, halves false true true false ?_ ?_, halves false false false false ?_ ?_,
    halves false true false true ?_ ?_, halves false false true true ?_ ?_, fun k hk => ?_⟩
  iterate 16 exact lane_flag ..
  have bytes (signed add : Bool) := (Bool.eq_iff_iff.1 (lanes8_flags signed add rn rm hk)).trans (lane_flag ..)
  exact ⟨bytes true true, bytes true false, bytes false true, bytes false false⟩

end Sys2Proof
end

section
/-! The shifter operand (O21). -/
namespace Sys2Proof.Machine

theorem getLsbD_rotateRight_word (w : Word) (n : Nat) {i : Nat} (hi : i < 32) :
    (w.rotateRight n).getLsbD i = w.getLsbD ((i + n) % 32) := by
  rw [BitVec.getLsbD_rotateRight]
  by_cases low : i < 32 - n % 32
  · rw [decide_eq_true low, cond_true]
    congr 1
    omega
  · rw [decide_eq_false low, cond_false, decide_eq_true hi, Bool.true_and]
    congr 1
    omega

theorem getLsbD_sshiftRight_word (w : Word) (n : Nat) {i : Nat} (hi : i < 32) :
    (w.sshiftRight n).getLsbD i = w.getLsbD (min (i + n) 31) := by
  rw [BitVec.getLsbD_sshiftRight, decide_eq_false (by omega), Bool.not_false, Bool.true_and, BitVec.msb_eq_getLsbD_last]
  split
  · congr 1
    omega
  · congr 1
    omega

theorem getLsbD_shiftLeft_word (w : Word) (n : Nat) {i : Nat} (hi : i < 32) :
    (w <<< n).getLsbD i = (decide (n ≤ i) && w.getLsbD (i - n)) := by
  rw [BitVec.getLsbD_shiftLeft, decide_eq_true hi, Bool.true_and, ← decide_not]
  simp only [Nat.not_lt]

theorem getLsbD_shiftRight_word (w : Word) (n i : Nat) : (w >>> n).getLsbD i = w.getLsbD (i + n) := by
  rw [BitVec.getLsbD_ushiftRight, Nat.add_comm]

/-! ## An immediate -/

theorem getLsbD_rotatedImm (rot : BitVec 4) (imm : BitVec 8) {i : Nat} (hi : i < 32) :
    (rotatedImm rot imm).getLsbD i = imm.getLsbD ((i + 2 * rot.toNat) % 32) := by
  rw [rotatedImm, getLsbD_rotateRight_word _ _ hi, BitVec.getLsbD_setWidth, decide_eq_true (Nat.mod_lt _ (by omega)), Bool.true_and]

theorem immOperand_carry (rot : BitVec 4) (imm : BitVec 8) (c : Bool) :
    (immOperand rot imm c).carry = if rot = 0 then c else (immOperand rot imm c).value.getLsbD 31 := by
  simp only [immOperand, BitVec.msb_eq_getLsbD_last]

/-! ## A register shifted by an immediate (47_core_instructions.md R750) -/

theorem amount_ne_zero {n : BitVec 5} (h : n ≠ 0) : n.toNat ≠ 0 := fun e => h (BitVec.eq_of_toNat_eq e)

section
variable (w : Word) (n : BitVec 5) (c : Bool)

theorem shiftImm_lsl :
    (∀ i < 32, (shiftImm w 0 n c).value.getLsbD i = (decide (n.toNat ≤ i) && w.getLsbD (i - n.toNat))) ∧
      (shiftImm w 0 n c).carry = if n = 0 then c else w.getLsbD (32 - n.toNat) := by
  have unfolded : shiftImm w 0 n c = if n.toNat = 0 then ⟨w, c⟩ else ⟨w <<< n.toNat, bitAt w (32 - n.toNat)⟩ := rfl
  rw [unfolded]
  by_cases h : n = 0
  · subst h
    simp
  · rw [if_neg h, if_neg (amount_ne_zero h)]
    exact ⟨fun i hi => getLsbD_shiftLeft_word w _ hi, bitAt_eq_getLsbD ..⟩

/-- The amount of LSR and ASR: 0 stands for 32. -/
def rightAmount (n : BitVec 5) : Nat := if n = 0 then 32 else n.toNat

theorem shiftImm_lsr :
    (∀ i < 32, (shiftImm w 1 n c).value.getLsbD i = w.getLsbD (i + rightAmount n)) ∧
      (shiftImm w 1 n c).carry = w.getLsbD (rightAmount n - 1) := by
  have unfolded : shiftImm w 1 n c = if n.toNat = 0 then ⟨0, bitAt w 31⟩ else ⟨w >>> n.toNat, bitAt w (n.toNat - 1)⟩ := rfl
  rw [unfolded, rightAmount]
  by_cases h : n = 0
  · subst h
    exact ⟨fun i _ => by simp, bitAt_eq_getLsbD ..⟩
  · rw [if_neg h, if_neg (amount_ne_zero h)]
    exact ⟨fun i _ => getLsbD_shiftRight_word w _ i, bitAt_eq_getLsbD ..⟩

theorem shiftImm_asr :
    (∀ i < 32, (shiftImm w 2 n c).value.getLsbD i = w.getLsbD (min (i + rightAmount n) 31)) ∧
      (shiftImm w 2 n c).carry = w.getLsbD (rightAmount n - 1) := by
  have unfolded : shiftImm w 2 n c =
    if n.toNat = 0 then ⟨w.sshiftRight 31, bitAt w 31⟩ else ⟨w.sshiftRight n.toNat, bitAt w (n.toNat - 1)⟩ := rfl
  rw [unfolded, rightAmount]
  by_cases h : n = 0
  · subst h
    refine ⟨fun i hi => (getLsbD_sshiftRight_word w 31 hi).trans ?_, bitAt_eq_getLsbD ..⟩
    simp only [if_true, show min (i + 31) 31 = 31 by omega, show min (i + 32) 31 = 31 by omega]
  · rw [if_neg h, if_neg (amount_ne_zero h)]
    exact ⟨fun i hi => getLsbD_sshiftRight_word w _ hi, bitAt_eq_getLsbD ..⟩

theorem shiftImm_ror :
    (∀ i < 32, (shiftImm w 3 n c).value.getLsbD i =
        if n = 0 then (if i = 31 then c else w.getLsbD (i + 1)) else w.getLsbD ((i + n.toNat) % 32)) ∧
      (shiftImm w 3 n c).carry = if n = 0 then w.getLsbD 0 else w.getLsbD (n.toNat - 1) := by
  have unfolded : shiftImm w 3 n c =
    if n.toNat = 0 then ⟨setBit (w >>> 1) 31 c, bitAt w 0⟩ else ⟨w.rotateRight n.toNat, bitAt w (n.toNat - 1)⟩ := rfl
  rw [unfolded]
  by_cases h : n = 0
  · subst h
    refine ⟨fun i hi => (getLsbD_setBit _ _ _ i hi).trans ?_, bitAt_eq_getLsbD ..⟩
    rw [getLsbD_shiftRight_word]
    rfl
  · simp only [if_neg h, if_neg (amount_ne_zero h)]
    exact ⟨fun i hi => getLsbD_rotateRight_word w _ hi, bitAt_eq_getLsbD ..⟩

end

/-! ## A register shifted by a register (47_core_instructions.md R750) -/

section
variable (w : Word) (k : BitVec 8) (c : Bool)

theorem shiftReg_lsl :
    (∀ i < 32, (shiftReg w 0 k c).value.getLsbD i = (decide (k.toNat ≤ i) && w.getLsbD (i - k.toNat))) ∧
      (shiftReg w 0 k c).carry = if k.toNat = 0 then c else decide (k.toNat ≤ 32) && w.getLsbD (32 - k.toNat) := by
  have unfolded : shiftReg w 0 k c = if k.toNat = 0 then ⟨w, c⟩ else if k.toNat < 32 then ⟨w <<< k.toNat, bitAt w (32 - k.toNat)⟩
    else ⟨0, k.toNat == 32 && bitAt w 0⟩ := rfl
  rw [unfolded]
  by_cases zero : k.toNat = 0
  · simp [zero]
  · rw [if_neg zero, if_neg zero]
    by_cases small : k.toNat < 32
    · rw [if_pos small, decide_eq_true (by omega), Bool.true_and]
      exact ⟨fun i hi => getLsbD_shiftLeft_word w _ hi, bitAt_eq_getLsbD ..⟩
    · rw [if_neg small]
      refine ⟨fun i hi => ?_, ?_⟩
      · rw [decide_eq_false (by omega), Bool.false_and]
        exact BitVec.getLsbD_zero
      · by_cases whole : k.toNat = 32
        · simp [whole, bitAt_eq_getLsbD]
        · simp [whole, show ¬ k.toNat ≤ 32 by omega]

theorem shiftReg_lsr :
    (∀ i < 32, (shiftReg w 1 k c).value.getLsbD i = w.getLsbD (i + k.toNat)) ∧
      (shiftReg w 1 k c).carry = if k.toNat = 0 then c else w.getLsbD (k.toNat - 1) := by
  have unfolded : shiftReg w 1 k c = if k.toNat = 0 then ⟨w, c⟩ else if k.toNat < 32 then ⟨w >>> k.toNat, bitAt w (k.toNat - 1)⟩
    else ⟨0, k.toNat == 32 && bitAt w 31⟩ := rfl
  rw [unfolded]
  by_cases zero : k.toNat = 0
  · simp [zero]
  · rw [if_neg zero, if_neg zero]
    by_cases small : k.toNat < 32
    · rw [if_pos small]
      exact ⟨fun i _ => getLsbD_shiftRight_word w _ i, bitAt_eq_getLsbD ..⟩
    · rw [if_neg small]
      refine ⟨fun i hi => ?_, ?_⟩
      · rw [BitVec.getLsbD_of_ge w _ (by omega)]
        exact BitVec.getLsbD_zero
      · by_cases whole : k.toNat = 32
        · simp [whole, bitAt_eq_getLsbD]
        · rw [BitVec.getLsbD_of_ge w _ (by omega)]
          simp [whole]

theorem shiftReg_asr :
    (∀ i < 32, (shiftReg w 2 k c).value.getLsbD i = w.getLsbD (min (i + k.toNat) 31)) ∧
      (shiftReg w 2 k c).carry = if k.toNat = 0 then c else w.getLsbD (min (k.toNat - 1) 31) := by
  have unfolded : shiftReg w 2 k c = if k.toNat = 0 then ⟨w, c⟩
    else if k.toNat < 32 then ⟨w.sshiftRight k.toNat, bitAt w (k.toNat - 1)⟩ else ⟨w.sshiftRight 31, bitAt w 31⟩ := rfl
  rw [unfolded]
  by_cases zero : k.toNat = 0
  · simp only [zero, if_true, and_true]
    intro i hi
    rw [show min (i + 0) 31 = i by omega]
  · rw [if_neg zero, if_neg zero]
    by_cases small : k.toNat < 32
    · rw [if_pos small, show min (k.toNat - 1) 31 = k.toNat - 1 by omega]
      exact ⟨fun i hi => getLsbD_sshiftRight_word w _ hi, bitAt_eq_getLsbD ..⟩
    · rw [if_neg small, show min (k.toNat - 1) 31 = 31 by omega]
      refine ⟨fun i hi => (getLsbD_sshiftRight_word w 31 hi).trans ?_, bitAt_eq_getLsbD ..⟩
      rw [show min (i + 31) 31 = 31 by omega, show min (i + k.toNat) 31 = 31 by omega]

theorem shiftReg_ror :
    (∀ i < 32, (shiftReg w 3 k c).value.getLsbD i = w.getLsbD ((i + k.toNat) % 32)) ∧
      (shiftReg w 3 k c).carry = if k.toNat = 0 then c else w.getLsbD ((k.toNat + 31) % 32) := by
  have unfolded : shiftReg w 3 k c = if k.toNat = 0 then ⟨w, c⟩ else if k.toNat % 32 = 0 then ⟨w, bitAt w 31⟩
    else ⟨w.rotateRight (k.toNat % 32), bitAt w (k.toNat % 32 - 1)⟩ := rfl
  rw [unfolded]
  by_cases zero : k.toNat = 0
  · simp only [zero, if_true, and_true]
    intro i hi
    rw [show (i + 0) % 32 = i by omega]
  · rw [if_neg zero, if_neg zero]
    by_cases whole : k.toNat % 32 = 0
    · rw [if_pos whole, show (k.toNat + 31) % 32 = 31 by omega]
      refine ⟨fun i hi => ?_, bitAt_eq_getLsbD ..⟩
      rw [show (i + k.toNat) % 32 = i by omega]
    · rw [if_neg whole, show (k.toNat + 31) % 32 = k.toNat % 32 - 1 by omega]
      refine ⟨fun i hi => (getLsbD_rotateRight_word w _ hi).trans ?_, bitAt_eq_getLsbD ..⟩
      rw [show (i + k.toNat % 32) % 32 = (i + k.toNat) % 32 by omega]

end

end Sys2Proof.Machine

namespace Sys2Proof
open Machine

/-- Settles O21, form by form: a rotated immediate, and the four shifts by an immediate and by a register. -/
theorem shifterOperand : Obligations.ShifterOperand := by
  intro s rm rs n rot imm w c m k
  obtain ⟨lsl, lslCarry⟩ := shiftImm_lsl w n c
  obtain ⟨lsr, lsrCarry⟩ := shiftImm_lsr w n c
  obtain ⟨asr, asrCarry⟩ := shiftImm_asr w n c
  obtain ⟨ror, rorCarry⟩ := shiftImm_ror w n c
  obtain ⟨lslReg, lslRegCarry⟩ := shiftReg_lsl w (fld (s.reg rs) 0 8) c
  obtain ⟨lsrReg, lsrRegCarry⟩ := shiftReg_lsr w (fld (s.reg rs) 0 8) c
  obtain ⟨asrReg, asrRegCarry⟩ := shiftReg_asr w (fld (s.reg rs) 0 8) c
  obtain ⟨rorReg, rorRegCarry⟩ := shiftReg_ror w (fld (s.reg rs) 0 8) c
  exact ⟨fun i hi => getLsbD_rotatedImm rot imm hi, immOperand_carry rot imm c,
    fun i hi => ⟨lsl i hi, lsr i hi, asr i hi, ror i hi⟩, lslCarry, lsrCarry, asrCarry, rorCarry,
    fun i hi => ⟨lslReg i hi, lsrReg i hi, asrReg i hi, rorReg i hi⟩, lslRegCarry, lsrRegCarry, asrRegCarry, rorRegCarry⟩

end Sys2Proof
end

section
/-! The data-processing operations (O22 to O24). -/
namespace Sys2Proof.Machine

/-! ## Sums and differences (47_core_instructions.md R750) -/

theorem toInt_cases (x : Word) :
    (x.msb = false ∧ x.toNat < 2 ^ 31 ∧ x.toInt = x.toNat) ∨ (x.msb = true ∧ 2 ^ 31 ≤ x.toNat ∧ x.toInt = x.toNat - 2 ^ 32) := by
  have msb : x.msb = decide (2 ^ 31 ≤ x.toNat) := BitVec.msb_eq_decide x
  by_cases h : 2 ^ 31 ≤ x.toNat
  · exact .inr ⟨by rw [msb, decide_eq_true h], h, by rw [BitVec.toInt_eq_toNat_cond, if_neg (by omega)]; rfl⟩
  · exact .inl ⟨by rw [msb, decide_eq_false h], by omega, by rw [BitVec.toInt_eq_toNat_cond, if_pos (by omega)]⟩

/-- A signed sum overflows where two operands of one sign give a result of the other. -/
theorem sumOverflow_eq_signs (x y : Word) (c : Bool) :
    sumOverflow x y c = (x.msb == y.msb && (x + y + (if c then 1 else 0)).msb != x.msb) := by
  have total : (x + y + (if c then 1 else 0)).toNat = (x.toNat + y.toNat + c.toNat) % 2 ^ 32 := by
    cases c <;> simp [BitVec.toNat_add]
  have bit : c.toNat ≤ 1 := Bool.toNat_le c
  have hx := x.isLt
  have hy := y.isLt
  rw [sumOverflow, Bool.eq_iff_iff, decide_eq_true_eq]
  rcases toInt_cases x with ⟨mx, bx, ix⟩ | ⟨mx, bx, ix⟩ <;> rcases toInt_cases y with ⟨my, by', iy⟩ | ⟨my, by', iy⟩ <;>
    rcases toInt_cases (x + y + (if c then 1 else 0)) with ⟨mr, br, -⟩ | ⟨mr, br, -⟩ <;>
    · simp only [mx, my, mr, ix, iy]
      simp
      omega

theorem addWithCarry_eq (x y : Word) (c : Bool) :
    addWithCarry x y c = ⟨x + y + (if c then 1 else 0), sumCarry x y c, sumOverflow x y c⟩ := by
  rw [sumOverflow_eq_signs]
  rfl

theorem sumCarry_not (x y : Word) (c : Bool) : sumCarry x (~~~ y) c = diffCarry x y (!c) := by
  have := y.isLt
  rw [sumCarry, diffCarry, BitVec.toNat_not, decide_eq_decide]
  cases c <;> simp <;> omega

theorem toInt_not_word (y : Word) : (~~~ y).toInt = -1 - y.toInt := by
  have flipped : (~~~ y).toNat = 2 ^ 32 - 1 - y.toNat := BitVec.toNat_not
  rcases toInt_cases y with ⟨-, by', iy⟩ | ⟨-, by', iy⟩ <;> rcases toInt_cases (~~~ y) with ⟨-, bn, i⟩ | ⟨-, bn, i⟩ <;> omega

theorem sumOverflow_not (x y : Word) (c : Bool) : sumOverflow x (~~~ y) c = diffOverflow x y (!c) := by
  rw [sumOverflow, diffOverflow, toInt_not_word, decide_eq_decide]
  cases c <;> simp <;> omega

theorem addWithCarry_not (x y : Word) (c : Bool) :
    addWithCarry x (~~~ y) c = ⟨x - y - (if c then 0 else 1), diffCarry x y (!c), diffOverflow x y (!c)⟩ := by
  have result : x + ~~~ y + (if c then 1 else 0) = x - y - (if c then 0 else 1) := by
    cases c <;> simp <;> bv_omega
  rw [addWithCarry_eq, result, sumCarry_not, sumOverflow_not]

/-! ## The meanings -/

/-- The meaning of an operation on its first operand and the shifter operand (47_core_instructions.md R751 to R766). -/
def DpOp.run (op : DpOp) (s : State) (sb : Bool) (rd : RegNum) (a : Word) (x : Shifted) : Res Unit :=
  match op with
  | .and => writeLogic s sb rd x.carry (a &&& x.value)
  | .eor => writeLogic s sb rd x.carry (a ^^^ x.value)
  | .sub => writeArith s sb rd (addWithCarry a (~~~ x.value) true)
  | .rsb => writeArith s sb rd (addWithCarry x.value (~~~ a) true)
  | .add => writeArith s sb rd (addWithCarry a x.value false)
  | .adc => writeArith s sb rd (addWithCarry a x.value s.flagC)
  | .sbc => writeArith s sb rd (addWithCarry a (~~~ x.value) s.flagC)
  | .rsc => writeArith s sb rd (addWithCarry x.value (~~~ a) s.flagC)
  | .orr => writeLogic s sb rd x.carry (a ||| x.value)
  | .mov => writeLogic s sb rd x.carry x.value
  | .bic => writeLogic s sb rd x.carry (a &&& ~~~ x.value)
  | .mvn => writeLogic s sb rd x.carry (~~~ x.value)

/-- The meaning of a comparison (47_core_instructions.md R759 to R762). -/
def DpTest.run (op : DpTest) (s : State) (a : Word) (x : Shifted) : Res Unit :=
  match op with
  | .tst => testLogic s x.carry (a &&& x.value)
  | .teq => testLogic s x.carry (a ^^^ x.value)
  | .cmp => testArith s (addWithCarry a (~~~ x.value) true)
  | .cmn => testArith s (addWithCarry a x.value false)

/-- The guard of the register-shifted forms. -/
def DpOperand.guarded (o : DpOperand) (rn rd : RegNum) (r : Res Unit) : Res Unit :=
  match o with
  | .imm _ _ => r
  | .shiftImm _ _ _ => r
  | .shiftReg rs _ rm => noPc [rn, rd, rs, rm] r

theorem exec_dpInstr (op : DpOp) (cc : Cond) (sb : Bool) (rn rd : RegNum) (o : DpOperand) (s : State) :
    exec (dpInstr op cc sb rn rd o) s = whenPasses cc s fun s => o.guarded rn rd (op.run s sb rd (s.reg rn) (o.eval s)) := by
  cases o <;> cases op <;> rfl

theorem exec_testInstr (op : DpTest) (cc : Cond) (rn rd : RegNum) (o : DpOperand) (s : State) :
    exec (testInstr op cc rn rd o) s = whenPasses cc s fun s => o.guarded rn rd (op.run s (s.reg rn) (o.eval s)) := by
  cases o <;> cases op <;> rfl

theorem DpOperand.guarded_of_usable {o : DpOperand} {rn rd : RegNum} (h : o.usable [rn, rd]) (r : Res Unit) :
    o.guarded rn rd r = r := by
  cases o with
  | imm rot imm => rfl
  | shiftImm amount ty rm => rfl
  | shiftReg rs ty rm =>
    have free : ¬ [rn, rd, rs, rm].contains 15 = true := fun c => h (by simp at c ⊢; tauto)
    exact if_neg free

theorem DpOperand.guarded_of_not_usable {o : DpOperand} {rn rd : RegNum} (h : ¬ o.usable [rn, rd]) (r : Res Unit) :
    o.guarded rn rd r = .refused .unpredictableForm := by
  cases o with
  | imm rot imm => exact absurd trivial h
  | shiftImm amount ty rm => exact absurd trivial h
  | shiftReg rs ty rm =>
    have listed : [rn, rd, rs, rm].contains 15 = true := by
      have := not_not.1 h
      simp at this ⊢
      tauto
    exact if_pos listed

theorem addWithCarry_false (x y : Word) : addWithCarry x y false = ⟨x + y, sumCarry x y false, sumOverflow x y false⟩ :=
  (addWithCarry_eq x y false).trans (congrArg (Sum.mk · _ _) (BitVec.add_zero _))

theorem addWithCarry_not_true (x y : Word) :
    addWithCarry x (~~~ y) true = ⟨x - y, diffCarry x y false, diffOverflow x y false⟩ :=
  (addWithCarry_not x y true).trans (congrArg (Sum.mk · _ _) (BitVec.sub_zero _))

/-- Every operation writes its result, with the flags of that result (47_core_instructions.md R750). -/
theorem DpOp.run_eq (op : DpOp) (s : State) (sb : Bool) (rd : RegNum) (a : Word) (x : Shifted) :
    op.run s sb rd a x = writeResult s sb rd (op.result a x.value s.flagC) fun t =>
      t.setNzcv (op.result a x.value s.flagC).msb (op.result a x.value s.flagC == 0) (op.carry a x.value s.flagC x.carry)
        (op.overflow a x.value s.flagC t.flagV) := by
  cases op with
  | and | eor | orr | mov | bic | mvn => rfl
  | adc => rw [DpOp.run, addWithCarry_eq]; rfl
  | sbc | rsc => rw [DpOp.run, addWithCarry_not]; rfl
  | add => rw [DpOp.run, addWithCarry_false]; rfl
  | sub | rsb => rw [DpOp.run, addWithCarry_not_true]; rfl

theorem bank_setNzcv (s : State) (n z c v : Bool) : (s.setNzcv n z c v).bank = s.bank :=
  congrArg bankOf (fld_congr fun i hi => by
    rw [getLsbD_setNzcv s n z c v (by omega)]
    iterate 4 rw [if_neg (by omega)])

/-- A register written with the flags of the value, or without. -/
theorem resultWritten_setReg (s : State) (sb : Bool) {rd : RegNum} (hrd : rd ≠ 15) (v : Word) (c o : Bool) :
    ResultWritten s ((if sb then s.setNzcv v.msb (v == 0) c o else s).setReg rd v).advance sb rd v c o := by
  cases sb with
  | false =>
    obtain ⟨value, regs, psrs, pc, core, -⟩ := wroteReg_setReg_advance s hrd v
    exact ⟨value, regs, pc, core, psrs⟩
  | true =>
    let u := s.setNzcv v.msb (v == 0) c o
    have bank : u.bank = s.bank := bank_setNzcv ..
    obtain ⟨value, regs, psrs, pc, core, -⟩ := wroteReg_setReg_advance u hrd v
    have past : u.past = s.past := State.past_congr rfl (tBit_setNzcv ..) rfl
    have flags : OnlyFlags s (u.setReg rd v).advance ∧ FlagsAre (u.setReg rd v).advance v.msb (v == 0) c o := by
      have same : (u.setReg rd v).advance.cpsr = u.cpsr := congrArg Psrs.cpsr psrs
      simp only [OnlyFlags, FlagsAre, State.flagN, State.flagZ, State.flagC, State.flagV, psrs, same]
      exact ⟨onlyFlags_setNzcv s v.msb (v == 0) c o, flagsAre_setNzcv s v.msb (v == 0) c o⟩
    exact ⟨bank ▸ value, fun k hk apart => regs k hk (bank ▸ apart), pc.trans past, core, flags⟩

theorem compared_setNzcv (s : State) (v : Word) (c o : Bool) :
    Compared s (s.setNzcv v.msb (v == 0) c o).advance v c o := by
  rw [advance_setNzcv]
  exact ⟨rfl, rfl, rfl, onlyFlags_setNzcv s v.msb (v == 0) c o, flagsAre_setNzcv s v.msb (v == 0) c o⟩

/-! ## The PC as the destination (47_core_instructions.md R706, R723) -/

theorem aluWritePc_aligned {s : State} (running : s.halted = false) (arm : s.tBit = false) {v : Word} (h : fld v 0 2 = 0#2) :
    aluWritePc s v = .ok () (s.setPc v) := by
  simp [aluWritePc, arm, running, h, State.writePc, markWritten_of_running (s := s.setPc v) running]

theorem aluWritePc_misaligned {s : State} (running : s.halted = false) (arm : s.tBit = false) {v : Word} (h : fld v 0 2 ≠ 0#2) :
    aluWritePc s v = .refused .misalignedPc := by
  simp [aluWritePc, arm, running, h]

/-- What a write of the CPSR outside debug state leaves (60_exceptions.md R531, 10_state.md R33). -/
def State.withStatus (s : State) (v : Word) : State :=
  { s with
    psrs := { s.psrs with cpsr := cpsrWritten s v }
    stuck := s.stuck || !legalMode (fld (cpsrWritten s v) 0 5) }

theorem writeCpsr_of_running {s : State} (running : s.halted = false) (v : Word) : s.writeCpsr v = s.withStatus v := by
  simp only [State.writeCpsr, running]
  rfl

theorem returnWritePc_of_running {s : State} (running : s.halted = false) (v : Word) :
    returnWritePc s v = s.setPc (if s.tBit then v &&& 0xFFFFFFFE else if s.jBit then v else v &&& 0xFFFFFFFC) := by
  have plain (x : Word) : s.writePc x = s.setPc x := markWritten_of_running (s := s.setPc x) running
  simp only [returnWritePc, plain, apply_ite s.setPc]

theorem setBit_bitAt (w : Word) (k : Nat) : setBit w k (bitAt w k) = w := BitVec.eq_of_getLsbD_eq fun i hi => by
  rw [getLsbD_setBit _ _ _ _ hi, bitAt_eq_getLsbD]
  split
  · next e => rw [e]
  · rfl

/-- What NMFI leaves of a value written to the CPSR (60_exceptions.md R531). -/
theorem cpsrWritten_eq (s : State) (v : Word) :
    cpsrWritten s v = if s.ctlNmfi && !s.fBit then v &&& 0xFFFFFFBF else v := by
  have clear : setBit v 6 false = v &&& 0xFFFFFFBF := setBit_false v 6
  have keep : setBit v 6 (bitAt v 6) = v := setBit_bitAt v 6
  rw [cpsrWritten]
  cases s.ctlNmfi <;> cases s.fBit <;> simp [clear, keep]

/-- A return outside debug state from a privileged mode. -/
theorem returned_exceptionReturn {s : State} (running : s.halted = false) (priv : s.privileged = true) (psr target : Word) :
    Returned s (exceptionReturn s psr target) psr target ∧ (exceptionReturn s psr target).regs = s.regs := by
  have psr' : cpsrByReturn s psr = psr &&& psrMask := if_pos priv
  rw [exceptionReturn, writeCpsr_of_running running, psr',
    returnWritePc_of_running (s := s.withStatus _) running]
  exact ⟨⟨rfl, cpsrWritten_eq .., rfl, rfl, rfl⟩, rfl⟩

theorem privileged_of_spsr {s : State} {psr : Word} (h : s.spsr = some psr) : s.privileged = true := by
  refine privileged_of_not_user fun user => ?_
  have bank : s.bank = .usr := by rw [State.bank, user]; rfl
  rw [State.spsr, bank] at h
  cases h

theorem returnFromSpsr_some {s : State} {psr : Word} (h : s.spsr = some psr) (v : Word) :
    returnFromSpsr s v = .ok () (exceptionReturn s psr v) := by rw [returnFromSpsr, h]

theorem returnFromSpsr_none {s : State} (h : s.spsr = none) (v : Word) : returnFromSpsr s v = .refused .noSpsr := by
  rw [returnFromSpsr, h]

/-- An instruction that its condition lets through and that is refused. -/
theorem exec_refused {i : Instr} {s : State} {m : State → Res Unit} {cc : Cond} {r : Refusal} (pass : s.passes cc = true)
    (e : exec i s = whenPasses cc s m) (h : m s = .refused r) : exec i s = .refused r := by
  rw [e, whenPasses_passed _ pass, h, finish]

theorem exec_ok {i : Instr} {s t : State} {m : State → Res Unit} {cc : Cond} (pass : s.passes cc = true)
    (e : exec i s = whenPasses cc s m) (h : m s = .ok () t) : exec i s = .next t := by
  rw [e, whenPasses_passed _ pass, h, finish]

end Sys2Proof.Machine

namespace Sys2Proof
open Machine

/-- Settles O22: every instruction is its operation behind the guard of its operand form (`exec_dpInstr`), and an operation writes
its result with the flags (`DpOp.run_eq`). -/
theorem dataProcessing : Obligations.DataProcessing := by
  intro op cc sb rn rd o s pass a x
  refine ⟨fun hrd usable => gives_of_passes pass (exec_dpInstr ..) ⟨_, ?_, resultWritten_setReg s sb hrd ..⟩, fun bad =>
    exec_refused pass (exec_dpInstr ..) (DpOperand.guarded_of_not_usable bad _)⟩
  rw [DpOperand.guarded_of_usable usable, DpOp.run_eq, writeResult, if_neg hrd]

/-- Settles O23: every comparison writes the flags of its result. -/
theorem comparisons : Obligations.Comparisons := by
  intro cc rn rd o s pass usable a x
  have gives (op : DpTest) {v : Word} {c f : Bool} (run : op.run s a x = .ok () (s.setNzcv v.msb (v == 0) c f).advance) :
      Gives (testInstr op cc rn rd o) s fun t => Compared s t v c f :=
    gives_of_passes pass (exec_testInstr ..) ⟨_, (DpOperand.guarded_of_usable usable _).trans run, compared_setNzcv ..⟩
  refine ⟨gives .tst rfl, gives .teq rfl, gives .cmp ?_, gives .cmn ?_⟩
  · rw [DpTest.run, addWithCarry_not_true]
    rfl
  · rw [DpTest.run, addWithCarry_false]
    rfl

/-- Settles O24: a result in the PC is a branch (`aluWritePc_aligned`) or, with S, a return (`returned_exceptionReturn`). -/
theorem programCounterDestination : Obligations.ProgramCounterDestination := by
  intro op cc rn o s pass running arm usable v
  have free : o.usable [rn, 15] := by
    cases o with
    | imm rot imm => trivial
    | shiftImm amount ty rm => trivial
    | shiftReg rs ty rm => exact absurd (by simp) usable
  have plain : o.guarded rn 15 (op.run s false 15 (s.reg rn) (o.eval s)) = aluWritePc s v := by
    rw [DpOperand.guarded_of_usable free, DpOp.run_eq]
    rfl
  have returns : o.guarded rn 15 (op.run s true 15 (s.reg rn) (o.eval s)) = returnFromSpsr s v := by
    rw [DpOperand.guarded_of_usable free, DpOp.run_eq]
    rfl
  refine ⟨fun al => exec_ok pass (exec_dpInstr ..) (plain.trans (aluWritePc_aligned running arm al)),
    fun al => exec_refused pass (exec_dpInstr ..) (plain.trans (aluWritePc_misaligned running arm al)),
    fun psr some => ?_, fun none => exec_refused pass (exec_dpInstr ..) (returns.trans (returnFromSpsr_none none v))⟩
  exact gives_of_passes pass (exec_dpInstr ..) ⟨_, returns.trans (returnFromSpsr_some some v),
    returned_exceptionReturn running (privileged_of_spsr some) psr v⟩

end Sys2Proof
end

section
/-! Branches, multiplies and CLZ (O25 to O27). -/
namespace Sys2Proof.Machine

/-! ## Instructions outside debug state -/

theorem gives_of_branches {i : Instr} {s : State} {m : State → Res Unit} {cc : Cond} {P : State → Prop}
    (pass : s.passes cc = true) (e : exec i s = whenBranches cc s m) (h : ∃ t, m s = .ok () t ∧ P t) : Gives i s P := by
  obtain ⟨t, run, holds⟩ := h
  exact ⟨t, by rw [e, whenBranches, if_pos pass, run, finish], holds⟩

theorem branch_refused {i : Instr} {s : State} {m : State → Res Unit} {cc : Cond} {r : Refusal} (pass : s.passes cc = true)
    (e : exec i s = whenBranches cc s m) (h : m s = .refused r) : exec i s = .refused r := by
  rw [e, whenBranches, if_pos pass, h, finish]

theorem writePc_of_running {s : State} (running : s.halted = false) (v : Word) : s.writePc v = s.setPc v :=
  markWritten_of_running (s := s.setPc v) running

theorem readPc_of_arm {s : State} (running : s.halted = false) (arm : s.tBit = false) : s.readPc = s.pc + 8 := by
  simp [State.readPc, State.thumb, running, arm]

/-- The link of a branch (47_core_instructions.md R767): r14 holds the address of the next instruction. -/
theorem setLink_spec {s : State} (running : s.halted = false) (arm : s.tBit = false) :
    RegsBut s s.setLink [14] ∧ s.setLink.bankReg s.bank 14 = s.pc + 4 ∧ s.setLink = { s with regs := s.setLink.regs } := by
  have next : s.linkAddress = s.pc + 4 := by
    rw [State.linkAddress, readPc_of_arm running arm]
    bv_omega
  exact ⟨regsBut_setReg s 14 _, (bankReg_setReg (by decide) _ rfl).trans next, State.setReg_eq s 14 _⟩

/-! ## Targets -/

/-- The offset field counts words (47_core_instructions.md R767). -/
theorem shifted_offset (imm : BitVec 24) : imm.signExtend 32 <<< 2 = BitVec.ofInt 32 (imm.toInt * 4) := by
  rw [BitVec.shiftLeft_eq_mul_twoPow, BitVec.ofInt_mul]
  rfl

theorem branchTarget_of_arm {s : State} (running : s.halted = false) (arm : s.tBit = false) (imm : BitVec 24) :
    branchTarget s imm = s.pc + 8 + BitVec.ofInt 32 (imm.toInt * 4) := by
  rw [branchTarget, readPc_of_arm running arm, shifted_offset]

/-! ## Interworking (47_core_instructions.md R705) -/

theorem fld_two_eq {v : Word} : fld v 0 2 = 2#2 ↔ bitAt v 0 = false ∧ bitAt v 1 = true := by
  have low : fld v 0 2 = BitVec.ofBool (bitAt v 1) ++ BitVec.ofBool (bitAt v 0) := by
    rw [ofBool_bitAt, ofBool_bitAt, ← fld_join v 0 1 1]
  rw [low]
  cases bitAt v 0 <;> cases bitAt v 1 <;> decide

theorem setThumb_true (w : Word) : setBit w 5 true = w ||| 0x20 := setBit_true w 5
theorem setThumb_false (w : Word) : setBit w 5 false = w &&& 0xFFFFFFDF := setBit_false w 5

theorem bxWritePc_interworks {s : State} (running : s.halted = false) {v : Word} (h : fld v 0 2 ≠ 2#2) :
    ∃ t, bxWritePc s v = .ok () t ∧ Interworked s t v ∧ t.regs = s.regs ∧ CoreOnly s t := by
  have plain (c x : Word) : (s.setCpsr c).writePc x = (s.setCpsr c).setPc x := writePc_of_running (s := s.setCpsr c) running x
  by_cases thumb : bitAt v 0 = true
  · refine ⟨(s.setCpsr (s.cpsr ||| 0x20)).setPc (v &&& 0xFFFFFFFE), ?_, ⟨rfl, ?_⟩, rfl, rfl⟩
    · rw [bxWritePc, if_pos thumb, plain, setThumb_true]
    · rw [if_pos thumb]
      exact ⟨rfl, rfl⟩
  · have aligned : bitAt v 1 ≠ true := fun one => h (fld_two_eq.2 ⟨by simpa using thumb, one⟩)
    refine ⟨(s.setCpsr (s.cpsr &&& 0xFFFFFFDF)).setPc v, ?_, ⟨rfl, ?_⟩, rfl, rfl⟩
    · rw [bxWritePc, if_neg thumb, if_neg aligned, plain, setThumb_false]
    · rw [if_neg thumb]
      exact ⟨rfl, rfl⟩

theorem bxWritePc_misaligned (s : State) {v : Word} (h : fld v 0 2 = 2#2) : bxWritePc s v = .refused .misalignedPc := by
  obtain ⟨zero, one⟩ := fld_two_eq.1 h
  simp [bxWritePc, zero, one]

/-- How a branch interworks depends only on the status registers before it. -/
theorem Interworked.congr {s u t : State} {v : Word} (h : Interworked u t v) (psrs : u.psrs = s.psrs) : Interworked s t v := by
  unfold Interworked State.cpsr at *
  rwa [psrs] at h

/-! ## Multiplies and CLZ -/

theorem setNz_eq (s : State) (v : Word) : s.setNz v = s.setNzcv v.msb (v == 0) s.flagC s.flagV := rfl

theorem ofNat_mul_toNat (x y : Word) : BitVec.ofNat 32 (x.toNat * y.toNat) = x * y := by
  rw [BitVec.ofNat_mul, BitVec.ofNat_toNat, BitVec.ofNat_toNat, BitVec.setWidth_eq, BitVec.setWidth_eq]

/-- The count of zeros above the highest bit set (47_core_instructions.md R774). -/
theorem leadingZeros_spec (w : Word) : ∀ n : Nat, leadingZeros w n ≤ n ∧
    (∀ i < n, n - leadingZeros w n ≤ i → w.getLsbD i = false) ∧
      (leadingZeros w n < n → w.getLsbD (n - 1 - leadingZeros w n) = true)
  | 0 => ⟨le_rfl, nofun, nofun⟩
  | n + 1 => by
    obtain ⟨le, zeros, one⟩ := leadingZeros_spec w n
    rw [leadingZeros]
    by_cases top : bitAt w n = true
    · rw [if_pos top]
      exact ⟨by omega, fun i hi low => absurd hi (by omega), fun _ => (bitAt_eq_getLsbD w n).symm.trans top⟩
    · rw [if_neg top]
      refine ⟨by omega, fun i hi low => ?_, fun lt => ?_⟩
      · by_cases e : i = n
        · rw [e, ← bitAt_eq_getLsbD]
          simpa using top
        · exact zeros i (by omega) (by omega)
      · rw [show n + 1 - 1 - (leadingZeros w n + 1) = n - 1 - leadingZeros w n by omega]
        exact one (by omega)

theorem or_gather (a b c d e f x y : Word) :
    a ||| b ||| c ||| d ||| x ||| e ||| f ||| y = a ||| (b ||| c ||| d ||| e ||| f) ||| x ||| y := by ac_rfl

/-- The word of CLZ has its fixed bits in one constant. -/
theorem encode_clz (cc : Cond) (rd rm : RegNum) :
    encode (.clz cc rd rm) = .arm (put cc 28 ||| 0x016F0F10 ||| put rd 12 ||| put rm 0) := by
  have fixed : put 0#3 25 ||| put 0x16#5 20 ||| put 15#4 16 ||| put 15#4 8 ||| put 1#4 4 = (0x016F0F10 : Word) := by decide
  exact congrArg Code.arm ((or_gather (put cc 28) _ _ _ _ _ (put rd 12) (put rm 0)).trans
    (congrArg (put cc 28 ||| · ||| put rd 12 ||| put rm 0) fixed))

theorem encode_mul_word (cc : Cond) (sb : Bool) (rd rs rm : RegNum) : encode (.mul cc sb rd rs rm) =
    .arm (put cc 28 ||| flag sb 20 ||| put rd 16 ||| put rs 8 ||| put 0b1001#4 4 ||| put rm 0) := by
  have high : put cc 28 ||| put 0#7 21 = put cc 28 := by rw [put_zeros, BitVec.or_zero]
  have low (w : Word) : w ||| put 0#4 12 = w := by rw [put_zeros, BitVec.or_zero]
  change Code.arm (put cc 28 ||| put 0#7 21 ||| flag sb 20 ||| put rd 16 ||| put 0#4 12 ||| put rs 8 ||| _ ||| _) = _
  rw [high, low]

/-- With r15 as an operand the instruction is refused, otherwise its value is written with the flags N and Z. -/
theorem multiply_result {i : Instr} {s : State} {cc : Cond} {sb : Bool} {rd : RegNum} {l : List RegNum} {v : Word}
    (e : exec i s = whenPasses cc s fun _ => if l.contains 15 then .refused .unpredictableForm
      else .ok () ((if sb then s.setNz v else s).setReg rd v).advance)
    (pass : s.passes cc = true) :
    ((∃ r ∈ l, r = 15) → exec i s = .refused .unpredictableForm) ∧
      ((∀ r ∈ l, r ≠ 15) → rd ≠ 15 → Gives i s fun t => ResultWritten s t sb rd v s.flagC s.flagV) := by
  refine ⟨fun ⟨r, mem, h⟩ => exec_refused pass e (if_pos (List.contains_iff_mem.2 (h ▸ mem))), fun h hrd => gives_of_passes pass e ⟨_,
    if_neg fun c => h 15 (List.contains_iff_mem.1 c) rfl, ?_⟩⟩
  simp only [setNz_eq]
  exact resultWritten_setReg s sb hrd v s.flagC s.flagV

end Sys2Proof.Machine

namespace Sys2Proof
open Machine

/-- Settles O25: the values are those of `multiply_result`, the count that of `leadingZeros_spec`. -/
theorem multiplyAndCount : Obligations.MultiplyAndCount := by
  intro s cc sb rd rn rs rm
  have mul := multiply_result (i := .mul cc sb rd rs rm) (s := s) (cc := cc) (sb := sb) (rd := rd) (l := [rd, rs, rm])
    (v := s.reg rm * s.reg rs)
  have mla := multiply_result (i := .mla cc sb rd rn rs rm) (s := s) (cc := cc) (sb := sb) (rd := rd) (l := [rd, rn, rs, rm])
    (v := s.reg rm * s.reg rs + s.reg rn)
  refine ⟨encode_mul_word .., rfl, decode_of_encode_eq (by decide) (by decide), decode_of_encode_eq (by decide) (by decide), ?_, ?_,
    ?_, encode_clz cc rd rm, decode_of_encode_eq (by decide) (by decide), ?_, ?_⟩
  · intro pass hd hs hm
    rw [BitVec.ofNat_add, ofNat_mul_toNat, BitVec.ofNat_toNat, BitVec.setWidth_eq]
    exact ⟨(mul rfl pass).2 (by simpa using ⟨hd, hs, hm⟩) hd,
      fun hn => (mla rfl pass).2 (by simpa using ⟨hd, hn, hs, hm⟩) hd⟩
  · exact fun pass h => (mul rfl pass).1 (by simpa [eq_comm] using h)
  · exact fun pass h => (mla rfl pass).1 (by simpa [eq_comm] using h)
  · intro pass hrd
    obtain ⟨le, zeros, one⟩ := leadingZeros_spec (s.reg rm) 32
    refine ⟨leadingZeros (s.reg rm) 32, le, zeros, one, fun e => ?_, gives_of_passes pass
      (rfl : execClz cc rd rm s = _) ⟨_, if_neg hrd, resultWritten_setReg s false hrd _ false false⟩⟩
    rw [e]
    rfl
  · exact fun pass => exec_refused pass (rfl : execClz cc 15 rm s = _) (if_pos rfl)

/-- Settles O26: a branch writes the PC (`branchTarget_of_arm`), BL the link before it (`setLink_spec`). -/
theorem branchAndLink : Obligations.BranchAndLink := by
  intro s cc imm
  refine ⟨rfl, ?_, decode_of_encode_eq (by decide) (by decide), decode_of_encode_eq (by decide) (by decide), ?_⟩
  · have op : put 11#4 24 = put 0b101#3 25 ||| flag true 24 := by decide
    change Code.arm (put cc 28 ||| put 11#4 24 ||| put imm 0) = _
    rw [op, ← BitVec.or_assoc (put cc 28)]
  · intro running arm pass target
    have e : branchTarget s imm = target := branchTarget_of_arm running arm imm
    obtain ⟨kept, link, only⟩ := setLink_spec running arm
    constructor
    · obtain ⟨t, next, eq⟩ := gives_of_branches (i := .b cc imm) (P := (· = s.setPc target)) pass (rfl : execB cc imm s = _)
        ⟨_, rfl, (writePc_of_running running _).trans (congrArg _ e)⟩
      exact next.trans (congrArg _ eq)
    · refine gives_of_branches pass (rfl : execBl cc imm s = _) ⟨s.setLink.setPc target, ?_, ?_, kept, link⟩
      · rw [e, writePc_of_running (s := s.setLink) running]
      · rw [only]
        rfl

/-- Settles O27: the register forms are `bxWritePc`, after the link in BLX; the immediate form sets T and branches. -/
theorem branchExchange : Obligations.BranchExchange := by
  intro s cc rm h imm running arm v link
  obtain ⟨kept, next, only⟩ := setLink_spec running arm
  refine ⟨fun pass hrm even => ?_, fun pass hrm odd => ?_, ?_⟩
  · obtain ⟨t, run, interworked, regs, core⟩ := bxWritePc_interworks running even
    obtain ⟨u, run', interworked', regs', core'⟩ := bxWritePc_interworks (s := s.setLink) running even
    refine ⟨gives_of_branches pass (rfl : execBx cc rm s = _) ⟨t, (if_neg hrm).trans run, interworked, regs, core⟩,
      gives_of_branches pass (rfl : execBxj cc rm s = _) ⟨t, (if_neg hrm).trans run, interworked, regs, core⟩,
      gives_of_branches pass (rfl : execBlxReg cc rm s = _) ⟨u, (if_neg hrm).trans run', interworked'.congr rfl, ?_, ?_⟩⟩
    · exact ⟨kept.of_regs regs', by rw [← next, State.bankReg, State.bankReg, regs']⟩
    · exact core'.trans (by rw [only])
  · exact ⟨branch_refused pass (rfl : execBx cc rm s = _) ((if_neg hrm).trans (bxWritePc_misaligned s odd)),
      branch_refused pass (rfl : execBxj cc rm s = _) ((if_neg hrm).trans (bxWritePc_misaligned s odd)),
      branch_refused pass (rfl : execBlxReg cc rm s = _) ((if_neg hrm).trans (bxWritePc_misaligned s.setLink odd))⟩
  · let u := s.setLink.setCpsr (s.cpsr ||| 0x20)
    refine ⟨u.setPc (branchTarget s imm + flag h 1), ?_, rfl, ⟨kept, next⟩, ?_, ?_⟩
    · change finish (.ok () ((s.setLink.setCpsr (setBit s.cpsr 5 true)).writePc (branchTarget s imm + flag h 1))) = _
      rw [setThumb_true, writePc_of_running (s := u) running, finish]
    · change CoreOnly s ((s.setLink.setCpsr _).setPc _)
      rw [only]
      rfl
    · change branchTarget s imm + flag h 1 = _
      rw [branchTarget_of_arm running arm, BitVec.ofInt_add, BitVec.add_assoc]
      cases h <;> rfl

end Sys2Proof
end

section
/-! Status registers, hints and SWI (O15, O36, O37, O39). -/
namespace Sys2Proof.Machine

/-! ## Hints and SETEND -/

theorem exec_of_passes {i : Instr} {s t : State} {m : State → Res Unit} {cc : Cond} (pass : s.passes cc = true)
    (e : exec i s = whenPasses cc s m) (h : m s = .ok () t.advance) : exec i s = .next { t with pc := t.past } := by
  rw [exec_ok pass e h, State.advance_eq]

/-- A write of the CPSR by which T stays, and the PC moved on. -/
theorem advance_setCpsr {s : State} {v : Word} (same : v.getLsbD 5 = s.cpsr.getLsbD 5) :
    (s.setCpsr v).advance = { s.setCpsr v with pc := s.past } := by
  have tBit : (s.setCpsr v).tBit = s.tBit := by
    change bitAt v 5 = bitAt s.cpsr 5
    rwa [bitAt_eq_getLsbD, bitAt_eq_getLsbD]
  rw [State.advance_eq, State.past_congr (t := s.setCpsr v) (s := s) rfl tBit rfl]

theorem setEndian_advance (s : State) (e : Bool) : (s.setCpsr (setBit s.cpsr 9 e)).advance = { s with
    pc := s.past
    psrs := { s.psrs with cpsr := if e then s.cpsr ||| 0x00000200 else s.cpsr &&& 0xFFFFFDFF } } := by
  have value : setBit s.cpsr 9 e = if e then s.cpsr ||| 0x00000200 else s.cpsr &&& 0xFFFFFDFF := by
    cases e
    · exact setBit_false s.cpsr 9
    · exact setBit_true s.cpsr 9
  rw [advance_setCpsr ((getLsbD_setBit _ _ _ _ (by omega)).trans (if_neg (by omega))), value]
  rfl

/-! ## Writes of the CPSR (60_exceptions.md R531) -/

/-- NMFI lets F be cleared only. -/
theorem getLsbD_cpsrWritten (s : State) (v : Word) {k : Nat} (hk : k < 32) :
    (cpsrWritten s v).getLsbD k = (v.getLsbD k && !(k == 6 && s.ctlNmfi && !s.fBit)) := by
  rw [cpsrWritten]
  cases s.ctlNmfi with
  | false => simp
  | true =>
    rw [if_pos rfl, getLsbD_setBit _ _ _ _ hk]
    by_cases e : k = 6
    · simp [e, bitAt_eq_getLsbD, Bool.and_comm]
    · simp [e]

theorem getLsbD_fBit (s : State) : s.cpsr.getLsbD 6 = s.fBit := (bitAt_eq_getLsbD ..).symm

/-- A write of the CPSR outside debug state by which T stays, and the PC moved on. -/
theorem advance_writeCpsr {s : State} (running : s.halted = false) {v : Word} (same : v.getLsbD 5 = s.cpsr.getLsbD 5) :
    (s.writeCpsr v).advance = { s.withStatus v with pc := s.past } := by
  have tBit : (s.withStatus v).tBit = s.tBit := by
    change bitAt (cpsrWritten s v) 5 = bitAt s.cpsr 5
    rw [bitAt_eq_getLsbD, bitAt_eq_getLsbD, getLsbD_cpsrWritten s v (by omega), same]
    simp
  rw [writeCpsr_of_running running, State.advance_eq, State.past_congr (t := s.withStatus v) (s := s) rfl tBit rfl]

/-! ## MRS and MSR (47_core_instructions.md R716) -/

theorem getLsbD_byteLanes : ∀ (mask : BitVec 4), ∀ k < 32, (byteLanes mask).getLsbD k = mask.getLsbD (k / 8) := by decide

/-- Bits of one value in the place of those of another that a mask selects. -/
theorem getLsbD_merge (old v m : Word) {k : Nat} (hk : k < 32) :
    ((old &&& ~~~ m) ||| (v &&& m)).getLsbD k = if m.getLsbD k then v.getLsbD k else old.getLsbD k := by
  simp only [BitVec.getLsbD_or, BitVec.getLsbD_and, BitVec.getLsbD_not, hk, decide_true, Bool.true_and]
  cases m.getLsbD k <;> simp

theorem msrWritable_eq {s : State} (running : s.halted = false) :
    msrWritable s = if s.mode = modeUser then 0xF80F0200 else 0xF80F03DF := by
  by_cases user : s.mode = modeUser
  · rw [msrWritable, unprivileged_of_user running user, if_pos user]
    rfl
  · rw [msrWritable, privileged_of_not_user user, if_neg user]
    rfl

theorem moveToStatus_cpsr {s : State} (running : s.halted = false) (mask : BitVec 4) (v : Word) :
    ∃ t, moveToStatus false mask v s = .ok () t ∧
      (∀ k < 32, t.cpsr.getLsbD k =
        if mask.getLsbD (k / 8) && (if s.mode = modeUser then (0xF80F0200 : Word) else 0xF80F03DF).getLsbD k then
          v.getLsbD k && !(k == 6 && s.ctlNmfi && !s.fBit)
        else s.cpsr.getLsbD k) ∧
      t.stuck = (s.stuck || !legalMode t.mode) ∧
      t = { s with psrs := { s.psrs with cpsr := t.cpsr }, stuck := t.stuck, pc := s.past } := by
  let m := byteLanes mask &&& msrWritable s
  have selected {k : Nat} (hk : k < 32) : m.getLsbD k =
      (mask.getLsbD (k / 8) && (if s.mode = modeUser then (0xF80F0200 : Word) else 0xF80F03DF).getLsbD k) := by
    rw [BitVec.getLsbD_and, getLsbD_byteLanes mask _ hk, msrWritable_eq running]
  have thumb : m.getLsbD 5 = false := by
    rw [selected (by omega)]
    split <;> simp
  have same : ((s.cpsr &&& ~~~ m) ||| (v &&& m)).getLsbD 5 = s.cpsr.getLsbD 5 := by
    rw [getLsbD_merge _ _ _ (by omega), thumb]
    rfl
  refine ⟨_, congrArg (Res.ok ()) (advance_writeCpsr running same), fun k hk => ?_, rfl, rfl⟩
  change (cpsrWritten s _).getLsbD k = _
  rw [getLsbD_cpsrWritten _ _ hk, getLsbD_merge _ _ _ hk, ← selected hk]
  cases h : m.getLsbD k with
  | true => rfl
  | false =>
    by_cases e : k = 6
    · rw [e, getLsbD_fBit]
      cases s.fBit <;> simp
    · simp [e]

theorem bank_ne_usr_of_spsr {s : State} {old : Word} (h : s.spsr = some old) : s.bank ≠ .usr := fun e => by
  rw [State.spsr, e] at h
  cases h

theorem moveToStatus_spsr {s : State} {old : Word} (h : s.spsr = some old) (mask : BitVec 4) (v : Word) :
    ∃ t, moveToStatus true mask v s = .ok () t ∧
      (∃ new : Word, t.spsr = some new ∧ ∀ k < 32, new.getLsbD k =
        (psrMask.getLsbD k && if mask.getLsbD (k / 8) then v.getLsbD k else old.getLsbD k)) ∧
      t.cpsr = s.cpsr ∧ (∀ b, b ≠ s.bank → t.psrs.spsr b = s.psrs.spsr b) ∧ t = { s with psrs := t.psrs, pc := s.past } := by
  let new : Word := ((old &&& ~~~ byteLanes mask) ||| (v &&& byteLanes mask)) &&& psrMask
  let u : State := { s.setSpsr s.bank new with pc := s.past }
  have cpsr : (s.setSpsr s.bank new).cpsr = s.cpsr := Psrs.setSpsr_cpsr ..
  have run : moveToStatus true mask v s = .ok () u := by
    rw [moveToStatus, if_pos rfl, h]
    change Res.ok () (s.setSpsr s.bank new).advance = _
    rw [State.advance_eq, State.past_congr (t := s.setSpsr s.bank new) (s := s) rfl (by rw [State.tBit, cpsr]; rfl) rfl]
  have bank : u.bank = s.bank := congrArg (fun w : Word => bankOf (fld w 0 5)) cpsr
  refine ⟨u, run, ⟨new, ?_, fun k hk => ?_⟩, cpsr, fun b other => ?_, rfl⟩
  · rw [State.spsr, bank]
    exact (Psrs.spsr_setSpsr ..).trans (if_pos ⟨rfl, bank_ne_usr_of_spsr h⟩)
  · rw [BitVec.getLsbD_and, getLsbD_merge _ _ _ hk, getLsbD_byteLanes mask _ hk, Bool.and_comm]
  · exact (Psrs.spsr_setSpsr ..).trans (if_neg fun both => other both.1)

theorem moveToStatus_noSpsr {s : State} (h : s.spsr = none) (mask : BitVec 4) (v : Word) :
    moveToStatus true mask v s = .refused .noSpsr := by
  rw [moveToStatus, if_pos rfl, h]

theorem writeStatus_register (s : State) {rd : RegNum} (hrd : rd ≠ 15) (v : Word) :
    writeStatus s rd v = .ok () (s.setReg rd v).advance := if_neg hrd

theorem exec_msrReg {s : State} {cc : Cond} (pass : s.passes cc = true) (r : Bool) (mask : BitVec 4) (rm : RegNum) :
    exec (.msrReg cc r mask rm) s = whenPasses cc s (moveToStatus r mask (s.reg rm)) := by
  have e : exec (.msrReg cc r mask rm) s = whenPasses cc s fun t => moveToStatus r mask (t.reg rm) t := rfl
  rw [e, whenPasses_passed _ pass, whenPasses_passed _ pass]

theorem exec_msrImm (s : State) (cc : Cond) (r : Bool) (mask rot : BitVec 4) (imm : BitVec 8) :
    exec (.msrImm cc r mask rot imm) s = whenPasses cc s (moveToStatus r mask ((DpOperand.imm rot imm).eval s).value) := by
  have e : exec (.msrImm cc r mask rot imm) s = whenPasses cc s (moveToStatus r mask (rotatedImm rot imm)) := rfl
  have value : ((DpOperand.imm rot imm).eval s).value = rotatedImm rot imm := rfl
  rw [e, value]

/-! ## CPS (47_core_instructions.md R722) -/

/-- A mask bit after a CPS that names it or not. -/
def cpsBit (imod : BitVec 2) (named old : Bool) : Bool :=
  if named && imod == 2#2 then false else if named && imod == 3#2 then true else old

theorem getLsbD_flag (b : Bool) {j k : Nat} (hj : j < 32) (hk : k < 32) : (flag b j).getLsbD k = (b && k == j) := by
  rw [flag, put, BitVec.getLsbD_shiftLeft, BitVec.getLsbD_setWidth]
  by_cases lt : k < j
  · simp [lt, show ¬ k = j by omega]
  · by_cases e : k = j
    · simp [e, hj]
    · simp [e, hk, lt, show k - j ≠ 0 by omega]

theorem getLsbD_cpsValue (w : Word) (imod : BitVec 2) (m a i f : Bool) (mode : BitVec 5) {k : Nat} (hk : k < 32) :
    (cpsValue w imod m a i f mode).getLsbD k =
      if m && decide (k < 5) then mode.getLsbD k
      else cpsBit imod (a && k == 8 || i && k == 7 || f && k == 6) (w.getLsbD k) := by
  let masks : Word := flag a 8 ||| flag i 7 ||| flag f 6
  have named : masks.getLsbD k = (a && k == 8 || i && k == 7 || f && k == 6) := by
    simp only [masks, BitVec.getLsbD_or, getLsbD_flag _ _ hk, Nat.reduceLT]
  have masked : (if imod = 2#2 then w &&& ~~~ masks else if imod = 3#2 then w ||| masks else w).getLsbD k =
      cpsBit imod (masks.getLsbD k) (w.getLsbD k) := by
    by_cases clear : imod = 2#2
    · rw [clear, if_pos rfl, BitVec.getLsbD_and, BitVec.getLsbD_not]
      cases masks.getLsbD k <;> simp [cpsBit, hk]
    · by_cases set : imod = 3#2
      · rw [set, if_neg (by decide), if_pos rfl, BitVec.getLsbD_or]
        cases masks.getLsbD k <;> simp [cpsBit]
      · simp [cpsBit, clear, set]
  rw [← named, ← masked]
  cases m with
  | false => rfl
  | true =>
    change (setFld _ 0 mode).getLsbD k = _
    rw [getLsbD_setFld _ _ _ _ hk]
    simp [masks]

/-- What CPS leaves: the named masks, with M the mode, and the rest of the CPSR. -/
def CpsChanged (s t : State) (imod : BitVec 2) (m a i f : Bool) (mode : BitVec 5) : Prop :=
  t.aBit = cpsBit imod a s.aBit ∧ t.iBit = cpsBit imod i s.iBit ∧
    t.fBit = (if s.ctlNmfi then s.fBit && cpsBit imod f s.fBit else cpsBit imod f s.fBit) ∧
    t.mode = (if m then mode else s.mode) ∧ t.cpsr &&& 0xFFFFFE20 = s.cpsr &&& 0xFFFFFE20 ∧
    t.stuck = (s.stuck || !legalMode t.mode) ∧
    t = { s with psrs := { s.psrs with cpsr := t.cpsr }, stuck := t.stuck, pc := s.past }

theorem cpsChanged_writeCpsr {s : State} (running : s.halted = false) (imod : BitVec 2) (m a i f : Bool) (mode : BitVec 5) :
    CpsChanged s (s.writeCpsr (cpsValue s.cpsr imod m a i f mode)).advance imod m a i f mode := by
  let v := cpsValue s.cpsr imod m a i f mode
  have plain {k : Nat} (hk : k < 32) (high : 5 ≤ k) (mask : (a && k == 8 || i && k == 7 || f && k == 6) = false) :
      v.getLsbD k = s.cpsr.getLsbD k := by
    rw [getLsbD_cpsValue _ _ _ _ _ _ _ hk, mask, decide_eq_false (by omega)]
    simp [cpsBit]
  have bit {k : Nat} (hk : k < 32) : bitAt (cpsrWritten s v) k = (v.getLsbD k && !(k == 6 && s.ctlNmfi && !s.fBit)) :=
    (bitAt_eq_getLsbD ..).trans (getLsbD_cpsrWritten s v hk)
  have outside : ∀ k < 9, ¬ (k = 5 ∨ 9 ≤ k) → (0xFFFFFE20 : Word).getLsbD k = false := by decide
  rw [advance_writeCpsr running (plain (by omega) (by omega) (by simp))]
  refine ⟨(bit (by omega)).trans ?_, (bit (by omega)).trans ?_, (bit (by omega)).trans ?_, ?_, ?_, rfl, rfl⟩
  · rw [getLsbD_cpsValue _ _ _ _ _ _ _ (by omega), State.aBit, bitAt_eq_getLsbD]
    simp
  · rw [getLsbD_cpsValue _ _ _ _ _ _ _ (by omega), State.iBit, bitAt_eq_getLsbD]
    simp
  · rw [getLsbD_cpsValue _ _ _ _ _ _ _ (by omega), getLsbD_fBit]
    cases s.ctlNmfi <;> simp [Bool.and_comm]
  · change fld (cpsrWritten s v) 0 5 = _
    refine BitVec.eq_of_getLsbD_eq fun k hk => ?_
    have low : (fld (cpsrWritten s v) 0 5 : BitVec 5).getLsbD k = v.getLsbD k := by
      simp [fld, hk, getLsbD_cpsrWritten s v (k := k) (by omega), show k ≠ 6 by omega]
    rw [low, getLsbD_cpsValue _ _ _ _ _ _ _ (by omega)]
    cases m with
    | true => simp [hk]
    | false => simp [cpsBit, State.mode, fld, hk, show k ≠ 6 by omega, show k ≠ 7 by omega, show k ≠ 8 by omega]
  · change cpsrWritten s v &&& _ = _
    refine BitVec.eq_of_getLsbD_eq fun k hk => ?_
    rw [BitVec.getLsbD_and, BitVec.getLsbD_and, getLsbD_cpsrWritten s v hk]
    by_cases high : k = 5 ∨ 9 ≤ k
    · rw [plain hk (by omega) (by simp; omega)]
      rw [beq_eq_false_iff_ne.2 (show k ≠ 6 by omega)]
      simp
    · have out : (0xFFFFFE20 : Word).getLsbD k = false := outside k (by omega) high
      rw [out, Bool.and_false, Bool.and_false]

/-! ## SWI and the return from it -/

theorem past_of_running {s : State} (running : s.halted = false) : s.past = s.pc + s.instrLength := by
  rw [State.past, running, State.instrLength]
  cases s.thumb <;> rfl

/-- A value whose bits under a mask are zero keeps under the mask's complement. -/
theorem and_not_of_and_eq_zero {v m : Word} (h : v &&& m = 0) : v &&& ~~~ m = v := by
  refine BitVec.eq_of_getLsbD_eq fun k hk => ?_
  have bit := congrArg (·.getLsbD k) h
  simp only [BitVec.getLsbD_and, BitVec.getLsbD_not, hk, decide_true, Bool.true_and] at *
  revert bit
  cases v.getLsbD k <;> simp

theorem and_psrMask_of_clean {v : Word} (h : v &&& ~~~ psrMask = 0) : v &&& psrMask = v := by
  simpa using and_not_of_and_eq_zero h

/-- The next instruction is aligned as the one at the PC is. -/
theorem past_aligned {s : State} (running : s.halted = false) (h : s.pc &&& (if s.tBit then 1 else 3) = 0) :
    s.past &&& (if s.tBit then 1 else 3) = 0 := by
  rw [past_of_running running, State.instrLength, State.thumb, running, Bool.not_false, Bool.and_true]
  cases thumb : s.tBit
  · rw [thumb] at h
    simp only [Bool.false_eq_true, if_false] at *
    have low : s.pc.toNat % 4 = 0 := by simpa [BitVec.toNat_and, Nat.and_two_pow_sub_one_eq_mod _ 2] using congrArg BitVec.toNat h
    refine BitVec.eq_of_toNat_eq ?_
    simp [BitVec.toNat_and, Nat.and_two_pow_sub_one_eq_mod _ 2, BitVec.toNat_add]
    omega
  · rw [thumb] at h
    simp only [if_true] at *
    have low : s.pc.toNat % 2 = 0 := by simpa [BitVec.toNat_and, Nat.and_two_pow_sub_one_eq_mod _ 1] using congrArg BitVec.toNat h
    refine BitVec.eq_of_toNat_eq ?_
    simp [BitVec.toNat_and, Nat.and_two_pow_sub_one_eq_mod _ 1, BitVec.toNat_add]
    omega

/-- A return to a status of bits that exist, F not set against NMFI, at an aligned address outside Jazelle state. -/
theorem Returned.exact {t u : State} {psr target : Word} (h : Returned t u psr target) (clean : psr &&& ~~~ psrMask = 0)
    (fiq : t.fBit = bitAt psr 6) (jazelle : bitAt psr 24 = false) (aligned : target &&& (if bitAt psr 5 then 1 else 3) = 0) :
    u.pc = target ∧ u.cpsr = psr := by
  obtain ⟨-, cpsr, -, pc, -⟩ := h
  have same : u.cpsr = psr := by
    rw [cpsr, and_psrMask_of_clean clean, fiq]
    split
    · next masked =>
      simp only [Bool.and_eq_true, Bool.not_eq_true'] at masked
      have keep := setBit_bitAt psr 6
      rw [masked.2] at keep
      exact (setBit_false psr 6).symm.trans keep
    · rfl
  refine ⟨?_, same⟩
  rw [pc, State.tBit, State.jBit, same, jazelle]
  cases thumb : bitAt psr 5
  · rw [thumb] at aligned
    exact and_not_of_and_eq_zero aligned
  · rw [thumb] at aligned
    exact and_not_of_and_eq_zero aligned

theorem gives_of_exception {i : Instr} {s : State} {P : State → Prop} (running : s.halted = false) {x : Exc}
    (e : exec i s = finish (.exc x s)) (h : P (takeException x s)) : Gives i s P :=
  ⟨_, by rw [e, finish, running]; rfl, h⟩

theorem entered_takeSwi {s : State} (running : s.halted = false) :
    Entered s (takeSwi s) modeSvc 0x08 s.past false false ∧ EntryOnly s (takeSwi s) := by
  rw [takeSwi, ← past_of_running running]
  exact ⟨entered_enter (by decide), entryOnly_enter _ _ _ _ _ running⟩

end Sys2Proof.Machine

namespace Sys2Proof
open Machine

/-- Settles O36: WFI is the Wait For Interrupt operation of CP15 (`gives_mcrWaitForInterrupt`), SETEND a write of the CPSR by which T
stays (`setEndian_advance`). -/
theorem hintsAndSetend : Obligations.HintsAndSetend := by
  intro s cc e
  refine ⟨fun pass => ⟨?_, fun running user => ?_, fun running user => ?_⟩, ?_⟩
  · have next {i : Instr} (e : exec i s = whenPasses cc s fun s => .ok () s.advance) :
        exec i s = .next { s with pc := s.past } := exec_of_passes pass e rfl
    simpa using ⟨next (i := .nop cc) rfl, next (i := .yield cc) rfl, next (i := .sev cc) rfl, next (i := .wfe cc) rfl⟩
  · refine exec_of_passes pass (rfl : execWfi cc s = _) ?_
    rw [unprivileged_of_user running user]
    rfl
  · have priv := privileged_of_not_user user
    have same : exec (.wfi cc) s = exec (.mcrWaitForInterrupt cc 0) s := by
      rw [exec_cp15Write (i := .mcrWaitForInterrupt cc 0) (f := fun _ s => waitForInterrupt s) pass priv (by decide) rfl]
      exact exec_ok pass (rfl : execWfi cc s = _) (by rw [priv]; rfl)
    obtain ⟨t, next, waits⟩ := gives_mcrWaitForInterrupt (rd := 0) pass (by decide) running priv
    exact ⟨t, same.trans next, waits⟩
  · have arm : exec (.setend e) s = .next (s.setCpsr (setBit s.cpsr 9 e)).advance := rfl
    have thumb : exec (.setendThumb e) s = .next (s.setCpsr (setBit s.cpsr 9 e)).advance := rfl
    rw [setEndian_advance] at arm thumb
    simpa using ⟨arm, thumb⟩

/-- Settles O37: MRS writes a register, MSR the bits of `moveToStatus_cpsr` and `moveToStatus_spsr`. -/
theorem statusRegisterMoves : Obligations.StatusRegisterMoves := by
  intro s cc rd rm mask rot imm pass running
  refine ⟨fun hrd => ⟨?_, fun v some => ?_⟩, fun none => ⟨?_, ?_⟩, fun x hx => ?_⟩
  · exact gives_of_passes pass (rfl : execMrs cc false rd s = _)
      ⟨_, writeStatus_register s hrd _, wroteReg_setReg_advance s hrd _⟩
  · refine gives_of_passes pass (rfl : execMrs cc true rd s = _) ⟨_, ?_, wroteReg_setReg_advance s hrd v⟩
    rw [if_pos rfl, some]
    exact writeStatus_register s hrd v
  · refine exec_refused pass (rfl : execMrs cc true rd s = _) ?_
    rw [if_pos rfl, none]
  · exact exec_refused pass (rfl : execMsrReg cc true mask rm s = _) (moveToStatus_noSpsr none mask _)
  · have move (r : Bool) : exec (x.2 r) s = whenPasses cc s (moveToStatus r mask x.1) := by
      simp only [List.mem_cons, List.not_mem_nil, or_false] at hx
      rcases hx with rfl | rfl
      · exact exec_msrReg pass ..
      · exact exec_msrImm ..
    exact ⟨gives_of_passes pass (move false) (moveToStatus_cpsr running mask x.1),
      fun old some => gives_of_passes pass (move true) (moveToStatus_spsr some mask x.1)⟩

/-- Settles O39: in a privileged mode CPS writes the CPSR (`cpsChanged_writeCpsr`), in User mode nothing. -/
theorem changeProcessorState : Obligations.ChangeProcessorState := by
  intro s imod disable m a i f mode running bit changed
  refine ⟨fun user => ?_, fun user => ?_⟩
  · have priv := privileged_of_not_user user
    refine ⟨⟨_, ?_, cpsChanged_writeCpsr running imod m a i f mode⟩,
      ⟨_, ?_, cpsChanged_writeCpsr running (if disable then 3 else 2) false a i f 0⟩⟩
    · change execCps imod m a i f mode s = _
      rw [execCps, priv]
      rfl
    · change execCpsThumb disable a i f s = _
      rw [execCpsThumb, priv]
      rfl
  · have unprivileged := unprivileged_of_user running user
    rw [← State.advance_eq]
    constructor
    · change execCps imod m a i f mode s = _
      rw [execCps, unprivileged]
      rfl
    · change execCpsThumb disable a i f s = _
      rw [execCpsThumb, unprivileged]
      rfl

/-- Settles O15: the entry is `State.enter`, the return the data-processing return of O24 (`Returned.exact`). -/
theorem softwareInterrupt : Obligations.SoftwareInterrupt := by
  intro s cc imm imm8
  have swi (pass : s.passes cc = true) : exec (.swi cc imm) s = finish (.exc .swi s) := whenPasses_passed _ pass
  refine ⟨fun running pass => gives_of_exception running (swi pass) ?_,
    fun running => gives_of_exception running rfl (entered_takeSwi running), fun running failed => ?_, fun halted pass => ?_⟩
  · obtain ⟨entered, only⟩ := entered_takeSwi running
    refine ⟨entered, only, fun jazelle aligned clean => ?_⟩
    let t := takeSwi s
    obtain ⟨mode, link, saved, tBit, -, -, -, fBit, -⟩ := entered
    have bank : t.bank = .svc := by rw [State.bank, mode]; rfl
    have halted : t.halted = false := by rw [show t = _ from only]; exact running
    have spsr : t.spsr = some s.cpsr := by rw [State.spsr, bank]; exact saved
    have r14 : t.reg 14 = s.past := by
      rw [State.reg, if_neg (by decide), bank]
      exact link
    obtain ⟨u, next, returned, regs⟩ := (programCounterDestination .mov 14 0 (.shiftImm 0 0 14) t (passes_always t) halted tBit
      trivial).2.2.1 s.cpsr spsr
    have target : DpOp.mov.result (t.reg 0) (DpOperand.eval (.shiftImm 0 0 14) t).value t.flagC = s.past := r14
    rw [target] at returned
    obtain ⟨pc, cpsr⟩ := returned.exact clean (fBit.trans (Bool.false_or _)) jazelle (past_aligned running aligned)
    exact ⟨u, next, pc, cpsr, regs⟩
  · rw [← State.advance_eq]
    exact whenPasses_failed _ failed
  · rw [swi pass, finish, halted]
    rfl

end Sys2Proof
end

section
/-! The rules of the single loads and stores: the base, the register and the access of each. -/
namespace Sys2Proof.Machine

theorem gives_of_finish {i : Instr} {s : State} {r : Res Unit} {P : State → Prop} (e : exec i s = finish r)
    (h : ∃ t, r = .ok () t ∧ P t) : Gives i s P := by
  obtain ⟨t, rfl, holds⟩ := h
  exact ⟨t, e, holds⟩

theorem RegsBut.mono {s t : State} {l m : List RegNum} (h : RegsBut s t l) (sub : ∀ n ∈ l, n ∈ m) : RegsBut s t m :=
  fun k hk apart => h k hk fun n hn => apart n (sub n hn)

/-! ## The base register (47_core_instructions.md R770) -/

theorem addressing_address (p u w : Bool) (base off : Word) :
    (addressing p u w base off).address = transferAddress p u base off := by cases p <;> rfl

theorem addressing_writeback (p u w : Bool) (base off : Word) :
    (addressing p u w base off).writeback = if p && !w then none else some (upDown u base off) := by
  cases p <;> cases w <;> rfl

theorem transferWrites_iff (p w : Bool) : transferWrites p w ↔ ¬ (p && !w) = true := by
  cases p <;> cases w <;> simp [transferWrites]

/-- What a base that is written back, or not, has changed: `b` is its new value. -/
def BaseWritten (s t : State) (p w : Bool) (rn : RegNum) (b : Word) : Prop :=
  (transferWrites p w → t.bankReg s.bank rn = b) ∧ RegsBut s t (if p && !w then [] else [rn])

theorem baseWritten_writeBase {s t : State} (regs : t.regs = s.regs) (bank : t.bank = s.bank) {p w : Bool} {rn : RegNum}
    (ok : transferWrites p w → rn ≠ 15) (u : Bool) (base off : Word) :
    BaseWritten s (t.writeBase rn (addressing p u w base off).writeback) p w rn (upDown u base off) := by
  have same : RegsBut s t [] := (regsBut_nil s).of_regs regs
  rw [addressing_writeback, BaseWritten, transferWrites_iff] at *
  by_cases keeps : (p && !w) = true
  · simp only [if_pos keeps, State.writeBase]
    exact ⟨fun writes => absurd keeps writes, same⟩
  · simp only [if_neg keeps, State.writeBase]
    exact ⟨fun writes => bankReg_setReg (ok writes) _ bank, same.setReg bank rn _⟩

/-- A base that is written back changes the registers only. -/
theorem State.writeBase_eq (s : State) (rn : RegNum) (v : Option Word) :
    s.writeBase rn v = { s with regs := (s.writeBase rn v).regs } := by
  cases v with
  | none => rfl
  | some v => exact State.setReg_eq s rn v

theorem bank_writeBase (s : State) (rn : RegNum) (v : Option Word) : (s.writeBase rn v).bank = s.bank := by
  rw [State.writeBase_eq]
  rfl

/-! ## The loaded register -/

theorem loaded_writeLoaded {s : State} {p w : Bool} {rn rd : RegNum} (hrd : rd ≠ 15) (ok : addressingOk p w rn rd) (u : Bool)
    (off v : Word) :
    ∃ t, writeLoaded rn rd (addressing p u w (s.reg rn) off) v s = .ok () t ∧ Loaded s t p u w rn rd off v := by
  let b := s.writeBase rn (addressing p u w (s.reg rn) off).writeback
  have bank : b.bank = s.bank := bank_writeBase ..
  have only : b = { s with regs := b.regs } := State.writeBase_eq ..
  obtain ⟨base, kept⟩ : BaseWritten s b p w rn _ := baseWritten_writeBase rfl rfl (fun writes => (ok writes).1) u (s.reg rn) off
  refine ⟨(b.setReg rd v).advance, if_neg hrd, ?_, fun writes => ?_, ?_, ?_, ?_, ?_⟩
  · rw [bankReg_advance]
    exact bankReg_setReg hrd v bank
  · obtain ⟨hrn, apart⟩ := ok writes
    rw [bankReg_advance]
    exact (bankReg_setReg_other hrn apart v bank).trans (base writes)
  · refine ((kept.setReg bank rd v).of_regs (by rw [State.advance_eq])).mono fun n hn => ?_
    generalize (p && !w) = keeps at hn ⊢
    cases keeps with
    | true => simpa using hn
    | false => simpa [or_comm] using hn
  · rw [State.advance_eq, State.setReg_eq, only]
  · rw [State.advance_eq, State.setReg_eq, only]
    rfl
  · rw [State.advance_eq, State.setReg_eq, only]
    rfl

theorem badAddressing_false {p w : Bool} {rn rd rm : RegNum} (ok : addressingOk p w rn rd) (hrm : rm ≠ 15) :
    badAddressing p w rn rd rm = false := by
  unfold addressingOk transferWrites at ok
  cases p <;> cases w <;> simp_all [badAddressing]

/-- A load of a byte or halfword from the value that its access gives. -/
theorem loadPart_spec {s : State} {ty : AccessType} {n : Nat} {p u w : Bool} {rn rd rm : RegNum} {off v : Word} (hrd : rd ≠ 15)
    (ok : addressingOk p w rn rd) (hrm : rm ≠ 15)
    (load : ∀ m, loadValue m ty n (transferAddress p u (s.reg rn) off) s = .ok v s) (ext : Word → Word) :
    ∃ t, loadPart ty n ext p u w rn rd rm off s = .ok () t ∧ Loaded s t p u w rn rd off (ext v) := by
  obtain ⟨t, run, loaded⟩ := loaded_writeLoaded hrd ok u off (ext v)
  refine ⟨t, ?_, loaded⟩
  simp only [loadPart, badAddressing_false ok hrm, beq_eq_false_iff_ne.2 hrd, Bool.or_self, Bool.false_eq_true, if_false,
    addressing_address, load, Res.bind, run]

theorem loadWord_spec {s : State} {p u w : Bool} {rn rd rm : RegNum} {off v : Word} (hrd : rd ≠ 15)
    (ok : addressingOk p w rn rd) (hrm : rm ≠ 15)
    (load : ∀ m, loadValue m .wload 4 (transferAddress p u (s.reg rn) off) s = .ok v s) :
    ∃ t, loadWord p u w rn rd rm off s = .ok () t ∧ Loaded s t p u w rn rd off v := by
  obtain ⟨t, run, loaded⟩ := loaded_writeLoaded hrd ok u off v
  refine ⟨t, ?_, loaded⟩
  simp only [loadWord, badAddressing_false ok hrm, beq_eq_false_iff_ne.2 hrd, Bool.and_false, Bool.or_self, Bool.false_eq_true,
    if_false, addressing_address, checkPcLoad, hrd, false_and, Res.bind, load, run]

/-! ## The stored value -/

/-- A single store from the state that its access leaves, `stored` of the count of free values and the value. -/
theorem storeSingle_spec {s : State} {ty : AccessType} {n : Nat} {p u w : Bool} {rn rd rm : RegNum} {off : Word}
    (ok : addressingOk p w rn rd) (hrm : rm ≠ 15) (byte : n = 1 → rd ≠ 15) {stored : Nat → Word → State}
    (store : ∀ c v, storeValue (storeMode s p w) ty n (transferAddress p u (s.reg rn) off) v { s with freeCtr := c } =
      .ok () (stored c v)) :
    ∃ c v, storeSingle ty n p u w rn rd rm off s =
        .ok () ((stored c v).writeBase rn (addressing p u w (s.reg rn) off).writeback).advance ∧
      (rd ≠ 15 → c = s.freeCtr ∧ v = s.reg rd) := by
  have form : (badAddressing p w rn rd rm || (n == 1 && rd == 15)) = false := by
    rw [badAddressing_false ok hrm]
    by_cases one : n = 1
    · simpa [one] using byte one
    · simp [one]
  by_cases h : rd = 15
  · refine ⟨s.drawWord.2.freeCtr, s.drawWord.1, ?_, fun k => absurd h k⟩
    have run := store s.drawWord.2.freeCtr s.drawWord.1
    simp only [storeSingle, form, Bool.false_eq_true, if_false, addressing_address, if_pos h]
    exact (congrArg (Res.bind · _) run).trans rfl
  · refine ⟨s.freeCtr, s.reg rd, ?_, fun _ => ⟨rfl, rfl⟩⟩
    have run := store s.freeCtr (s.reg rd)
    simp only [storeSingle, form, Bool.false_eq_true, if_false, addressing_address, if_neg h]
    exact (congrArg (Res.bind · _) run).trans rfl

/-! ## Values of flat memory -/

theorem alignment_half {v : Word} (h : bitAt v 0 = false) (u a : Bool) : alignment u a .half (fld v 0 3) = .direct := by
  simp [alignment, bitAt_fld_zero, h]

theorem lowest_one (a : Word) : lowest 1 a = a := by
  have mask : ~~~ BitVec.ofNat 32 (1 - 1) = BitVec.allOnes 32 := by decide
  rw [lowest, mask, BitVec.and_allOnes]

theorem lowest_two {a : Word} (even : bitAt a 0 = false) : lowest 2 a = a := by
  refine BitVec.eq_of_getLsbD_eq fun i hi => ?_
  rw [bitAt_eq_getLsbD] at even
  by_cases low : i = 0
  · rw [low, even]
    simp [lowest]
  · have out : (1 : Word).getLsbD i = false := by
      rw [show (1 : Word) = BitVec.twoPow 32 0 from rfl, BitVec.getLsbD_twoPow]
      simp [Ne.symm low]
    simp only [lowest, BitVec.getLsbD_and, BitVec.getLsbD_not, hi, decide_true, Bool.true_and]
    rw [show (BitVec.ofNat 32 (2 - 1) : Word) = 1 from rfl, out]
    simp

theorem naturallyAligned_two {a : Word} (even : bitAt a 0 = false) : naturallyAligned a 2 = true := by
  refine naturallyAligned_of_fld (n := 1) (BitVec.eq_of_getLsbD_eq fun i hi => ?_)
  obtain rfl : i = 0 := by omega
  simpa [fld, bitAt_eq_getLsbD] using even

section
variable {s : State} (f : s.Flat)
include f

/-- A plain word access is made at the aligned address below (20_memory.md R45). -/
theorem State.Flat.alignAccess_word {ty : AccessType} (plain : ty = .wload ∨ ty = .wstore) {a : Word} (fits : s.wordFits a)
    (write : Bool) : Machine.alignAccess ty write a s = .ok (lowest 4 a) s := by
  by_cases aligned : fld a 0 2 = 0#2
  · rw [lowest_of_aligned aligned]
    exact f.alignAccess (alignment_word plain aligned ..) write
  · obtain ⟨u, al⟩ := fits.resolve_left aligned
    refine f.alignAccess_forced ?_ write
    rw [u, al]
    exact alignment_forced plain aligned

theorem State.Flat.readAt_word {a : Word} (aligned : fld a 0 2 = 0#2) (o : s.ordinary a 4) (m : AccessMode) :
    Machine.readAt m 4 a s = .ok (s.wordAt a) s := by
  rw [f.readAt o (by omega) (naturallyAligned_of_fld aligned) m, ← State.wordAt_eq]

theorem State.Flat.loadValue_word {a : Word} (fits : s.wordFits a) (o : s.ordinary (lowest 4 a) 4) (m : AccessMode) :
    loadValue m .wload 4 a s = .ok (s.rotatedWord a) s := by
  simp only [loadValue, f.alignAccess_word (.inl rfl) fits, Res.bind, f.readAt_word (fld_lowest a) o m]
  congr 1
  unfold State.rotatedWord
  split
  · next e =>
    have low : fld a 0 2 = 0#2 := by rw [← e, fld_lowest]
    simp [low, BitVec.rotateRight_def]
  · rfl

theorem State.Flat.storeValue_word {a : Word} (fits : s.wordFits a) (o : s.ordinary (lowest 4 a) 4) (m : AccessMode) (v : Word) :
    storeValue m .wstore 4 a v s = .ok () (s.setMem (s.mem.writeBytes (lowest 4 a) (laneBytes s.eBit v 4))) := by
  have aligned := naturallyAligned_of_fld (fld_lowest a)
  simp only [storeValue, f.alignAccess_word (.inr rfl) fits, Res.bind, f.writeAt o (by omega) (by omega) aligned]

theorem State.Flat.loadValue_half {a : Word} (even : bitAt a 0 = false) (o : s.ordinary a 2) (m : AccessMode) :
    loadValue m .half 2 a s = .ok ((s.halfAt a).setWidth 32) s := by
  have read := f.readAt o (by omega) (naturallyAligned_two even) m
  rw [← State.halfAt_eq, put_zero] at read
  simp [loadValue, f.alignAccess (alignment_half even ..), Res.bind, read]

theorem State.Flat.storeValue_half {a : Word} (even : bitAt a 0 = false) (o : s.ordinary a 2) (m : AccessMode) (v : Word) :
    storeValue m .half 2 a v s = .ok () (s.setMem (s.mem.writeBytes a (laneBytes s.eBit v 2))) := by
  simp only [storeValue, f.alignAccess (alignment_half even ..), Res.bind,
    f.writeAt o (by omega) (by omega) (naturallyAligned_two even)]

end

theorem signByte_setWidth (b : Byte) : signByte (b.setWidth 32) = b.signExtend 32 := by
  simp [signByte, fld_low]

theorem signHalf_setWidth (h : Half) : signHalf (h.setWidth 32) = h.signExtend 32 := by
  simp [signHalf, fld_low]

/-! ## The instructions with flat memory -/

section
variable {s : State} (f : s.Flat) {i : Instr} {p u w : Bool} {rn rd rm : RegNum} {off : Word} (ok : addressingOk p w rn rd)
  (hrm : rm ≠ 15)
include f ok hrm

theorem loadsFrom_word (hrd : rd ≠ 15) (e : exec i s = finish (loadWord p u w rn rd rm off s)) :
    LoadsFrom s i p u w rn rd off 4 s.wordFits s.rotatedWord :=
  fun fits o => gives_of_finish e (loadWord_spec hrd ok hrm fun m => f.loadValue_word fits o m)

theorem loadsFrom_half (hrd : rd ≠ 15) (ext : Word → Word) (e : exec i s = finish (loadPart .half 2 ext p u w rn rd rm off s)) :
    LoadsFrom s i p u w rn rd off 2 (bitAt · 0 = false) fun a => ext ((s.halfAt a).setWidth 32) := fun even o => by
  rw [lowest_two even] at o
  exact gives_of_finish e (loadPart_spec hrd ok hrm (fun m => f.loadValue_half even o m) ext)

theorem loadsFrom_byte (hrd : rd ≠ 15) (ext : Word → Word) (e : exec i s = finish (loadPart .byte 1 ext p u w rn rd rm off s)) :
    LoadsFrom s i p u w rn rd off 1 (fun _ => True) fun a => ext ((s.byteAt a).setWidth 32) := fun _ o => by
  rw [lowest_one] at o
  exact gives_of_finish e (loadPart_spec hrd ok hrm (fun m => f.loadValue_byte o m) ext)

/-- A store that leaves the bytes `laneBytes` of a value, and what they mean. -/
theorem storesTo_of {ty : AccessType} {n : Nat} (small : n ≤ 4) (byte : n = 1 → rd ≠ 15)
    (e : exec i s = finish (storeSingle ty n p u w rn rd rm off s)) {fits : Word → Prop} {held : State → Word → Prop}
    (store : ∀ a m c v, fits a → s.ordinary (lowest n a) n → storeValue m ty n a v { s with freeCtr := c } =
      .ok () { s with freeCtr := c, mem := s.mem.writeBytes (lowest n a) (laneBytes s.eBit v n) })
    (means : ∀ (t : State) (a : Word), t.psrs = s.psrs → t.mem = s.mem.writeBytes a (laneBytes s.eBit (s.reg rd) n) → held t a) :
    StoresTo s i p u w rn rd off n fits held := fun fit o => by
  obtain ⟨c, v, run, plain⟩ := storeSingle_spec ok hrm byte fun c v => store _ _ c v fit o
  let a := lowest n (transferAddress p u (s.reg rn) off)
  let x : State := { s with freeCtr := c, mem := s.mem.writeBytes a (laneBytes s.eBit v n) }
  let b := x.writeBase rn (addressing p u w (s.reg rn) off).writeback
  have only : b = { x with regs := b.regs } := State.writeBase_eq ..
  obtain ⟨base, kept⟩ : BaseWritten s b p w rn _ :=
    baseWritten_writeBase (t := x) rfl rfl (fun writes => (ok writes).1) u (s.reg rn) off
  have next : b.advance =
      { s with regs := b.regs, pc := s.past, mem := s.mem.writeBytes a (laneBytes s.eBit v n), freeCtr := c } := by
    rw [State.advance_eq, only]
    rfl
  have mem : b.advance.mem = s.mem.writeBytes a (laneBytes s.eBit v n) := by rw [next]
  have psrs : b.advance.psrs = s.psrs := by rw [next]
  have memory := memBut_writeBytes f.canonical mem
  rw [length_laneBytes _ _ small] at memory
  refine gives_of_finish e ⟨b.advance, run, ⟨fun writes => (bankReg_advance ..).trans (base writes), kept.of_regs (by rw [next]), psrs,
    by rw [next], by rw [next]; rfl, memory⟩, fun hrd => ?_⟩
  obtain ⟨count, value⟩ := plain hrd
  exact ⟨by rw [next, count], means b.advance a psrs (by rw [mem, value])⟩

theorem storesTo_word (e : exec i s = finish (storeSingle .wstore 4 p u w rn rd rm off s)) :
    StoresTo s i p u w rn rd off 4 s.wordFits fun t a => t.wordAt a = s.reg rd :=
  storesTo_of f ok hrm (le_refl 4) (by omega) e (fun _ m c v fits o => (f.free c).storeValue_word fits o m v)
    fun _ _ => wordAt_written f.canonical

theorem storesTo_half (e : exec i s = finish (storeSingle .half 2 p u w rn rd rm off s)) :
    StoresTo s i p u w rn rd off 2 (bitAt · 0 = false) fun t a => t.halfAt a = (s.reg rd).setWidth 16 :=
  storesTo_of f ok hrm (by omega) (by omega) e (fun a m c v even o => by
    rw [lowest_two even] at *
    exact (f.free c).storeValue_half even o m v) fun _ _ => halfAt_written f.canonical

theorem storesTo_byte (hrd : rd ≠ 15) (e : exec i s = finish (storeSingle .byte 1 p u w rn rd rm off s)) :
    StoresTo s i p u w rn rd off 1 (fun _ => True) fun t a => t.byteAt a = (s.reg rd).setWidth 8 :=
  storesTo_of f ok hrm (by omega) (fun _ => hrd) e (fun a m c v _ o => by
    rw [lowest_one] at *
    exact (f.free c).storeValue_byte o m v) fun _ _ => byteAt_written f.canonical

end

/-! ## The forms -/

/-- The halfword, signed and doubleword forms outside P = 0, W = 1. -/
theorem exec_extraForm {i : Instr} {s : State} {m : State → Res Unit} {cc : Cond} {p w : Bool} {r : Res Unit}
    (pass : s.passes cc = true) (form : ¬ (p = false ∧ w = true)) (e : exec i s = whenPasses cc s m) (run : m s = extraForm p w r) :
    exec i s = finish r := by
  rw [e, whenPasses_passed _ pass, run, extraForm, if_neg (by simpa using form)]

/-! ### What each instruction runs -/

section
variable {s : State} {cc : Cond} (pass : s.passes cc = true) {p u w : Bool} {rn rd : RegNum}
include pass

theorem exec_ldrImm_of_passes (off : BitVec 12) :
    exec (.ldrImm cc p u w rn rd off) s = finish (loadWord p u w rn rd 0 (off.setWidth 32) s) :=
  whenPasses_passed (fun s => loadWord p u w rn rd 0 (off.setWidth 32) s) pass

theorem exec_ldrReg_of_passes (n : BitVec 5) (ty : BitVec 2) (rm : RegNum) :
    exec (.ldrReg cc p u w rn rd n ty rm) s = finish (loadWord p u w rn rd rm (s.shiftedOffset n ty rm) s) :=
  whenPasses_passed (fun s => loadWord p u w rn rd rm (s.shiftedOffset n ty rm) s) pass

theorem exec_ldrbImm_of_passes (off : BitVec 12) :
    exec (.ldrbImm cc p u w rn rd off) s = finish (loadPart .byte 1 id p u w rn rd 0 (off.setWidth 32) s) :=
  whenPasses_passed (fun s => loadPart .byte 1 id p u w rn rd 0 (off.setWidth 32) s) pass

theorem exec_ldrbReg_of_passes (n : BitVec 5) (ty : BitVec 2) (rm : RegNum) :
    exec (.ldrbReg cc p u w rn rd n ty rm) s = finish (loadPart .byte 1 id p u w rn rd rm (s.shiftedOffset n ty rm) s) :=
  whenPasses_passed (fun s => loadPart .byte 1 id p u w rn rd rm (s.shiftedOffset n ty rm) s) pass

theorem exec_ldrhImm_of_passes (form : ¬ (p = false ∧ w = true)) (h l : BitVec 4) :
    exec (.ldrhImm cc p u w rn rd h l) s = finish (loadPart .half 2 id p u w rn rd 0 (splitOffset h l) s) :=
  exec_extraForm (m := fun s => extraForm p w (loadPart .half 2 id p u w rn rd 0 (splitOffset h l) s)) pass form rfl rfl

theorem exec_ldrhReg_of_passes (form : ¬ (p = false ∧ w = true)) (rm : RegNum) :
    exec (.ldrhReg cc p u w rn rd rm) s = finish (loadPart .half 2 id p u w rn rd rm (s.reg rm) s) :=
  exec_extraForm (m := fun s => extraForm p w (loadPart .half 2 id p u w rn rd rm (s.reg rm) s)) pass form rfl rfl

theorem exec_ldrsbImm_of_passes (form : ¬ (p = false ∧ w = true)) (h l : BitVec 4) :
    exec (.ldrsbImm cc p u w rn rd h l) s = finish (loadPart .byte 1 signByte p u w rn rd 0 (splitOffset h l) s) :=
  exec_extraForm (m := fun s => extraForm p w (loadPart .byte 1 signByte p u w rn rd 0 (splitOffset h l) s)) pass form rfl rfl

theorem exec_ldrsbReg_of_passes (form : ¬ (p = false ∧ w = true)) (rm : RegNum) :
    exec (.ldrsbReg cc p u w rn rd rm) s = finish (loadPart .byte 1 signByte p u w rn rd rm (s.reg rm) s) :=
  exec_extraForm (m := fun s => extraForm p w (loadPart .byte 1 signByte p u w rn rd rm (s.reg rm) s)) pass form rfl rfl

theorem exec_ldrshImm_of_passes (form : ¬ (p = false ∧ w = true)) (h l : BitVec 4) :
    exec (.ldrshImm cc p u w rn rd h l) s = finish (loadPart .half 2 signHalf p u w rn rd 0 (splitOffset h l) s) :=
  exec_extraForm (m := fun s => extraForm p w (loadPart .half 2 signHalf p u w rn rd 0 (splitOffset h l) s)) pass form rfl rfl

theorem exec_ldrshReg_of_passes (form : ¬ (p = false ∧ w = true)) (rm : RegNum) :
    exec (.ldrshReg cc p u w rn rd rm) s = finish (loadPart .half 2 signHalf p u w rn rd rm (s.reg rm) s) :=
  exec_extraForm (m := fun s => extraForm p w (loadPart .half 2 signHalf p u w rn rd rm (s.reg rm) s)) pass form rfl rfl

theorem exec_strImm_of_passes (off : BitVec 12) :
    exec (.strImm cc p u w rn rd off) s = finish (storeSingle .wstore 4 p u w rn rd 0 (off.setWidth 32) s) :=
  whenPasses_passed (fun s => storeSingle .wstore 4 p u w rn rd 0 (off.setWidth 32) s) pass

theorem exec_strReg_of_passes (n : BitVec 5) (ty : BitVec 2) (rm : RegNum) :
    exec (.strReg cc p u w rn rd n ty rm) s = finish (storeSingle .wstore 4 p u w rn rd rm (s.shiftedOffset n ty rm) s) :=
  whenPasses_passed (fun s => storeSingle .wstore 4 p u w rn rd rm (s.shiftedOffset n ty rm) s) pass

theorem exec_strbImm_of_passes (off : BitVec 12) :
    exec (.strbImm cc p u w rn rd off) s = finish (storeSingle .byte 1 p u w rn rd 0 (off.setWidth 32) s) :=
  whenPasses_passed (fun s => storeSingle .byte 1 p u w rn rd 0 (off.setWidth 32) s) pass

theorem exec_strbReg_of_passes (n : BitVec 5) (ty : BitVec 2) (rm : RegNum) :
    exec (.strbReg cc p u w rn rd n ty rm) s = finish (storeSingle .byte 1 p u w rn rd rm (s.shiftedOffset n ty rm) s) :=
  whenPasses_passed (fun s => storeSingle .byte 1 p u w rn rd rm (s.shiftedOffset n ty rm) s) pass

theorem exec_strhImm_of_passes (form : ¬ (p = false ∧ w = true)) (h l : BitVec 4) :
    exec (.strhImm cc p u w rn rd h l) s = finish (storeSingle .half 2 p u w rn rd 0 (splitOffset h l) s) :=
  exec_extraForm (m := fun s => extraForm p w (storeSingle .half 2 p u w rn rd 0 (splitOffset h l) s)) pass form rfl rfl

theorem exec_strhReg_of_passes (form : ¬ (p = false ∧ w = true)) (rm : RegNum) :
    exec (.strhReg cc p u w rn rd rm) s = finish (storeSingle .half 2 p u w rn rd rm (s.reg rm) s) :=
  exec_extraForm (m := fun s => extraForm p w (storeSingle .half 2 p u w rn rd rm (s.reg rm) s)) pass form rfl rfl

theorem exec_ldrdImm_of_passes (form : ¬ (p = false ∧ w = true)) (h l : BitVec 4) :
    exec (.ldrdImm cc p u w rn rd h l) s = finish (loadDouble p u w rn rd 0 (splitOffset h l) s) :=
  exec_extraForm (m := fun s => extraForm p w (loadDouble p u w rn rd 0 (splitOffset h l) s)) pass form rfl rfl

theorem exec_ldrdReg_of_passes (form : ¬ (p = false ∧ w = true)) (rm : RegNum) :
    exec (.ldrdReg cc p u w rn rd rm) s = finish (loadDouble p u w rn rd rm (s.reg rm) s) :=
  exec_extraForm (m := fun s => extraForm p w (loadDouble p u w rn rd rm (s.reg rm) s)) pass form rfl rfl

theorem exec_strdImm_of_passes (form : ¬ (p = false ∧ w = true)) (h l : BitVec 4) :
    exec (.strdImm cc p u w rn rd h l) s = finish (storeDouble p u w rn rd 0 (splitOffset h l) s) :=
  exec_extraForm (m := fun s => extraForm p w (storeDouble p u w rn rd 0 (splitOffset h l) s)) pass form rfl rfl

theorem exec_strdReg_of_passes (form : ¬ (p = false ∧ w = true)) (rm : RegNum) :
    exec (.strdReg cc p u w rn rd rm) s = finish (storeDouble p u w rn rd rm (s.reg rm) s) :=
  exec_extraForm (m := fun s => extraForm p w (storeDouble p u w rn rd rm (s.reg rm) s)) pass form rfl rfl

end

end Sys2Proof.Machine

end

section
/-! Unaligned accesses to Normal memory, byte by byte (20_memory.md R48, R90). -/
namespace Sys2Proof.Machine

/-! ## The translation of each byte -/

/-- The parts of `State.splits` by name. -/
structure State.Splits (s : State) : Prop extends s.Translating where
  unaligned : s.ctlU = true
  unchecked : s.ctlA = false
  pid : fld s.cp15.fcsePid 25 7 = 0#7
  buffer : s.storeBuffer = []
  watch : ∀ k (_ : k < 2), bitAt s.dbg.wcr[k] 0 = false
  canonical : s.memCanonical

theorem State.splits_iff (s : State) : s.splits ↔ s.Splits := by
  constructor
  · rintro ⟨unaligned, unchecked, mmu, remap, older, forceAp, pid, buffer, watch, canonical⟩
    exact ⟨⟨mmu, older, remap, forceAp⟩, unaligned, unchecked, pid, buffer, watch, canonical⟩
  · rintro ⟨⟨mmu, older, remap, forceAp⟩, unaligned, unchecked, pid, buffer, watch, canonical⟩
    exact ⟨unaligned, unchecked, mmu, remap, older, forceAp, pid, buffer, watch, canonical⟩

/-- One byte of `State.maps`. -/
def State.mapsByte (s : State) (a p : Word) : Prop :=
  s.ordinary p 1 ∧ ∃ e, tlbLookup s.ctlXp s a = [e] ∧ fld s.cp15.dacr (2 * e.domain.toNat) 2 = 3#2 ∧ e.tex = 1 ∧
    e.c = false ∧ e.b = false ∧ p = e.paBase ||| (a &&& (BitVec.allOnes 32 >>> (32 - e.log2Size)))

/-- The first byte of a mapped run, and the rest. -/
theorem State.maps_succ {s : State} {va : Word} {n : Nat} {pa : Nat → Word} (h : s.maps va (n + 1) pa) :
    s.mapsByte va (pa 0) ∧ s.maps (va + 1) n fun k => pa (k + 1) := by
  have first : s.mapsByte (va + 0#32) (pa 0) := h 0 (by omega)
  rw [BitVec.add_zero] at first
  refine ⟨first, fun k hk => ?_⟩
  have byte := h (k + 1) (by omega)
  rwa [add_succ_ofNat] at byte

/-- Normal memory takes unaligned accesses. -/
theorem translate_normal {s : State} (h : s.Translating) {e : TlbEntry} {a : MemAttr} {va : Word}
    (hit : tlbLookup s.ctlXp s va = [e]) (manager : domainAccess s e.domain = 3#2) (attr : entryAttr s.tlbControls e = .ok a)
    (normal : a.ty = .normal) (p : Purpose) (user aligned : Bool) :
    translate p user aligned va s = (.ok ⟨entryPa e va, a, some e.domain⟩, s) := by
  have entry : tlbEntryFor s.tlbControls va s = (.ok e, s) := by
    have hit : tlbLookup s.tlbControls.xp s va = [e] := hit
    simp only [tlbEntryFor, hit, drawEntry]
  have access : fld s.cp15.dacr (2 * e.domain.toNat) 2 = 3#2 := manager
  simp [translate, h.mmu, drawControls_settled h.older, entry, accessBitClear_false h, access, attr, checkEntry, normal, bitAt]

/-- The attributes of Normal noncachable memory (20_memory.md R61). -/
theorem entryAttr_noncachable {s : State} (remap : s.ctlTexRemap = false) {e : TlbEntry} (tex : e.tex = 1) (c : e.c = false)
    (b : e.b = false) : entryAttr s.tlbControls e = .ok ⟨.normal, s.ctlXp && e.s, 0, 0⟩ := by
  simp [entryAttr, State.tlbControls, remap, tex, c, b, plainAttr, fld, bitAt]

/-- What a byte access goes to: ordinary noncachable Normal memory at an address. -/
def Translated.noncachableAt (x : Translated) (p : Word) : Prop := x.pa = p ∧ ∃ shared, x.attr = ⟨.normal, shared, 0, 0⟩

theorem dataCachable_noncachable (s : State) {x : Translated} {p : Word} (h : x.noncachableAt p) : dataCachable s x.attr = false := by
  obtain ⟨-, shared, attr⟩ := h
  simp [dataCachable, cachableAttr, attr]

section
variable {s : State} (h : s.Splits)
include h

theorem State.Splits.dataTranslate {a p : Word} (byte : s.mapsByte a p) (write user aligned : Bool) :
    ∃ x : Translated, x.noncachableAt p ∧ dataTranslate write user aligned a s = .ok x s := by
  obtain ⟨-, e, hit, manager, tex, c, b, pa⟩ := byte
  have t (q : Purpose) := translate_normal h.toTranslating hit manager (entryAttr_noncachable h.remap tex c b) rfl q user aligned
  exact ⟨⟨entryPa e a, ⟨.normal, s.ctlXp && e.s, 0, 0⟩, some e.domain⟩, ⟨pa.symm, _, rfl⟩,
    by simp only [Machine.dataTranslate, fcse_zero h.pid, t]⟩

theorem State.Splits.alignAccess {ty : AccessType} (plain : ty = .wload ∨ ty = .wstore ∨ ty = .half) (write : Bool) (a : Word) :
    alignAccess ty write a s = .ok a s := by
  refine alignAccess_direct (.inl h.unaligned) ?_ write
  rcases plain with rfl | rfl | rfl <;> simp [alignment, h.unaligned, h.unchecked]

/-! ## Reads -/

theorem State.Splits.readPhys {x : Translated} {p : Word} (at' : x.noncachableAt p) (o : s.ordinary p 1) (m : AccessMode)
    (mva : Word) : readPhys m x mva 1 s = .ok [s.byteAt p] s := by
  obtain ⟨rfl, -⟩ := id at'
  simp [Machine.readPhys, inRegion_of_ordinary o, dataCachable_noncachable s at', drainAll_empty h.buffer,
    busErrorIn_of_ordinary o, Mem.readBytes, State.byteAt]

theorem State.Splits.readSplit (m : AccessMode) : ∀ (n : Nat) (va : Word) (pa : Nat → Word), s.maps va n pa →
    readSplit m va n s = .ok ((List.range n).map fun k => s.byteAt (pa k)) s
  | 0, _, _, _ => rfl
  | n + 1, va, pa, maps => by
    obtain ⟨byte, rest⟩ := State.maps_succ maps
    obtain ⟨x, at', run⟩ := h.dataTranslate byte false m.user false
    have tail := State.Splits.readSplit m n (va + 1) (fun k => pa (k + 1)) rest
    simp only [Machine.readSplit, run, Res.bind, h.readPhys at' byte.1, tail, List.range_succ_eq_map, List.map_cons, List.map_map]
    rfl

theorem State.Splits.loadValue {ty : AccessType} (plain : ty = .wload ∨ ty = .wstore ∨ ty = .half) {n : Nat} {a : Word}
    {pa : Nat → Word} (odd : a.toNat % n ≠ 0) (maps : s.maps a n pa) (m : AccessMode) :
    loadValue m ty n a s = .ok (laneValue s.eBit ((List.range n).map fun k => s.byteAt (pa k))) s := by
  have unaligned : naturallyAligned a n = false := by simpa [naturallyAligned] using odd
  simp [Machine.loadValue, h.alignAccess plain, Res.bind, readAt, watchAccess_off h.watch, unaligned, h.readSplit m n a pa maps]

end

theorem laneValue_word (big : Bool) (b : Nat → Byte) : laneValue big ((List.range 4).map b) =
    if big then b 0 ++ b 1 ++ b 2 ++ b 3 else b 3 ++ b 2 ++ b 1 ++ b 0 := by
  cases big
  · exact littleEndian_four ..
  · exact littleEndian_four ..

theorem laneValue_half (big : Bool) (b : Nat → Byte) : laneValue big ((List.range 2).map b) =
    BitVec.setWidth 32 (if big then b 0 ++ b 1 else b 1 ++ b 0) := by
  rw [← put_zero]
  cases big
  · exact littleEndian_two ..
  · exact littleEndian_two ..

/-! ## Writes -/

theorem length_eraseDups_le {α : Type} [BEq α] : ∀ l : List α, l.eraseDups.length ≤ l.length
  | [] => by simp
  | a :: l => by
    have shorter : (l.filter fun b => !b == a).length ≤ l.length := List.length_filter_le ..
    have rest := length_eraseDups_le (l.filter fun b => !b == a)
    rw [List.eraseDups_cons, List.length_cons, List.length_cons]
    omega
termination_by l => l.length

/-- Every buffered write takes a slot at most (20_memory.md R90). -/
theorem slotsUsed_le (l : List PendingStore) : slotsUsed l ≤ l.length := by
  have dups := length_eraseDups_le ((l.filter fun e => e.attr.ty == .normal).map fun e => fld e.pa 3 29)
  rw [List.length_map] at dups
  have both := List.length_eq_length_filter_add (l := l) (fun e => e.attr.ty == .normal)
  have others : (l.filter fun e => e.attr.ty != .normal) = l.filter fun e => !(e.attr.ty == .normal) := rfl
  rw [slotsUsed, others]
  omega

/-- Up to four writes find room. -/
theorem bufferStore_room {s : State} (e : PendingStore) (room : s.storeBuffer.length < 4) :
    bufferStore e s = { s with storeBuffer := s.storeBuffer ++ [e] } := by
  have fits : slotsUsed (s.storeBuffer ++ [e]) ≤ 4 := (slotsUsed_le _).trans (by simp; omega)
  have same : ∀ n, makeRoom e n s = s
    | 0 => rfl
    | n + 1 => by rw [makeRoom, if_pos fits]
  rw [bufferStore, same]

/-- Single bytes that wait in the store buffer for ordinary memory, each at its own address. -/
def Waiting (s : State) (pa : Nat → Word) : List Byte → List PendingStore → Prop
  | [], l => l = []
  | b :: t, l => ∃ e r, l = e :: r ∧ e.pa = pa 0 ∧ e.bytes = [b] ∧ e.cachable = false ∧ s.ordinary (pa 0) 1 ∧
      Waiting s (fun k => pa (k + 1)) t r

/-- The state with the store buffer and the count of free values replaced. -/
def State.buffering (s : State) (l : List PendingStore) (c : Nat) : State := { s with storeBuffer := l, freeCtr := c }

section
variable {s : State} (h : s.Splits)
include h

omit h in
/-- A byte enters the store buffer. -/
theorem writePhys_buffered {x : Translated} {p : Word} (at' : x.noncachableAt p) (o : s.ordinary p 1) {m : AccessMode}
    (unlocked : m.locked = false) (mva : Word) (b : Byte) {l : List PendingStore} (room : l.length < 4) (c : Nat) :
    ∃ e : PendingStore, e.pa = p ∧ e.bytes = [b] ∧ e.cachable = false ∧
      writePhys m x mva [b] (s.buffering l c) = .ok () (s.buffering (l ++ [e]) c) := by
  have uncached := dataCachable_noncachable (s.buffering l c) at'
  obtain ⟨rfl, shared, attr⟩ := at'
  have region : inRegion (s.buffering l c).cfg x.pa = false := inRegion_of_ordinary o (by omega)
  refine ⟨⟨x.pa, [b], x.attr, false⟩, rfl, rfl, rfl, ?_⟩
  have stored := bufferStore_room (s := s.buffering l c) ⟨x.pa, [b], x.attr, false⟩ room
  have direct : (x.attr.ty == .stronglyOrdered || m.locked) = false := by rw [attr, unlocked]; rfl
  simp only [Machine.writePhys, region, uncached, direct, Bool.false_and, Bool.false_eq_true, if_false, stored]
  rfl

theorem State.Splits.buffering_translate {a p : Word} (byte : s.mapsByte a p) (l : List PendingStore) (c : Nat) (user : Bool) :
    ∃ x : Translated, x.noncachableAt p ∧ Machine.dataTranslate true user false a (s.buffering l c) = .ok x (s.buffering l c) := by
  obtain ⟨-, e, hit, manager, tex, cached, b, pa⟩ := byte
  have translating : (s.buffering l c).Translating := ⟨h.mmu, h.older, h.remap, h.forceAp⟩
  have t := translate_normal translating hit manager (entryAttr_noncachable h.remap tex cached b) rfl .write user false
  have mva : fcse (s.buffering l c) a = a := fcse_zero h.pid a
  exact ⟨⟨entryPa e a, ⟨.normal, s.ctlXp && e.s, 0, 0⟩, some e.domain⟩, ⟨pa.symm, _, rfl⟩,
    by simp only [Machine.dataTranslate, mva, if_true, t]⟩

theorem State.Splits.writeSplit {m : AccessMode} (unlocked : m.locked = false) (c : Nat) :
    ∀ (bytes : List Byte) (va : Word) (pa : Nat → Word) (l : List PendingStore), s.maps va bytes.length pa →
      l.length + bytes.length ≤ 4 → ∃ r, Waiting s pa bytes r ∧
        writeSplit m va bytes (s.buffering l c) = .ok () (s.buffering (l ++ r) c)
  | [], va, pa, l, _, _ => ⟨[], rfl, by rw [List.append_nil]; rfl⟩
  | b :: t, va, pa, l, maps, room => by
    obtain ⟨byte, rest⟩ := State.maps_succ maps
    rw [List.length_cons] at room
    obtain ⟨x, at', run⟩ := h.buffering_translate byte l c m.user
    obtain ⟨e, epa, ebytes, uncached, write⟩ :=
      writePhys_buffered at' byte.1 unlocked (fcse (s.buffering l c) va) b (l := l) (by omega) c
    obtain ⟨r, waiting, tail⟩ :=
      State.Splits.writeSplit unlocked c t (va + 1) (fun k => pa (k + 1)) (l ++ [e]) rest (by simp; omega)
    refine ⟨e :: r, ⟨e, r, rfl, epa, ebytes, uncached, byte.1, waiting⟩, ?_⟩
    simp only [Machine.writeSplit, run, Res.bind, write, tail, List.append_assoc, List.singleton_append]

theorem State.Splits.storeValue {ty : AccessType} (plain : ty = .wload ∨ ty = .wstore ∨ ty = .half) {n : Nat} (small : n ≤ 4)
    {a : Word} {pa : Nat → Word} (odd : a.toNat % n ≠ 0) (maps : s.maps a n pa) {m : AccessMode} (unlocked : m.locked = false)
    (c : Nat) (v : Word) : ∃ r, Waiting s pa (laneBytes s.eBit v n) r ∧
      storeValue m ty n a v { s with freeCtr := c } = .ok () (s.buffering r c) := by
  have len := length_laneBytes s.eBit v small
  have unaligned : naturallyAligned a n = false := by simpa [naturallyAligned] using odd
  obtain ⟨r, waiting, run⟩ := h.writeSplit unlocked c (laneBytes s.eBit v n) a pa [] (by rwa [len]) (by simpa [len] using small)
  have start : ({ s with freeCtr := c } : State) = s.buffering [] c := by rw [← h.buffer]; rfl
  have fits : Machine.alignAccess ty true a (s.buffering [] c) = .ok a (s.buffering [] c) := by
    refine alignAccess_direct (s := s.buffering [] c) (.inl h.unaligned) ?_ true
    change alignment s.ctlU s.ctlA _ _ = _
    rcases plain with rfl | rfl | rfl <;> simp [alignment, h.unaligned, h.unchecked]
  have big : (s.buffering [] c).eBit = s.eBit := rfl
  refine ⟨r, waiting, ?_⟩
  rw [start, Machine.storeValue, fits]
  simp only [Res.bind, writeAt, watchAccess_off (s := s.buffering [] c) h.watch, unaligned, Bool.false_eq_true, if_false, big, run,
    partialStore]
  rfl

end

/-! ## The drain -/

/-- Memory with single bytes written, each at its own address. -/
def layBytes (pa : Nat → Word) : List Byte → Mem → Mem
  | [], m => m
  | b :: t, m => layBytes (fun k => pa (k + 1)) t (m.write (pa 0).toNat b)

theorem retireAll_waiting {s : State} : ∀ (bytes : List Byte) (pa : Nat → Word) (l : List PendingStore) (t : State),
    Waiting s pa bytes l → t.cfg = s.cfg → retireAll l t = t.setMem (layBytes pa bytes t.mem)
  | [], _, _, t, waiting, _ => by
    rw [Waiting] at waiting
    rw [waiting]
    rfl
  | b :: bytes, pa, l, t, waiting, cfg => by
    obtain ⟨e, r, rfl, epa, ebytes, uncached, o, rest⟩ := waiting
    have region : inRegion t.cfg (pa 0) = false := by rw [cfg]; exact inRegion_of_ordinary o (by omega)
    have clean : busErrorIn t.cfg (pa 0) [b].length = none := by rw [cfg]; exact busErrorIn_of_ordinary o
    have first : retire e t = t.setMem (t.mem.write (pa 0).toNat b) := by
      simp only [retire, uncached, Bool.false_eq_true, if_false, busWrite, ebytes, epa, region, clean]
      rfl
    rw [retireAll, first, retireAll_waiting bytes _ r (t.setMem (t.mem.write (pa 0).toNat b)) rest cfg]
    rfl

theorem read_layBytes_other {b : Nat} : ∀ (bytes : List Byte) (pa : Nat → Word) (m : Mem), m.wf = true →
    (∀ k < bytes.length, b ≠ (pa k).toNat) → (layBytes pa bytes m).read b = m.read b
  | [], _, _, _, _ => rfl
  | x :: bytes, pa, m, wf, apart => by
    rw [layBytes, read_layBytes_other bytes _ _ (Mem.wf_write (pa 0).isLt wf) fun k hk => apart (k + 1) (by simpa using hk),
      Mem.read_write wf, if_neg (apart 0 (by simp))]

theorem read_layBytes : ∀ (bytes : List Byte) (pa : Nat → Word) (m : Mem), m.wf = true →
    (∀ j < bytes.length, ∀ k < bytes.length, pa j = pa k → j = k) → ∀ k < bytes.length,
      (layBytes pa bytes m).read (pa k).toNat = bytes.getD k 0
  | [], _, _, _, _, k, hk => absurd hk (by simp)
  | x :: bytes, pa, m, wf, inj, k, hk => by
    have wf' : (m.write (pa 0).toNat x).wf = true := Mem.wf_write (pa 0).isLt wf
    rw [List.length_cons] at inj hk
    rw [layBytes]
    cases k with
    | zero =>
      rw [read_layBytes_other bytes _ _ wf' fun k hk same => ?_, Mem.read_write wf, if_pos rfl]
      · rfl
      · exact absurd (inj 0 (by omega) (k + 1) (by omega) (BitVec.eq_of_toNat_eq same)) (by omega)
    | succ k =>
      refine (read_layBytes bytes (fun k => pa (k + 1)) _ wf' (fun i hi j hj same => ?_) k (by omega)).trans rfl
      have := inj (i + 1) (by omega) (j + 1) (by omega) same
      omega

theorem laneBytes_getD (big : Bool) {n : Nat} (size : n = 2 ∨ n = 4) (v : Word) {k : Nat} (hk : k < n) :
    (laneBytes big v n).getD k 0 = byteOf big n v k := by
  rcases size with rfl | rfl <;> cases big <;> interval_cases k <;> rfl

/-! ## The instructions -/

section
variable {s : State} (h : s.Splits) {i : Instr} {p u w : Bool} {rn rd rm : RegNum} {off : Word} (ok : addressingOk p w rn rd)
  (hrm : rm ≠ 15)
include h ok hrm

theorem loadsSplit_word (hrd : rd ≠ 15) (e : exec i s = finish (loadWord p u w rn rd rm off s)) :
    LoadsSplit s i p u w rn rd off 4 fun b => if s.eBit then b 0 ++ b 1 ++ b 2 ++ b 3 else b 3 ++ b 2 ++ b 1 ++ b 0 :=
  fun pa odd maps => gives_of_finish e (loadWord_spec hrd ok hrm fun m => by rw [h.loadValue (.inl rfl) odd maps m, laneValue_word])

theorem loadsSplit_half (hrd : rd ≠ 15) (ext : Word → Word) (e : exec i s = finish (loadPart .half 2 ext p u w rn rd rm off s)) :
    LoadsSplit s i p u w rn rd off 2 fun b => ext (BitVec.setWidth 32 (if s.eBit then b 0 ++ b 1 else b 1 ++ b 0)) :=
  fun pa odd maps => gives_of_finish e (loadPart_spec hrd ok hrm (fun m => by
    rw [h.loadValue (.inr (.inr rfl)) odd maps m, laneValue_half]) ext)

theorem storesSplit_of {ty : AccessType} (plain : ty = .wload ∨ ty = .wstore ∨ ty = .half) {n : Nat} (size : n = 2 ∨ n = 4)
    (e : exec i s = finish (storeSingle ty n p u w rn rd rm off s)) : StoresSplit s i p u w rn rd off n := fun pa odd maps inj => by
  have small : n ≤ 4 := by omega
  choose r waiting store using h.storeValue plain small odd maps (m := storeMode s p w) rfl
  obtain ⟨c, v, run, value⟩ := storeSingle_spec ok hrm (fun one => absurd one (by omega)) store
  let x := s.buffering (r c v) c
  let b := x.writeBase rn (addressing p u w (s.reg rn) off).writeback
  have only : b = { x with regs := b.regs } := State.writeBase_eq ..
  obtain ⟨base, kept⟩ : BaseWritten s b p w rn _ :=
    baseWritten_writeBase (t := x) rfl rfl (fun writes => (ok writes).1) u (s.reg rn) off
  have next : b.advance = { s with regs := b.regs, pc := s.past, storeBuffer := r c v, freeCtr := c } := by
    rw [State.advance_eq, only]
    rfl
  have len := length_laneBytes s.eBit v small
  have mem : (drainAll b.advance).mem = layBytes pa (laneBytes s.eBit v n) s.mem := by
    have buffer : b.advance.storeBuffer = r c v := by rw [next]
    rw [drainAll, buffer, retireAll_waiting _ _ _ { b.advance with storeBuffer := [] } (waiting c v) (by rw [next]), next]
    rfl
  refine gives_of_finish e ⟨b.advance, run, fun writes => (bankReg_advance ..).trans (base writes), kept.of_regs (by rw [next]),
    by rw [next], fun a apart => ?_, fun hrd => ⟨?_, fun k hk => ?_⟩⟩
  · rw [mem]
    exact read_layBytes_other _ _ _ h.canonical (by rwa [len])
  · rw [next]
    exact (value hrd).1
  · rw [mem, read_layBytes _ _ _ h.canonical (by rwa [len]) k (by rwa [len]), laneBytes_getD _ size _ hk, (value hrd).2]

end

end Sys2Proof.Machine

namespace Sys2Proof
open Machine

/-- Settles O28: each instruction loads what its access gives (`loadWord_spec`, `loadPart_spec`), from flat memory in one access, else
byte by byte (`State.Splits.loadValue`). -/
theorem singleLoads : Obligations.SingleLoads := by
  have signedByte {s : State} : (fun a => signByte ((s.byteAt a).setWidth 32)) = fun a => (s.byteAt a).signExtend 32 :=
    funext fun _ => signByte_setWidth _
  have signedHalf {α : Type} (h : α → Half) : (fun a => signHalf ((h a).setWidth 32)) = fun a => (h a).signExtend 32 :=
    funext fun _ => signHalf_setWidth _
  refine ⟨fun s cc p u w rn rd pass flat hrd ok => ?_, fun s cc p u w rn rd pass splits hrd ok => ?_⟩
  · have f := (State.flat_iff s).1 flat
    refine ⟨fun off => ⟨?_, ?_⟩, fun n ty rm hrm => ⟨?_, ?_⟩, fun form => ⟨fun h l => ⟨?_, ?_, ?_⟩, fun rm hrm => ⟨?_, ?_, ?_⟩⟩⟩
    · exact loadsFrom_word f ok (by decide) hrd (exec_ldrImm_of_passes pass off)
    · exact loadsFrom_byte f ok (by decide) hrd id (exec_ldrbImm_of_passes pass off)
    · exact loadsFrom_word f ok hrm hrd (exec_ldrReg_of_passes pass n ty rm)
    · exact loadsFrom_byte f ok hrm hrd id (exec_ldrbReg_of_passes pass n ty rm)
    · exact loadsFrom_half f ok (by decide) hrd id (exec_ldrhImm_of_passes pass form h l)
    · rw [← signedByte]
      exact loadsFrom_byte f ok (by decide) hrd signByte (exec_ldrsbImm_of_passes pass form h l)
    · rw [← signedHalf]
      exact loadsFrom_half f ok (by decide) hrd signHalf (exec_ldrshImm_of_passes pass form h l)
    · exact loadsFrom_half f ok hrm hrd id (exec_ldrhReg_of_passes pass form rm)
    · rw [← signedByte]
      exact loadsFrom_byte f ok hrm hrd signByte (exec_ldrsbReg_of_passes pass form rm)
    · rw [← signedHalf]
      exact loadsFrom_half f ok hrm hrd signHalf (exec_ldrshReg_of_passes pass form rm)
  · have h := (State.splits_iff s).1 splits
    refine ⟨fun off => ?_, fun n ty rm hrm => ?_, fun form => ⟨fun x y => ⟨?_, ?_⟩, fun rm hrm => ⟨?_, ?_⟩⟩⟩
    · exact loadsSplit_word h ok (by decide) hrd (exec_ldrImm_of_passes pass off)
    · exact loadsSplit_word h ok hrm hrd (exec_ldrReg_of_passes pass n ty rm)
    · exact loadsSplit_half h ok (by decide) hrd id (exec_ldrhImm_of_passes pass form x y)
    · rw [← signedHalf]
      exact loadsSplit_half h ok (by decide) hrd signHalf (exec_ldrshImm_of_passes pass form x y)
    · exact loadsSplit_half h ok hrm hrd id (exec_ldrhReg_of_passes pass form rm)
    · rw [← signedHalf]
      exact loadsSplit_half h ok hrm hrd signHalf (exec_ldrshReg_of_passes pass form rm)

/-- Settles O29: each instruction stores what its access leaves (`storeSingle_spec`), in flat memory at once, else byte by byte through
the store buffer (`State.Splits.storeValue`, `retireAll_waiting`). -/
theorem singleStores : Obligations.SingleStores := by
  refine ⟨fun s cc p u w rn rd pass flat ok => ?_, fun s cc p u w rn rd pass splits ok => ?_⟩
  · have f := (State.flat_iff s).1 flat
    refine ⟨fun off => ⟨?_, fun hrd => ?_⟩, fun n ty rm hrm => ⟨?_, fun hrd => ?_⟩, fun form => ⟨fun h l => ?_, fun rm hrm => ?_⟩⟩
    · exact storesTo_word f ok (by decide) (exec_strImm_of_passes pass off)
    · exact storesTo_byte f ok (by decide) hrd (exec_strbImm_of_passes pass off)
    · exact storesTo_word f ok hrm (exec_strReg_of_passes pass n ty rm)
    · exact storesTo_byte f ok hrm hrd (exec_strbReg_of_passes pass n ty rm)
    · exact storesTo_half f ok (by decide) (exec_strhImm_of_passes pass form h l)
    · exact storesTo_half f ok hrm (exec_strhReg_of_passes pass form rm)
  · have h := (State.splits_iff s).1 splits
    refine ⟨fun off => ?_, fun n ty rm hrm => ?_, fun form => ⟨fun x y => ?_, fun rm hrm => ?_⟩⟩
    · exact storesSplit_of h ok (by decide) (.inr (.inl rfl)) (.inr rfl) (exec_strImm_of_passes pass off)
    · exact storesSplit_of h ok hrm (.inr (.inl rfl)) (.inr rfl) (exec_strReg_of_passes pass n ty rm)
    · exact storesSplit_of h ok (by decide) (.inr (.inr rfl)) (.inl rfl) (exec_strhImm_of_passes pass form x y)
    · exact storesSplit_of h ok hrm (.inr (.inr rfl)) (.inl rfl) (exec_strhReg_of_passes pass form rm)

end Sys2Proof
end

section
/-! Blocks of words in flat memory: doublewords, and the return state of SRS and RFE (O30, O38). -/
namespace Sys2Proof.Machine

/-! ## Word addresses -/

theorem fld_add_words (a : Word) (k : Nat) : fld (a + BitVec.ofNat 32 (4 * k)) 0 2 = fld a 0 2 := by
  refine BitVec.eq_of_toNat_eq ?_
  rw [toNat_fld_zero, toNat_fld_zero, BitVec.toNat_add, BitVec.toNat_ofNat]
  omega

theorem add_words_succ (a : Word) (k : Nat) : a + BitVec.ofNat 32 (4 * (k + 1)) = a + 4 + BitVec.ofNat 32 (4 * k) := by
  rw [show 4 * (k + 1) = 4 + 4 * k by omega, BitVec.ofNat_add, ← BitVec.add_assoc]
  rfl

theorem fld_add_four {a : Word} (h : fld a 0 2 = 0#2) : fld (a + 4) 0 2 = 0#2 := (fld_add_words a 1).trans h

theorem State.ordinary.words {s : State} {a : Word} {n : Nat} (h : s.ordinary a (4 * (n + 1))) :
    s.ordinary a 4 ∧ s.ordinary (a + 4) (4 * n) :=
  ⟨h.mono (by omega), State.ordinary.shift (j := 4) (by rwa [show 4 + 4 * n = 4 * (n + 1) by omega])⟩

/-! ## The bytes of a block -/

/-- The bytes of words, one after the other. -/
def blockBytes (big : Bool) (l : List Word) : List Byte := l.flatMap fun w => laneBytes big w 4

theorem blockBytes_cons (big : Bool) (w : Word) (l : List Word) :
    blockBytes big (w :: l) = laneBytes big w 4 ++ blockBytes big l := rfl

theorem length_blockBytes (big : Bool) (l : List Word) : (blockBytes big l).length = 4 * l.length := by
  induction l with
  | nil => rfl
  | cons w l ih =>
    rw [blockBytes_cons, List.length_append, ih, length_laneBytes _ _ (le_refl 4), List.length_cons]
    omega

/-- Each word of a block, read from the bytes of it. -/
theorem laneValue_of_block {m : Mem} {big : Bool} : ∀ (l : List Word) (a : Word),
    m.readBytes a (4 * l.length) = blockBytes big l → ∀ k < l.length,
      laneValue big (m.readBytes (a + BitVec.ofNat 32 (4 * k)) 4) = l.getD k 0
  | [], _, _, k, hk => absurd hk (by simp)
  | w :: l, a, block, k, hk => by
    rw [List.length_cons, show 4 * (l.length + 1) = 4 + 4 * l.length by omega, Mem.readBytes_append, blockBytes_cons] at block
    obtain ⟨first, rest⟩ := List.append_inj block (by rw [Mem.length_readBytes, length_laneBytes _ _ (le_refl 4)])
    cases k with
    | zero =>
      rw [Nat.mul_zero, BitVec.add_zero, first, laneValue_laneBytes_word]
      rfl
    | succ k =>
      rw [add_words_succ]
      exact laneValue_of_block l (a + 4) rest k (by simpa using hk)

theorem wordAt_block {s t : State} {a : Word} {l : List Word} (canonical : s.memCanonical) (psrs : t.psrs = s.psrs)
    (small : l.length ≤ 16) (e : t.mem = s.mem.writeBytes a (blockBytes s.eBit l)) {k : Nat} (hk : k < l.length) :
    t.wordAt (a + BitVec.ofNat 32 (4 * k)) = l.getD k 0 := by
  have len := length_blockBytes s.eBit l
  have read := Mem.readBytes_writeBytes (blockBytes s.eBit l) a canonical (by omega)
  rw [len, ← e] at read
  rw [State.wordAt_eq, State.eBit_congr psrs]
  exact laneValue_of_block l a read k hk

theorem wordAt_block_two {s t : State} {a v w : Word} (canonical : s.memCanonical) (psrs : t.psrs = s.psrs)
    (e : t.mem = s.mem.writeBytes a (blockBytes s.eBit [v, w])) : t.wordAt a = v ∧ t.wordAt (a + 4) = w := by
  have word {k : Nat} (hk : k < 2) := wordAt_block (l := [v, w]) canonical psrs (show 2 ≤ 16 by omega) e (k := k) hk
  have first := word (k := 0) (by omega)
  rw [Nat.mul_zero, BitVec.add_zero] at first
  exact ⟨first, word (k := 1) (by omega)⟩

/-! ## The accesses of a block -/

section
variable {s : State} (f : s.Flat)
include f

theorem State.Flat.loadWords (m : AccessMode) : ∀ (n : Nat) (a : Word), fld a 0 2 = 0#2 → s.ordinary a (4 * n) →
    loadWords m a n s = .ok ((List.range n).map fun k => s.wordAt (a + BitVec.ofNat 32 (4 * k))) s
  | 0, _, _, _ => rfl
  | n + 1, a, aligned, o => by
    obtain ⟨first, rest⟩ := o.words
    have tail := State.Flat.loadWords m n (a + 4) (fld_add_four aligned) rest
    simp only [Machine.loadWords, f.readAt_word aligned first, Res.bind, tail, List.range_succ_eq_map, List.map_cons, List.map_map,
      Function.comp_def, add_words_succ, Nat.succ_eq_add_one, Nat.mul_zero, BitVec.add_zero]

omit f in
theorem State.Flat.storeWords (m : AccessMode) : ∀ (l : List Word) {s : State} (a : Word), s.Flat → fld a 0 2 = 0#2 →
    s.ordinary a (4 * l.length) → storeWords m a l s = .ok () (s.setMem (s.mem.writeBytes a (blockBytes s.eBit l)))
  | [], _, _, _, _, _ => rfl
  | w :: l, s, a, f, aligned, o => by
    obtain ⟨first, rest⟩ := State.ordinary.words o
    have write := f.writeAt first (by omega) (by omega) (naturallyAligned_of_fld aligned) m w
    let u := s.setMem (s.mem.writeBytes a (laneBytes s.eBit w 4))
    have fu : u.Flat := f.setMem (Mem.wf_writeBytes _ a f.canonical)
    have tail := State.Flat.storeWords m l (s := u) (a + 4) fu (fld_add_four aligned) rest
    rw [Machine.storeWords, write, Res.bind, tail, blockBytes_cons, Mem.writeBytes_append, length_laneBytes _ _ (le_refl 4)]
    rfl

theorem State.Flat.storeMany {ty : AccessType} {a b : Word} {l : List Word} (at' : Machine.alignAccess ty true a s = .ok b s)
    (aligned : fld b 0 2 = 0#2) (o : s.ordinary b (4 * l.length)) (m : AccessMode) :
    storeMany m ty a l s = .ok () (s.setMem (s.mem.writeBytes b (blockBytes s.eBit l))) := by
  simp only [Machine.storeMany, at', Res.bind, State.Flat.storeWords m l b f aligned o, partialStore]

/-- The alignment of a doubleword (20_memory.md R45). -/
theorem State.Flat.alignAccess_two {a : Word} (fits : fld a 0 3 = 0#3 ∨ (s.ctlU = true ∧ fld a 0 2 = 0#2)) (write : Bool) :
    Machine.alignAccess .two write a s = .ok a s := by
  refine f.alignAccess ?_ write
  rcases fits with h | ⟨u, h⟩
  · simp [alignment, h]
  · by_cases low : fld a 0 3 = 0#3
    · simp [alignment, low]
    · simp [alignment, low, u, bitAt_fld_zero, bitAt_of_fld h]

end

theorem fld_two_of_three {a : Word} (h : fld a 0 3 = 0#3) : fld a 0 2 = 0#2 := by
  have := congrArg BitVec.toNat h
  refine BitVec.eq_of_toNat_eq ?_
  rw [toNat_fld_zero] at *
  simp only [BitVec.toNat_ofNat] at *
  omega

/-! ## States that differ in the general registers -/

/-- Nothing but the general registers has changed. -/
def OnlyRegs (s t : State) : Prop := t = { s with regs := t.regs }

theorem OnlyRegs.refl (s : State) : OnlyRegs s s := rfl

section
variable {s t : State} (h : OnlyRegs s t)
include h

theorem OnlyRegs.of_eq {u : State} (e : u = { t with regs := u.regs }) : OnlyRegs s u :=
  e.trans (congrArg (fun x : State => { x with regs := u.regs }) h)

theorem OnlyRegs.setReg (n : RegNum) (v : Word) : OnlyRegs s (t.setReg n v) := h.of_eq (State.setReg_eq t n v)

theorem OnlyRegs.writeBase (n : RegNum) (v : Option Word) : OnlyRegs s (t.writeBase n v) := h.of_eq (State.writeBase_eq t n v)

theorem OnlyRegs.bank : t.bank = s.bank := by rw [h]; rfl

theorem OnlyRegs.advance : t.advance = { s with regs := t.regs, pc := s.past } := by
  have moved := State.advance_eq t
  have past : t.past = s.past := by rw [h]; rfl
  rw [past] at moved
  exact moved.trans (congrArg (fun x : State => { x with pc := s.past }) h)

end

/-! ## LDRD and STRD (47_core_instructions.md R771) -/

section
variable {s : State} (f : s.Flat) {p u w : Bool} {rn rd rm : RegNum} {off : Word} (ok : addressingOk p w rn rd) (hrm : rm ≠ 15)
  (even : bitAt rd 0 = false) (low : rd ≠ 14)
include f ok hrm even low

omit f in
theorem doubleForm : (badAddressing p w rn rd rm || badPair rd) = false := by
  rw [badAddressing_false ok hrm, badPair, even, beq_eq_false_iff_ne.2 low]
  rfl

theorem loadDouble_spec {a : Word} (address : a = transferAddress p u (s.reg rn) off)
    (fits : fld a 0 3 = 0#3 ∨ (s.ctlU = true ∧ fld a 0 2 = 0#2)) (o : s.ordinary a 8) :
    ∃ t, loadDouble p u w rn rd rm off s = .ok () t ∧
      t.bankReg s.bank rd = s.wordAt a ∧ t.bankReg s.bank (rd + 1) = s.wordAt (a + 4) ∧
        (transferWrites p w → rn ≠ rd + 1 → t.bankReg s.bank rn = upDown u (s.reg rn) off) ∧
        RegsBut s t (if p && !w then [rd, rd + 1] else [rd, rd + 1, rn]) ∧ t.psrs = s.psrs ∧ t.pc = s.past ∧ CoreOnly s t := by
  have next : rd + 1 ≠ 15 := fun e => low (by rw [← BitVec.add_sub_cancel rd 1, e]; rfl)
  have hrd : rd ≠ 15 := fun e => by
    rw [e] at even
    exact absurd even (by decide)
  have apart : rd ≠ rd + 1 := fun e => absurd (BitVec.self_eq_add_right.1 e) (by decide)
  have aligned : fld a 0 2 = 0#2 := fits.elim fld_two_of_three And.right
  let b := s.writeBase rn (addressing p u w (s.reg rn) off).writeback
  let c := b.setReg rd (s.wordAt a)
  let d := c.setReg (rd + 1) (s.wordAt (a + 4))
  have onlyB : OnlyRegs s b := (OnlyRegs.refl s).writeBase ..
  have onlyC : OnlyRegs s c := onlyB.setReg ..
  have moved : d.advance = { s with regs := d.regs, pc := s.past } := (onlyC.setReg ..).advance
  obtain ⟨base, kept⟩ : BaseWritten s b p w rn _ := baseWritten_writeBase rfl rfl (fun writes => (ok writes).1) u (s.reg rn) off
  have load (m : AccessMode) : loadMany m .two a 2 s = .ok [s.wordAt a, s.wordAt (a + 4)] s := by
    have words := f.loadWords m 2 a aligned o
    simp only [loadMany, f.alignAccess_two fits, Res.bind, words, List.range_succ_eq_map, List.map_cons, List.range_zero,
      List.map_nil, Nat.mul_zero, BitVec.add_zero]
    rfl
  refine ⟨d.advance, ?_, ?_, ?_, fun writes other => ?_, ?_, ?_, ?_, ?_⟩
  · simp only [loadDouble, doubleForm ok hrm even low, Bool.false_eq_true, if_false, addressing_address, ← address, load, Res.bind]
    rfl
  · rw [bankReg_advance]
    exact (bankReg_setReg_other hrd apart _ onlyC.bank).trans (bankReg_setReg hrd _ onlyB.bank)
  · rw [bankReg_advance]
    exact bankReg_setReg next _ onlyC.bank
  · obtain ⟨hrn, ne⟩ := ok writes
    rw [bankReg_advance]
    exact (bankReg_setReg_other hrn other _ onlyC.bank).trans ((bankReg_setReg_other hrn ne _ onlyB.bank).trans (base writes))
  · refine (((kept.setReg onlyB.bank rd _).setReg onlyC.bank (rd + 1) _).of_regs (by rw [State.advance_eq])).mono fun n hn => ?_
    generalize (p && !w) = keeps at hn ⊢
    cases keeps with
    | true => simpa using hn
    | false =>
      simp only [Bool.false_eq_true, if_false, List.mem_append, List.mem_cons, List.not_mem_nil, or_false] at hn ⊢
      rcases hn with (h | h) | h <;> simp [h]
  · rw [moved]
  · rw [moved]
  · rw [moved]
    rfl

theorem storeDouble_spec {a : Word} (address : a = transferAddress p u (s.reg rn) off)
    (fits : fld a 0 3 = 0#3 ∨ (s.ctlU = true ∧ fld a 0 2 = 0#2)) (o : s.ordinary a 8) :
    ∃ t, storeDouble p u w rn rd rm off s = .ok () t ∧ Stored s t p u w rn off a 8 ∧ t.wordAt a = s.reg rd ∧
      t.wordAt (a + 4) = s.reg (rd + 1) ∧ t.freeCtr = s.freeCtr := by
  have aligned : fld a 0 2 = 0#2 := fits.elim fld_two_of_three And.right
  let l := [s.reg rd, s.reg (rd + 1)]
  let x := s.setMem (s.mem.writeBytes a (blockBytes s.eBit l))
  let b := x.writeBase rn (addressing p u w (s.reg rn) off).writeback
  have store := f.storeMany (l := l) (f.alignAccess_two fits true) aligned o (storeMode s p w)
  have only : b = { x with regs := b.regs } := State.writeBase_eq ..
  obtain ⟨base, kept⟩ : BaseWritten s b p w rn _ :=
    baseWritten_writeBase (t := x) rfl rfl (fun writes => (ok writes).1) u (s.reg rn) off
  have next : b.advance = { s with regs := b.regs, pc := s.past, mem := s.mem.writeBytes a (blockBytes s.eBit l) } := by
    rw [State.advance_eq, only]
    rfl
  have mem : b.advance.mem = s.mem.writeBytes a (blockBytes s.eBit l) := by rw [next]
  have psrs : b.advance.psrs = s.psrs := by rw [next]
  have memory := memBut_writeBytes f.canonical mem
  rw [length_blockBytes] at memory
  obtain ⟨first, second⟩ := wordAt_block_two f.canonical psrs mem
  refine ⟨b.advance, ?_, ⟨fun writes => (bankReg_advance ..).trans (base writes), kept.of_regs (by rw [next]), psrs, by rw [next],
    by rw [next]; rfl, memory⟩, first, second, by rw [next]⟩
  simp only [storeDouble, doubleForm ok hrm even low, Bool.false_eq_true, if_false, addressing_address, ← address]
  exact (congrArg (Res.bind · _) store).trans rfl

end

/-! ## SRS and RFE (47_core_instructions.md R720, R721) -/

/-- The lowest address of a block of two words. -/
theorem multipleStart_two (p u : Bool) (base : Word) :
    multipleStart p u base 2 = if u then (if p then base + 4 else base) else (if p then base - 8 else base - 4) := by
  cases p <;> cases u
  · change base - 8 + 4 = base - 4
    bv_omega
  · rfl
  · rfl
  · rfl

/-- A return from a state that differs in the general registers only. -/
theorem Returned.of_regs {s u t : State} {psr target : Word} (h : Returned u t psr target) (only : u = { s with regs := u.regs }) :
    Returned s t psr target := by
  rw [only] at h
  exact h

theorem exec_srs {s : State} {p u w : Bool} {mode : BitVec 5} (legal : legalMode mode = true) {psr : Word} (some : s.spsr = some psr) :
    exec (.srs p u w mode) s = finish
      ((storeMany (plainMode s true) .multi (multipleStart p u (s.bankReg (bankOf mode) 13) 2) [s.reg 14, psr] s).bind fun _ t =>
        .ok () (if w then t.setBankReg (bankOf mode) 13 (multipleBase u (s.bankReg (bankOf mode) 13) 2) else t).advance) := by
  change execSrs p u w mode s = _
  simp only [execSrs, legal, Bool.not_true, Bool.false_eq_true, if_false, some]

theorem setBankReg_eq (s : State) (b : Bank) (n : RegNum) (v : Word) :
    s.setBankReg b n v = { s with regs := (s.setBankReg b n v).regs } := by
  unfold State.setBankReg
  split <;> rfl

theorem regs_setBankReg_other (s : State) (b : Bank) (n : RegNum) (v : Word) {k : Nat} (hk : k < 30)
    (apart : n ≠ 15 → k ≠ physIndex b n) : (s.setBankReg b n v).regs[k] = s.regs[k] := by
  unfold State.setBankReg
  split
  · rfl
  · next hn => simp [Vector.getElem_set_ne _ _ (apart hn).symm]

/-- The stack pointer of a bank written back, or not. -/
theorem stackWritten {s t : State} (regs : t.regs = s.regs) (w : Bool) (b : Bank) (v : Word) :
    let r := if w then t.setBankReg b 13 v else t
    r.bankReg b 13 = (if w then v else s.bankReg b 13) ∧
      (∀ k (_ : k < 30), k ≠ physIndex b 13 → r.regs[k] = s.regs[k]) ∧ r = { t with regs := r.regs } := by
  cases w with
  | false =>
    refine ⟨?_, fun k hk _ => by simp [regs], rfl⟩
    change t.bankReg b 13 = s.bankReg b 13
    rw [State.bankReg, State.bankReg, regs]
  | true =>
    have kept (k : Nat) (hk : k < 30) (apart : k ≠ physIndex b 13) : (t.setBankReg b 13 v).regs[k] = s.regs[k] := by
      rw [regs_setBankReg_other t b 13 v hk fun _ => apart]
      simp only [regs]
    exact ⟨bankReg_setBankReg_same t b (n := 13) (by decide) v, kept, setBankReg_eq t b 13 v⟩

theorem State.Flat.gives_srs {s : State} (f : s.Flat) {p u w : Bool} {mode : BitVec 5} {psr start : Word} (some : s.spsr = some psr)
    (legal : legalMode mode = true) (at' : multipleStart p u (s.bankReg (bankOf mode) 13) 2 = start) (fits : s.wordFits start)
    (o : s.ordinary (lowest 4 start) 8) : Gives (.srs p u w mode) s fun t =>
      t.wordAt (lowest 4 start) = s.reg 14 ∧ t.wordAt (lowest 4 start + 4) = psr ∧
        t.bankReg (bankOf mode) 13 = (if w then multipleBase u (s.bankReg (bankOf mode) 13) 2 else s.bankReg (bankOf mode) 13) ∧
        (∀ k (_ : k < 30), k ≠ physIndex (bankOf mode) 13 → t.regs[k] = s.regs[k]) ∧ t.psrs = s.psrs ∧ t.pc = s.past ∧
        CoreMemOnly s t ∧ MemBut s t (lowest 4 start) 8 := by
  let l := [s.reg 14, psr]
  let x := s.setMem (s.mem.writeBytes (lowest 4 start) (blockBytes s.eBit l))
  let v := multipleBase u (s.bankReg (bankOf mode) 13) 2
  let r := if w then x.setBankReg (bankOf mode) 13 v else x
  have store := f.storeMany (l := l) (f.alignAccess_multi fits true) (fld_lowest start) o (plainMode s true)
  obtain ⟨sp, kept, only⟩ := stackWritten (s := s) (t := x) rfl w (bankOf mode) v
  have next : r.advance = { s with
      regs := r.regs, pc := s.past, mem := s.mem.writeBytes (lowest 4 start) (blockBytes s.eBit l) } := by
    rw [State.advance_eq, show r = _ from only]
    rfl
  have mem : r.advance.mem = s.mem.writeBytes (lowest 4 start) (blockBytes s.eBit l) := by rw [next]
  have psrs : r.advance.psrs = s.psrs := by rw [next]
  have memory := memBut_writeBytes f.canonical mem
  rw [length_blockBytes] at memory
  obtain ⟨first, second⟩ := wordAt_block_two f.canonical psrs mem
  refine gives_of_finish (exec_srs legal some) ⟨r.advance, ?_, first, second,
    (bankReg_advance ..).trans sp, fun k hk apart => ?_, psrs, by rw [next], by rw [next]; rfl, memory⟩
  · rw [at']
    exact (congrArg (Res.bind · _) store).trans rfl
  · simp only [next]
    exact kept k hk apart

theorem State.Flat.gives_rfe {s : State} (f : s.Flat) {p u w : Bool} {rn : RegNum} {start : Word} (running : s.halted = false)
    (priv : s.privileged = true) (at' : multipleStart p u (s.reg rn) 2 = start) (fits : s.wordFits start)
    (o : s.ordinary (lowest 4 start) 8) : Gives (.rfe p u w rn) s fun t =>
      Returned s t (s.wordAt (lowest 4 start + 4)) (s.wordAt (lowest 4 start)) ∧
        (w = true → rn ≠ 15 → t.bankReg s.bank rn = multipleBase u (s.reg rn) 2) ∧ RegsBut s t (if w then [rn] else []) := by
  let x := if w then s.setReg rn (multipleBase u (s.reg rn) 2) else s
  have only : x = { s with regs := x.regs } := by
    cases w with
    | false => rfl
    | true => exact State.setReg_eq s rn _
  have running' : x.halted = false := by rw [only]; exact running
  have priv' : x.privileged = true := by rw [only]; exact priv
  obtain ⟨returned, regs⟩ := returned_exceptionReturn running' priv' (s.wordAt (lowest 4 start + 4)) (s.wordAt (lowest 4 start))
  obtain ⟨low, high⟩ := State.ordinary.words (n := 1) o
  let m := { plainMode s false with toPc := true }
  have readLow := f.readAt_word (fld_lowest start) low m
  have readHigh := f.readAt_word (fld_add_four (fld_lowest start)) high m
  have e : exec (.rfe p u w rn) s =
      finish (.ok () (exceptionReturn x (s.wordAt (lowest 4 start + 4)) (s.wordAt (lowest 4 start)))) := by
    change execRfe p u w rn s = _
    simp only [execRfe, priv, Bool.not_true, Bool.false_eq_true, if_false, at', f.alignAccess_multi fits, Res.bind]
    simp only [m] at readLow readHigh
    rw [readHigh]
    simp only [readLow]
    rfl
  refine gives_of_finish e ⟨_, rfl, returned.of_regs only, fun writes hrn => ?_, ?_⟩
  · rw [State.bankReg, regs]
    subst writes
    exact bankReg_setReg hrn _ rfl
  · refine RegsBut.of_regs (t := x) ?_ regs
    cases w with
    | false => exact regsBut_nil s
    | true => exact regsBut_setReg s rn _

end Sys2Proof.Machine

namespace Sys2Proof
open Machine

/-- Settles O30: both forms of each instruction, by the rules `loadDouble_spec` and `storeDouble_spec`. -/
theorem doublewordTransfers : Obligations.DoublewordTransfers := by
  intro s cc p u w rn rd rm h l pass flat form even low ok x hx hrm a fits o
  have f := (State.flat_iff s).1 flat
  simp only [List.mem_cons, List.not_mem_nil, or_false] at hx
  rcases hx with rfl | rfl
  · exact ⟨gives_of_finish (exec_ldrdImm_of_passes pass form h l) (loadDouble_spec f ok hrm even low rfl fits o),
      gives_of_finish (exec_strdImm_of_passes pass form h l) (storeDouble_spec f ok hrm even low rfl fits o)⟩
  · exact ⟨gives_of_finish (exec_ldrdReg_of_passes pass form rm) (loadDouble_spec f ok hrm even low rfl fits o),
      gives_of_finish (exec_strdReg_of_passes pass form rm) (storeDouble_spec f ok hrm even low rfl fits o)⟩

/-- Settles O38: the block goes to and from flat memory (`State.Flat.gives_srs`, `State.Flat.gives_rfe`). -/
theorem returnState : Obligations.ReturnState := by
  intro s p u w mode rn flat
  have f := (State.flat_iff s).1 flat
  refine ⟨?_, fun none legal => ?_, ?_, fun running user => ?_⟩
  · intro psr some legal base start fits o
    exact f.gives_srs some legal (multipleStart_two ..) fits o
  · change execSrs p u w mode s = _
    simp only [execSrs, legal, Bool.not_true, Bool.false_eq_true, if_false, none, finish]
  · intro running user base start fits o
    exact f.gives_rfe running (privileged_of_not_user user) (multipleStart_two ..) fits o
  · change execRfe p u w rn s = _
    simp only [execRfe, unprivileged_of_user running user, Bool.not_false, if_true, finish]

end Sys2Proof
end

section
/-! Load and store multiples (O31 to O33). -/
namespace Sys2Proof.Machine

/-! ## The registers of a list (47_core_instructions.md R772) -/

/-- The place of a number among those of a range that pass a test. -/
theorem getElem?_filter_range (q : Nat → Bool) (n k i : Nat) :
    ((List.range n).filter q)[k]? = some i ↔ i < n ∧ q i = true ∧ k = ((List.range i).filter q).length := by
  induction n with
  | zero => simp
  | succ n ih =>
    have split : (List.range (n + 1)).filter q = (List.range n).filter q ++ if q n then [n] else [] := by
      rw [List.range_succ, List.filter_append, List.filter_singleton]
      cases q n <;> rfl
    rw [split, List.getElem?_append]
    by_cases old : k < ((List.range n).filter q).length
    · rw [if_pos old, ih]
      refine ⟨fun ⟨lt, rest⟩ => ⟨by omega, rest⟩, fun ⟨lt, pass, place⟩ => ⟨?_, pass, place⟩⟩
      by_contra ge
      obtain rfl : i = n := by omega
      omega
    · rw [if_neg old]
      constructor
      · intro new
        by_cases pass : q n = true
        · rw [if_pos pass, List.getElem?_singleton] at new
          split at new
          · next zero =>
            obtain rfl := Option.some.inj new
            exact ⟨by omega, pass, by omega⟩
          · cases new
        · rw [if_neg pass] at new
          cases new
      · rintro ⟨lt, pass, place⟩
        by_cases below : i < n
        · have := ih.2 ⟨below, pass, place⟩
          rw [List.getElem?_eq_none (by omega)] at this
          cases this
        · obtain rfl : i = n := by omega
          rw [if_pos pass, place, Nat.sub_self]
          rfl

theorem listRegs_getElem? (list : BitVec 16) (k : Nat) (i : RegNum) :
    (listRegs list)[k]? = some i ↔ bitAt list i.toNat = true ∧ k = rankIn list i := by
  have row (j : Nat) := getElem?_filter_range (fun i => bitAt list i) 16 k j
  rw [listRegs, List.getElem?_map, Option.map_eq_some_iff]
  constructor
  · rintro ⟨j, found, rfl⟩
    obtain ⟨lt, bit, place⟩ := (row j).1 found
    have same : (BitVec.ofNat 4 j).toNat = j := by rw [BitVec.toNat_ofNat]; omega
    rw [rankIn, same]
    exact ⟨bit, place⟩
  · rintro ⟨bit, place⟩
    exact ⟨i.toNat, (row _).2 ⟨i.isLt, bit, place⟩, by simp⟩

theorem length_listRegs (list : BitVec 16) : (listRegs list).length = listCount list := by
  rw [listRegs, List.length_map, listCount]

theorem listCount_le (list : BitVec 16) : listCount list ≤ 16 := by
  have := List.length_filter_le (fun i => bitAt list i) (List.range 16)
  rwa [List.length_range] at this

theorem rankIn_lt {list : BitVec 16} {i : RegNum} (h : bitAt list i.toNat = true) : rankIn list i < listCount list := by
  have found := (listRegs_getElem? list (rankIn list i) i).2 ⟨h, rfl⟩
  rw [← length_listRegs]
  exact (List.getElem?_eq_some_iff.1 found).1

theorem nodup_listRegs (list : BitVec 16) : (listRegs list).Nodup := by
  refine List.Nodup.map_on (fun x hx y hy same => ?_) (List.nodup_range.filter _)
  have lt (z : Nat) (hz : z ∈ (List.range 16).filter fun i => bitAt list i) : z < 16 := by simp at hz; exact hz.1
  have := congrArg BitVec.toNat same
  have := lt x hx
  have := lt y hy
  simp only [BitVec.toNat_ofNat] at *
  omega

/-! ## The transfers of a list -/

theorem mem_transfers {list : BitVec 16} {a : Word} {x : RegNum × Word} :
    x ∈ transfers list a ↔ bitAt list x.1.toNat = true ∧ x.2 = wordOf a list x.1 := by
  rw [transfers, List.mem_map]
  constructor
  · rintro ⟨⟨i, k⟩, mem, rfl⟩
    obtain ⟨bit, rfl⟩ := (listRegs_getElem? ..).1 (List.mk_mem_zipIdx_iff_getElem?.1 mem)
    exact ⟨bit, rfl⟩
  · rintro ⟨bit, address⟩
    exact ⟨(x.1, rankIn list x.1), List.mk_mem_zipIdx_iff_getElem?.2 ((listRegs_getElem? ..).2 ⟨bit, rfl⟩), Prod.ext rfl address.symm⟩

theorem map_fst_transfers (list : BitVec 16) (a : Word) : (transfers list a).map Prod.fst = listRegs list := by
  rw [transfers, List.map_map]
  exact List.zipIdx_map_fst 0 (listRegs list)

/-- The word of a listed register is in the block, aligned with it. -/
theorem wordOf_fits {s : State} {list : BitVec 16} {a : Word} (aligned : fld a 0 2 = 0#2) (o : s.ordinary a (4 * listCount list))
    {i : RegNum} (h : bitAt list i.toNat = true) : fld (wordOf a list i) 0 2 = 0#2 ∧ s.ordinary (wordOf a list i) 4 := by
  have := rankIn_lt h
  exact ⟨(fld_add_words ..).trans aligned, State.ordinary.shift (o.mono (by omega))⟩

section
variable {s : State} (f : s.Flat) {list : BitVec 16} {a : Word} (aligned : fld a 0 2 = 0#2)
  (o : s.ordinary a (4 * listCount list)) (m : AccessMode)
include f aligned o

/-- In flat memory the order of the accesses does not show. -/
theorem State.Flat.transferOrder (write : Bool) : transferOrder m write (transfers list a) s = (transfers list a, s) := by
  have hidden : orderShows m write s (transfers list a) = false := by
    rw [orderShows, List.any_eq_false]
    rintro x hx
    obtain ⟨bit, address⟩ := mem_transfers.1 hx
    obtain ⟨-, word⟩ := wordOf_fits aligned o bit
    rw [← address] at word
    have t := translate_flat (p := if write then .write else .read) f.mmu f.remap f.older (by cases write <;> rfl)
      (aligned := true) (.inl rfl) m.user x.2
    simp [fcse_zero f.pid, t, inRegion_of_ordinary word, busErrorIn_of_ordinary word]
  rw [Machine.transferOrder, hidden, Bool.and_false]
  rfl

omit aligned o in
theorem State.Flat.loadList : ∀ l : List (RegNum × Word), (∀ x ∈ l, fld x.2 0 2 = 0#2 ∧ s.ordinary x.2 4) →
    loadList m l s = .ok (l.map fun x => (x.1, s.wordAt x.2)) s
  | [], _ => rfl
  | x :: l, fits => by
    obtain ⟨al, word⟩ := fits x (by simp)
    have tail := State.Flat.loadList l fun y hy => fits y (by simp [hy])
    simp only [Machine.loadList, f.readAt_word al word, Res.bind, tail, List.map_cons]

end

/-- The words that a load multiple loads. -/
def loadedWords (s : State) (list : BitVec 16) (a : Word) : List (RegNum × Word) :=
  (transfers list a).map fun x => (x.1, s.wordAt x.2)

theorem mem_loadedWords {s : State} {list : BitVec 16} {a : Word} {x : RegNum × Word} :
    x ∈ loadedWords s list a ↔ bitAt list x.1.toNat = true ∧ x.2 = s.wordAt (wordOf a list x.1) := by
  rw [loadedWords, List.mem_map]
  constructor
  · rintro ⟨y, mem, rfl⟩
    obtain ⟨bit, address⟩ := mem_transfers.1 mem
    exact ⟨bit, congrArg s.wordAt address⟩
  · rintro ⟨bit, value⟩
    exact ⟨(x.1, wordOf a list x.1), mem_transfers.2 ⟨bit, rfl⟩, Prod.ext rfl value.symm⟩

theorem nodup_loadedWords (s : State) (list : BitVec 16) (a : Word) : ((loadedWords s list a).map Prod.fst).Nodup := by
  have keys : (loadedWords s list a).map Prod.fst = listRegs list := by
    rw [loadedWords, List.map_map]
    exact map_fst_transfers list a
  rw [keys]
  exact nodup_listRegs list

theorem find_pc_none {s : State} {list : BitVec 16} {a : Word} (h : bitAt list 15 = false) :
    (loadedWords s list a).find? (fun x => x.1 == 15) = none := by
  rw [List.find?_eq_none]
  intro x hx pc
  obtain ⟨bit, -⟩ := mem_loadedWords.1 hx
  rw [beq_iff_eq.1 pc] at bit
  exact Bool.false_ne_true (h.symm.trans bit)

theorem find_pc_some {s : State} {list : BitVec 16} {a : Word} (h : bitAt list 15 = true) :
    (loadedWords s list a).find? (fun x => x.1 == 15) = some (15, s.wordAt (wordOf a list 15)) := by
  have listed : (15, s.wordAt (wordOf a list 15)) ∈ loadedWords s list a := mem_loadedWords.2 ⟨h, rfl⟩
  cases found : (loadedWords s list a).find? fun x => x.1 == 15 with
  | none => exact (List.find?_eq_none.1 found _ listed rfl).elim
  | some x =>
    obtain ⟨-, value⟩ := mem_loadedWords.1 (List.mem_of_find?_eq_some found)
    have pc : x.1 = 15 := by simpa using List.find?_some found
    rw [pc] at value
    exact congrArg some (Prod.ext pc value)

/-! ## The registers that a load multiple writes -/

theorem onlyRegs_writeList (b : Bank) : ∀ (l : List (RegNum × Word)) {s t : State}, OnlyRegs s t → OnlyRegs s (writeList b l t)
  | [], _, _, h => h
  | x :: l, _, t, h => onlyRegs_writeList b l (h.of_eq (setBankReg_eq t b x.1 x.2))

theorem regs_writeList_other (b : Bank) {k : Nat} (hk : k < 30) : ∀ (l : List (RegNum × Word)) (s : State),
    (∀ x ∈ l, x.1 ≠ 15 → k ≠ physIndex b x.1) → (writeList b l s).regs[k] = s.regs[k]
  | [], _, _ => rfl
  | x :: l, s, apart => by
    rw [writeList, regs_writeList_other b hk l _ fun y hy => apart y (by simp [hy]),
      regs_setBankReg_other s b x.1 x.2 hk (apart x (by simp))]

theorem bankReg_writeList (b : Bank) {i : RegNum} (hi : i ≠ 15) {v : Word} : ∀ (l : List (RegNum × Word)) (s : State),
    (l.map Prod.fst).Nodup → (i, v) ∈ l → (writeList b l s).bankReg b i = v
  | [], _, _, mem => by cases mem
  | x :: l, s, nodup, mem => by
    rw [List.map_cons, List.nodup_cons] at nodup
    rcases List.mem_cons.1 mem with rfl | later
    · have kept : (writeList b l (s.setBankReg b i v)).bankReg b i = (s.setBankReg b i v).bankReg b i := by
        refine regs_writeList_other b _ l _ fun y hy hy15 same => nodup.1 ?_
        rw [physIndex_injective hi hy15 same]
        exact List.mem_map_of_mem (f := Prod.fst) (a := y) hy
      exact kept.trans (bankReg_setBankReg_same s b hi v)
    · exact bankReg_writeList b hi l _ nodup.2 later

/-- What the base of a multiple transfer leaves: a free value where it is open. -/
theorem multipleWriteBack_spec (s : State) (w unknown : Bool) {rn : RegNum} (hrn : rn ≠ 15) (v : Word) :
    let t := multipleWriteBack w unknown rn v s
    (w = true → unknown = false → t.bankReg s.bank rn = v) ∧
      (∀ k (_ : k < 30), (w = true → k ≠ physIndex s.bank rn) → t.regs[k] = s.regs[k]) ∧
      t = { s with regs := t.regs, freeCtr := t.freeCtr } := by
  cases w with
  | false => exact ⟨nofun, fun _ _ _ => rfl, rfl⟩
  | true =>
    cases unknown with
    | false =>
      have e := State.setReg_eq s rn v
      have count : (s.setReg rn v).freeCtr = s.freeCtr := by rw [e]
      refine ⟨fun _ _ => bankReg_setReg hrn v rfl,
        fun k hk apart => regs_setBankReg_other s s.bank rn v hk fun _ => apart rfl, ?_⟩
      change s.setReg rn v = { s with regs := (s.setReg rn v).regs, freeCtr := (s.setReg rn v).freeCtr }
      rw [count]
      exact e
    | true =>
      let d := s.drawWord.2
      refine ⟨nofun, fun k hk apart => regs_setBankReg_other d s.bank rn s.drawWord.1 hk fun _ => apart rfl, ?_⟩
      have e := State.setReg_eq d rn s.drawWord.1
      have count : (d.setReg rn s.drawWord.1).freeCtr = s.freeCtr + 1 := by rw [e]; rfl
      change d.setReg rn s.drawWord.1 =
        { s with regs := (d.setReg rn s.drawWord.1).regs, freeCtr := (d.setReg rn s.drawWord.1).freeCtr }
      rw [count]
      exact e

/-- The state after the registers of a load multiple. -/
def reloaded (s : State) (bank : Bank) (u w : Bool) (rn : RegNum) (list : BitVec 16) (a : Word) : State :=
  multipleWriteBack w (bitAt list rn.toNat) rn (multipleBase u (s.reg rn) (listCount list))
    (writeList bank (loadedWords s list a) s)

theorem reloaded_spec {s : State} {bank : Bank} {u w : Bool} {rn : RegNum} (hrn : rn ≠ 15) (current : w = true → bank = s.bank)
    (list : BitVec 16) (a : Word) :
    let t := reloaded s bank u w rn list a
    Reloaded s t bank u w rn list a ∧ t = { s with regs := t.regs, freeCtr := t.freeCtr } := by
  let x := writeList bank (loadedWords s list a) s
  have only : OnlyRegs s x := onlyRegs_writeList bank _ (OnlyRegs.refl s)
  obtain ⟨base, kept, rest⟩ := multipleWriteBack_spec x w (bitAt list rn.toNat) hrn
    (multipleBase u (s.reg rn) (listCount list))
  rw [only.bank] at base kept
  refine ⟨⟨fun i hi bit other => ?_, base, fun k hk apart apart' => ?_⟩, ?_⟩
  · have loaded : x.bankReg bank i = s.wordAt (wordOf a list i) :=
      bankReg_writeList bank hi _ s (nodup_loadedWords s list a) (mem_loadedWords.2 ⟨bit, rfl⟩)
    refine (kept (physIndex bank i) _ fun writes same => other ⟨writes, ?_⟩).trans loaded
    rw [current writes] at same
    exact physIndex_injective hi hrn same
  · rw [reloaded, kept k hk apart']
    exact regs_writeList_other bank hk _ s fun y hy hy15 => apart y.1 hy15 (mem_loadedWords.1 hy).1
  · have joined := congrArg (fun y : State => { y with
      regs := (reloaded s bank u w rn list a).regs, freeCtr := (reloaded s bank u w rn list a).freeCtr }) only
    exact rest.trans joined

theorem Reloaded.of_regs {s t r : State} {bank : Bank} {u w : Bool} {rn : RegNum} {list : BitVec 16} {a : Word}
    (h : Reloaded s t bank u w rn list a) (regs : r.regs = t.regs) : Reloaded s r bank u w rn list a := by
  unfold Reloaded State.bankReg at *
  rwa [regs]

/-! ## LDM -/

/-- LDM in flat memory: the registers are written, and the PC from its word if the list names it. -/
theorem loadMultiple_flat {s : State} (f : s.Flat) {p u sb w : Bool} {rn : RegNum} {list : BitVec 16} (nonempty : list ≠ 0) (hrn : rn ≠ 15)
    (form : (sb && !bitAt list 15 && w) = false) (spsr : (sb && bitAt list 15 && s.spsr.isNone) = false) {start : Word}
    (at' : multipleStart p u (s.reg rn) (listCount list) = start) (fits : s.wordFits start)
    (o : s.ordinary (lowest 4 start) (4 * listCount list)) :
    let t := reloaded s (if sb && !bitAt list 15 then .usr else s.bank) u w rn list (lowest 4 start)
    let v := s.wordAt (wordOf (lowest 4 start) list 15)
    loadMultiple p u sb w rn list s = onAbort
      (scrambleList (if sb && !bitAt list 15 then .usr else s.bank) rn list)
      (if bitAt list 15 then (if sb then returnFromSpsr t v else loadWritePc t v) else .ok () t.advance) := by
  intro t v
  have good : badMultiple (sb && !bitAt list 15) w rn list = false := by
    rw [badMultiple, form, beq_eq_false_iff_ne.2 nonempty, beq_eq_false_iff_ne.2 hrn]
    rfl
  have load := f.loadList { plainMode s false with toPc := false } (transfers list (lowest 4 start)) fun x hx => by
    obtain ⟨bit, address⟩ := mem_transfers.1 hx
    rw [address]
    exact wordOf_fits (fld_lowest start) o bit
  have load' : loadList (plainMode s false) (transfers list (lowest 4 start)) s = .ok (loadedWords s list (lowest 4 start)) s := load
  simp only [loadMultiple, good, spsr, Bool.false_eq_true, if_false, at', f.alignAccess_multi fits, Res.bind,
    f.transferOrder (fld_lowest start) o, load']
  cases pc : bitAt list 15 with
  | false =>
    rw [find_pc_none pc]
    simp only [t, reloaded, pc]
    rfl
  | true =>
    rw [find_pc_some pc]
    simp only [t, reloaded, pc]
    rfl

/-! ## Loads of the PC (47_core_instructions.md R705) -/

section
variable {s : State} (running : s.halted = false) (arm : s.tBit = false) {v : Word}
include running

theorem loadWritePc_interworks (l4 : s.ctlL4 = false) (h : fld v 0 2 ≠ 2#2) :
    ∃ t, loadWritePc s v = .ok () t ∧ Interworked s t v ∧ t.regs = s.regs ∧ CoreOnly s t := by
  rw [loadWritePc, l4]
  exact bxWritePc_interworks running h

omit running in
theorem loadWritePc_misaligned (l4 : s.ctlL4 = false) (h : fld v 0 2 = 2#2) : loadWritePc s v = .refused .misalignedPc := by
  rw [loadWritePc, l4]
  exact bxWritePc_misaligned s h

include arm in
theorem loadWritePc_plain (l4 : s.ctlL4 = true) : loadWritePc s v = .ok () (s.setPc (v &&& 0xFFFFFFFC)) := by
  rw [loadWritePc, l4, arm, writePc_of_running running]
  rfl

end

/-- LDR of the PC from a word-aligned address. -/
theorem loadWord_pc {s : State} (f : s.Flat) {p u w : Bool} {rn rm : RegNum} {off : Word} (ok : addressingOk p w rn 15) (hrm : rm ≠ 15)
    (form : ¬ (p = false ∧ w = true)) (aligned : fld (transferAddress p u (s.reg rn) off) 0 2 = 0#2)
    (o : s.ordinary (transferAddress p u (s.reg rn) off) 4) :
    loadWord p u w rn 15 rm off s =
      loadWritePc (s.writeBase rn (addressing p u w (s.reg rn) off).writeback) (s.wordAt (transferAddress p u (s.reg rn) off)) := by
  have good : (badAddressing p w rn 15 rm || (!p && w && (15 : RegNum) == 15)) = false := by
    rw [badAddressing_false ok hrm]
    simpa using form
  have fits : s.wordFits (transferAddress p u (s.reg rn) off) := .inl aligned
  have low := lowest_of_aligned aligned
  have value := f.loadValue_word fits (by rwa [low]) (loadMode s p w 15)
  have plain : s.rotatedWord (transferAddress p u (s.reg rn) off) = s.wordAt (transferAddress p u (s.reg rn) off) := by
    rw [State.rotatedWord, low, aligned]
    simp [BitVec.rotateRight_def]
  rw [plain] at value
  simp only [loadWord, good, Bool.false_eq_true, if_false, addressing_address, checkPcLoad, aligned, ne_eq, not_true_eq_false,
    false_and, and_false, Res.bind, value, writeLoaded, if_true]

/-- What LDR of the PC leaves besides the PC and the T bit. -/
def BaseOnly (s t : State) (p u w : Bool) (rn : RegNum) (off : Word) : Prop :=
  (transferWrites p w → t.bankReg s.bank rn = upDown u (s.reg rn) off) ∧ RegsBut s t (if p && !w then [] else [rn]) ∧ CoreOnly s t

theorem baseOnly_of {s b t : State} {p u w : Bool} {rn : RegNum} {off : Word} (base : BaseWritten s b p w rn (upDown u (s.reg rn) off))
    (only : OnlyRegs s b) (regs : t.regs = b.regs) (core : CoreOnly b t) : BaseOnly s t p u w rn off := by
  refine ⟨fun writes => ?_, base.2.of_regs regs, ?_⟩
  · have value := base.1 writes
    rwa [State.bankReg, ← regs] at value
  · exact core.trans (congrArg (fun x : State => { x with regs := t.regs, pc := t.pc, psrs := t.psrs }) only)

theorem exec_of_finish_refused {i : Instr} {s : State} {r : Res Unit} {e : Refusal} (run : exec i s = finish r) (h : r = .refused e) :
    exec i s = .refused e := by
  rw [run, h, finish]

/-- LDR of the PC, by the L4 bit and the value loaded. -/
theorem ldr_pc {s : State} (f : s.Flat) (running : s.halted = false) (arm : s.tBit = false) {i : Instr} {p u w : Bool} {rn rm : RegNum}
    {off : Word} (base : transferWrites p w → rn ≠ 15) (hrm : rm ≠ 15) (form : ¬ (p = false ∧ w = true))
    (e : exec i s = finish (loadWord p u w rn 15 rm off s)) (aligned : fld (transferAddress p u (s.reg rn) off) 0 2 = 0#2)
    (o : s.ordinary (transferAddress p u (s.reg rn) off) 4) :
    let v := s.wordAt (transferAddress p u (s.reg rn) off)
    (s.ctlL4 = false → fld v 0 2 ≠ 2#2 → Gives i s fun t => BaseOnly s t p u w rn off ∧ Interworked s t v) ∧
      (s.ctlL4 = false → fld v 0 2 = 2#2 → exec i s = .refused .misalignedPc) ∧
      (s.ctlL4 = true → Gives i s fun t => BaseOnly s t p u w rn off ∧ t.psrs = s.psrs ∧ t.pc = v &&& 0xFFFFFFFC) := by
  intro v
  let b := s.writeBase rn (addressing p u w (s.reg rn) off).writeback
  have run := loadWord_pc f (fun writes => ⟨base writes, base writes⟩) hrm form aligned o
  have only : OnlyRegs s b := (OnlyRegs.refl s).writeBase ..
  have written : BaseWritten s b p w rn _ := baseWritten_writeBase rfl rfl base u (s.reg rn) off
  have psrs : b.psrs = s.psrs := by rw [only]
  have running' : b.halted = false := by rw [only]; exact running
  have arm' : b.tBit = false := by rw [only]; exact arm
  have l4 : b.ctlL4 = s.ctlL4 := by rw [only]; rfl
  refine ⟨fun off even => ?_, fun off odd => ?_, fun on => ?_⟩
  · obtain ⟨t, next, interworked, regs, core⟩ := loadWritePc_interworks running' (l4.trans off) even
    exact gives_of_finish e ⟨t, run.trans next, baseOnly_of written only regs core, interworked.congr psrs⟩
  · exact exec_of_finish_refused e (run.trans (loadWritePc_misaligned (l4.trans off) odd))
  · exact gives_of_finish e ⟨_, run.trans (loadWritePc_plain running' arm' (l4.trans on)), baseOnly_of written only rfl rfl, psrs, rfl⟩

/-- LDM of the PC, by the S bit, the L4 bit and the value loaded. -/
theorem ldm_pc {s : State} (f : s.Flat) (running : s.halted = false) (arm : s.tBit = false) {cc : Cond} (pass : s.passes cc = true)
    {p u w : Bool} {rn : RegNum} (hrn : rn ≠ 15) {list : BitVec 16} (pc : bitAt list 15 = true)
    (fits : s.wordFits (multipleStart p u (s.reg rn) (listCount list)))
    (o : s.ordinary (lowest 4 (multipleStart p u (s.reg rn) (listCount list))) (4 * listCount list)) :
    let a := lowest 4 (multipleStart p u (s.reg rn) (listCount list))
    let v := s.wordAt (wordOf a list 15)
    (s.ctlL4 = false → fld v 0 2 ≠ 2#2 → Gives (.ldm cc p u false w rn list) s fun t =>
      Reloaded s t s.bank u w rn list a ∧ Interworked s t v ∧ CoreOnly { s with freeCtr := t.freeCtr } t) ∧
    (s.ctlL4 = false → fld v 0 2 = 2#2 → exec (.ldm cc p u false w rn list) s = .refused .misalignedPc) ∧
    (s.ctlL4 = true → Gives (.ldm cc p u false w rn list) s fun t =>
      Reloaded s t s.bank u w rn list a ∧ t.psrs = s.psrs ∧ t.pc = v &&& 0xFFFFFFFC ∧ CoreOnly { s with freeCtr := t.freeCtr } t) ∧
    (∀ psr, s.spsr = some psr → Gives (.ldm cc p u true w rn list) s fun t =>
      Reloaded s t s.bank u w rn list a ∧ Returned { s with freeCtr := t.freeCtr } t psr v) ∧
    (s.spsr = none → exec (.ldm cc p u true w rn list) s = .refused .noSpsr) := by
  intro a v
  let x := reloaded s s.bank u w rn list a
  obtain ⟨loaded, only⟩ : Reloaded s x s.bank u w rn list a ∧ x = { s with regs := x.regs, freeCtr := x.freeCtr } :=
    reloaded_spec hrn (fun _ => rfl) list a
  have listed : list ≠ 0 := fun zero => by
    rw [zero] at pc
    exact absurd pc (by decide)
  have psrs : x.psrs = s.psrs := by rw [only]
  have running' : x.halted = false := by rw [only]; exact running
  have arm' : x.tBit = false := by rw [only]; exact arm
  have l4 : x.ctlL4 = s.ctlL4 := by rw [only]; rfl
  have runs (sb : Bool) : exec (.ldm cc p u sb w rn list) s = finish (loadMultiple p u sb w rn list s) :=
    whenPasses_passed (fun s => loadMultiple p u sb w rn list s) pass
  have run (sb : Bool) (spsr : (sb && s.spsr.isNone) = false) : loadMultiple p u sb w rn list s =
      onAbort (scrambleList s.bank rn list) (if sb then returnFromSpsr x v else loadWritePc x v) := by
    have := loadMultiple_flat f listed hrn (sb := sb) (w := w) (by simp [pc]) (by simpa [pc] using spsr) rfl fits o
    simpa only [pc, Bool.not_true, Bool.and_false, Bool.false_eq_true, if_false, if_true] using this
  have core {t : State} (core : CoreOnly x t) : CoreOnly { s with freeCtr := t.freeCtr } t := by
    have count : t.freeCtr = x.freeCtr := by rw [core]
    rw [count]
    exact core.trans (congrArg (fun y : State => { y with regs := t.regs, pc := t.pc, psrs := t.psrs }) only)
  refine ⟨fun off even => ?_, fun off odd => ?_, fun on => ?_, fun psr some => ?_, fun none => ?_⟩
  · obtain ⟨t, next, interworked, regs, kept⟩ := loadWritePc_interworks running' (l4.trans off) even
    refine gives_of_finish (runs false) ⟨t, ?_, loaded.of_regs regs, interworked.congr psrs, core kept⟩
    rw [run false rfl, if_neg (by simp), next]
    rfl
  · refine exec_of_finish_refused (runs false) ?_
    rw [run false rfl, if_neg (by simp), loadWritePc_misaligned (l4.trans off) odd]
    rfl
  · refine gives_of_finish (runs false) ⟨x.setPc (v &&& 0xFFFFFFFC), ?_, loaded.of_regs rfl, psrs, rfl, core rfl⟩
    rw [run false rfl, if_neg (by simp), loadWritePc_plain running' arm' (l4.trans on)]
    rfl
  · have some' : x.spsr = Option.some psr := by rw [only]; exact some
    obtain ⟨returned, regs⟩ := returned_exceptionReturn running' (privileged_of_spsr some') psr v
    have count : (exceptionReturn x psr v).freeCtr = x.freeCtr := by rw [returned.2.2.2.2]; rfl
    refine gives_of_finish (runs true) ⟨exceptionReturn x psr v, ?_, loaded.of_regs regs, ?_⟩
    · rw [run true (by simp [some]), if_pos rfl, returnFromSpsr_some some']
      rfl
    · rw [count]
      exact returned.of_regs only
  · refine exec_of_finish_refused (runs true) ?_
    have good : badMultiple (true && !true) w rn list = false := by
      rw [badMultiple, beq_eq_false_iff_ne.2 listed, beq_eq_false_iff_ne.2 hrn]
      rfl
    simp only [loadMultiple, pc, good, none, Bool.false_eq_true, if_false, Option.isNone_none, Bool.and_self, if_true]

/-! ## STM -/

/-- Made one after the other, the stores of a list are those of a block of words. -/
theorem storeList_eq_storeWords (m : AccessMode) (value : RegNum → Word) (a : Word) : ∀ (l : List RegNum) (k : Nat) (s : State),
    storeList m value ((l.zipIdx k).map fun x => (x.1, a + BitVec.ofNat 32 (4 * x.2))) s =
      storeWords m (a + BitVec.ofNat 32 (4 * k)) (l.map value) s
  | [], _, _ => rfl
  | i :: l, k, s => by
    have next : a + BitVec.ofNat 32 (4 * (k + 1)) = a + BitVec.ofNat 32 (4 * k) + 4 := by
      rw [show 4 * (k + 1) = 4 * k + 4 by omega, BitVec.ofNat_add, ← BitVec.add_assoc]
      rfl
    rw [List.zipIdx_cons, List.map_cons, List.map_cons, storeList, storeWords]
    congr 1
    funext _ t
    rw [storeList_eq_storeWords m value a l (k + 1) t, next]

theorem storeList_transfers (m : AccessMode) (value : RegNum → Word) (list : BitVec 16) (a : Word) (s : State) :
    storeList m value (transfers list a) s = storeWords m a ((listRegs list).map value) s := by
  have e := storeList_eq_storeWords m value a (listRegs list) 0 s
  rwa [Nat.mul_zero, BitVec.add_zero] at e

/-- The value stored of a register that is not open. -/
theorem storedValue_plain {s : State} {bank : Bank} {w : Bool} {rn : RegNum} {list : BitVec 16} {freePc freeBase : Word} {i : RegNum}
    (hi : i ≠ 15) (listed : bitAt list i.toNat = true) (known : ¬ (w = true ∧ i = rn ∧ rankIn list rn ≠ 0)) :
    storedValue s bank w rn list freePc freeBase i = s.bankReg bank i := by
  rw [storedValue, if_neg hi, if_neg]
  rintro ⟨writes, rfl, notFirst⟩
  have first : rankIn list i = 0 := by
    by_contra later
    exact known ⟨writes, rfl, later⟩
  have found := (listRegs_getElem? list 0 i).2 ⟨listed, first.symm⟩
  rw [← List.head?_eq_getElem?] at found
  exact notFirst found

/-- STM in flat memory: one block of bytes, of the values of the listed registers. -/
theorem storeMultiple_flat {s : State} (f : s.Flat) {p u sb w : Bool} {rn : RegNum} {list : BitVec 16} (nonempty : list ≠ 0)
    (hrn : rn ≠ 15) (form : ¬ (sb = true ∧ w = true)) {start : Word} (at' : multipleStart p u (s.reg rn) (listCount list) = start)
    (fits : s.wordFits start) (o : s.ordinary (lowest 4 start) (4 * listCount list)) :
    ∃ (c : Nat) (value : RegNum → Word),
      storeMultiple p u sb w rn list s = .ok () (multipleWriteBack w false rn (multipleBase u (s.reg rn) (listCount list))
        { s with
          freeCtr := c
          mem := s.mem.writeBytes (lowest 4 start) (blockBytes s.eBit ((listRegs list).map value)) }).advance ∧
      ∀ i : RegNum, i ≠ 15 → bitAt list i.toNat = true → ¬ (w = true ∧ i = rn ∧ rankIn list rn ≠ 0) →
        value i = s.bankReg (if sb then .usr else s.bank) i := by
  let second := s.drawWord.2.drawWord
  let value := storedValue s (if sb then .usr else s.bank) w rn list s.drawWord.1 second.1
  let c := if storesOpen w rn list then second.2.freeCtr else s.freeCtr
  let x : State := { s with freeCtr := c }
  have drawn : (if storesOpen w rn list then second.2 else s) = x := by
    by_cases h : storesOpen w rn list = true
    · simp only [x, c, if_pos h]
      rfl
    · simp only [x, c, if_neg h]
  have fx : x.Flat := f.free c
  have good : badMultiple sb w rn list = false := by
    have noUser : (sb && w) = false := by simpa using form
    rw [badMultiple, noUser, beq_eq_false_iff_ne.2 nonempty, beq_eq_false_iff_ne.2 hrn]
    rfl
  have align := fx.alignAccess_multi (a := start) fits true
  have order := fx.transferOrder (list := list) (fld_lowest start) o (plainMode s true) true
  have len : ((listRegs list).map value).length = listCount list := by rw [List.length_map, length_listRegs]
  have store := State.Flat.storeWords (plainMode s true) ((listRegs list).map value) (lowest 4 start) fx (fld_lowest start)
    (by rw [len]; exact o)
  refine ⟨c, value, ?_, fun i hi listed known => storedValue_plain hi listed known⟩
  simp only [storeMultiple, good, Bool.false_eq_true, if_false, at']
  rw [show (if storesOpen w rn list = true then s.drawWord.2.drawWord.2 else s) = x from drawn, align]
  simp only [Res.bind, order, storeList_transfers]
  rw [show storeWords (plainMode s true) (lowest 4 start) (List.map (storedValue s (if sb = true then .usr else s.bank) w rn list
    s.drawWord.1 s.drawWord.2.drawWord.1) (listRegs list)) x = _ from store]
  rfl

end Sys2Proof.Machine

namespace Sys2Proof
open Machine

/-- Settles O31: the words are loaded (`loadMultiple_flat`) and written to the registers of the list (`reloaded_spec`). -/
theorem loadMultiple : Obligations.LoadMultiple := by
  intro s cc p u sb w rn list pass flat nonempty noPc hrn form start fits o
  have f := (State.flat_iff s).1 flat
  have noUser : (sb && w) = false := by simpa using form
  let bank := if sb then Bank.usr else s.bank
  let x := reloaded s bank u w rn list (lowest 4 start)
  obtain ⟨loaded, only⟩ : Reloaded s x bank u w rn list (lowest 4 start) ∧ x = { s with regs := x.regs, freeCtr := x.freeCtr } :=
    reloaded_spec hrn (fun writes => by
      have privileged : sb = false := by simpa [writes] using noUser
      simp only [bank, privileged]
      rfl) list (lowest 4 start)
  have run := loadMultiple_flat f nonempty hrn (by simpa [noPc] using noUser) (by simp [noPc]) rfl fits o
  simp only [noPc, Bool.not_false, Bool.and_true, Bool.false_eq_true, if_false] at run
  have next : x.advance = { s with regs := x.regs, pc := s.past, freeCtr := x.freeCtr } := by
    rw [State.advance_eq, only]
    rfl
  refine gives_of_finish (whenPasses_passed (fun s => Machine.loadMultiple p u sb w rn list s) pass)
    ⟨x.advance, run.trans rfl, loaded.of_regs (by rw [next]), by rw [next], by rw [next], by rw [next]⟩

/-- Settles O32: the words of the list are a block in memory (`storeMultiple_flat`, `wordAt_block`). -/
theorem storeMultiple : Obligations.StoreMultiple := by
  intro s cc p u sb w rn list pass flat nonempty hrn form start fits o
  have f := (State.flat_iff s).1 flat
  obtain ⟨c, value, run, plain⟩ := storeMultiple_flat f nonempty hrn form rfl fits o
  let x : State := { s with
    freeCtr := c, mem := s.mem.writeBytes (lowest 4 start) (blockBytes s.eBit ((listRegs list).map value)) }
  let y := multipleWriteBack w false rn (multipleBase u (s.reg rn) (listCount list)) x
  obtain ⟨base, kept, only⟩ := multipleWriteBack_spec x w false hrn (multipleBase u (s.reg rn) (listCount list))
  have next : y.advance = { s with
      regs := y.regs, pc := s.past, freeCtr := y.freeCtr
      mem := s.mem.writeBytes (lowest 4 start) (blockBytes s.eBit ((listRegs list).map value)) } := by
    rw [State.advance_eq, show y = _ from only]
    rfl
  have mem : y.advance.mem = s.mem.writeBytes (lowest 4 start) (blockBytes s.eBit ((listRegs list).map value)) := by rw [next]
  have psrs : y.advance.psrs = s.psrs := by rw [next]
  have len : ((listRegs list).map value).length = listCount list := by rw [List.length_map, length_listRegs]
  have memory := memBut_writeBytes f.canonical mem
  rw [length_blockBytes, len] at memory
  refine gives_of_finish (whenPasses_passed (fun s => Machine.storeMultiple p u sb w rn list s) pass)
    ⟨y.advance, run, fun i hi listed known => ?_, fun writes => (bankReg_advance ..).trans (base writes rfl), fun k hk apart => ?_,
      psrs, by rw [next], by rw [next]; rfl, memory⟩
  · have place := (listRegs_getElem? list (rankIn list i) i).2 ⟨listed, rfl⟩
    have word := wordAt_block f.canonical psrs (by rw [len]; exact listCount_le list) mem (k := rankIn list i)
      (by rw [len]; exact rankIn_lt listed)
    rw [List.getD_eq_getElem?_getD, List.getElem?_map, place] at word
    exact word.trans (plain i hi listed known)
  · simp only [next]
    refine kept k hk fun writes => ?_
    rw [writes] at apart
    exact apart rn (by simp) hrn

/-- Settles O33: the loaded value goes to the PC, as the L4 bit and, of LDM, the S bit say (`ldr_pc`, `ldm_pc`). -/
theorem loadsOfThePc : Obligations.LoadsOfThePc := by
  intro s cc p u w rn pass flat running arm
  have f := (State.flat_iff s).1 flat
  refine ⟨fun off n ty rm base form x hx hrm => ?_, fun list hrn pc => ?_⟩
  · intro a v aligned o
    simp only [List.mem_cons, List.not_mem_nil, or_false] at hx
    rcases hx with rfl | rfl
    · exact ldr_pc f running arm base hrm form (exec_ldrImm_of_passes pass off) aligned o
    · exact ldr_pc f running arm base hrm form (exec_ldrReg_of_passes pass n ty rm) aligned o
  · intro start v fits o
    exact ldm_pc f running arm pass hrn pc fits o

end Sys2Proof
end

section
/-! The access check of the VFP, and which VFP instructions take the Undefined Instruction exception (O57). -/
namespace Sys2Proof.Machine

/-! ## The access rights (41_cp15_c1_control.md R160) -/

/-- Where both CPACR fields hold the same rights, those rights decide. -/
theorem cpacrAllows_of_fld {v : Word} {x : BitVec 2} (h : fld v 20 4 = x ++ x) (defined : x ≠ 2#2) (priv : Bool) :
    cpacrAllows v priv = .ok (x == 3#2 || (x == 1#2 && priv)) := by
  have low : fld v 20 2 = x := by
    rw [← fld_fld v (k := 20) (n := 4) (a := 0) (b := 2) (by omega), h]
    exact (by decide : ∀ x : BitVec 2, fld (x ++ x) 0 2 = x) x
  have high : fld v 22 2 = x := by
    rw [← fld_fld v (k := 20) (n := 4) (a := 2) (b := 2) (by omega), h]
    exact (by decide : ∀ x : BitVec 2, fld (x ++ x) 2 2 = x) x
  rw [cpacrAllows, low, high, if_neg (not_not.2 rfl), if_neg defined]

/-- No write of the CPACR waits for a flush: its value is the one in force. -/
theorem cpacrInForce_settled {s : State} (settled : s.cpacrOld = none) : cpacrInForce s = (s.cp15.cpacr, s) := by
  rw [cpacrInForce, settled]

theorem vfpCheck_absent {s : State} (absent : s.cfg.hasVfp = false) (sys : Option (BitVec 4)) :
    vfpCheck sys s = .exc .undefined s := by
  rw [vfpCheck, absent]
  rfl

/-- A mode to which the CPACR denies the VFP (48_vfp.md R781). -/
theorem vfpCheck_denied {s : State} (settled : s.cpacrOld = none) {x : BitVec 2} (h : fld s.cp15.cpacr 20 4 = x ++ x)
    (defined : x ≠ 2#2) (denied : (x == 3#2 || (x == 1#2 && s.privileged)) = false) (sys : Option (BitVec 4)) :
    vfpCheck sys s = .exc .undefined s := by
  simp only [vfpCheck, cpacrInForce_settled settled, cpacrAllows_of_fld h defined, denied, ite_self]

/-! ## A VFP to which the CPACR gives full access -/

section
variable {s : State} (present : s.cfg.hasVfp = true) (settled : s.cpacrOld = none) (full : fld s.cp15.cpacr 20 4 = 0xF#4)
include present settled full

theorem vfpCheck_full (sys : Option (BitVec 4)) : vfpCheck sys s =
    if !bitAt s.vfp.fpexc 30 && !enableExempt s.privileged sys then .exc .undefined s
    else if privilegedSystem sys && !s.privileged then .exc .undefined s
    else if s.vfp.bounce then
      if sys.isSome then raiseBounce s else withBool s fun now s => if now then raiseBounce s else .ok () s
    else .ok () s := by
  have allowed := cpacrAllows_of_fld (x := 3#2) full (by decide) s.privileged
  simp only [vfpCheck, present, cpacrInForce_settled settled, allowed]
  rfl

/-- The VFP is disabled, and the instruction no system register transfer that may be made all the same. -/
theorem vfpCheck_disabled {sys : Option (BitVec 4)} (off : bitAt s.vfp.fpexc 30 = false)
    (guarded : enableExempt s.privileged sys = false) : vfpCheck sys s = .exc .undefined s := by
  rw [vfpCheck_full present settled full, off, guarded]
  rfl

/-- A system register of privileged modes. -/
theorem vfpCheck_unprivileged {sys : Option (BitVec 4)} (user : s.privileged = false) (priv : privilegedSystem sys = true) :
    vfpCheck sys s = .exc .undefined s := by
  rw [vfpCheck_full present settled full, priv, user]
  exact ite_self _

theorem vfpCheck_ok {sys : Option (BitVec 4)} (idle : s.vfp.bounce = false)
    (enabled : bitAt s.vfp.fpexc 30 = true ∨ enableExempt s.privileged sys = true)
    (allowed : privilegedSystem sys = false ∨ s.privileged = true) : vfpCheck sys s = .ok () s := by
  have on : (!bitAt s.vfp.fpexc 30 && !enableExempt s.privileged sys) = false := by rcases enabled with h | h <;> simp [h]
  have mode : (privilegedSystem sys && !s.privileged) = false := by rcases allowed with h | h <;> simp [h]
  rw [vfpCheck_full present settled full, on, mode, idle]
  rfl

end

theorem State.vfpReady.check {s : State} (ready : s.vfpReady) {sys : Option (BitVec 4)}
    (allowed : privilegedSystem sys = false ∨ s.privileged = true) : vfpCheck sys s = .ok () s := by
  obtain ⟨present, settled, full, enabled, idle⟩ := ready
  exact vfpCheck_ok present settled full idle (.inl enabled) allowed

/-! ## What follows the check -/

section
variable {s : State} {i : Instr} {cond : Cond} {sys : Option (BitVec 4)} {m : State → Res Unit}
  (e : exec i s = vfpRun cond sys s m) (pass : s.passes cond = true)
include e pass

/-- The check passes, and the instruction has its effect. -/
theorem exec_vfpRun (checked : vfpCheck sys s = .ok () s) : exec i s = finish (m s) := by
  rw [e, vfpRun, whenPasses_passed _ pass, checked]
  rfl

/-- The check fails, and the Undefined Instruction exception is entered. -/
theorem gives_vfpUndefined (denied : vfpCheck sys s = .exc .undefined s) (running : s.halted = false) (noJazelle : s.jBit = false) :
    Gives i s (EnteredUndefined s) := by
  refine gives_undefined ?_ running noJazelle
  rw [e, vfpRun, whenPasses_passed _ pass, denied]
  rfl

end

/-- Every VFP instruction is an effect behind the access check; only a system register transfer names a register to the check. -/
theorem exec_vfp {i : Instr} {cc : Cond} (cond : i.condition = some cc) (vfp : plainVfp i = true ∨ systemVfp i = true) (s : State) :
    ∃ sys m, exec i s = vfpRun cc sys s m ∧ (plainVfp i = true → sys = none) := by
  rcases vfp with plain | system
  · unfold plainVfp at plain
    split at plain
    on_goal -1 => cases plain
    all_goals
      obtain rfl := Option.some.inj cond
      exact ⟨none, _, rfl, fun _ => rfl⟩
  · unfold systemVfp at system
    split at system
    on_goal -1 => cases system
    all_goals
      obtain rfl := Option.some.inj cond
      exact ⟨some _, _, rfl, nofun⟩

/-! ## Bounces to support code (48_vfp.md R790) -/

/-- The exception of a bounce keeps the VFP registers, the FPSCR and the enable bit. -/
theorem raiseBounce_spec (s : State) : ∃ u, raiseBounce s = .exc .undefined u ∧ u.vfp.regs = s.vfp.regs ∧
    u.vfp.fpscr = s.vfp.fpscr ∧ u.vfp.bounce = false ∧ bitAt u.vfp.fpexc 30 = bitAt s.vfp.fpexc 30 ∧
      u = { s with freeCtr := u.freeCtr, vfp := u.vfp } := by
  simp only [raiseBounce, withWord, State.drawWord]
  refine ⟨_, rfl, rfl, rfl, rfl, ?_, rfl⟩
  rw [bitAt_eq_getLsbD, getLsbD_setBit _ _ _ _ (by omega), if_pos rfl]

/-- The exception of a bounce, taken. -/
theorem gives_bounce {i : Instr} {s d : State} (drawn : d = { s with freeCtr := d.freeCtr }) (e : exec i s = finish (raiseBounce d))
    (running : s.halted = false) (noJazelle : s.jBit = false) : Gives i s fun t =>
      t.vfp.regs = s.vfp.regs ∧ t.vfp.fpscr = s.vfp.fpscr ∧ Entered s t modeUnd 0x04 s.past false false ∧ t.vfp.bounce = false ∧
        bitAt t.vfp.fpexc 30 = bitAt s.vfp.fpexc 30 := by
  obtain ⟨u, raised, regs, fpscr, idle, enable, only⟩ := raiseBounce_spec d
  have kept : u = { s with freeCtr := u.freeCtr, vfp := u.vfp } := by rw [drawn] at only; exact only
  have vfp : d.vfp = s.vfp := by rw [drawn]
  rw [vfp] at regs fpscr enable
  have running' : u.halted = false := by rw [kept]; exact running
  have noJazelle' : u.jBit = false := by rw [kept]; exact noJazelle
  have past : u.past = s.past := by rw [kept]; rfl
  obtain ⟨entered, entry⟩ := enteredUndefined_takeUndefined running' noJazelle'
  have same : (takeUndefined u).vfp = u.vfp := by rw [entry]; rfl
  rw [past] at entered
  refine ⟨takeUndefined u, ?_, ?_⟩
  · rw [e, raised]
    simp [finish, running', takeException]
  · simp only [same]
    exact ⟨regs, fpscr, entered.congr (by rw [kept]) (by rw [kept]) (by rw [kept]) (by rw [kept]), idle, enable⟩

/-- With the Inexact exception enabled the hardware computes nothing. -/
theorem vfpCompute_inexact {s : State} (h : bitAt s.vfp.fpscr 12 = true) (opc1 fn fd : BitVec 4) (cp1 : Bool) (opc2 : BitVec 3)
    (fm : BitVec 4) : vfpCompute opc1 fn fd cp1 opc2 fm s = none := by
  rw [vfpCompute]
  exact if_pos h

/-- An operation left to support code takes its exception at once, or is pending. -/
theorem gives_vfpData_bounce {s : State} {cc : Cond} {opc1 fn fd : BitVec 4} {cp1 : Bool} {opc2 : BitVec 3} {fm : BitVec 4}
    (pass : s.passes cc = true) (ready : s.vfpReady) (good : vfpBadDouble opc1 fn cp1 opc2 = false)
    (left : vfpCompute opc1 fn fd cp1 opc2 fm s = none) (running : s.halted = false) (noJazelle : s.jBit = false) :
    Gives (.vfpData cc opc1 fn fd cp1 opc2 fm) s fun t => t.vfp.regs = s.vfp.regs ∧ t.vfp.fpscr = s.vfp.fpscr ∧
      (t = { s with pc := s.past, freeCtr := t.freeCtr, vfp := { s.vfp with bounce := true } } ∨
        (Entered s t modeUnd 0x04 s.past false false ∧ t.vfp.bounce = false ∧ bitAt t.vfp.fpexc 30 = true)) := by
  let d := s.drawBool.2
  let pending : State := { d with vfp := { s.vfp with bounce := true } }
  have run : exec (.vfpData cc opc1 fn fd cp1 opc2 fm) s =
      finish (if s.drawBool.1 then raiseBounce d else .ok () pending.advance) := by
    rw [exec_vfpRun (i := .vfpData cc opc1 fn fd cp1 opc2 fm) (rfl : execVfpData cc opc1 fn fd cp1 opc2 fm s = _) pass
      (ready.check (.inl rfl)), good, left]
    rfl
  cases now : s.drawBool.1 with
  | false =>
    rw [now] at run
    exact ⟨pending.advance, run, by rw [State.advance_eq], by rw [State.advance_eq], .inl (by rw [State.advance_eq]; rfl)⟩
  | true =>
    rw [now] at run
    obtain ⟨t, next, regs, fpscr, entered, idle, enable⟩ := gives_bounce (d := d) rfl run running noJazelle
    obtain ⟨-, -, -, enabled, -⟩ := ready
    exact ⟨t, next, regs, fpscr, .inr ⟨entered, idle, enable.trans enabled⟩⟩

/-! ## The system register transfers that need no enable -/

/-- A value moved to an ARM register, or to the flags (30_encoding.md R113). -/
theorem moveToCore_spec (s : State) (rd : RegNum) (v : Word) : ∃ t, moveToCore rd v s = .ok () t ∧ MovedToCore s t rd v := by
  by_cases pc : rd = 15
  · subst pc
    refine ⟨_, if_pos rfl, ?_⟩
    rw [MovedToCore, if_pos rfl, advance_setNzcv]
    exact ⟨flagsAre_setNzcv s _ _ _ _, onlyFlags_setNzcv s _ _ _ _, rfl, rfl, rfl⟩
  · refine ⟨_, if_neg pc, ?_⟩
    rw [MovedToCore, if_neg pc]
    exact wroteReg_setReg_advance s pc v

section
variable {s : State} {cc : Cond} {r : BitVec 4} (pass : s.passes cc = true) (checked : vfpCheck (some r) s = .ok () s)
include pass checked

theorem gives_fmrx (rd : RegNum) {v : Word} (value : vfpSystemRead s r = some v) :
    Gives (.fmrx cc r rd) s fun t => MovedToCore s t rd v := by
  refine gives_of_finish (exec_vfpRun (i := .fmrx cc r rd) (rfl : execFmrx cc r rd s = _) pass checked) ?_
  rw [value]
  exact moveToCore_spec s rd v

theorem exec_fmxr (rd : RegNum) {u : State} (written : vfpSystemWrite s r (s.reg rd) = some u) :
    exec (.fmxr cc r rd) s = .next u.advance := by
  rw [exec_vfpRun (i := .fmxr cc r rd) (rfl : execFmxr cc r rd s = _) pass checked, written]
  rfl

end

/-- The PC moved on past a change of the VFP. -/
theorem advance_vfp (s : State) (x : Vfp) : ({ s with vfp := x } : State).advance = { s with pc := s.past, vfp := x } :=
  State.advance_eq _

end Sys2Proof.Machine

namespace Sys2Proof
open Machine

/-- Settles O57: what the access check denies takes the exception (`gives_vfpUndefined`), and with the Inexact exception enabled an
operation is left to support code (`gives_vfpData_bounce`). -/
theorem vfpTraps : Obligations.VfpTraps := by
  refine ⟨fun i cc s cond pass running noJazelle vfp why => ?_, fun s cc rd pass present settled full => ?_,
    fun s cc opc1 fn fd double opc2 fm pass ready good running noJazelle inexact =>
      gives_vfpData_bounce pass ready good (vfpCompute_inexact inexact ..) running noJazelle⟩
  · obtain ⟨sys, m, e, plain⟩ := exec_vfp cond vfp s
    refine gives_vfpUndefined e pass ?_ running noJazelle
    by_cases absent : s.cfg.hasVfp = false
    · exact vfpCheck_absent absent sys
    obtain ⟨settled, rights⟩ := why.resolve_left absent
    rcases rights with none | ⟨priv, user⟩ | ⟨full, off, isPlain⟩
    · exact vfpCheck_denied settled (x := 0#2) none (by decide) rfl sys
    · exact vfpCheck_denied settled (x := 1#2) priv (by decide) (unprivileged_of_user running user) sys
    · rw [plain isPlain]
      exact vfpCheck_disabled (Bool.not_eq_false _ ▸ absent) settled full off rfl
  · refine ⟨fun running noJazelle mode => ?_, fun idle => ?_⟩
    · have user := unprivileged_of_user running mode
      have undefined {r : BitVec 4} (denied : vfpCheck (some r) s = .exc .undefined s) :
          Gives (.fmrx cc r rd) s (EnteredUndefined s) ∧ Gives (.fmxr cc r rd) s (EnteredUndefined s) :=
        ⟨gives_vfpUndefined (rfl : execFmrx cc r rd s = _) pass denied running noJazelle,
          gives_vfpUndefined (rfl : execFmxr cc r rd s = _) pass denied running noJazelle⟩
      have guarded (r : BitVec 4) (h : privilegedSystem (some r) = true) :=
        undefined (vfpCheck_unprivileged present settled full user h)
      refine ⟨List.forall_iff_forall_mem.1 ⟨guarded 8 rfl, guarded 9 rfl, guarded 10 rfl⟩, fun off => ?_⟩
      have disabled {r : BitVec 4} (h : enableExempt s.privileged (some r) = false) :=
        vfpCheck_disabled present settled full off h
      have fmstat := disabled (r := vfpFpscr) (by rw [user]; rfl)
      refine ⟨gives_vfpUndefined (rfl : execFmstat cc s = _) pass fmstat running noJazelle, fun r hr => ?_⟩
      by_cases fpexc : r = 8
      · exact fpexc ▸ guarded 8 rfl
      · refine undefined (disabled ?_)
        rw [user, enableExempt, vfpFpsid, vfpFpexc, beq_eq_false_iff_ne.2 hr, beq_eq_false_iff_ne.2 fpexc]
        rfl
    · have fpsid : vfpCheck (some 0) s = .ok () s := vfpCheck_ok present settled full idle (.inr rfl) (.inl rfl)
      refine ⟨gives_fmrx pass fpsid rd rfl, ?_, fun priv => ?_⟩
      · rw [exec_fmxr pass fpsid rd rfl, State.advance_eq]
      · have fpexc : vfpCheck (some 8) s = .ok () s := vfpCheck_ok present settled full idle (.inr rfl) (.inr priv)
        refine ⟨gives_fmrx pass fpexc rd rfl, ?_⟩
        rw [exec_fmxr pass fpexc rd rfl]
        exact congrArg _ (advance_vfp ..)

end Sys2Proof
end

section
/-! Transfers between the ARM and the VFP registers (O55). -/
namespace Sys2Proof.Machine

/-! ## The single-precision registers (48_vfp.md R781) -/

theorem sreg_setSreg_same (s : State) (n : BitVec 5) (v : Word) : (s.setSreg n v).sreg n = v := by
  simp [State.sreg, State.setSreg]

theorem sreg_setSreg_other (s : State) {n k : BitVec 5} (ne : n ≠ k) (v : Word) : (s.setSreg n v).sreg k = s.sreg k := by
  have apart : n.toNat ≠ k.toNat := fun e => ne (BitVec.eq_of_toNat_eq e)
  simp [State.sreg, State.setSreg, Vector.getElem_set_ne _ _ apart]

/-- A list of values written changes the single-precision registers only. -/
theorem writeSregs_eq : ∀ (l : List (BitVec 5 × Word)) (s : State),
    writeSregs l s = { s with vfp := { s.vfp with regs := (writeSregs l s).vfp.regs } }
  | [], _ => rfl
  | x :: l, s => writeSregs_eq l (s.setSreg x.1 x.2)

theorem sreg_writeSregs_other {k : BitVec 5} : ∀ (l : List (BitVec 5 × Word)) (s : State), (∀ y ∈ l, y.1 ≠ k) →
    (writeSregs l s).sreg k = s.sreg k
  | [], _, _ => rfl
  | x :: l, s, apart => by
    rw [writeSregs, sreg_writeSregs_other l _ fun y hy => apart y (by simp [hy]), sreg_setSreg_other s (apart x (by simp))]

theorem sreg_writeSregs_mem {n : BitVec 5} {v : Word} : ∀ (l : List (BitVec 5 × Word)) (s : State), (l.map Prod.fst).Nodup →
    (n, v) ∈ l → (writeSregs l s).sreg n = v
  | [], _, _, mem => by cases mem
  | x :: l, s, nodup, mem => by
    rw [List.map_cons, List.nodup_cons] at nodup
    rcases List.mem_cons.1 mem with rfl | later
    · have apart : ∀ y ∈ l, y.1 ≠ n := fun y hy same => nodup.1 (List.mem_map.2 ⟨y, hy, same⟩)
      rw [writeSregs, sreg_writeSregs_other l _ apart, sreg_setSreg_same]
    · exact sreg_writeSregs_mem l _ nodup.2 later

/-- Values have been written to single-precision registers, and the PC has moved on. -/
def WroteSregs (s t : State) (l : List (BitVec 5 × Word)) : Prop :=
  (∀ y ∈ l, t.sreg y.1 = y.2) ∧ (∀ k, (∀ y ∈ l, y.1 ≠ k) → t.sreg k = s.sreg k) ∧
    t = { s with pc := s.past, vfp := { s.vfp with regs := t.vfp.regs } }

theorem wroteSregs_writeSregs (s : State) {l : List (BitVec 5 × Word)} (nodup : (l.map Prod.fst).Nodup) :
    WroteSregs s (writeSregs l s).advance l := by
  have only := writeSregs_eq l s
  have past : (writeSregs l s).past = s.past := by rw [only]; rfl
  have moved : (writeSregs l s).advance = { s with pc := s.past, vfp := { s.vfp with regs := (writeSregs l s).vfp.regs } } := by
    rw [State.advance_eq, past]
    exact congrArg (fun t : State => { t with pc := s.past }) only
  have sreg (k : BitVec 5) : (writeSregs l s).advance.sreg k = (writeSregs l s).sreg k := by
    simp only [State.sreg, State.advance_vfp]
  refine ⟨fun y hy => ?_, fun k apart => ?_, by rw [State.advance_vfp]; exact moved⟩
  · rw [sreg]
    exact sreg_writeSregs_mem l s nodup hy
  · rw [sreg]
    exact sreg_writeSregs_other l s apart

theorem wroteSregs_setSreg (s : State) (n : BitVec 5) (v : Word) : WroteSregs s (s.setSreg n v).advance [(n, v)] :=
  wroteSregs_writeSregs s (l := [(n, v)]) (List.nodup_singleton n)

theorem wroteSregs_two (s : State) {m n : BitVec 5} (ne : m ≠ n) (v w : Word) :
    WroteSregs s ((s.setSreg m v).setSreg n w).advance [(m, v), (n, w)] :=
  wroteSregs_writeSregs s (l := [(m, v), (n, w)]) (by simpa using ne)

/-- The halves of a double are two registers (48_vfp.md R784). -/
theorem sNumber_halves_ne (f : BitVec 4) : sNumber f false ≠ sNumber f true :=
  (by decide : ∀ f : BitVec 4, sNumber f false ≠ sNumber f true) f

theorem wroteSregs_setDreg (s : State) (f : BitVec 4) (high low : Word) :
    WroteSregs s (s.setDreg f (high ++ low)).advance [(sNumber f false, low), (sNumber f true, high)] := by
  have l : (fld (high ++ low) 0 32 : Word) = low := BitVec.extractLsb'_append_eq_right
  have h : (fld (high ++ low) 32 32 : Word) = high := BitVec.extractLsb'_append_eq_left
  rw [State.setDreg, l, h]
  exact wroteSregs_two s (sNumber_halves_ne f) low high

/-! ## Values moved to the ARM registers (48_vfp.md R786) -/

/-- The flags replaced by themselves. -/
theorem setNzcv_self (s : State) : s.setNzcv s.flagN s.flagZ s.flagC s.flagV = s := by
  simp only [State.setNzcv, State.flagN, State.flagZ, State.flagC, State.flagV, setBit_bitAt]
  rfl

/-- With r15 a draw decides whether the flags are written (notes/assumptions/59.md). -/
theorem moveFromVfp_spec (s : State) (rd : RegNum) (v : Word) : ∃ t, moveFromVfp rd v s = .ok () t ∧ MovedFromVfp s t rd v := by
  by_cases pc : rd = 15
  · subst pc
    let d := s.drawBool.2
    let u := d.noteStatus (!s.drawBool.1)
    have e : moveFromVfp 15 v s = moveToCore 15 (if s.drawBool.1 then d.cpsr else v) u := if_pos rfl
    cases keep : s.drawBool.1 with
    | true =>
      have untouched : u = d := by
        simp only [u, keep, State.noteStatus, Bool.not_true, Bool.false_and, Bool.or_false]
      refine ⟨d.advance, ?_, .inl ?_⟩
      · rw [e, keep, untouched, if_pos rfl, moveToCore, if_pos rfl]
        exact congrArg (fun t : State => Res.ok () t.advance) (setNzcv_self d)
      · rw [State.advance_eq]
        rfl
    | false =>
      obtain ⟨t, moved, spec⟩ := moveToCore_spec u 15 v
      have count : t.freeCtr = u.freeCtr := by
        obtain ⟨-, -, -, -, only⟩ := spec
        rw [only]
      have noted : u = { s with
          freeCtr := t.freeCtr, dbg := { s.dbg with touched := s.dbg.touched || s.halted } } := by
        rw [count]
        simp only [u, keep]
        rfl
      rw [keep] at e
      exact ⟨t, e.trans moved, .inr (noted ▸ spec)⟩
  · refine ⟨_, if_neg pc, ?_⟩
    rw [MovedFromVfp, if_neg pc]
    exact wroteReg_setReg_advance s pc v

section
variable (s : State) {rd rn : RegNum} (hrd : rd ≠ 15) (low high : Word)
include hrd

/-- Two values moved to two registers. -/
theorem moveTwoToCore_apart (hrn : rn ≠ 15) (ne : rd ≠ rn) : ∃ t, moveTwoToCore rd rn low high s = .ok () t ∧
    t.bankReg s.bank rd = low ∧ t.bankReg s.bank rn = high ∧ RegsBut s t [rd, rn] ∧ t.psrs = s.psrs ∧ t.pc = s.past ∧
      CoreOnly s t := by
  let a := s.setReg rd low
  let b := a.setReg rn high
  have only : OnlyRegs s a := (OnlyRegs.refl s).setReg ..
  have moved : b.advance = { s with regs := b.regs, pc := s.past } := (only.setReg ..).advance
  refine ⟨b.advance, ?_, ?_, ?_, ?_, by rw [moved], by rw [moved], by rw [moved]; rfl⟩
  · rw [moveTwoToCore, if_neg ne, if_neg hrd, if_neg hrn]
  · rw [bankReg_advance]
    exact (bankReg_setReg_other hrd ne high only.bank).trans (bankReg_setReg hrd low rfl)
  · rw [bankReg_advance]
    exact bankReg_setReg hrn high only.bank
  · exact ((regsBut_setReg s rd low).setReg only.bank rn high).of_regs (by rw [moved])

/-- Of two values moved to one register none is sure to stay (notes/assumptions/15.md). -/
theorem moveTwoToCore_same : ∃ t, moveTwoToCore rd rd low high s = .ok () t ∧ RegsBut s t [rd] ∧
    t = { s with regs := t.regs, pc := s.past, freeCtr := t.freeCtr } := by
  let d := s.drawWord.2
  let b := d.setReg rd s.drawWord.1
  have moved : b.advance = { d with regs := b.regs, pc := d.past } := ((OnlyRegs.refl d).setReg ..).advance
  refine ⟨b.advance, ?_, ?_, by rw [moved]; rfl⟩
  · rw [moveTwoToCore, if_pos rfl]
    exact if_neg hrd
  · exact RegsBut.of_regs (t := b) (regsBut_setReg d rd s.drawWord.1) (by rw [moved])

/-- The second of two values moved to the PC, as by an instruction that does not interwork (notes/assumptions/59.md). -/
theorem moveTwoToCore_pc (running : s.halted = false) (arm : s.tBit = false) (aligned : fld high 0 2 = 0#2) :
    ∃ t, moveTwoToCore rd 15 low high s = .ok () t ∧ t.bankReg s.bank rd = low ∧ RegsBut s t [rd] ∧
      t = { s with regs := t.regs, pc := high } := by
  let a := s.setReg rd low
  have only : OnlyRegs s a := (OnlyRegs.refl s).setReg ..
  have running' : a.halted = false := by rw [only]; exact running
  have arm' : a.tBit = false := by rw [only]; exact arm
  refine ⟨a.setPc high, ?_, bankReg_setReg hrd low rfl, (regsBut_setReg s rd low).of_regs rfl,
    congrArg (fun t : State => t.setPc high) only⟩
  rw [moveTwoToCore, if_neg hrd, if_neg hrd, if_pos rfl]
  exact aluWritePc_aligned running' arm' aligned

end

end Sys2Proof.Machine

namespace Sys2Proof
open Machine

/-- Settles O55: past the access check (`exec_vfpRun`) each transfer is a write of VFP registers (`WroteSregs`), a move to ARM
registers (`moveFromVfp_spec`, `moveTwoToCore_apart` and its other forms) or a read or write of a system register (`gives_fmrx`,
`exec_fmxr`). -/
theorem vfpTransfers : Obligations.VfpTransfers := by
  intro s cc f x rd rn pass ready n set two
  have gives {i : Instr} {m : State → Res Unit} {P : State → Prop} (e : exec i s = vfpRun cc none s m)
      (h : ∃ t, m s = .ok () t ∧ P t) : Gives i s P :=
    gives_of_finish (exec_vfpRun e pass (ready.check (.inl rfl))) h
  have next : n ≠ n + 1 := fun e => absurd (BitVec.self_eq_add_right.1 e) (by decide)
  have fmrrd {P : State → Prop}
      (h : ∃ t, moveTwoToCore rd rn (s.sreg (sNumber f false)) (s.sreg (sNumber f true)) s = .ok () t ∧ P t) :
      Gives (.fmrrd cc rn rd f) s P := gives (rfl : execFmrrd cc rn rd f s = _) h
  have fmrrs {P : State → Prop} (inside : n ≠ 31)
      (h : ∃ t, moveTwoToCore rd rn (s.sreg n) (s.sreg (n + 1)) s = .ok () t ∧ P t) :
      Gives (.fmrrs cc rn rd x f) s P := by
    obtain ⟨t, run, holds⟩ := h
    exact gives (rfl : execFmrrs cc rn rd x f s = _) ⟨t, (if_neg inside).trans run, holds⟩
  have read {r : BitVec 4} {v : Word} (allowed : privilegedSystem (some r) = false ∨ s.privileged = true)
      (value : vfpSystemRead s r = some v) : Gives (.fmrx cc r rd) s fun t => MovedToCore s t rd v :=
    gives_fmrx pass (ready.check allowed) rd value
  have write {r : BitVec 4} {y : Vfp} (allowed : privilegedSystem (some r) = false ∨ s.privileged = true)
      (written : vfpSystemWrite s r (s.reg rd) = some { s with vfp := y }) :
      exec (.fmxr cc r rd) s = .next { s with pc := s.past, vfp := y } := by
    rw [exec_fmxr pass (ready.check allowed) rd written, advance_vfp]
  refine ⟨?_, ?_, ?_, ?_, ?_, ?_, ?_, fun inside => ?_, fun hrd hrn ne => ?_, fun hrd same => ?_, fun hrd pc running arm => ?_,
    fun last => ⟨?_, ?_⟩, ?_, ?_, ?_, ?_, fun priv => ⟨?_, ?_, ?_, ?_⟩⟩
  · exact gives (rfl : execFmsr cc f rd x s = _) ⟨_, rfl, wroteSregs_setSreg ..⟩
  · exact gives (rfl : execFmrs cc f rd x s = _) (moveFromVfp_spec ..)
  · exact gives (rfl : execFmdlr cc f rd s = _) ⟨_, rfl, wroteSregs_setSreg ..⟩
  · exact gives (rfl : execFmdhr cc f rd s = _) ⟨_, rfl, wroteSregs_setSreg ..⟩
  · exact gives (rfl : execFmrdl cc f rd s = _) (moveFromVfp_spec ..)
  · exact gives (rfl : execFmrdh cc f rd s = _) (moveFromVfp_spec ..)
  · exact gives (rfl : execFmdrr cc rn rd f s = _) ⟨_, rfl, wroteSregs_setDreg ..⟩
  · exact gives (rfl : execFmsrr cc rn rd x f s = _) ⟨_, if_neg inside, wroteSregs_two s next ..⟩
  · have moved (low high : Word) := moveTwoToCore_apart s hrd low high hrn ne
    exact ⟨fmrrd (moved ..), fun inside => fmrrs inside (moved ..)⟩
  · subst same
    exact ⟨fmrrd (moveTwoToCore_same s hrd _ _), fun inside => fmrrs inside (moveTwoToCore_same s hrd _ _)⟩
  · subst pc
    exact ⟨fun aligned => fmrrd (moveTwoToCore_pc s hrd _ _ running arm aligned),
      fun inside aligned => fmrrs inside (moveTwoToCore_pc s hrd _ _ running arm aligned)⟩
  · rw [exec_vfpRun (i := .fmsrr cc rn rd x f) (rfl : execFmsrr cc rn rd x f s = _) pass (ready.check (.inl rfl))]
    exact congrArg finish (if_pos last)
  · rw [exec_vfpRun (i := .fmrrs cc rn rd x f) (rfl : execFmrrs cc rn rd x f s = _) pass (ready.check (.inl rfl))]
    exact congrArg finish (if_pos last)
  · exact List.forall_iff_forall_mem.1 ⟨read (.inl rfl) rfl, read (.inl rfl) rfl, read (.inl rfl) rfl, read (.inl rfl) rfl⟩
  · exact gives_of_finish (exec_vfpRun (i := .fmstat cc) (rfl : execFmstat cc s = _) pass (ready.check (.inl rfl)))
      (moveToCore_spec s 15 s.vfp.fpscr)
  · have ignored {r : BitVec 4} (allowed : privilegedSystem (some r) = false) (written : vfpSystemWrite s r (s.reg rd) = some s) :
        exec (.fmxr cc r rd) s = .next { s with pc := s.past } := by
      rw [exec_fmxr pass (ready.check (.inl allowed)) rd written, State.advance_eq]
    exact List.forall_iff_forall_mem.1 ⟨ignored rfl rfl, ignored rfl rfl, ignored rfl rfl⟩
  · exact write (.inl rfl) rfl
  · exact List.forall_iff_forall_mem.1 ⟨read (.inr priv) rfl, read (.inr priv) rfl, read (.inr priv) rfl⟩
  all_goals exact write (.inr priv) rfl

end Sys2Proof
end

section
/-! The loads and stores of the VFP in flat memory (O56). -/
namespace Sys2Proof.Machine

/-! ## The registers of a transfer (48_vfp.md R787) -/

/-- The register of the word at place `k` of a transfer: of a double the halves are exchanged when E is set. -/
def vfpPlace (double big : Bool) (first : BitVec 5) (k : Nat) : BitVec 5 :=
  if double && big then (first + BitVec.ofNat 5 k) ^^^ 1 else first + BitVec.ofNat 5 k

theorem vfpPlace_injective {double big : Bool} {first : BitVec 5} {j k : Nat} (hj : j < 32) (hk : k < 32)
    (e : vfpPlace double big first j = vfpPlace double big first k) : j = k := by
  have sum : first + BitVec.ofNat 5 j = first + BitVec.ofNat 5 k := by
    unfold vfpPlace at e
    split at e
    · exact (BitVec.xor_left_inj 1).1 e
    · exact e
  have := congrArg BitVec.toNat ((BitVec.add_right_inj first).1 sum)
  simp only [BitVec.toNat_ofNat] at this
  omega

theorem bitAt_sNumber (f : BitVec 4) (x : Bool) : bitAt (sNumber f x) 0 = x :=
  (by decide : ∀ (f : BitVec 4) (x : Bool), bitAt (sNumber f x) 0 = x) f x

/-- The transfer stays in the register file, and a double begins at an even register. -/
theorem vfpRangeOk_of_fits {double x : Bool} {f : BitVec 4} {n : Nat} (fits : (sNumber f x).toNat + n ≤ 32)
    (even : ¬ (double = true ∧ x = true)) : vfpRangeOk double (sNumber f x) n = true := by
  have start : (double && x) = false := by simpa using even
  rw [vfpRangeOk, bitAt_sNumber, decide_eq_true fits, start]
  rfl

/-- A double lies within the register file. -/
theorem double_fits (f : BitVec 4) : (sNumber f false).toNat + 2 ≤ 32 :=
  (by decide : ∀ f : BitVec 4, (sNumber f false).toNat + 2 ≤ 32) f

theorem le_of_vfpRangeOk {double : Bool} {first : BitVec 5} {n : Nat} (range : vfpRangeOk double first n = true) : n ≤ 32 := by
  simp only [vfpRangeOk, Bool.and_eq_true, decide_eq_true_eq] at range
  omega

/-! ## The end of a transfer -/

/-- A base written back where the form says so, and the PC moved on, after a change outside the general registers. -/
theorem writeBase_advance_spec {s x : State} (regs : x.regs = s.regs) (bank : x.bank = s.bank) (past : x.past = s.past) {w : Bool}
    {rn : RegNum} (notPc : w = true → rn ≠ 15) (v : Word) :
    let t := (x.writeBase rn (if w then some v else none)).advance
    (w = true → t.bankReg s.bank rn = v) ∧ RegsBut s t (if w then [rn] else []) ∧ t = { x with regs := t.regs, pc := s.past } := by
  intro t
  let b := x.writeBase rn (if w then some v else none)
  have only : OnlyRegs x b := (OnlyRegs.refl x).writeBase ..
  have moved : t = { x with regs := b.regs, pc := s.past } := past ▸ only.advance
  have same : t.regs = b.regs := by rw [moved]
  refine ⟨fun writes => ?_, RegsBut.of_regs (t := b) ?_ same, by rw [same]; exact moved⟩
  · subst writes
    exact (bankReg_advance ..).trans (bankReg_setReg (notPc rfl) v bank)
  · cases w with
    | false => exact (regsBut_nil s).of_regs regs
    | true => exact ((regsBut_nil s).of_regs regs).setReg bank rn v

/-- Each word of a block in memory, where the block does not run into itself. -/
theorem wordAt_writeBytes_block {s t : State} {a : Word} {l : List Word} (canonical : s.memCanonical) (psrs : t.psrs = s.psrs)
    (small : 4 * l.length ≤ 2 ^ 32) (e : t.mem = s.mem.writeBytes a (blockBytes s.eBit l)) {k : Nat} (hk : k < l.length) :
    t.wordAt (a + BitVec.ofNat 32 (4 * k)) = l.getD k 0 := by
  have len := length_blockBytes s.eBit l
  have read := Mem.readBytes_writeBytes (blockBytes s.eBit l) a canonical (by rw [len]; exact small)
  rw [len, ← e] at read
  rw [State.wordAt_eq, State.eBit_congr psrs]
  exact laneValue_of_block l a read k hk

/-! ## Loads and stores -/

section
variable {s : State} (f : s.Flat) {i : Instr} {double : Bool} {first : BitVec 5} {n : Nat} {rn : RegNum} {a : Word} {w : Bool} {v : Word}
  (range : vfpRangeOk double first n = true) (notPc : w = true → rn ≠ 15) (fits : s.wordFits a)
  (o : s.ordinary (lowest 4 a) (4 * n))
include f range notPc fits o

omit f range fits o in
theorem vfpBase_ok : ((if w then some v else none).isSome && rn == 15) = false := by
  cases w with
  | false => rfl
  | true => simpa using notPc rfl

/-- Consecutive words go to the registers of the transfer. -/
theorem State.Flat.gives_vfpLoad (e : exec i s = finish (vfpLoad double first n rn ⟨a, if w then some v else none⟩ s)) :
    Gives i s fun t =>
      (∀ k < n, t.sreg (vfpPlace double s.eBit first k) = s.wordAt (lowest 4 a + BitVec.ofNat 32 (4 * k))) ∧
      (∀ j, (∀ k < n, j ≠ vfpPlace double s.eBit first k) → t.sreg j = s.sreg j) ∧
      (w = true → t.bankReg s.bank rn = v) ∧ RegsBut s t (if w then [rn] else []) ∧ t.psrs = s.psrs ∧
      t = { s with regs := t.regs, pc := s.past, vfp := { s.vfp with regs := t.vfp.regs } } := by
  let l := (List.range n).map fun k =>
    (vfpPlace double s.eBit first k, s.wordAt (lowest 4 a + BitVec.ofNat 32 (4 * k)))
  let x := writeSregs l s
  have only : x = { s with vfp := { s.vfp with regs := x.vfp.regs } } := writeSregs_eq l s
  have small := le_of_vfpRangeOk range
  have nodup : (l.map Prod.fst).Nodup := by
    rw [List.map_map]
    refine List.Nodup.map_on (fun j hj k hk same => ?_) List.nodup_range
    rw [List.mem_range] at hj hk
    exact vfpPlace_injective (by omega) (by omega) same
  have load := f.loadWords (plainMode s false) n (lowest 4 a) (fld_lowest a) o
  have run : vfpLoad double first n rn ⟨a, if w then some v else none⟩ s =
      .ok () (x.writeBase rn (if w then some v else none)).advance := by
    have zip : (vfpWordRegs double s.eBit first n).zip
        ((List.range n).map fun k => s.wordAt (lowest 4 a + BitVec.ofNat 32 (4 * k))) = l := List.zip_map' ..
    simp only [vfpLoad, range, vfpBase_ok notPc, Bool.not_true, Bool.false_eq_true, if_false, loadMany,
      f.alignAccess_multi fits, Res.bind, load, zip, x]
  obtain ⟨base, kept, moved⟩ := writeBase_advance_spec (s := s) (x := x) (by rw [only]) (by rw [only]; rfl) (by rw [only]; rfl)
    notPc v
  have vfp : (x.writeBase rn (if w then some v else none)).advance.vfp = x.vfp := by rw [moved]
  have sreg (k : BitVec 5) : (x.writeBase rn (if w then some v else none)).advance.sreg k = x.sreg k := by
    simp only [State.sreg, vfp]
  have whole := moved.trans (congrArg (fun y : State => { y with
    regs := (x.writeBase rn (if w then some v else none)).advance.regs, pc := s.past }) only)
  refine gives_of_finish e ⟨_, run, fun k hk => ?_, fun j apart => ?_, base, kept, by rw [whole], by rw [vfp]; exact whole⟩
  · rw [sreg]
    exact sreg_writeSregs_mem l s nodup (List.mem_map_of_mem (List.mem_range.2 hk))
  · rw [sreg]
    refine sreg_writeSregs_other l s fun y hy => ?_
    obtain ⟨k, hk, rfl⟩ := List.mem_map.1 hy
    exact (apart k (List.mem_range.1 hk)).symm

/-- The registers of the transfer go to consecutive words. -/
theorem State.Flat.gives_vfpStore (e : exec i s = finish (vfpStore double first n rn ⟨a, if w then some v else none⟩ s)) :
    Gives i s fun t =>
      (∀ k < n, t.wordAt (lowest 4 a + BitVec.ofNat 32 (4 * k)) = s.sreg (vfpPlace double s.eBit first k)) ∧
      MemBut s t (lowest 4 a) (4 * n) ∧
      (w = true → t.bankReg s.bank rn = v) ∧ RegsBut s t (if w then [rn] else []) ∧ t.psrs = s.psrs ∧
      t = { s with regs := t.regs, pc := s.past, mem := t.mem } := by
  let l := (List.range n).map fun k => s.sreg (vfpPlace double s.eBit first k)
  let stored := s.mem.writeBytes (lowest 4 a) (blockBytes s.eBit l)
  have len : l.length = n := by rw [List.length_map, List.length_range]
  have small := le_of_vfpRangeOk range
  have store := f.storeMany (l := l) (f.alignAccess_multi fits true) (fld_lowest a) (by rw [len]; exact o) (plainMode s true)
  have run : vfpStore double first n rn ⟨a, if w then some v else none⟩ s =
      .ok () ((s.setMem stored).writeBase rn (if w then some v else none)).advance := by
    have words : (vfpWordRegs double s.eBit first n).map s.sreg = l := List.map_map ..
    simp only [vfpStore, range, vfpBase_ok notPc, Bool.not_true, Bool.false_eq_true, if_false, words, store, Res.bind]
    rfl
  obtain ⟨base, kept, moved⟩ := writeBase_advance_spec (s := s) (x := s.setMem stored) rfl rfl rfl notPc v
  have mem := congrArg State.mem moved
  have psrs := congrArg State.psrs moved
  have memory := memBut_writeBytes f.canonical mem
  rw [length_blockBytes, len] at memory
  refine gives_of_finish e ⟨_, run, fun k hk => ?_, memory, base, kept, psrs, by rw [mem]; exact moved⟩
  rw [wordAt_writeBytes_block f.canonical psrs (by omega) mem (by omega)]
  simp [l, hk]

end

end Sys2Proof.Machine

namespace Sys2Proof
open Machine

/-- Settles O56: past the access check each instruction is a load or a store of consecutive words
(`State.Flat.gives_vfpLoad`, `State.Flat.gives_vfpStore`). -/
theorem vfpLoadsAndStores : Obligations.VfpLoadsAndStores := by
  intro s cc p u w d rn f double off pass ready flat o place load store a
  have flat := (State.flat_iff s).1 flat
  have passed {i : Instr} {m : State → Res Unit} (e : exec i s = vfpRun cc none s m) : exec i s = finish (m s) :=
    exec_vfpRun e pass (ready.check (.inl rfl))
  have single : vfpRangeOk false (sNumber f d) 1 = true := vfpRangeOk_of_fits (sNumber f d).isLt (by simp)
  have pair : vfpRangeOk true (sNumber f false) 2 = true := vfpRangeOk_of_fits (double_fits f) (by simp)
  refine ⟨fun fits ord => ?_, fun fits ord => ?_, fun fits ord => ?_, fun fits ord => ?_, fun form notPc even inside => ?_⟩
  · have run := passed (i := .flds cc u d rn f off) (rfl : execFlds cc u d rn f off s = _)
    exact flat.gives_vfpLoad (w := false) single nofun fits ord run
  · have run := passed (i := .fsts cc u d rn f off) (rfl : execFsts cc u d rn f off s = _)
    exact flat.gives_vfpStore (w := false) single nofun fits ord run
  · have run := passed (i := .fldd cc u rn f off) (rfl : execFldd cc u rn f off s = _)
    exact flat.gives_vfpLoad (w := false) pair nofun fits ord run
  · have run := passed (i := .fstd cc u rn f off) (rfl : execFstd cc u rn f off s = _)
    exact flat.gives_vfpStore (w := false) pair nofun fits ord run
  · have range := vfpRangeOk_of_fits inside even
    have form' : ¬ (!p && !u && !w) = true := by simpa using form
    refine ⟨fun fits ord => ?_, fun fits ord => ?_⟩
    · have run := passed (i := .fldm cc p u d w rn f double off) (rfl : execFldm cc p u d w rn f double off s = _)
      exact flat.gives_vfpLoad range notPc fits ord (run.trans (congrArg finish (if_neg form')))
    · have run := passed (i := .fstm cc p u d w rn f double off) (rfl : execFstm cc p u d w rn f double off s = _)
      exact flat.gives_vfpStore range notPc fits ord (run.trans (congrArg finish (if_neg form')))

end Sys2Proof
end

section
/-! Data processing of the VFP in RunFast mode (O58). -/
namespace Sys2Proof.Machine

/-! ## RunFast mode (48_vfp.md R793) -/

/-- A bit that a masked value fixes. -/
theorem bitAt_of_masked {w m v : Word} (h : w &&& m = v) {k : Nat} (inside : m.getLsbD k = true) : bitAt w k = v.getLsbD k := by
  rw [bitAt_eq_getLsbD, ← h, BitVec.getLsbD_and, inside, Bool.and_true]

/-- Flush-to-zero, default NaN, LEN of one and no exception enabled. -/
theorem runFast_of_masked {fpscr : Word} (h : fpscr &&& 0x03079F00 = 0x03000000) :
    runFast fpscr = true ∧ vfpLength fpscr = 1 := by
  have fz : fpFz fpscr = true := bitAt_of_masked h (k := 24) rfl
  have dn : fpDn fpscr = true := bitAt_of_masked h (k := 25) rfl
  have enables : fpscr &&& vfpEnables = 0 := by
    have cut := congrArg (· &&& vfpEnables) h
    rwa [BitVec.and_assoc] at cut
  have len : fld fpscr 16 3 = 0#3 := by
    refine BitVec.eq_of_getLsbD_eq fun i hi => ?_
    have bit := bitAt_of_masked h (k := 16 + i) (by interval_cases i <;> rfl)
    rw [bitAt_eq_getLsbD] at bit
    simp only [fld, BitVec.getLsbD_extractLsb', hi, bit]
    interval_cases i <;> rfl
  refine ⟨?_, by rw [vfpLength, len]; rfl⟩
  rw [runFast, fz, dn, enables]
  rfl

section
variable {fpscr : Word} (fast : runFast fpscr = true)
include fast

theorem runFast_settings : fpFz fpscr = true ∧ fpDn fpscr = true ∧ fpscr &&& vfpEnables = 0 := by
  simpa [runFast, and_assoc] using fast

theorem runFast_disabled {k : Nat} (enable : vfpEnables.getLsbD k = true) : bitAt fpscr k = false := by
  obtain ⟨-, -, enables⟩ := runFast_settings fast
  rw [bitAt_of_masked enables enable]
  simp

/-! ## Nothing needs support code (48_vfp.md R790) -/

theorem operandBounces_runFast (double : Bool) (v : BitVec 64) : operandBounces double fpscr v = false := by
  obtain ⟨fz, dn, -⟩ := runFast_settings fast
  rw [operandBounces, fz, dn]
  rfl

theorem vfpTrap_runFast (r : VfpResult) : vfpTrap fpscr r = some r := by
  obtain ⟨-, -, enables⟩ := runFast_settings fast
  have shifted : fpscr >>> 8 &&& 0x9F = 0#32 := by
    rw [show (0x9F : Word) = vfpEnables >>> 8 from rfl, ← BitVec.ushiftRight_and_distrib, enables]
    rfl
  refine if_pos ?_
  rw [BitVec.and_assoc, shifted, BitVec.and_zero]
  rfl

theorem vfpMayBounce_runFast (op : VfpArith) (mode : VfpRounding) (double : Bool) (a b : BitVec 64) :
    vfpMayBounce op mode double fpscr a b = false := by
  obtain ⟨fz, -, -⟩ := runFast_settings fast
  have invalid : bitAt fpscr 8 = false := runFast_disabled fast rfl
  have overflow : bitAt fpscr 10 = false := runFast_disabled fast rfl
  unfold vfpMayBounce
  split
  · rw [invalid, Bool.false_and]
  · rw [fz, overflow]
    rfl

theorem vfpDeliver_runFast (target negate : Bool) (r : VfpRounded) : ∃ z, vfpDeliver target fpscr negate r = some z := by
  obtain ⟨fz, -, -⟩ := runFast_settings fast
  rw [vfpDeliver, fz]
  cases r.tiny with
  | false => exact ⟨_, rfl⟩
  | true => exact ⟨_, rfl⟩

theorem vfpArith_runFast (op : VfpArith) (mode : VfpRounding) (g : VfpSigns) (double : Bool) (a b : BitVec 64) :
    ∃ r, vfpArith op mode g double fpscr a b = some r := by
  unfold vfpArith
  split
  · obtain ⟨z, delivered⟩ := vfpDeliver_runFast fast ((arithTarget double op).getD double) g.result
      (Config.vfpRound op double mode a b)
    rw [delivered]
    exact ⟨z, vfpTrap_runFast fast z⟩
  · simp only [operandBounces_runFast fast, vfpMayBounce_runFast fast, Bool.or_self, Bool.false_eq_true, if_false]
    split
    · exact ⟨_, vfpTrap_runFast fast _⟩
    · next target _ =>
      split
      · exact ⟨_, vfpTrap_runFast fast _⟩
      · obtain ⟨z, delivered⟩ := vfpDeliver_runFast fast target g.result (Config.vfpRound op double mode _ _)
        rw [delivered]
        exact ⟨_, vfpTrap_runFast fast _⟩

theorem vfpChain_runFast (double minus subtract : Bool) (addend n m : BitVec 64) :
    ∃ r, vfpChain double fpscr minus subtract addend n m = some r := by
  unfold vfpChain
  obtain ⟨p, product⟩ := vfpArith_runFast fast .mul (vfpRounding fpscr) { VfpSigns.none with result := minus } double n m
  obtain ⟨r, sum⟩ := vfpArith_runFast fast .add (vfpRounding fpscr) { VfpSigns.none with first := subtract } double addend p.value
  simp only [product, Option.bind_some, sum]
  exact ⟨_, rfl⟩

theorem vfpDyadicResult_runFast (op : VfpDyadic) (double : Bool) (d n m : BitVec 64) :
    ∃ r, vfpDyadicResult op double fpscr d n m = some r := by
  cases op with
  | fadd | fsub | fmul | fnmul | fdiv =>
    simp only [vfpDyadicResult]
    exact vfpArith_runFast fast ..
  | fmac | fnmac | fmsc | fnmsc =>
    simp only [vfpDyadicResult]
    exact vfpChain_runFast fast ..

theorem vfpCopyResult_runFast (f : BitVec 64 → BitVec 64) (double : Bool) (m : BitVec 64) :
    vfpCopyResult f double fpscr m = some ⟨f m, 0⟩ := by
  rw [vfpCopyResult, operandBounces_runFast fast]
  rfl

end

/-! ## The frame of an operation -/

/-- Of the FPSCR only condition flags have changed, and cumulative flags have been set. -/
def FpscrKept (old new : Word) : Prop := new &&& 0x0FFFFF60 = old &&& 0x0FFFFF60 ∧ old &&& 0x0000009F &&& ~~~ new = 0

theorem fpscrKept_accumulated (fpscr flags : Word) : FpscrKept fpscr (fpscr ||| (flags &&& 0x0000009F)) := by
  constructor
  · have apart : (0x0000009F : Word) &&& 0x0FFFFF60 = 0#32 := rfl
    rw [BitVec.and_or_distrib_right, BitVec.and_assoc, apart, BitVec.and_zero, BitVec.or_zero]
  · refine BitVec.eq_of_getLsbD_eq fun i hi => ?_
    cases old : fpscr.getLsbD i <;> simp [old]

theorem FpscrKept.setFlags {old new : Word} (h : FpscrKept old new) (nzcv : BitVec 4) : FpscrKept old (setFld new 28 nzcv) := by
  obtain ⟨kept, set⟩ := h
  have bits {i : Nat} (hi : i < 32) (low : i < 28) : (setFld new 28 nzcv).getLsbD i = new.getLsbD i := by
    rw [getLsbD_setFld _ _ _ _ hi, if_neg (by omega)]
  constructor
  · rw [← kept]
    refine BitVec.eq_of_getLsbD_eq fun i hi => ?_
    rw [BitVec.getLsbD_and, BitVec.getLsbD_and]
    by_cases low : i < 28
    · rw [bits hi low]
    · have mask : (0x0FFFFF60 : Word).getLsbD i = false := by interval_cases i <;> rfl
      rw [mask, Bool.and_false, Bool.and_false]
  · rw [← set]
    refine BitVec.eq_of_getLsbD_eq fun i hi => ?_
    simp only [BitVec.getLsbD_and, BitVec.getLsbD_not]
    by_cases low : i < 28
    · rw [bits hi low]
    · have mask : (0x0000009F : Word).getLsbD i = false := by interval_cases i <;> rfl
      simp only [mask, Bool.and_false, Bool.false_and]

/-- What an operation with the destination field `fd` may have written. -/
def VfpFrame (s t : State) (fd : BitVec 4) : Prop :=
  (∀ k : BitVec 5, fld k 1 4 ≠ fd → t.sreg k = s.sreg k) ∧ FpscrKept s.vfp.fpscr t.vfp.fpscr ∧
    t = { s with vfp := { s.vfp with regs := t.vfp.regs, fpscr := t.vfp.fpscr } }

/-- The frame of an instruction, once the PC has moved on. -/
theorem VfpFrame.advance {s t : State} {fd : BitVec 4} (h : VfpFrame s t fd) :
    (∀ k : BitVec 5, fld k 1 4 ≠ fd → t.advance.sreg k = s.sreg k) ∧
      t.advance.vfp.fpscr &&& 0x0FFFFF60 = s.vfp.fpscr &&& 0x0FFFFF60 ∧ s.vfp.fpscr &&& 0x0000009F &&& ~~~ t.advance.vfp.fpscr = 0 ∧
      t.advance = { s with pc := s.past, vfp := { s.vfp with regs := t.advance.vfp.regs, fpscr := t.advance.vfp.fpscr } } := by
  obtain ⟨regs, ⟨kept, set⟩, only⟩ := h
  have past : t.past = s.past := by rw [only]; rfl
  have moved : t.advance = { t with pc := s.past } := past ▸ t.advance_eq
  have vfp : t.advance.vfp = t.vfp := by rw [moved]
  refine ⟨fun k apart => ?_, by rw [vfp, kept], by rw [vfp, set], ?_⟩
  · rw [← regs k apart]
    simp only [State.sreg, vfp]
  · rw [vfp]
    exact moved.trans (congrArg (fun u : State => { u with pc := s.past }) only)

theorem fld_sNumber (f : BitVec 4) (x : Bool) : fld (sNumber f x) 1 4 = f :=
  (by decide : ∀ (f : BitVec 4) (x : Bool), fld (sNumber f x) 1 4 = f) f x

/-- A result goes to the pair of registers that Fd names or names a half of. -/
theorem sreg_vfpSet (s : State) (double x : Bool) (fd : BitVec 4) (v : BitVec 64) {k : BitVec 5} (apart : fld k 1 4 ≠ fd) :
    (vfpSet double (vfpOperand double fd x) v s).sreg k = s.sreg k := by
  have other (y : Bool) : sNumber fd y ≠ k := fun e => apart (e ▸ fld_sNumber fd y)
  cases double with
  | true =>
    have whole : vfpSet true (vfpOperand true fd x) v s = s.setDreg fd v := by simp [vfpSet, vfpOperand]
    rw [whole, State.setDreg, sreg_setSreg_other _ (other true), sreg_setSreg_other _ (other false)]
  | false =>
    have half : vfpSet false (vfpOperand false fd x) v s = s.setSreg (sNumber fd x) (fld v 0 32) := by simp [vfpSet, vfpOperand]
    rw [half, sreg_setSreg_other _ (other x)]

theorem vfpSet_eq (s : State) (double : Bool) (n : Nat) (v : BitVec 64) :
    vfpSet double n v s = { s with vfp := { s.vfp with regs := (vfpSet double n v s).vfp.regs } } := by
  unfold vfpSet
  split <;> rfl

theorem vfpFrame_result (s : State) (double x : Bool) (fd : BitVec 4) (r : VfpResult) :
    VfpFrame s (accumulate r.flags (vfpSet double (vfpOperand double fd x) r.value s)) fd := by
  have only := vfpSet_eq s double (vfpOperand double fd x) r.value
  have fpscr : (vfpSet double (vfpOperand double fd x) r.value s).vfp.fpscr = s.vfp.fpscr := by rw [only]
  refine ⟨fun k apart => sreg_vfpSet s double x fd r.value apart, ?_, ?_⟩
  · rw [accumulate, fpscr]
    exact fpscrKept_accumulated ..
  · exact congrArg (fun t : State => { t with vfp := { t.vfp with
      fpscr := (vfpSet double (vfpOperand double fd x) r.value s).vfp.fpscr ||| (r.flags &&& 0x0000009F) } }) only

theorem vfpFrame_compared (s : State) (flags : Word) (nzcv : BitVec 4) (fd : BitVec 4) :
    let t := accumulate flags s
    VfpFrame s { t with vfp := { t.vfp with fpscr := setFld t.vfp.fpscr 28 nzcv } } fd :=
  ⟨fun _ _ => rfl, (fpscrKept_accumulated ..).setFlags nzcv, rfl⟩

/-! ## The flags of a compare -/

/-- The condition flags of two ordered numbers: less N, equal Z and C, greater C (48_vfp.md R789). -/
def orderFlags (a b : Int) : BitVec 4 := if a < b then 0b1000 else if a = b then 0b0110 else 0b0010

theorem orderFlags_less {a b : Int} (h : a < b) : orderFlags a b = 0b1000 := if_pos h
theorem orderFlags_self (a : Int) : orderFlags a a = 0b0110 := by rw [orderFlags, if_neg (Int.lt_irrefl a), if_pos rfl]
theorem orderFlags_greater {a b : Int} (h : b < a) : orderFlags a b = 0b0010 := by
  rw [orderFlags, if_neg (by omega), if_neg (by omega)]

/-! ## Every operation completes within its frame -/

section
variable {s : State} (fast : runFast s.vfp.fpscr = true)

/-- A scalar operation is made once. -/
theorem vfpOperate_scalar (scalar : vfpLength s.vfp.fpscr = 1) (double x : Bool) (fd : BitVec 4) (n m : Nat)
    {f : BitVec 64 → BitVec 64 → BitVec 64 → Option VfpResult} (computes : ∀ d n m, ∃ r, f d n m = some r) :
    ∃ t, vfpOperate double f (vfpIterations double s.vfp.fpscr ⟨vfpOperand double fd x, n, m⟩) s = some t ∧ VfpFrame s t fd := by
  obtain ⟨r, result⟩ := computes (vfpGet double (vfpOperand double fd x) s) (vfpGet double n s) (vfpGet double m s)
  refine ⟨_, ?_, vfpFrame_result s double x fd r⟩
  rw [vfpIterations, if_pos (.inl scalar), vfpOperate, result]
  rfl

include fast

theorem vfpConvert_runFast (op : VfpArith) (toZero double dd dm x : Bool) (fd : BitVec 4) (m : Nat) :
    ∃ t, vfpConvert op toZero double dd dm (vfpOperand dd fd x) m s = some t ∧ VfpFrame s t fd := by
  obtain ⟨r, result⟩ := vfpArith_runFast fast op (if toZero then .zero else vfpRounding s.vfp.fpscr) .none double (vfpGet dm m s) 0
  exact ⟨_, by simp only [vfpConvert, result, Option.map_some], vfpFrame_result s dd x fd r⟩

/-- What a compare answers in RunFast mode. -/
theorem vfpCompareResult_runFast (quiet double : Bool) (d m : BitVec 64) :
    ∃ r, vfpCompareResult quiet double s.vfp.fpscr d m = some r ∧
      r.nzcv = if isNan double d || isNan double m then 0b0011 else
        orderFlags (fpOrder double (flushInput double s.vfp.fpscr d).value) (fpOrder double (flushInput double s.vfp.fpscr m).value) := by
  simp only [vfpCompareResult, operandBounces_runFast fast, vfpTrap_runFast fast, Bool.or_self, Bool.false_eq_true, if_false,
    Option.map_some]
  exact ⟨_, rfl, rfl⟩

theorem vfpCompare_runFast (quiet zero double : Bool) (d m : Nat) (fd : BitVec 4) :
    ∃ t, vfpCompare quiet zero double d m s = some t ∧ VfpFrame s t fd := by
  obtain ⟨r, result, -⟩ := vfpCompareResult_runFast fast quiet double (vfpGet double d s) (if zero then 0 else vfpGet double m s)
  exact ⟨_, by simp only [vfpCompare, result, Option.map_some], vfpFrame_compared s r.flags r.nzcv fd⟩

theorem vfpCompute_runFast (scalar : vfpLength s.vfp.fpscr = 1) (opc1 fn fd : BitVec 4) (double : Bool) (opc2 : BitVec 3)
    (fm : BitVec 4) : ∃ t, vfpCompute opc1 fn fd double opc2 fm s = some t ∧ VfpFrame s t fd := by
  have inexact : bitAt s.vfp.fpscr 12 = false := runFast_disabled fast rfl
  have copies (f : BitVec 64 → BitVec 64) (m : BitVec 64) : ∃ r, vfpCopyResult f double s.vfp.fpscr m = some r :=
    ⟨_, vfpCopyResult_runFast fast f double m⟩
  simp only [vfpCompute, inexact, Bool.false_eq_true, if_false]
  split
  · next op _ => exact vfpOperate_scalar scalar _ _ fd _ _ fun d n m => vfpDyadicResult_runFast fast op double d n m
  · split
    · exact vfpOperate_scalar scalar _ _ fd _ _ fun _ _ m => copies id m
    · exact vfpOperate_scalar scalar _ _ fd _ _ fun _ _ m => copies (fpAbs double) m
    · exact vfpOperate_scalar scalar _ _ fd _ _ fun _ _ m => copies (fpNeg double) m
    · exact vfpOperate_scalar scalar _ _ fd _ _ fun _ _ m => vfpArith_runFast fast .sqrt _ .none double m 0
    · exact vfpCompare_runFast fast ..
    all_goals exact vfpConvert_runFast fast ..

end

/-! ## Compares of single-precision numbers (48_vfp.md R783, R789, R793) -/

theorem toNat_fld {m : Nat} (v : BitVec m) (k n : Nat) : (fld v k n).toNat = v.toNat / 2 ^ k % 2 ^ n := by
  rw [fld, BitVec.extractLsb'_toNat, Nat.shiftRight_eq_div_pow]

theorem eq_zero_iff_toNat {n : Nat} (v : BitVec n) : v = 0#n ↔ v.toNat = 0 :=
  ⟨fun h => by rw [h]; rfl, fun h => BitVec.eq_of_toNat_eq h⟩

/-- The fields of a single-precision number do not depend on the width of the register it is read to. -/
theorem fld_single (x : BitVec 32) (k n : Nat) : (fld (x.setWidth 64) k n : BitVec n) = fld x k n := by
  refine BitVec.eq_of_toNat_eq ?_
  rw [toNat_fld, toNat_fld, BitVec.toNat_setWidth, Nat.mod_eq_of_lt (Nat.lt_trans x.isLt (by decide))]

theorem isNan_single (x : BitVec 32) : isNan false (x.setWidth 64) = true ↔ fld x 23 8 = 0xFF#8 ∧ fld x 0 23 ≠ 0#23 := by
  simp only [isNan, fpExpOnes, fpFraction, fld_single, Bool.false_eq_true, if_false, Bool.and_eq_true, beq_iff_eq, bne_iff_ne,
    ne_eq, eq_zero_iff_toNat]
  rfl

theorem isSubnormal_single (x : BitVec 32) : isSubnormal false (x.setWidth 64) = true ↔ fld x 23 8 = 0#8 ∧ fld x 0 23 ≠ 0#23 := by
  simp only [isSubnormal, fpExpZero, fpFraction, fld_single, Bool.false_eq_true, if_false, Bool.and_eq_true, beq_iff_eq, bne_iff_ne,
    ne_eq, eq_zero_iff_toNat]

/-- The magnitude of a single-precision number, as a place in the order of the reals. -/
theorem fpOrder_single (x : BitVec 32) : fpOrder false (x.setWidth 64) =
    if x.msb then -((x.toNat % 2 ^ 31 : Nat) : Int) else ((x.toNat % 2 ^ 31 : Nat) : Int) := by
  have sign : fpSign false (x.setWidth 64) = x.msb := by
    rw [fpSign, bitAt_eq_getLsbD, BitVec.msb_eq_getLsbD_last]
    simp [fpSignBit]
  simp only [fpOrder, sign, fld_single, toNat_fld_zero, Bool.false_eq_true, if_false]

/-- The place of a single-precision number that is no NaN, in flush-to-zero mode: a number without exponent counts as zero. -/
def singleOrder (x : BitVec 32) : Int :=
  if fld x 23 8 = 0#8 then 0
  else if x.msb then -((x.toNat % 2 ^ 31 : Nat) : Int) else ((x.toNat % 2 ^ 31 : Nat) : Int)

theorem fpOrder_flushInput_single {fpscr : Word} (fz : fpFz fpscr = true) (x : BitVec 32) :
    fpOrder false (flushInput false fpscr (x.setWidth 64)).value = singleOrder x := by
  by_cases subnormal : isSubnormal false (x.setWidth 64) = true
  · have flushed : flushInput false fpscr (x.setWidth 64) = ⟨0, fpIdc⟩ := if_pos (by rw [fz, subnormal]; rfl)
    obtain ⟨exponent, -⟩ := (isSubnormal_single x).1 subnormal
    rw [flushed, singleOrder, if_pos exponent]
    decide
  · have plain : flushInput false fpscr (x.setWidth 64) = ⟨x.setWidth 64, 0⟩ := if_neg (by rwa [fz, Bool.true_and])
    rw [plain, fpOrder_single, singleOrder]
    by_cases exponent : fld x 23 8 = 0#8
    · have fraction : fld x 0 23 = 0#23 := by
        by_contra h
        exact subnormal ((isSubnormal_single x).2 ⟨exponent, h⟩)
      rw [if_pos exponent]
      rw [eq_zero_iff_toNat, toNat_fld] at exponent fraction
      have zero : x.toNat % 2 ^ 31 = 0 := by omega
      rw [zero]
      exact ite_self _
    · rw [if_neg exponent]

theorem singleOrder_tiny {x : BitVec 32} (h : fld x 23 8 = 0#8) : singleOrder x = 0 := if_pos h

/-- A number with an exponent has its sign, and is no zero. -/
theorem singleOrder_normal {x : BitVec 32} (h : fld x 23 8 ≠ 0#8) : 0 < x.toNat % 2 ^ 31 ∧
    singleOrder x = if x.msb then -((x.toNat % 2 ^ 31 : Nat) : Int) else ((x.toNat % 2 ^ 31 : Nat) : Int) := by
  refine ⟨?_, if_neg h⟩
  rw [ne_eq, eq_zero_iff_toNat, toNat_fld] at h
  omega

theorem le_toNat_of_msb {x : BitVec 32} (h : x.msb = true) : 2 ^ 31 ≤ x.toNat :=
  of_decide_eq_true ((BitVec.msb_eq_decide x).symm.trans h)

theorem toNat_lt_of_msb {x : BitVec 32} (h : x.msb = false) : x.toNat < 2 ^ 31 :=
  Nat.lt_of_not_le (of_decide_eq_false ((BitVec.msb_eq_decide x).symm.trans h))

/-- The order of two numbers with exponents, by their signs and bits. -/
theorem singleOrder_less {x y : BitVec 32} (hx : fld x 23 8 ≠ 0#8) (hy : fld y 23 8 ≠ 0#8)
    (h : (x.msb = true ∧ y.msb = false) ∨ (x.msb = y.msb ∧ if x.msb then y.toNat < x.toNat else x.toNat < y.toNat)) :
    singleOrder x < singleOrder y := by
  obtain ⟨posX, orderX⟩ := singleOrder_normal hx
  obtain ⟨posY, orderY⟩ := singleOrder_normal hy
  rw [orderX, orderY]
  rcases h with ⟨negX, posY⟩ | ⟨same, less⟩
  · rw [negX, posY, if_pos rfl, if_neg Bool.false_ne_true]
    omega
  · rw [← same]
    cases sign : x.msb with
    | true =>
      have large := le_toNat_of_msb (same ▸ sign)
      rw [sign, if_pos rfl] at less
      rw [if_pos rfl, if_pos rfl]
      omega
    | false =>
      have small := toNat_lt_of_msb (same ▸ sign)
      rw [sign, if_neg Bool.false_ne_true] at less
      rw [if_neg Bool.false_ne_true, if_neg Bool.false_ne_true]
      omega

theorem orderFlags_zero_left {y : BitVec 32} (h : fld y 23 8 ≠ 0#8) :
    orderFlags 0 (singleOrder y) = if y.msb then 0b0010 else 0b1000 := by
  obtain ⟨positive, order⟩ := singleOrder_normal h
  rw [order]
  split
  · exact orderFlags_greater (by omega)
  · exact orderFlags_less (by omega)

theorem orderFlags_zero_right {x : BitVec 32} (h : fld x 23 8 ≠ 0#8) :
    orderFlags (singleOrder x) 0 = if x.msb then 0b1000 else 0b0010 := by
  obtain ⟨positive, order⟩ := singleOrder_normal h
  rw [order]
  split
  · exact orderFlags_less (by omega)
  · exact orderFlags_greater (by omega)

/-! ## Copies (48_vfp.md R788) -/

theorem getLsbD_fpWithSign (double : Bool) (v : BitVec 64) (sign : Bool) {i : Nat} (hi : i < 64) :
    (fpWithSign double v sign).getLsbD i = if i = fpSignBit double then sign else v.getLsbD i := by
  have inside : fpSignBit double < 64 := by cases double <;> decide
  by_cases same : i = fpSignBit double
  · simp [fpWithSign, setField, same, inside]
  · by_cases below : i < fpSignBit double
    · simp [fpWithSign, setField, hi, same, below]
    · simp [fpWithSign, setField, hi, same, below, show i - fpSignBit double ≠ 0 by omega]

end Sys2Proof.Machine

namespace Sys2Proof
open Machine

/-- Settles O58: in RunFast mode no operation needs support code (`vfpArith_runFast`), and each stays in its frame
(`vfpCompute_runFast`). A compare orders the numbers by sign and bits (`singleOrder_less`). -/
theorem runFastDataProcessing : Obligations.RunFastDataProcessing := by
  intro s cc opc1 fn fd double opc2 fm pass ready masked
  obtain ⟨fast, scalar⟩ := runFast_of_masked masked
  have run := exec_vfpRun (i := .vfpData cc opc1 fn fd double opc2 fm) (rfl : execVfpData cc opc1 fn fd double opc2 fm s = _) pass
    (ready.check (.inl rfl))
  refine ⟨fun bad => ?_, fun noD noN noM => ?_, fun good => ?_, fun quiet x y => ?_, fun m => ?_⟩
  · rw [run, bad]
    rfl
  · unfold vfpBadDouble
    split <;> simp [noD, noN, noM]
  · obtain ⟨t, computed, frame⟩ := vfpCompute_runFast fast scalar opc1 fn fd double opc2 fm
    refine gives_of_finish run ⟨t.advance, ?_, frame.advance⟩
    rw [good, computed]
    rfl
  · intro a b nan tiny less
    obtain ⟨r, result, nzcv⟩ := vfpCompareResult_runFast fast quiet false a b
    obtain ⟨fz, -, -⟩ := runFast_settings fast
    rw [fpOrder_flushInput_single fz, fpOrder_flushInput_single fz] at nzcv
    refine ⟨r, result, fun unordered => ?_, fun numX numY => ?_⟩
    · rw [nzcv, if_pos]
      rw [Bool.or_eq_true, isNan_single, isNan_single]
      exact unordered
    · have ordered : r.nzcv = orderFlags (singleOrder x) (singleOrder y) := by
        rw [nzcv, if_neg]
        rw [Bool.or_eq_true, isNan_single, isNan_single]
        exact not_or.2 ⟨numX, numY⟩
      rw [ordered]
      refine ⟨fun tinyX tinyY => ?_, fun hx hy => ⟨fun h => ?_, fun h => ?_, fun h => ?_⟩, fun tinyX hy => ?_, fun hx tinyY => ?_⟩
      · rw [singleOrder_tiny tinyX, singleOrder_tiny tinyY]
        exact orderFlags_self 0
      · exact orderFlags_less (singleOrder_less hx hy h)
      · rw [h]
        exact orderFlags_self _
      · exact orderFlags_greater (singleOrder_less hy hx h)
      · rw [singleOrder_tiny tinyX]
        exact orderFlags_zero_left hy
      · rw [singleOrder_tiny tinyY]
        exact orderFlags_zero_right hx
  · intro w bits
    have copied (f : BitVec 64 → BitVec 64) (sign : Bool)
        (h : ∀ i < 64, (f m).getLsbD i = if i = fpSignBit double then sign else m.getLsbD i) :
        bits (vfpCopyResult f double s.vfp.fpscr m) sign := by
      have inside : w < 64 := by simp only [w]; split <;> decide
      refine ⟨f m, vfpCopyResult_runFast fast f double m, ?_, fun k hk other => ?_⟩
      · exact (h w inside).trans (if_pos rfl)
      · exact (h k hk).trans (if_neg other)
    refine ⟨copied id _ fun i _ => ?_, copied _ _ fun i hi => getLsbD_fpWithSign double m false hi,
      copied _ _ fun i hi => (getLsbD_fpWithSign double m _ hi).trans ?_⟩
    · split
      · next e => rw [e]; rfl
      · rfl
    · rw [fpSign, bitAt_eq_getLsbD]
      rfl

end Sys2Proof
end
